-- ==== Sys2Proof/Word.lean ====
section
/-! DEFINITION. The words of the model: bytes, 32-bit and 64-bit register words, 80-bit accumulators (Tables 0.6, 0.7). -/

namespace Sys2Proof

/-- One byte of a memory, a frame or a message. -/
abbrev Byte := BitVec 8
/-- A 32-bit word (R24). -/
abbrev Word32 := BitVec 32
/-- A 64-bit register image (R24). -/
abbrev Word64 := BitVec 64
/-- A Brick accumulator, Q17.63 (Table 0.7). -/
abbrev Acc := BitVec 80

/-- A sparse table: keys with their entries, keys rising. -/
abbrev Tbl (α : Type) := List (Nat × α)

end Sys2Proof
end

