-- ==== Sys2Proof/Syntax.lean ====
section
/-! DEFINITION. The commands the engine takes: one constructor of `Instr` for each row of spec/opcode_table.json, and the
types of their operands. -/

namespace Sys2Proof

/-! Brick bundles (Tables 5.1 to 5.8). -/

/-- A Brick's two register contexts (R127). -/
inductive CtxSel where
  | fg | bg
deriving DecidableEq, Repr

/-- An address step: a signed immediate or the low half of a data register (Table 5.2). -/
inductive Step where
  | imm (v : BitVec 9)
  | reg (r : Fin 16)
deriving DecidableEq, Repr

/-- An address-generator field (Table 5.2). -/
inductive AgField where
  | none
  | plain (g : Fin 8)
  | post (g : Fin 8) (st : Step)
  | indexed (g : Fin 8) (st : Step)
deriving DecidableEq, Repr

/-- The two fields of a bundle that name an access (R156). -/
inductive Ag where
  | a | b
deriving DecidableEq, Repr

/-- An operand selector (R157). -/
inductive Sel where
  | x (r : Fin 16)
  | mem (g : Ag)
deriving DecidableEq, Repr

/-- The accumulator formats of Table 5.5. -/
inductive Fmt where
  | q31 | q30 | int32 | spill0 | spill1 | spill2
deriving DecidableEq, Repr

/-- The generator register files a move reads or writes (Table 5.4). -/
inductive GenFile where
  | p | b | l
deriving DecidableEq, Repr

/-- The move field (Table 5.4). -/
inductive Move where
  | none
  | ld (dst : Fin 16) (ag : Ag)
  | st (src : Fin 16) (ag : Ag)
  | sta (k : Fin 4) (fmt : Fmt) (ag : Ag)
  | cvt (k : Fin 4) (fmt : Fmt) (dst : Fin 16)
  | mov (dst src : Fin 16)
  | mtg (file : GenFile) (g : Fin 8) (src : Fin 16)
  | mtgF (src : Fin 16)
  | mfg (file : GenFile) (g : Fin 8) (dst : Fin 16)
  | mfgTN (dst : Fin 16)
deriving DecidableEq, Repr

/-- The second operand of a form R operation (Table 5.6). -/
inductive SelB where
  | sel (s : Sel)
  | imm (v : BitVec 5)
deriving DecidableEq, Repr

/-- Branch conditions (Table 5.8). -/
inductive Cond where
  | al | eq | ne | lt | ge | gt | le | vs | vc | ss | as_ | ns
deriving DecidableEq, Repr

/-- The two-operand register operations of form R (Table 5.7, codes 0x10 to 0x1B). -/
inductive AluOp where
  | add | adds | sub | subs | and | or | xor | shl | shr | asr | min | max
deriving DecidableEq, Repr

/-- The operation of a bundle (Table 5.7). -/
inductive BrickOp where
  | nop
  | mac (k : Fin 4) (al : Fin 4) (sa sb : Sel)
  | msu (k : Fin 4) (al : Fin 4) (sa sb : Sel)
  | mpy (k : Fin 4) (al : Fin 4) (sa sb : Sel)
  | mpn (k : Fin 4) (al : Fin 4) (sa sb : Sel)
  | aclr (k : Fin 4)
  | amov (k j : Fin 4)
  | aadd (k j : Fin 4)
  | asub (k j : Fin 4)
  | aneg (k j : Fin 4)
  | aabs (k j : Fin 4)
  | ashl (k j : Fin 4) (sh : Fin 16)
  | ashr (k j : Fin 4) (sh : Fin 64)
  | aldx (k : Fin 4) (xl : Fin 16)
  | ares (k : Fin 4) (xl xm xh : Fin 16)
  | alu (o : AluOp) (d : Fin 16) (sa : Sel) (sb : SelB)
  | abs (d : Fin 16) (sa : Sel)
  | neg (d : Fin 16) (sa : Sel)
  | cmp (sa : Sel) (sb : SelB)
  | mpyx (d : Fin 16) (al : Fin 4) (sa sb : Sel)
  | ldi (d : Fin 16) (imm : BitVec 12)
  | lsi (d : Fin 16) (imm : BitVec 12)
  | cls (d : Fin 16) (k : Fin 4)
  | br (c : Cond) (rel : BitVec 12)
  | call (c : Cond) (rel : BitVec 12)
  | ret
  | jmpx (x : Fin 16)
  | loop (len : BitVec 6) (count : BitVec 10)
  | loopr (len : BitVec 6) (x : Fin 16)
  | endp
deriving DecidableEq, Repr

/-- A bundle (Table 5.1). -/
structure Bundle where
  op : BrickOp
  aga : AgField
  agb : AgField
  mv : Move
deriving DecidableEq, Repr

/-- Where a bundle issues and what rides with its operation: Brick, context, address fields, move. -/
structure Slot where
  brick : Fin 96
  ctx : CtxSel
  aga : AgField
  agb : AgField
  mv : Move
deriving DecidableEq, Repr

/-- An edge at a capture input (R280): the counter value at which the level changes, and the TIME cycles for which the new
level then stays. -/
structure CapEdge where
  at_ : Nat
  held : Nat
deriving DecidableEq, Repr

/-- What the fast current limit of a channel meets in a carrier period of the present Ts (R354, R365): the period, the last 15 bits of
the SENSE stream, newest first, and the MOD cycle of the period. -/
structure TripIn where
  period : Fin 16
  bits : BitVec 15
  cycle : Nat
deriving DecidableEq, Repr

/-- A frame arriving at an external port: its bytes from the destination address on without FCS, whether FCS and
alignment are good, whether its link was lost before its end (R234), its ingress timestamp (units of 2^-16 ns of the time
counter) and the time to its last bit. -/
structure FrameIn where
  port : Fin 4
  bytes : List Byte
  fcsOk : Bool
  alignOk : Bool
  cut : Bool
  ts : Nat
  dur : Nat
deriving DecidableEq, Repr


/-- The data by which IEEE 1588 compares clocks: an Announce message's, or the instance's own. -/
structure ClockData where
  prio1 : Nat
  clockClass : Nat
  accuracy : Nat
  variance : Nat
  prio2 : Nat
  gmid : Nat
  steps : Nat
deriving DecidableEq, Repr

/-- The fields of a PTP message that the engine reads or sends: domain number, source port identity, sequence number,
whether a Follow_Up comes, correctionField (2^-16 ns), timestamp (ns), interval exponent, requesting port, clock data,
the UTC report as TMS_PTP_UTC codes it. -/
structure PtpMsg where
  domainNum : Nat
  src : Nat
  seq : Nat
  twoStep : Bool
  cf : Int
  ns : Nat
  logIntv : Int
  reqPort : Nat
  clock : ClockData
  utc : Nat
deriving DecidableEq, Repr

/-- The kinds of PTP message the engine sends. -/
inductive PtpKind where
  | sync | delayReq | delayResp | announce
deriving DecidableEq, Repr


/-- The requesters of register accesses that keep captures of their own (R25): the Keeper's services, a KMP session, the
TW1 window, the debug port. -/
inductive Master where
  | keeper
  | session (n : Nat)
  | tw1
  | debug
deriving DecidableEq, Repr

/-- A reception at a control-bus MAC (R392): whole bytes after the SFD, an odd last nibble, RX_ER seen, RX_DV low for
9.6 µs before it, wide nanoseconds at the SFD. -/
structure CbusRx where
  mac : Fin 4
  bytes : List Byte
  odd : Bool
  rxErr : Bool
  quiet : Bool
  ts : Nat
deriving DecidableEq, Repr

/-- A false carrier at a control-bus MAC (R394): RX_DV low for 9.6 µs before it. -/
structure FalseCarrier where
  mac : Fin 4
  quiet : Bool
deriving DecidableEq, Repr

/-- What DEFER_MAX has passed over at a control-bus MAC (R390): the head of the transmit queue, the head under a carrier held
without a break, such a carrier while no frame has been at the head for so long. -/
inductive Deferral where
  | head | held | carrier
deriving DecidableEq, Repr

/-- How a bus recovery of TW0 ends (R412): SDA high at a STOP, SDA still low after nine clocks, SCL held low. -/
inductive Recovery where
  | freed | sdaStuck | sclStuck
deriving DecidableEq, Repr

/-- What the partners on TW0 did in a transaction: the address with W acknowledged, write bytes (PEC among them)
acknowledged, the address with R acknowledged, the bytes they sent. -/
structure Tw0Bus where
  ackW : Bool
  acked : Nat
  ackR : Bool
  read : List Byte
deriving DecidableEq, Repr

/-- How the beats of a DMA descriptor went (R440): first read beat that failed, write beats that failed, write beats
issued at all, and whether a failure was a parity failure. -/
structure DmaBeats where
  readBad : Option Nat
  writeBad : List Nat
  issued : Nat
  parity : Bool
deriving DecidableEq, Repr

/-- How a read returns: with its data, with an error response, with a beat whose parity fails (R429). -/
inductive BeatEnd where
  | done | error | parity
deriving DecidableEq, Repr

/-- Where a Mortar request goes: to the target its address lies in, or to one of the two that have no addresses in the management
space (Table 15.1). -/
inductive MortarAim where
  | address | xspi | switchBuffers
deriving DecidableEq, Repr

/-- A Mortar request: master, the Brick of a Course port, ID, issue time in MORTAR cycles, the cycle from which the master holds a
write's data, or can buffer a read's response, in full (R428), target and address, bytes with their strobes for a write,
number of bytes for a read, beats whose parity fails. -/
structure MortarReq where
  master : Fin 20
  brick : Fin 8
  id : Fin 32
  at_ : Nat
  ready : Nat
  aim : MortarAim
  addr : Word32
  write : Bool
  data : List (Option Byte)
  bytes : Nat
  badBeats : List Nat
deriving DecidableEq, Repr


/-- What a TW1 transaction had done when it was cut short: the bytes of a write whose acknowledge clocks had ended, or the
number of bytes read. -/
inductive Tw1Cut where
  | write (bytes : List Byte)
  | read (n : Nat)
deriving DecidableEq, Repr

/-- What every KMP message of a client carries (Table 17.11): SESSION, SEQ, and the TAG of a message with AUTH = 1.
DESIGN CHOICE, log 21: unsafe. -/
structure KmpHead where
  session : Nat
  seq : Nat
  tag : Option (List Byte)
deriving DecidableEq, Repr

/-- A REQUEST (Table 17.12): REQ_ID and the bytes of its arguments (Table 17.13). DESIGN CHOICE, log 21: unsafe. -/
structure KmpReq where
  head : KmpHead
  reqId : Nat
  args : List Byte
deriving DecidableEq, Repr

/-- How a request reaches the engine: as a KMP operation, or as a write of the register that does the same, of an
instance, by a master. -/
inductive Via where
  | kmp (r : KmpReq)
  | reg (m : Master) (i : Nat) (value : Nat)
deriving DecidableEq, Repr

/-- How a RETURN or SCRAP is asked for (Table 17.7): over KMP, by SEC_CMD, or by a debug command at FULL. -/
inductive LifeVia where
  | kmp (r : KmpReq)
  | reg (m : Master) (value : Nat)
  | debug
deriving DecidableEq, Repr

/-- What reaches the engine from outside in the sample period of a tick: received TDM slot words by port × 32 + slot,
the bitstreams of the sense inputs (2m the current, 2m + 1 the voltage of channel m, 128 + r rail r), bit k sampled at the k-th rising
edge of SNS_CLK in the Ts, and what the checks of Table 16.3 found in it: patch entries and delay-pool rows with uncorrectable errors, rows of Brick memory (32,768 × Brick + row) in which a bit flips, Bricks whose memory, and arrays (patch table, delay pool,
shared SRAM) that, had an error corrected; 64-bit rows of shared SRAM that have become uncorrectable; and by port the RS-FEC
codewords corrected and found uncorrectable.
DESIGN CHOICE, log 70: unsafe. DEDUCED, log 80: unsafe. -/
structure TickIn where
  tdm : List (Fin 256 × Word32)
  sense : List (Fin 136 × BitVec 512)
  patchUe : List (Fin 16384)
  poolUe : List (Fin 4194304)
  brickSoft : List (Fin 3145728)
  brickCe : List (Fin 96)
  patchCe : Bool
  poolCe : Bool
  sramCe : Bool
  sramUe : List (Fin 524288)
  fec : List (Fin 4 × Nat × Nat)
deriving DecidableEq, Repr

/-- A write of 1 to bits of FLT_STATUS, and the bits whose line asserts in the same PERI cycle (R456). -/
structure ClearIn where
  mask : Word64
  asserted : Word64
deriving DecidableEq, Repr

/-- Where a bundle issues and what rides with its move: Brick, context, operation, address fields. -/
structure MvSlot where
  brick : Fin 96
  ctx : CtxSel
  op : BrickOp
  aga : AgField
  agb : AgField
deriving DecidableEq, Repr

/-- What MTG writes (Table 5.4): a generator register, or F. -/
inductive MtgTo where
  | gen (file : GenFile) (g : Fin 8)
  | flags
deriving DecidableEq, Repr

/-- What MFG reads (Table 5.4): a generator register, or TN. -/
inductive MfgFrom where
  | gen (file : GenFile) (g : Fin 8)
  | tn
deriving DecidableEq, Repr

/-- The commands, in the order of spec/opcode_table.json. -/
inductive Instr where
  | powerOn (straps : Fin 128) (density : Fin 4)
  | resetNRise (straps : Fin 128) (density : Fin 4)
  | resetNLow (group : Nat) (image : Nat)
  | listenWindowEnd
  | startGateTimeout
  | imageStart
  | resetFaultStart
  | firmwareUpdateDone
  | sampleTick (i : TickIn)
  | brickOverrun (b : Fin 96) (c : CtxSel)
  | gainRampEnd (i : Fin 16384)
  | fadeEnd (i : Fin 16384)
  | programWaitEnd (d : Fin 3648)
  | patchEntryRewrite (i : Fin 16384)
  | meterWindowEnd (j : Fin 256)
  | delayFadeStart (d : Fin 3392)
  | delayFadeEnd (d : Fin 3392)
  | dynDetach (i : Fin 1280)
  | lookaheadChange (i : Fin 1280)
  | groupCommitted (ok : Bool)
  | groupApply
  | codeRunLoaded (l : Fin 92) (index : Nat)
  | bankSwitch (l : Fin 92) (index : Nat)
  | compactionCommit (ok : Bool)
  | compactionRetry
  | norEraseDone (a : Nat) (ok : Bool)
  | sessionOpen (client : Vector Byte 16) (nonce : Vector Byte 16) (auth : Bool)
  | sessionClose (h : KmpHead) (reason : Nat)
  | keepalive (h : KmpHead)
  | notifyAck (h : KmpHead) (seq : Nat)
  | sessionIdleTimeout (n : Nat)
  | clientTimeout (n : Nat)
  | proposalTimeout (id : Nat)
  | notifyResend (n : Nat) (seq : Nat)
  | identify (r : KmpReq)
  | takeControl (r : KmpReq)
  | dropControl (r : KmpReq)
  | read (r : KmpReq)
  | write (r : KmpReq)
  | group (r : KmpReq)
  | daymark (r : KmpReq)
  | compact (v : Via)
  | imageOpen (r : KmpReq)
  | imageData (r : KmpReq)
  | imageCommit (r : KmpReq)
  | imageTransferIdle
  | hold (v : Via)
  | service (v : Via)
  | release (v : Via)
  | exitService (v : Via)
  | swap (v : Via)
  | reset (v : Via)
  | restep (v : Via)
  | realign (v : Via)
  | realignExecute
  | resync (v : Via)
  | replace (v : Via)
  | wake (v : Via)
  | diag (v : Via)
  | retest (v : Via)
  | proposalAnswer (r : KmpReq)
  | subscribe (r : KmpReq)
  | cbusSend (r : KmpReq)
  | tw0Xfer (r : KmpReq)
  | enroll (r : KmpReq)
  | setMedium (r : KmpReq) (ok : Bool)
  | setDeviceKey (r : KmpReq) (ok : Bool)
  | genSignKey (r : KmpReq) (ok : Bool)
  | setOwnerKey (r : KmpReq) (ok : Bool)
  | commit (v : Via)
  | seal (v : Via)
  | return_ (v : LifeVia)
  | scrap (v : LifeVia)
  | debugLevel (v : Via)
  | sdp (r : KmpReq)
  | zeroizeNLow (still : Bool)
  | idcode
  | samplePreload (bits : Nat) (v : Nat)
  | extest (bits : Nat) (v : Nat)
  | dbgStatus
  | dbgReq (l : Fin 4)
  | dbgChal
  | dbgUnlock (sig : Vector Byte 64)
  | diagRead (a : Word32)
  | mortar (q : MortarReq)
  | bypass
  | dbgTapReset
  | dbgTckLoss
  | dbgChallengeExpiry
  | dbgUnlockBackoffEnd
  | registerWrite (m : Master) (a : Word32) (wide : Bool) (x : Word64)
  | registerReadClear (m : Master) (a : Word32) (wide : Bool)
  | capturingRead (m : Master) (a : Word32)
  | tmsNowCapture (m : Master) (wide : Bool)
  | pulseArm (i : Fin 8) (cfg : Word32)
  | pulseDisarm (i : Fin 8) (cfg : Word32)
  | pulseEdge (i : Fin 8)
  | tcapEdge (j : Fin 16) (fall : Bool) (t : CapEdge)
  | pop (j : Fin 16)
  | ptpSyncRx (d : Fin 2) (m : PtpMsg) (t2 : Nat)
  | ptpDelayRespRx (d : Fin 2) (m : PtpMsg)
  | ptpAnnounceRx (d : Fin 2) (m : PtpMsg)
  | ptpDelayReqRx (d : Fin 2) (m : PtpMsg) (t4 : Nat)
  | ptpSyncSend (d : Fin 2) (t : Nat)
  | ptpAnnounceSend (d : Fin 2)
  | ptpDelayReqSend (d : Fin 2) (t3 : Nat)
  | announceReceiptTimeout (d : Fin 2)
  | timeStep
  | rootUnlock
  | refEvent (r : Fin 6) (t : Nat)
  | refLoss (r : Fin 6)
  | refFreqUpdate
  | refQualified (r : Fin 6)
  | refSuspectMark
  | refSuspectClear
  | switchCommit
  | switchComplete
  | wtrExpiry (r : Fin 6)
  | holdoverTimeout
  | forceSelect (en : Bool) (r : Fin 6)
  | frameReceived (f : FrameIn)
  | streamDeadline (k : Fin 256)
  | linkUp (p : Fin 4)
  | linkDown (p : Fin 4)
  | rateAttemptTimeout (p : Fin 4)
  | addressAgeOut (d : Fin 2) (mac : Nat)
  | groupAgeOut (d : Fin 2) (g : Nat)
  | txRingHead (r : Fin 8) (head : Nat)
  | flashReceived (d : Fin 2) (addr : Word32) (mac : BitVec 48) (bytes : List Byte)
  | handoverEffective
  | swapAbandon
  | partnerLost
  | flashDormantSend
  | standbyTurnHot
  | wcPatch (bytes : List Byte)
  | wcMirror (bytes : List Byte)
  | wcBulk (bytes : List Byte)
  | wcSwitch (bytes : List Byte)
  | wcStop (bytes : List Byte)
  | wcStatus (bytes : List Byte)
  | wcAbort (bytes : List Byte)
  | wcUnitJoined (u : Nat)
  | wcRetry
  | reliefTakeover (b : Fin 96)
  | reliefLoaded (l : Fin 92)
  | reliefRun (l : Fin 92)
  | reliefReady (l : Fin 92)
  | reliefDone (l : Fin 92)
  | currentTrip (m : Fin 64) (k : TripIn)
  | retestStart (m : Fin 64)
  | retestEnd (m : Fin 64)
  | retriesReset (m : Fin 64)
  | senseLost (input : Fin 3) (k : Fin 64)
  | senseReturn (input : Fin 3) (k : Fin 64)
  | railUnderVoltage (r : Fin 8)
  | railOverVoltage (r : Fin 8)
  | railRecover (r : Fin 8)
  | diagStepEnd (m : Fin 64)
  | pilotWindowEnd (m : Fin 64)
  | cbusEnable (m : Fin 4) (plca : Option Bool)
  | cbusDisable (m : Fin 4)
  | cbusFrameRx (f : CbusRx)
  | cbusFalseCarrier (f : FalseCarrier)
  | cbusJabber (f : CbusRx)
  | cbusTxData (m : Fin 4) (w : Word32)
  | cbusGo (m : Fin 4) (len : BitVec 12) (tag : BitVec 8)
  | cbusFlush (m : Fin 4)
  | cbusAttemptStart (m : Fin 4) (deferred : Bool)
  | cbusCollision (m : Fin 4) (late : Bool) (noCrs : Bool)
  | cbusBackoffEnd (m : Fin 4)
  | cbusTxEnd (m : Fin 4) (noCrs : Bool)
  | cbusDeferTimeout (m : Fin 4) (d : Deferral)
  | cbusClkLost (m : Fin 4) (tx : Bool)
  | cbusClkReturn (m : Fin 4) (tx : Bool)
  | resPop (m : Fin 4)
  | rxPop (m : Fin 4)
  | cbusRxData (m : Fin 4)
  | mdioWrite (m : Fin 4) (phy : Fin 32) (reg : Fin 32) (data : BitVec 16)
  | mdioRead (m : Fin 4) (phy : Fin 32) (reg : Fin 32)
  | mdioDone (m : Fin 4) (ack : Bool) (data : BitVec 16)
  | pollTimeout (key : Nat)
  | tw0Enable (how : Recovery)
  | tw0Disable (acked : Nat) (read : List Byte)
  | tw0Txd (w : Word32)
  | tw0Rxd
  | tw0Go (cmd : BitVec 31)
  | tw0ArbLost
  | tw0ArbRetry
  | tw0Done (b : Tw0Bus)
  | tw0Timeout (acked : Nat) (read : List Byte) (how : Recovery)
  | tw0Recover (how : Recovery)
  | tw0Abort (acked : Nat) (read : List Byte)
  | tw0RecoveryRepeat (how : Recovery)
  | tw1Write (addr : BitVec 7) (bytes : List Byte)
  | tw1Read (addr : BitVec 7) (n : Nat)
  | tw1ProtocolError (addr : BitVec 7) (cut : Tw1Cut)
  | tw1Timeout (addr : BitVec 7) (cut : Tw1Cut)
  | mortarRequest (qs : List MortarReq)
  | drainEnd (m : Fin 20)
  | dmaDisable (landed : List (Fin 32 × Nat))
  | dmaChannelEnable (c : Fin 32)
  | dmaCqEnable (q : Fin 16)
  | ring (c : Fin 32)
  | setIdx (c : Fin 32) (i : BitVec 12)
  | dmaAbort (c : Fin 32) (landed : Nat)
  | dmaDescriptorFetched (c : Fin 32) (how : BeatEnd)
  | dmaDescriptorEnd (c : Fin 32) (b : DmaBeats)
  | dmaCqTail (q : Fin 16) (tail : BitVec 12)
  | errNPulseEnd
  | faultClear (m : Master) (mask : ClearIn)
  | faultAutoClear (k : Fin 64)
  | soft0 (m : Master)
  | soft1 (m : Master)
  | keeperWatchdog
  | scrubPassStart (a : Fin 4) (ended : Bool) (corrected : List Nat) (bad : List Nat)
  | tjUpdate (t : BitVec 16)
  | supplyMonitor
  | scheduleOccurrence
  | dormantDecide (timer : Option Nat)
  | dormantEnter (timer : Option Nat)
  | powerRise (timer : Option Nat)
  | keepaliveSend
  | mooredRelock
  | relockEnd
  | linkWake (p : Fin 4)
  | tcapWake (j : Fin 16)
  | leaveDormant
  | returnEraseDone
  | nop (sl : Slot)
  | mac (sl : Slot) (k : Fin 4) (al : Fin 4) (sa : Sel) (sb : Sel)
  | msu (sl : Slot) (k : Fin 4) (al : Fin 4) (sa : Sel) (sb : Sel)
  | mpy (sl : Slot) (k : Fin 4) (al : Fin 4) (sa : Sel) (sb : Sel)
  | mpn (sl : Slot) (k : Fin 4) (al : Fin 4) (sa : Sel) (sb : Sel)
  | aclr (sl : Slot) (k : Fin 4)
  | amov (sl : Slot) (k : Fin 4) (j : Fin 4)
  | aadd (sl : Slot) (k : Fin 4) (j : Fin 4)
  | asub (sl : Slot) (k : Fin 4) (j : Fin 4)
  | aneg (sl : Slot) (k : Fin 4) (j : Fin 4)
  | aabs (sl : Slot) (k : Fin 4) (j : Fin 4)
  | ashl (sl : Slot) (k : Fin 4) (j : Fin 4) (sh : Fin 16)
  | ashr (sl : Slot) (k : Fin 4) (j : Fin 4) (sh : Fin 64)
  | aldx (sl : Slot) (k : Fin 4) (xl : Fin 16)
  | ares (sl : Slot) (k : Fin 4) (xl : Fin 16) (xm : Fin 16) (xh : Fin 16)
  | add (sl : Slot) (d : Fin 16) (sa : Sel) (sb : SelB)
  | adds (sl : Slot) (d : Fin 16) (sa : Sel) (sb : SelB)
  | sub (sl : Slot) (d : Fin 16) (sa : Sel) (sb : SelB)
  | subs (sl : Slot) (d : Fin 16) (sa : Sel) (sb : SelB)
  | and (sl : Slot) (d : Fin 16) (sa : Sel) (sb : SelB)
  | or (sl : Slot) (d : Fin 16) (sa : Sel) (sb : SelB)
  | xor (sl : Slot) (d : Fin 16) (sa : Sel) (sb : SelB)
  | shl (sl : Slot) (d : Fin 16) (sa : Sel) (sb : SelB)
  | shr (sl : Slot) (d : Fin 16) (sa : Sel) (sb : SelB)
  | asr (sl : Slot) (d : Fin 16) (sa : Sel) (sb : SelB)
  | min (sl : Slot) (d : Fin 16) (sa : Sel) (sb : SelB)
  | max (sl : Slot) (d : Fin 16) (sa : Sel) (sb : SelB)
  | abs (sl : Slot) (d : Fin 16) (sa : Sel)
  | neg (sl : Slot) (d : Fin 16) (sa : Sel)
  | cmp (sl : Slot) (sa : Sel) (sb : SelB)
  | mpyx (sl : Slot) (d : Fin 16) (al : Fin 4) (sa : Sel) (sb : Sel)
  | ldi (sl : Slot) (d : Fin 16) (imm : BitVec 12)
  | lsi (sl : Slot) (d : Fin 16) (imm : BitVec 12)
  | cls (sl : Slot) (d : Fin 16) (k : Fin 4)
  | br (sl : Slot) (cc : Cond) (rel : BitVec 12)
  | call (sl : Slot) (cc : Cond) (rel : BitVec 12)
  | ret (sl : Slot)
  | jmpx (sl : Slot) (x : Fin 16)
  | loop (sl : Slot) (len : BitVec 6) (count : BitVec 10)
  | loopr (sl : Slot) (len : BitVec 6) (x : Fin 16)
  | end_ (sl : Slot)
  | ld (sl : MvSlot) (dst : Fin 16) (ag : Ag)
  | st (sl : MvSlot) (src : Fin 16) (ag : Ag)
  | sta (sl : MvSlot) (k : Fin 4) (fmt : Fmt) (ag : Ag)
  | cvt (sl : MvSlot) (k : Fin 4) (fmt : Fmt) (dst : Fin 16)
  | mov (sl : MvSlot) (dst : Fin 16) (src : Fin 16)
  | mtg (sl : MvSlot) (dest : MtgTo) (src : Fin 16)
  | mfg (sl : MvSlot) (fr : MfgFrom) (dst : Fin 16)
  | powerLoss (group : Nat) (image : Nat)
  | ptpFollowUpRx (d : Fin 2) (m : PtpMsg)
  | rootPllRelock
  | supplyMonitorReturn
  | carrierFall (m : Fin 4)
  | tw0StuckClear (sda : Bool)
  | powerDeepen (timer : Option Nat)
  | egressFrameSent (p : Fin 4) (t : Nat)
deriving DecidableEq, Repr

end Sys2Proof
end

