-- ==== Sys2Proof/Decode.lean ====
section
/-! DEFINITION. Words that spell commands. No row of spec/opcode_table.json gives bits: commands are events, messages and
register accesses, so no word spells one. (The words of Brick bundles in memory are decoded in Machine/Operands.lean.) -/

namespace Sys2Proof

/-- The command a word of `nbits` bits spells by the table: none, since no row gives bits. DEDUCED, log 11: safe. -/
def decodeTableWord (_nbits _w : Nat) : Option Instr := none

end Sys2Proof
end

