-- ==== Sys2Proof/Machine/Num.lean ====
section
/-! DEFINITION. Exact arithmetic shared by the blocks: rounding half-even and saturation (R18, R130), the dB conversions
of R182 and R214, the sine of R189 and R200. Real functions are computed with 128 fraction bits, far below the
last bit any rule keeps. -/

namespace Sys2Proof.Machine

/-- round-half-even(num / den), den above 0 (R18). -/
def rhe (num : Int) (den : Nat) : Int :=
  let q := num / (den : Int)
  let r := num - q * den
  if 2 * r > den then q + 1
  else if 2 * r < den then q
  else if q % 2 = 0 then q else q + 1

/-- Saturate to a range (R18). -/
def satTo (lo hi v : Int) : Int := if v < lo then lo else if hi < v then hi else v

/-- The 48-bit range, in units of 2^-31 (R184). -/
def sat48 (v : Int) : Int := satTo (-(2 ^ 47)) (2 ^ 47 - 1) v

/-- The Q1.31 range, in units of 2^-31. -/
def sat32 (v : Int) : Int := satTo (-(2 ^ 31)) (2 ^ 31 - 1) v

/-- The accumulator range, in units of 2^-63 (R129). -/
def sat80 (v : Int) : Int := satTo (-(2 ^ 79)) (2 ^ 79 - 1) v

/-- A field read as two's complement. -/
def signed (width v : Nat) : Int := if v < 2 ^ (width - 1) then v else (v : Int) - 2 ^ width

/-- A number written into `width` bits as two's complement. -/
def unsigned (width : Nat) (v : Int) : Nat := (v % (2 ^ width : Int)).toNat

/-- One in the fixed-point format of the real functions. -/
def fxOne : Nat := 2 ^ 128
/-- ln 2, ln 10 and pi with 128 fraction bits. -/
def fxLn2 : Nat := 0xb17217f7d1cf79abc9e3b39803f2f6af
def fxLn10 : Nat := 0x24d763776aaa2b05ba95b58ae0b4c28a3
def fxPi : Nat := 0x3243f6a8885a308d313198a2e03707344

/-- Terms of the exponential series. -/
def expTerms : Nat → Nat → Nat → Nat → Nat
  | 0, _, _, s => s
  | n + 1, k, y, t =>
    t + expTerms n (k + 1) y (t * y / fxOne / (k + 1))

/-- e^y for 0 ≤ y < ln 2. DEDUCED, log 18: unsafe. -/
def fxExp (y : Nat) : Nat := expTerms 40 0 y fxOne

/-- Terms of the series of atanh z, z2 its square. -/
def atanhTerms : Nat → Nat → Nat → Nat → Nat
  | 0, _, _, _ => 0
  | n + 1, k, z2, t => t / k + atanhTerms n (k + 2) z2 (t * z2 / fxOne)

/-- ln m for 1 ≤ m < 2. DEDUCED, log 18: unsafe. -/
def fxLn (m : Nat) : Nat :=
  let z := (m - fxOne) * fxOne / (m + fxOne)
  2 * atanhTerms 45 1 (z * z / fxOne) z

/-- Terms of the sine series: sign, index, square of the argument, term. -/
def sinTerms : Nat → Nat → Nat → Nat → Int
  | 0, _, _, _ => 0
  | n + 1, k, y2, t => (t : Int) - sinTerms n (k + 2) y2 (t * y2 / fxOne / (k * (k + 1)))

/-- sin y for 0 ≤ y ≤ pi / 2. -/
def fxSin (y : Nat) : Nat := (sinTerms 25 2 (y * y / fxOne) y).toNat

/-- The multiplier of gain code g (R182): mantissa M in Q1.30 and exponent E, for g other than 0x8000.
DEDUCED, log 18: unsafe. -/
def gainMul (g : Int) : Nat × Int :=
  let y : Int := g * fxLn10 / 5120
  let e := y / (fxLn2 : Int)
  let r := (y - e * fxLn2).toNat
  let m := (fxExp r + 2 ^ 97) / 2 ^ 98
  if m ≥ 2 ^ 31 then (2 ^ 30, e + 1) else (m, e)

/-- x × M × 2^E rounded half-even, x in any fixed-point unit kept (step 2 of R184 before saturation).
DEDUCED, log 18: unsafe. -/
def scaleBy (x : Int) (me : Nat × Int) : Int :=
  let e := me.2 - 30
  if 0 ≤ e then x * me.1 * 2 ^ e.toNat else rhe (x * me.1) (2 ^ (-e).toNat)

/-- A gain code applied to a value by steps 1 and 2 of R184; code 0x8000 gives zero. -/
def applyGain (x : Int) (code : Int) : Int :=
  if code = -32768 then 0 else scaleBy x (gainMul code)

/-- Saturate a computed gain in 1/256 dB to the codes 0x8001 to 0x7FFF (R183). -/
def gainCode (g : Int) : Int := satTo (-32767) 32767 g

/-- round-half-even of unit × 20 log10 (num / 2^frac), num above 0. -/
def dbOf (unit num frac : Nat) : Int :=
  let e := Nat.log2 num
  let m := if e ≤ 128 then num * 2 ^ (128 - e) else num / 2 ^ (e - 128)
  let ln : Int := (fxLn m : Int) + ((e : Int) - frac) * fxLn2
  rhe (ln * (20 * unit)) fxLn10

/-- Level in dBFS, Q8.16 dB, of an amplitude num / 2^frac, floored at −128 dB (R214). DEDUCED, log 18: unsafe. -/
def levelQ16 (num frac : Nat) : Int :=
  if num = 0 then -(128 * 65536) else satTo (-(128 * 65536)) (128 * 65536 - 1) (dbOf 65536 num frac)

/-- round-half-even(2^30 sin(pi/2 × num/den)), 0 ≤ num ≤ den (R189). DEDUCED, log 18: unsafe. -/
def sinQ30 (num den : Nat) : Nat :=
  if den ≤ num then 2 ^ 30
  else (fxSin (fxPi * num / (2 * den)) + 2 ^ 97) / 2 ^ 98

/-- sin(2 pi phi / 2^32) with 128 fraction bits, signed (R200). -/
def sinTurn (phi : Nat) : Int :=
  let p := phi % 2 ^ 32
  let h := p % 2 ^ 31
  let q := if h ≤ 2 ^ 30 then h else 2 ^ 31 - h
  let v : Int := if q = 2 ^ 30 then fxOne else fxSin (fxPi * q / 2 ^ 31)
  if p < 2 ^ 31 then v else -v

/-- round-half-even(2^24 × exp(−1/n)), n = num / den sample periods (R216). DEDUCED, log 18: unsafe. -/
def alphaQ24 (num den : Nat) : Nat :=
  if num = 0 then 0
  else
    -- exp(−d/n) = 2^−e × exp(e ln 2 − d/n), the reduced argument in [0, ln 2)
    let y := fxOne * den / num
    let e := (y + fxLn2 - 1) / fxLn2
    let r := e * fxLn2 - y
    (fxExp r / 2 ^ e + 2 ^ 103) / 2 ^ 104

/-- exp(−num/den) in units of 2^-64, for den above 0. DEDUCED, log 18: unsafe. -/
def expNegQ64 (num den : Nat) : Nat :=
  let y := fxOne * num / den
  let e := (y + fxLn2 - 1) / fxLn2
  let r := e * fxLn2 - y
  (fxExp r / 2 ^ e + 2 ^ 63) / 2 ^ 64

/-- Integer square root, by bits from `n` down. -/
def isqrtBits : Nat → Nat → Nat → Nat
  | 0, _, r => r
  | n + 1, v, r =>
    let c := r + 2 ^ n
    isqrtBits n v (if c * c ≤ v then c else r)

/-- floor(sqrt v). -/
def isqrt (v : Nat) : Nat := isqrtBits (Nat.log2 v / 2 + 1) v 0

/-- ln n for n above 0, with 128 fraction bits. -/
def fxLnNat (n : Nat) : Int :=
  let e := Nat.log2 n
  let m := if e ≤ 128 then n * 2 ^ (128 - e) else n / 2 ^ (e - 128)
  (fxLn m : Int) + e * fxLn2

/-- 10 log10(a / b) in Q8.16 dB, for a and b above 0, saturated to the format. -/
def powerDbQ16 (a b : Nat) : Int :=
  satTo (-(128 * 65536)) (128 * 65536 - 1) (rhe ((fxLnNat a - fxLnNat b) * (10 * 65536)) fxLn10)

/-- v × 10^(g / 10), g in Q8.16 dB and 0 or above, rounded half-even. -/
def byPowerDb (v g : Int) : Int :=
  let y := (g * fxLn10 / 655360).toNat
  let e := y / fxLn2
  rhe (v * (fxExp (y - e * fxLn2) * 2 ^ e : Nat)) fxOne

/-- One step of the smoothing of R216: the gain g follows G by the attack or the release coefficient, Q8.16 dB. -/
def smooth (g target : Int) (attack release : Nat) : Int :=
  let c := if target < g then attack else release
  target + rhe (c * (g - target)) (2 ^ 24)

/-- Terms of the arctangent series. -/
def atanTerms : Nat → Nat → Nat → Nat → Int
  | 0, _, _, _ => 0
  | n + 1, k, z2, t => (t / k : Nat) - atanTerms n (k + 2) z2 (t * z2 / fxOne)

/-- Halve an angle given by its tangent. -/
def halfTan (t : Nat) : Nat := t * fxOne / (fxOne + isqrt (fxOne * fxOne + t * t))

/-- atan t for 0 ≤ t ≤ 1. DEDUCED, log 18: unsafe. -/
def fxAtan (t : Nat) : Nat :=
  let z := halfTan (halfTan (halfTan t))
  8 * (atanTerms 30 1 (z * z / fxOne) z).toNat

/-- The angle of (x, y) in Q8.8 degrees, −180 to 180, rounded half-even; 0 at the origin. -/
def argQ8 (x y : Int) : Int :=
  let ax := x.natAbs
  let ay := y.natAbs
  let base : Int := if ax = 0 && ay = 0 then 0
    else if ay ≤ ax then fxAtan (ay * fxOne / ax)
    else (fxPi : Int) / 2 - fxAtan (ax * fxOne / ay)
  let quad : Int := if 0 ≤ x then base else fxPi - base
  let a := if 0 ≤ y then quad else -quad
  rhe (a * (180 * 256)) fxPi

/-- round(sqrt(num / den)), den above 0. -/
def sqrtRatio (num den : Nat) : Nat := (isqrt (4 * num / den) + 1) / 2

end Sys2Proof.Machine
end

