-- ==== Sys2Proof/Machine/Regs.lean ====
section
/-! DEFINITION. The register map of the management space (R21, R53, Table 1.10): the address of every register, the
place of every field, and the table of registers with the type and the allowed codes of each field and the value at reset.
Each row follows the register description of the chapter named beside its group. -/

namespace Sys2Proof.Machine

/-- The access types of Table 0.8 (R21). -/
inductive FieldTy where
  | rw | ro | wo | w1c | rc | rwl
deriving DecidableEq, Repr

/-- One field of a register: its place, its type and, for a writable field, the codes that are not reserved
(an empty list allows every code; R23). -/
structure FieldDef where
  lo : Nat
  width : Nat
  ty : FieldTy
  allowed : List (Nat × Nat)
deriving DecidableEq, Repr

/-- One register, or an array of them in one or two dimensions (count and stride of each). -/
structure RegDef where
  base : Nat
  n1 : Nat
  s1 : Nat
  n2 : Nat
  s2 : Nat
  bits : Nat
  reset : Nat
  fields : List FieldDef
deriving DecidableEq, Repr

/-- A field in the register file: register address, lowest bit, width. -/
structure Fld where
  addr : Nat
  lo : Nat
  width : Nat
deriving DecidableEq, Repr

/-! Register addresses (the offsets of each chapter's register section). -/

abbrev AMP_STAT : Nat := 0x80000
abbrev AMP_DIAG_CTL : Nat := 0x80008
abbrev AMP_DIAG_MASK : Nat := 0x80010
abbrev AMP_SWEEP (k : Nat) : Nat := 0x80040 + 0x8 * k
abbrev AMP_RAIL_CFG (r : Nat) : Nat := 0x80100 + 0x10 * r
abbrev AMP_RAIL_LIM (r : Nat) : Nat := 0x80104 + 0x10 * r
abbrev AMP_RAIL_V (r : Nat) : Nat := 0x80108 + 0x10 * r
abbrev AMP_RAIL_STAT (r : Nat) : Nat := 0x8010c + 0x10 * r
abbrev AMP_CH_CFG (m : Nat) : Nat := 0x81000 + 0x80 * m
abbrev AMP_CH_SCALE (m : Nat) : Nat := 0x81004 + 0x80 * m
abbrev AMP_CH_SNS_SCALE (m : Nat) : Nat := 0x81008 + 0x80 * m
abbrev AMP_CH_PROT (m : Nat) : Nat := 0x8100c + 0x80 * m
abbrev AMP_CH_TIME (m : Nat) : Nat := 0x81010 + 0x80 * m
abbrev AMP_CH_RAILSAG (m : Nat) : Nat := 0x81014 + 0x80 * m
abbrev AMP_CH_COIL (m : Nat) : Nat := 0x81018 + 0x80 * m
abbrev AMP_CH_HF (m : Nat) : Nat := 0x8101c + 0x80 * m
abbrev AMP_CH_TAP (m : Nat) : Nat := 0x81020 + 0x80 * m
abbrev AMP_CH_CTL (m : Nat) : Nat := 0x81024 + 0x80 * m
abbrev AMP_CH_STAT (m : Nat) : Nat := 0x81028 + 0x80 * m
abbrev AMP_CH_GR (m : Nat) : Nat := 0x8102c + 0x80 * m
abbrev AMP_CH_POWER (m : Nat) : Nat := 0x81030 + 0x80 * m
abbrev AMP_CH_RDC (m : Nat) : Nat := 0x81034 + 0x80 * m
abbrev AMP_CH_ZMAG (m : Nat) : Nat := 0x81038 + 0x80 * m
abbrev AMP_CH_ZPH (m : Nat) : Nat := 0x8103c + 0x80 * m
abbrev AMP_CH_ZBASE (m : Nat) : Nat := 0x81040 + 0x80 * m
abbrev AMP_CH_CNT (m : Nat) : Nat := 0x81044 + 0x80 * m
abbrev AMP_CH_SWEEP (m k : Nat) : Nat := 0x84000 + 0x80 * m + 0x8 * k
abbrev BRK_CTL (b : Nat) : Nat := 0x2000000 + 0x10000 * b
abbrev BRK_STAT (b : Nat) : Nat := 0x2000004 + 0x10000 * b
abbrev BRK_ROLE (b : Nat) : Nat := 0x2000008 + 0x10000 * b
abbrev BRK_SAT_CNT (b : Nat) : Nat := 0x200000c + 0x10000 * b
abbrev BRK_OVR_CNT (b : Nat) : Nat := 0x2000010 + 0x10000 * b
abbrev BRK_CYC_FG (b : Nat) : Nat := 0x2000014 + 0x10000 * b
abbrev BRK_CYC_BG (b : Nat) : Nat := 0x2000018 + 0x10000 * b
abbrev BRK_PORT (b : Nat) : Nat := 0x200001c + 0x10000 * b
abbrev BRK_TN (b : Nat) : Nat := 0x2000020 + 0x10000 * b
abbrev BRK_PC (b : Nat) : Nat := 0x2000024 + 0x10000 * b
abbrev BRK_TRIG (b k : Nat) : Nat := 0x2000100 + 0x10000 * b + 0x4 * k
abbrev BRK_IO (b k : Nat) : Nat := 0x2000400 + 0x10000 * b + 0x4 * k
abbrev CBUS_CFG (m : Nat) : Nat := 0x90000 + 0x1000 * m
abbrev CBUS_STAT (m : Nat) : Nat := 0x90004 + 0x1000 * m
abbrev CBUS_FILT (m k : Nat) : Nat := 0x90010 + 0x1000 * m + 0x8 * k
abbrev CBUS_RX_STAT (m : Nat) : Nat := 0x90050 + 0x1000 * m
abbrev CBUS_RX_TS (m : Nat) : Nat := 0x90058 + 0x1000 * m
abbrev CBUS_RX_DATA (m : Nat) : Nat := 0x90060 + 0x1000 * m
abbrev CBUS_CTL (m : Nat) : Nat := 0x90064 + 0x1000 * m
abbrev CBUS_TX_DATA (m : Nat) : Nat := 0x90070 + 0x1000 * m
abbrev CBUS_TX_CMD (m : Nat) : Nat := 0x90074 + 0x1000 * m
abbrev CBUS_TX_RES (m : Nat) : Nat := 0x90078 + 0x1000 * m
abbrev CBUS_MDIO (m : Nat) : Nat := 0x90080 + 0x1000 * m
abbrev CBUS_CNT (m k : Nat) : Nat := 0x90100 + 0x1000 * m + 0x4 * k
abbrev CLK_STAT : Nat := 0x20000
abbrev CLK_RATE : Nat := 0x20004
abbrev CLK_MODEL : Nat := 0x20008
abbrev CLK_MODEL_AGE : Nat := 0x2000c
abbrev CLK_HOLD_TIME : Nat := 0x20010
abbrev CLK_REALIGN : Nat := 0x20018
abbrev CLK_CNT : Nat := 0x20020
abbrev DBG_LEVEL : Nat := 0xf8000
abbrev DBG_CTL : Nat := 0xf8004
abbrev DBG_CNT : Nat := 0xf8008
abbrev DBG_CHAL (i : Nat) : Nat := 0xf8010 + 0x4 * i
abbrev DMA_CFG : Nat := 0xb0000
abbrev DMA_STAT : Nat := 0xb0004
abbrev DMA_CNT : Nat := 0xb0008
abbrev DMA_CH_CFG (c : Nat) : Nat := 0xb0100 + 0x20 * c
abbrev DMA_CH_DB (c : Nat) : Nat := 0xb0104 + 0x20 * c
abbrev DMA_CH_STAT (c : Nat) : Nat := 0xb0108 + 0x20 * c
abbrev DMA_CH_CTL (c : Nat) : Nat := 0xb010c + 0x20 * c
abbrev DMA_CH_CNT (c : Nat) : Nat := 0xb0110 + 0x20 * c
abbrev DMA_CQ_CFG (q : Nat) : Nat := 0xb0800 + 0x10 * q
abbrev DMA_CQ_PTR (q : Nat) : Nat := 0xb0804 + 0x10 * q
abbrev DMA_CQ_STAT (q : Nat) : Nat := 0xb0808 + 0x10 * q
abbrev DYN_STAT : Nat := 0x70000
abbrev DYN_POOL : Nat := 0x70004
abbrev DYN_CNT : Nat := 0x70008
abbrev DYN_ECC_ADDR : Nat := 0x7000c
abbrev DYN_INST_CFG0 (i : Nat) : Nat := 0x70100 + 0x10 * i
abbrev DYN_INST_CFG1 (i : Nat) : Nat := 0x70104 + 0x10 * i
abbrev DYN_INST_CFG2 (i : Nat) : Nat := 0x70108 + 0x10 * i
abbrev DYN_INST_CFG3 (i : Nat) : Nat := 0x7010c + 0x10 * i
abbrev DYN_INST_GR (k : Nat) : Nat := 0x75100 + 0x4 * k
abbrev DYN_LIM_CFG (i : Nat) : Nat := 0x75b00 + 0x8 * i
abbrev DYN_LIM_TIME (i : Nat) : Nat := 0x75b04 + 0x8 * i
abbrev DYN_LIM_GR (k : Nat) : Nat := 0x78500 + 0x4 * k
abbrev DYN_DLY_CFG (d : Nat) : Nat := 0x79000 + 0x4 * d
abbrev DYN_DLY_STAT (d : Nat) : Nat := 0x7c800 + 0x4 * d
abbrev FLT_STATUS : Nat := 0x10000
abbrev FLT_CAUSE : Nat := 0x10008
abbrev FLT_FIRST : Nat := 0x10010
abbrev FLT_FIRST_TIME : Nat := 0x10018
abbrev FLT_PIN_CTL : Nat := 0x10020
abbrev FLT_PULSE_MIN : Nat := 0x10024
abbrev FLT_PIN_STAT : Nat := 0x10028
abbrev FLT_CNT : Nat := 0x10030
abbrev FLT_CHAN_SAFE : Nat := 0x10038
abbrev FLT_SOFT : Nat := 0x10040
abbrev FLT_RESET_HIST : Nat := 0x10048
abbrev FLT_HOLD_SRC : Nat := 0x10050
abbrev FLT_SCRUB_CFG : Nat := 0x10060
abbrev FLT_SCRUB_STAT (a : Nat) : Nat := 0x10070 + 0x4 * a
abbrev FLT_TJ : Nat := 0x10080
abbrev FLT_CFG (k : Nat) : Nat := 0x10100 + 0x4 * k
abbrev GLB_ID : Nat := 0x0
abbrev GLB_FW_VER : Nat := 0x4
abbrev GLB_STRAP : Nat := 0x8
abbrev GLB_MODE : Nat := 0x10
abbrev GLB_MODE_REQ : Nat := 0x14
abbrev GLB_MODE_TIME : Nat := 0x18
abbrev GLB_START_TIME : Nat := 0x20
abbrev GLB_TRANS_CNT : Nat := 0x24
abbrev GLB_POLICY_CTL : Nat := 0x28
abbrev GLB_TDM_CFG (p : Nat) : Nat := 0x100 + 0x10 * p
abbrev GLB_TDM_RXEN (p : Nat) : Nat := 0x104 + 0x10 * p
abbrev GLB_TDM_TXEN (p : Nat) : Nat := 0x108 + 0x10 * p
abbrev MORTAR_STAT : Nat := 0xc0000
abbrev MORTAR_ERR : Nat := 0xc0008
abbrev MORTAR_CNT : Nat := 0xc0010
abbrev MORTAR_MST_STAT (m : Nat) : Nat := 0xc0100 + 0x10 * m
abbrev MORTAR_MST_PATH_RD (m : Nat) : Nat := 0xc0104 + 0x10 * m
abbrev MORTAR_MST_PATH_WR (m : Nat) : Nat := 0xc0108 + 0x10 * m
abbrev MORTAR_MST_CNT (m : Nat) : Nat := 0xc010c + 0x10 * m
abbrev NET_PORT_CFG (p : Nat) : Nat := 0x40000 + 0x4000 * p
abbrev NET_PORT_STAT (p : Nat) : Nat := 0x40004 + 0x4000 * p
abbrev NET_CBS (p : Nat) : Nat := 0x40008 + 0x4000 * p
abbrev NET_PCP_MAP (p : Nat) : Nat := 0x4000c + 0x4000 * p
abbrev NET_DSCP_MAP (p m : Nat) : Nat := 0x40010 + 0x4000 * p + 0x4 * m
abbrev NET_CNT (p k : Nat) : Nat := 0x40040 + 0x4000 * p + 0x4 * k
abbrev NET_SW_CFG : Nat := 0x41000
abbrev NET_SW_STAT : Nat := 0x41004
abbrev NET_SW_MAC : Nat := 0x41008
abbrev NET_RXR_CFG (r : Nat) : Nat := 0x41100 + 0x10 * r
abbrev NET_RXR_PTR (r : Nat) : Nat := 0x41104 + 0x10 * r
abbrev NET_RXR_DROP (r : Nat) : Nat := 0x41108 + 0x10 * r
abbrev NET_TXR_CFG (r : Nat) : Nat := 0x41200 + 0x10 * r
abbrev NET_TXR_PTR (r : Nat) : Nat := 0x41204 + 0x10 * r
abbrev PAIR_CFG : Nat := 0x60000
abbrev PAIR_TIMING : Nat := 0x60004
abbrev PAIR_FLASH_PORT : Nat := 0x60008
abbrev PAIR_PARTNER_ADDR (d : Nat) : Nat := 0x60010 + 0x4 * d
abbrev PAIR_STAT : Nat := 0x60020
abbrev PAIR_CLAIM : Nat := 0x60024
abbrev PAIR_EPOCH : Nat := 0x60028
abbrev PAIR_PARTNER_DTAG : Nat := 0x6002c
abbrev PAIR_HO : Nat := 0x60030
abbrev PAIR_DAYMARK (i : Nat) : Nat := 0x60040 + 0x4 * i
abbrev PAIR_DIG_STAT : Nat := 0x60060
abbrev PAIR_DIG_GRP : Nat := 0x60064
abbrev PAIR_DIG_BLK : Nat := 0x60068
abbrev PAIR_DIG_CNT : Nat := 0x60070
abbrev PAIR_DIG_MASK (k : Nat) : Nat := 0x60080 + 0x4 * k
abbrev PAIR_WC_CFG : Nat := 0x60100
abbrev PAIR_WC_CTL : Nat := 0x60104
abbrev PAIR_WC_STAT : Nat := 0x60108
abbrev PAIR_WC_CNT : Nat := 0x6010c
abbrev PAIR_CKPT_CFG : Nat := 0x60200
abbrev PAIR_CKPT_N : Nat := 0x60208
abbrev PAIR_RELIEF : Nat := 0x60210
abbrev PAIR_RELIEF_CTL : Nat := 0x60214
abbrev PAIR_CNT : Nat := 0x60220
abbrev PAIR_CHSEL (s : Nat) : Nat := 0x60400 + 0x4 * s
abbrev PAIR_CHSEL_ALT (s : Nat) : Nat := 0x60600 + 0x8 * s
abbrev PAIR_CHSEL_CNT (s : Nat) : Nat := 0x60800 + 0x4 * s
abbrev PATCH_STAT : Nat := 0x1000
abbrev PATCH_SAT_CNT : Nat := 0x1004
abbrev PATCH_EVT_CNT : Nat := 0x1008
abbrev PATCH_ECC_ADDR : Nat := 0x100c
abbrev PATCH_RAMP (q : Nat) : Nat := 0x1100 + 0x4 * q
abbrev PATCH_GEN_CFG (g : Nat) : Nat := 0x1200 + 0x10 * g
abbrev PATCH_GEN_FREQ (g : Nat) : Nat := 0x1204 + 0x10 * g
abbrev PATCH_GEN_PHASE (g : Nat) : Nat := 0x1208 + 0x10 * g
abbrev METER_CFG (j : Nat) : Nat := 0x2000 + 0x4 * j
abbrev METER_PEAK (j : Nat) : Nat := 0x2400 + 0x4 * j
abbrev METER_RMS (j : Nat) : Nat := 0x2800 + 0x4 * j
abbrev PATCH_ENTRY (i : Nat) : Nat := 0x1000000 + 0x8 * i
abbrev PWR_CFG : Nat := 0xe0000
abbrev PWR_CTL : Nat := 0xe0004
abbrev PWR_STAT : Nat := 0xe0008
abbrev PWR_TNEXT : Nat := 0xe0010
abbrev PWR_TNEXT_SRC : Nat := 0xe0018
abbrev PWR_WAKE_CFG : Nat := 0xe001c
abbrev PWR_WAKE_STAT : Nat := 0xe0020
abbrev PWR_MOOR_MAX : Nat := 0xe0024
abbrev PWR_GATED : Nat := 0xe0028
abbrev PWR_CNT : Nat := 0xe0030
abbrev REF_SEL_CTL : Nat := 0x28000
abbrev REF_SEL_STAT : Nat := 0x28004
abbrev REF_EVT_CNT : Nat := 0x28008
abbrev REF_CFG (r : Nat) : Nat := 0x28100 + 0x20 * r
abbrev REF_STAT (r : Nat) : Nat := 0x28104 + 0x20 * r
abbrev REF_FREQ (r : Nat) : Nat := 0x28108 + 0x20 * r
abbrev REF_BIAS (r : Nat) : Nat := 0x28110 + 0x20 * r
abbrev REF_PHASE (r : Nat) : Nat := 0x28118 + 0x20 * r
abbrev REF_CNT (r : Nat) : Nat := 0x2811c + 0x20 * r
abbrev SEC_LIFECYCLE : Nat := 0xf0000
abbrev SEC_DEV_ID : Nat := 0xf0008
abbrev SEC_FUSE_STAT : Nat := 0xf0010
abbrev SEC_SIGN_PUB (i : Nat) : Nat := 0xf0040 + 0x4 * i
abbrev SEC_OWNER_PUB (i : Nat) : Nat := 0xf0080 + 0x4 * i
abbrev SEC_KMP_STAT : Nat := 0xf0100
abbrev SEC_CNT : Nat := 0xf0104
abbrev SEC_CMD : Nat := 0xf0108
abbrev SEC_ZEROIZE : Nat := 0xf010c
abbrev STORE_GEOM : Nat := 0xd0000
abbrev STORE_STAT : Nat := 0xd0004
abbrev STORE_GENERATION : Nat := 0xd0008
abbrev STORE_JRN_SEQ : Nat := 0xd0010
abbrev STORE_JRN_START : Nat := 0xd0018
abbrev STORE_JRN_WPTR : Nat := 0xd0020
abbrev STORE_CTL : Nat := 0xd0024
abbrev STORE_EVT_CNT : Nat := 0xd0028
abbrev STORE_WEAR : Nat := 0xd002c
abbrev STORE_ERR : Nat := 0xd0030
abbrev STORE_ERR_OFS : Nat := 0xd0034
abbrev STORE_XSPI_CAL : Nat := 0xd0038
abbrev STR_STAT : Nat := 0x50000
abbrev STR_MON : Nat := 0x50004
abbrev STR_TX_CFG (k : Nat) : Nat := 0x51000 + 0x20 * k
abbrev STR_TX_DST (k : Nat) : Nat := 0x51004 + 0x20 * k
abbrev STR_TX_UDP (k : Nat) : Nat := 0x51008 + 0x20 * k
abbrev STR_TX_TAG (k : Nat) : Nat := 0x5100c + 0x20 * k
abbrev STR_TX_SSRC (k : Nat) : Nat := 0x51010 + 0x20 * k
abbrev STR_TX_TSOFS (k : Nat) : Nat := 0x51014 + 0x20 * k
abbrev STR_TX_CNT (k : Nat) : Nat := 0x51018 + 0x20 * k
abbrev STR_RX_CFG (k : Nat) : Nat := 0x54000 + 0x80 * k
abbrev STR_RX_TSOFS (k : Nat) : Nat := 0x54004 + 0x80 * k
abbrev STR_RX_MISC (k : Nat) : Nat := 0x54008 + 0x80 * k
abbrev STR_RX_STAT (k : Nat) : Nat := 0x5400c + 0x80 * k
abbrev STR_RX_DAYMARK (k : Nat) : Nat := 0x54010 + 0x80 * k
abbrev STR_RX_SLACK (k : Nat) : Nat := 0x54014 + 0x80 * k
abbrev STR_RX_CNT0 (k : Nat) : Nat := 0x54018 + 0x80 * k
abbrev STR_RX_CNT1 (k : Nat) : Nat := 0x5401c + 0x80 * k
abbrev STR_RX_CNT2 (k : Nat) : Nat := 0x54020 + 0x80 * k
abbrev STR_RX_LEG_CFG (k j : Nat) : Nat := 0x54040 + 0x80 * k + 0x10 * j
abbrev STR_RX_LEG_GRP (k j : Nat) : Nat := 0x54044 + 0x80 * k + 0x10 * j
abbrev STR_RX_LEG_SRC (k j : Nat) : Nat := 0x54048 + 0x80 * k + 0x10 * j
abbrev STR_RX_LEG_LATCH (k j : Nat) : Nat := 0x5404c + 0x80 * k + 0x10 * j
abbrev TMS_CTL : Nat := 0x30000
abbrev TMS_STAT : Nat := 0x30004
abbrev TMS_STEP_CNT : Nat := 0x30008
abbrev TMS_CMD : Nat := 0x3000c
abbrev TMS_NOW_NS : Nat := 0x30010
abbrev TMS_NOW_SEC : Nat := 0x30018
abbrev TMS_NOW_WNS : Nat := 0x30020
abbrev TMS_NOW_N : Nat := 0x30028
abbrev TMS_T0 : Nat := 0x30030
abbrev TMS_T0_SUB : Nat := 0x30038
abbrev TMS_PTP_CFG (d : Nat) : Nat := 0x30100 + 0x40 * d
abbrev TMS_PTP_QUAL (d : Nat) : Nat := 0x30104 + 0x40 * d
abbrev TMS_PTP_INTV (d : Nat) : Nat := 0x30108 + 0x40 * d
abbrev TMS_PTP_STAT (d : Nat) : Nat := 0x3010c + 0x40 * d
abbrev TMS_PTP_GMID (d : Nat) : Nat := 0x30110 + 0x40 * d
abbrev TMS_PTP_OFS (d : Nat) : Nat := 0x30118 + 0x40 * d
abbrev TMS_PTP_DELAY (d : Nat) : Nat := 0x30120 + 0x40 * d
abbrev TMS_PTP_RATE (d : Nat) : Nat := 0x30124 + 0x40 * d
abbrev TMS_PTP_UTC (d : Nat) : Nat := 0x30128 + 0x40 * d
abbrev TMS_PTP_CNT (d : Nat) : Nat := 0x3012c + 0x40 * d
abbrev TMS_PULSE_CFG (i : Nat) : Nat := 0x30400 + 0x20 * i
abbrev TMS_PULSE_STAT (i : Nat) : Nat := 0x30404 + 0x20 * i
abbrev TMS_PULSE_START (i : Nat) : Nat := 0x30408 + 0x20 * i
abbrev TMS_PULSE_START_SUB (i : Nat) : Nat := 0x30410 + 0x20 * i
abbrev TMS_PULSE_PERIOD (i : Nat) : Nat := 0x30418 + 0x20 * i
abbrev TMS_CAP_CFG (j : Nat) : Nat := 0x30800 + 0x20 * j
abbrev TMS_CAP_STAT (j : Nat) : Nat := 0x30804 + 0x20 * j
abbrev TMS_CAP_WNS (j : Nat) : Nat := 0x30808 + 0x20 * j
abbrev TMS_CAP_SUB (j : Nat) : Nat := 0x30810 + 0x20 * j
abbrev TW0_CFG : Nat := 0xa0000
abbrev TW0_TIM0 : Nat := 0xa0004
abbrev TW0_TIM1 : Nat := 0xa0008
abbrev TW0_TIM2 : Nat := 0xa000c
abbrev TW0_TIM3 : Nat := 0xa0010
abbrev TW0_CMD : Nat := 0xa0014
abbrev TW0_TXD : Nat := 0xa0018
abbrev TW0_RXD : Nat := 0xa001c
abbrev TW0_RES : Nat := 0xa0020
abbrev TW0_STAT : Nat := 0xa0024
abbrev TW0_CTL : Nat := 0xa0028
abbrev TW0_CNT : Nat := 0xa002c
abbrev TW1_WINDOW : Nat := 0xa8000
abbrev TW1_STAT : Nat := 0xa8004
abbrev TW1_CNT : Nat := 0xa8008
abbrev TW1_CFG : Nat := 0xa800c

/-! Fields, named REGISTER_FIELD (R21). -/

namespace F

abbrev AMP_STAT_RAIL_BAD : Fld := ⟨AMP_STAT, 24, 8⟩
abbrev AMP_STAT_DIAG_BUSY : Fld := ⟨AMP_STAT, 2, 1⟩
abbrev AMP_STAT_ANY_LOCKED : Fld := ⟨AMP_STAT, 1, 1⟩
abbrev AMP_STAT_ANY_LATCHED : Fld := ⟨AMP_STAT, 0, 1⟩
abbrev AMP_DIAG_CTL_STATUS : Fld := ⟨AMP_DIAG_CTL, 30, 2⟩
abbrev AMP_DIAG_CTL_MODE : Fld := ⟨AMP_DIAG_CTL, 1, 2⟩
abbrev AMP_DIAG_CTL_GO : Fld := ⟨AMP_DIAG_CTL, 0, 1⟩
abbrev AMP_DIAG_MASK_CH : Fld := ⟨AMP_DIAG_MASK, 0, 64⟩
abbrev AMP_SWEEP_EN (k : Nat) : Fld := ⟨(AMP_SWEEP k), 63, 1⟩
abbrev AMP_SWEEP_HF (k : Nat) : Fld := ⟨(AMP_SWEEP k), 62, 1⟩
abbrev AMP_SWEEP_DWELL (k : Nat) : Fld := ⟨(AMP_SWEEP k), 48, 8⟩
abbrev AMP_SWEEP_LEVEL (k : Nat) : Fld := ⟨(AMP_SWEEP k), 32, 16⟩
abbrev AMP_SWEEP_FREQ_HZ (k : Nat) : Fld := ⟨(AMP_SWEEP k), 0, 16⟩
abbrev AMP_RAIL_CFG_RAIL_FS (r : Nat) : Fld := ⟨(AMP_RAIL_CFG r), 16, 16⟩
abbrev AMP_RAIL_CFG_EN (r : Nat) : Fld := ⟨(AMP_RAIL_CFG r), 0, 1⟩
abbrev AMP_RAIL_LIM_OV (r : Nat) : Fld := ⟨(AMP_RAIL_LIM r), 16, 16⟩
abbrev AMP_RAIL_LIM_UV (r : Nat) : Fld := ⟨(AMP_RAIL_LIM r), 0, 16⟩
abbrev AMP_RAIL_V_V_MIN (r : Nat) : Fld := ⟨(AMP_RAIL_V r), 16, 16⟩
abbrev AMP_RAIL_V_V (r : Nat) : Fld := ⟨(AMP_RAIL_V r), 0, 16⟩
abbrev AMP_RAIL_STAT_LOST (r : Nat) : Fld := ⟨(AMP_RAIL_STAT r), 3, 1⟩
abbrev AMP_RAIL_STAT_OV (r : Nat) : Fld := ⟨(AMP_RAIL_STAT r), 2, 1⟩
abbrev AMP_RAIL_STAT_UV (r : Nat) : Fld := ⟨(AMP_RAIL_STAT r), 1, 1⟩
abbrev AMP_RAIL_STAT_EVENT (r : Nat) : Fld := ⟨(AMP_RAIL_STAT r), 0, 1⟩
abbrev AMP_CH_CFG_EN (m : Nat) : Fld := ⟨(AMP_CH_CFG m), 31, 1⟩
abbrev AMP_CH_CFG_SENSE_EN (m : Nat) : Fld := ⟨(AMP_CH_CFG m), 30, 1⟩
abbrev AMP_CH_CFG_SENSE_REQ (m : Nat) : Fld := ⟨(AMP_CH_CFG m), 29, 1⟩
abbrev AMP_CH_CFG_DIAG_START (m : Nat) : Fld := ⟨(AMP_CH_CFG m), 28, 1⟩
abbrev AMP_CH_CFG_HF_CHECK (m : Nat) : Fld := ⟨(AMP_CH_CFG m), 27, 1⟩
abbrev AMP_CH_CFG_PILOT_EN (m : Nat) : Fld := ⟨(AMP_CH_CFG m), 26, 1⟩
abbrev AMP_CH_CFG_PILOT_GEN (m : Nat) : Fld := ⟨(AMP_CH_CFG m), 20, 6⟩
abbrev AMP_CH_CFG_SRC (m : Nat) : Fld := ⟨(AMP_CH_CFG m), 18, 2⟩
abbrev AMP_CH_CFG_RAIL (m : Nat) : Fld := ⟨(AMP_CH_CFG m), 15, 3⟩
abbrev AMP_CH_CFG_PHASE (m : Nat) : Fld := ⟨(AMP_CH_CFG m), 11, 4⟩
abbrev AMP_CH_CFG_DEAD (m : Nat) : Fld := ⟨(AMP_CH_CFG m), 0, 6⟩
abbrev AMP_CH_SCALE_V_OUT_FS (m : Nat) : Fld := ⟨(AMP_CH_SCALE m), 16, 16⟩
abbrev AMP_CH_SCALE_Z_NOM (m : Nat) : Fld := ⟨(AMP_CH_SCALE m), 0, 16⟩
abbrev AMP_CH_SNS_SCALE_V_FS (m : Nat) : Fld := ⟨(AMP_CH_SNS_SCALE m), 16, 16⟩
abbrev AMP_CH_SNS_SCALE_I_FS (m : Nat) : Fld := ⟨(AMP_CH_SNS_SCALE m), 0, 16⟩
abbrev AMP_CH_PROT_P_LIM (m : Nat) : Fld := ⟨(AMP_CH_PROT m), 16, 16⟩
abbrev AMP_CH_PROT_PWIN (m : Nat) : Fld := ⟨(AMP_CH_PROT m), 11, 5⟩
abbrev AMP_CH_PROT_ILIM (m : Nat) : Fld := ⟨(AMP_CH_PROT m), 0, 5⟩
abbrev AMP_CH_TIME_RS_ATTACK (m : Nat) : Fld := ⟨(AMP_CH_TIME m), 24, 8⟩
abbrev AMP_CH_TIME_PL_ATTACK (m : Nat) : Fld := ⟨(AMP_CH_TIME m), 16, 8⟩
abbrev AMP_CH_TIME_RS_RELEASE (m : Nat) : Fld := ⟨(AMP_CH_TIME m), 8, 8⟩
abbrev AMP_CH_TIME_PL_RELEASE (m : Nat) : Fld := ⟨(AMP_CH_TIME m), 0, 8⟩
abbrev AMP_CH_RAILSAG_RAIL_K (m : Nat) : Fld := ⟨(AMP_CH_RAILSAG m), 16, 16⟩
abbrev AMP_CH_RAILSAG_DROP (m : Nat) : Fld := ⟨(AMP_CH_RAILSAG m), 0, 16⟩
abbrev AMP_CH_COIL_T_KNEE (m : Nat) : Fld := ⟨(AMP_CH_COIL m), 24, 8⟩
abbrev AMP_CH_COIL_T_MAX (m : Nat) : Fld := ⟨(AMP_CH_COIL m), 16, 8⟩
abbrev AMP_CH_COIL_P_MINF (m : Nat) : Fld := ⟨(AMP_CH_COIL m), 8, 8⟩
abbrev AMP_CH_COIL_HF_PHMAX (m : Nat) : Fld := ⟨(AMP_CH_COIL m), 0, 8⟩
abbrev AMP_CH_HF_HF_ZMAX (m : Nat) : Fld := ⟨(AMP_CH_HF m), 16, 16⟩
abbrev AMP_CH_HF_ALPHA (m : Nat) : Fld := ⟨(AMP_CH_HF m), 0, 16⟩
abbrev AMP_CH_TAP_U_EN (m : Nat) : Fld := ⟨(AMP_CH_TAP m), 31, 1⟩
abbrev AMP_CH_TAP_U_NUM (m : Nat) : Fld := ⟨(AMP_CH_TAP m), 16, 11⟩
abbrev AMP_CH_TAP_J_EN (m : Nat) : Fld := ⟨(AMP_CH_TAP m), 15, 1⟩
abbrev AMP_CH_TAP_J_NUM (m : Nat) : Fld := ⟨(AMP_CH_TAP m), 0, 11⟩
abbrev AMP_CH_CTL_RETEST (m : Nat) : Fld := ⟨(AMP_CH_CTL m), 0, 1⟩
abbrev AMP_CH_STAT_STATE (m : Nat) : Fld := ⟨(AMP_CH_STAT m), 28, 4⟩
abbrev AMP_CH_STAT_RETRIES (m : Nat) : Fld := ⟨(AMP_CH_STAT m), 26, 2⟩
abbrev AMP_CH_STAT_DIAG (m : Nat) : Fld := ⟨(AMP_CH_STAT m), 19, 3⟩
abbrev AMP_CH_STAT_COIL_PEND (m : Nat) : Fld := ⟨(AMP_CH_STAT m), 7, 1⟩
abbrev AMP_CH_STAT_FALLBACK (m : Nat) : Fld := ⟨(AMP_CH_STAT m), 6, 1⟩
abbrev AMP_CH_STAT_V_LOST (m : Nat) : Fld := ⟨(AMP_CH_STAT m), 5, 1⟩
abbrev AMP_CH_STAT_I_LOST (m : Nat) : Fld := ⟨(AMP_CH_STAT m), 4, 1⟩
abbrev AMP_CH_STAT_DC (m : Nat) : Fld := ⟨(AMP_CH_STAT m), 3, 1⟩
abbrev AMP_CH_STAT_TRIP (m : Nat) : Fld := ⟨(AMP_CH_STAT m), 2, 1⟩
abbrev AMP_CH_STAT_RAIL (m : Nat) : Fld := ⟨(AMP_CH_STAT m), 1, 1⟩
abbrev AMP_CH_STAT_LATCH (m : Nat) : Fld := ⟨(AMP_CH_STAT m), 0, 1⟩
abbrev AMP_CH_GR_RS_GR (m : Nat) : Fld := ⟨(AMP_CH_GR m), 16, 16⟩
abbrev AMP_CH_GR_PL_GR (m : Nat) : Fld := ⟨(AMP_CH_GR m), 0, 16⟩
abbrev AMP_CH_POWER_P (m : Nat) : Fld := ⟨(AMP_CH_POWER m), 16, 16⟩
abbrev AMP_CH_POWER_P_EFF (m : Nat) : Fld := ⟨(AMP_CH_POWER m), 0, 16⟩
abbrev AMP_CH_RDC_V (m : Nat) : Fld := ⟨(AMP_CH_RDC m), 0, 32⟩
abbrev AMP_CH_ZMAG_V (m : Nat) : Fld := ⟨(AMP_CH_ZMAG m), 0, 32⟩
abbrev AMP_CH_ZPH_PHASE (m : Nat) : Fld := ⟨(AMP_CH_ZPH m), 16, 16⟩
abbrev AMP_CH_ZPH_TCOIL (m : Nat) : Fld := ⟨(AMP_CH_ZPH m), 0, 16⟩
abbrev AMP_CH_ZBASE_V (m : Nat) : Fld := ⟨(AMP_CH_ZBASE m), 0, 32⟩
abbrev AMP_CH_CNT_TRIPS (m : Nat) : Fld := ⟨(AMP_CH_CNT m), 16, 16⟩
abbrev AMP_CH_CNT_LATCHES (m : Nat) : Fld := ⟨(AMP_CH_CNT m), 8, 8⟩
abbrev AMP_CH_CNT_SAT (m : Nat) : Fld := ⟨(AMP_CH_CNT m), 4, 4⟩
abbrev AMP_CH_CNT_DISCARDS (m : Nat) : Fld := ⟨(AMP_CH_CNT m), 0, 4⟩
abbrev AMP_CH_SWEEP_ZMAG (m k : Nat) : Fld := ⟨(AMP_CH_SWEEP m k), 32, 32⟩
abbrev AMP_CH_SWEEP_PHASE (m k : Nat) : Fld := ⟨(AMP_CH_SWEEP m k), 16, 16⟩
abbrev AMP_CH_SWEEP_VALID (m k : Nat) : Fld := ⟨(AMP_CH_SWEEP m k), 0, 1⟩
abbrev BRK_CTL_RUN (b : Nat) : Fld := ⟨(BRK_CTL b), 0, 1⟩
abbrev BRK_STAT_ECC_UE (b : Nat) : Fld := ⟨(BRK_STAT b), 7, 1⟩
abbrev BRK_STAT_OVR_BG (b : Nat) : Fld := ⟨(BRK_STAT b), 6, 1⟩
abbrev BRK_STAT_OVR_FG (b : Nat) : Fld := ⟨(BRK_STAT b), 5, 1⟩
abbrev BRK_STAT_ECC_CE (b : Nat) : Fld := ⟨(BRK_STAT b), 4, 1⟩
abbrev BRK_STAT_IDLE (b : Nat) : Fld := ⟨(BRK_STAT b), 2, 1⟩
abbrev BRK_STAT_BG_RUN (b : Nat) : Fld := ⟨(BRK_STAT b), 1, 1⟩
abbrev BRK_STAT_FG_RUN (b : Nat) : Fld := ⟨(BRK_STAT b), 0, 1⟩
abbrev BRK_ROLE_REPLACES (b : Nat) : Fld := ⟨(BRK_ROLE b), 16, 8⟩
abbrev BRK_ROLE_COURSE (b : Nat) : Fld := ⟨(BRK_ROLE b), 8, 4⟩
abbrev BRK_ROLE_ROLE (b : Nat) : Fld := ⟨(BRK_ROLE b), 0, 2⟩
abbrev BRK_SAT_CNT_ACC_SAT (b : Nat) : Fld := ⟨(BRK_SAT_CNT b), 16, 16⟩
abbrev BRK_SAT_CNT_STORE_SAT (b : Nat) : Fld := ⟨(BRK_SAT_CNT b), 0, 16⟩
abbrev BRK_OVR_CNT_BG (b : Nat) : Fld := ⟨(BRK_OVR_CNT b), 16, 16⟩
abbrev BRK_OVR_CNT_FG (b : Nat) : Fld := ⟨(BRK_OVR_CNT b), 0, 16⟩
abbrev BRK_CYC_FG_MAX (b : Nat) : Fld := ⟨(BRK_CYC_FG b), 16, 16⟩
abbrev BRK_CYC_FG_LAST (b : Nat) : Fld := ⟨(BRK_CYC_FG b), 0, 16⟩
abbrev BRK_CYC_BG_MAX (b : Nat) : Fld := ⟨(BRK_CYC_BG b), 16, 16⟩
abbrev BRK_CYC_BG_LAST (b : Nat) : Fld := ⟨(BRK_CYC_BG b), 0, 16⟩
abbrev BRK_PORT_STEAL_MAX (b : Nat) : Fld := ⟨(BRK_PORT b), 16, 16⟩
abbrev BRK_PORT_CK_WORDS (b : Nat) : Fld := ⟨(BRK_PORT b), 0, 8⟩
abbrev BRK_TN_TN_FG (b : Nat) : Fld := ⟨(BRK_TN b), 0, 32⟩
abbrev BRK_PC_PC_BG (b : Nat) : Fld := ⟨(BRK_PC b), 16, 15⟩
abbrev BRK_PC_PC_FG (b : Nat) : Fld := ⟨(BRK_PC b), 0, 15⟩
abbrev BRK_TRIG_EN (b k : Nat) : Fld := ⟨(BRK_TRIG b k), 31, 1⟩
abbrev BRK_TRIG_KIND (b k : Nat) : Fld := ⟨(BRK_TRIG b k), 30, 1⟩
abbrev BRK_TRIG_ENTRY (b k : Nat) : Fld := ⟨(BRK_TRIG b k), 0, 15⟩
abbrev BRK_IO_EN (b k : Nat) : Fld := ⟨(BRK_IO b k), 31, 1⟩
abbrev BRK_IO_DIR (b k : Nat) : Fld := ⟨(BRK_IO b k), 30, 1⟩
abbrev BRK_IO_NUM (b k : Nat) : Fld := ⟨(BRK_IO b k), 16, 11⟩
abbrev BRK_IO_RING (b k : Nat) : Fld := ⟨(BRK_IO b k), 4, 12⟩
abbrev CBUS_CFG_MAX_LEN (m : Nat) : Fld := ⟨(CBUS_CFG m), 16, 11⟩
abbrev CBUS_CFG_DEFER_MAX (m : Nat) : Fld := ⟨(CBUS_CFG m), 8, 8⟩
abbrev CBUS_CFG_PLCA_OFF (m : Nat) : Fld := ⟨(CBUS_CFG m), 5, 1⟩
abbrev CBUS_CFG_PHY_RST (m : Nat) : Fld := ⟨(CBUS_CFG m), 4, 1⟩
abbrev CBUS_CFG_LOOP (m : Nat) : Fld := ⟨(CBUS_CFG m), 3, 1⟩
abbrev CBUS_CFG_BC_EN (m : Nat) : Fld := ⟨(CBUS_CFG m), 2, 1⟩
abbrev CBUS_CFG_ACCEPT_BAD (m : Nat) : Fld := ⟨(CBUS_CFG m), 1, 1⟩
abbrev CBUS_CFG_EN (m : Nat) : Fld := ⟨(CBUS_CFG m), 0, 1⟩
abbrev CBUS_STAT_TX_LEVEL (m : Nat) : Fld := ⟨(CBUS_STAT m), 12, 4⟩
abbrev CBUS_STAT_RX_LEVEL (m : Nat) : Fld := ⟨(CBUS_STAT m), 8, 4⟩
abbrev CBUS_STAT_RES_FULL (m : Nat) : Fld := ⟨(CBUS_STAT m), 7, 1⟩
abbrev CBUS_STAT_PHY_ERR (m : Nat) : Fld := ⟨(CBUS_STAT m), 6, 1⟩
abbrev CBUS_STAT_CLK_LOST (m : Nat) : Fld := ⟨(CBUS_STAT m), 5, 1⟩
abbrev CBUS_STAT_JABBER (m : Nat) : Fld := ⟨(CBUS_STAT m), 4, 1⟩
abbrev CBUS_STAT_CRS_STUCK (m : Nat) : Fld := ⟨(CBUS_STAT m), 3, 1⟩
abbrev CBUS_STAT_TX_BUSY (m : Nat) : Fld := ⟨(CBUS_STAT m), 2, 1⟩
abbrev CBUS_STAT_COL (m : Nat) : Fld := ⟨(CBUS_STAT m), 1, 1⟩
abbrev CBUS_STAT_CRS (m : Nat) : Fld := ⟨(CBUS_STAT m), 0, 1⟩
abbrev CBUS_FILT_EN (m k : Nat) : Fld := ⟨(CBUS_FILT m k), 48, 1⟩
abbrev CBUS_FILT_ADDR (m k : Nat) : Fld := ⟨(CBUS_FILT m k), 0, 48⟩
abbrev CBUS_RX_STAT_VALID (m : Nat) : Fld := ⟨(CBUS_RX_STAT m), 31, 1⟩
abbrev CBUS_RX_STAT_FCS_ERR (m : Nat) : Fld := ⟨(CBUS_RX_STAT m), 30, 1⟩
abbrev CBUS_RX_STAT_ALIGN (m : Nat) : Fld := ⟨(CBUS_RX_STAT m), 29, 1⟩
abbrev CBUS_RX_STAT_RUNT (m : Nat) : Fld := ⟨(CBUS_RX_STAT m), 28, 1⟩
abbrev CBUS_RX_STAT_OVERSIZE (m : Nat) : Fld := ⟨(CBUS_RX_STAT m), 27, 1⟩
abbrev CBUS_RX_STAT_TRUNC (m : Nat) : Fld := ⟨(CBUS_RX_STAT m), 26, 1⟩
abbrev CBUS_RX_STAT_CODE_ERR (m : Nat) : Fld := ⟨(CBUS_RX_STAT m), 25, 1⟩
abbrev CBUS_RX_STAT_BCAST (m : Nat) : Fld := ⟨(CBUS_RX_STAT m), 24, 1⟩
abbrev CBUS_RX_STAT_FILT (m : Nat) : Fld := ⟨(CBUS_RX_STAT m), 21, 3⟩
abbrev CBUS_RX_STAT_LEN (m : Nat) : Fld := ⟨(CBUS_RX_STAT m), 0, 12⟩
abbrev CBUS_RX_TS_WNS (m : Nat) : Fld := ⟨(CBUS_RX_TS m), 0, 64⟩
abbrev CBUS_RX_DATA_DATA (m : Nat) : Fld := ⟨(CBUS_RX_DATA m), 0, 32⟩
abbrev CBUS_CTL_RES_POP (m : Nat) : Fld := ⟨(CBUS_CTL m), 1, 1⟩
abbrev CBUS_CTL_RX_POP (m : Nat) : Fld := ⟨(CBUS_CTL m), 0, 1⟩
abbrev CBUS_TX_DATA_DATA (m : Nat) : Fld := ⟨(CBUS_TX_DATA m), 0, 32⟩
abbrev CBUS_TX_CMD_GO (m : Nat) : Fld := ⟨(CBUS_TX_CMD m), 31, 1⟩
abbrev CBUS_TX_CMD_FLUSH (m : Nat) : Fld := ⟨(CBUS_TX_CMD m), 30, 1⟩
abbrev CBUS_TX_CMD_TAG (m : Nat) : Fld := ⟨(CBUS_TX_CMD m), 12, 8⟩
abbrev CBUS_TX_CMD_LEN (m : Nat) : Fld := ⟨(CBUS_TX_CMD m), 0, 12⟩
abbrev CBUS_TX_RES_VALID (m : Nat) : Fld := ⟨(CBUS_TX_RES m), 31, 1⟩
abbrev CBUS_TX_RES_RESULT (m : Nat) : Fld := ⟨(CBUS_TX_RES m), 28, 3⟩
abbrev CBUS_TX_RES_ATTEMPTS (m : Nat) : Fld := ⟨(CBUS_TX_RES m), 16, 5⟩
abbrev CBUS_TX_RES_TAG (m : Nat) : Fld := ⟨(CBUS_TX_RES m), 0, 8⟩
abbrev CBUS_MDIO_BUSY (m : Nat) : Fld := ⟨(CBUS_MDIO m), 31, 1⟩
abbrev CBUS_MDIO_NO_ACK (m : Nat) : Fld := ⟨(CBUS_MDIO m), 30, 1⟩
abbrev CBUS_MDIO_OP (m : Nat) : Fld := ⟨(CBUS_MDIO m), 28, 2⟩
abbrev CBUS_MDIO_PHYAD (m : Nat) : Fld := ⟨(CBUS_MDIO m), 21, 5⟩
abbrev CBUS_MDIO_REGAD (m : Nat) : Fld := ⟨(CBUS_MDIO m), 16, 5⟩
abbrev CBUS_MDIO_DATA (m : Nat) : Fld := ⟨(CBUS_MDIO m), 0, 16⟩
abbrev CBUS_CNT_COUNT (m k : Nat) : Fld := ⟨(CBUS_CNT m k), 0, 32⟩
abbrev CLK_STAT_REALIGN_DUE : Fld := ⟨CLK_STAT, 3, 1⟩
abbrev CLK_STAT_REALIGN_BUSY : Fld := ⟨CLK_STAT, 2, 1⟩
abbrev CLK_STAT_HIST : Fld := ⟨CLK_STAT, 1, 1⟩
abbrev CLK_STAT_ROOT_LOCK : Fld := ⟨CLK_STAT, 0, 1⟩
abbrev CLK_RATE_Y : Fld := ⟨CLK_RATE, 0, 32⟩
abbrev CLK_MODEL_Y_H : Fld := ⟨CLK_MODEL, 0, 32⟩
abbrev CLK_MODEL_AGE_AGE : Fld := ⟨CLK_MODEL_AGE, 0, 32⟩
abbrev CLK_HOLD_TIME_SECONDS : Fld := ⟨CLK_HOLD_TIME, 0, 32⟩
abbrev CLK_REALIGN_N_AT_BLK : Fld := ⟨CLK_REALIGN, 3, 61⟩
abbrev CLK_REALIGN_STATUS : Fld := ⟨CLK_REALIGN, 1, 2⟩
abbrev CLK_REALIGN_GO : Fld := ⟨CLK_REALIGN, 0, 1⟩
abbrev CLK_CNT_REALIGNS : Fld := ⟨CLK_CNT, 16, 16⟩
abbrev CLK_CNT_ROOT_UNLOCK : Fld := ⟨CLK_CNT, 0, 16⟩
abbrev DBG_LEVEL_DISC : Fld := ⟨DBG_LEVEL, 10, 1⟩
abbrev DBG_LEVEL_UNLOCKED : Fld := ⟨DBG_LEVEL, 9, 1⟩
abbrev DBG_LEVEL_CONNECTED : Fld := ⟨DBG_LEVEL, 8, 1⟩
abbrev DBG_LEVEL_DEFAULT : Fld := ⟨DBG_LEVEL, 4, 2⟩
abbrev DBG_LEVEL_LEVEL : Fld := ⟨DBG_LEVEL, 0, 2⟩
abbrev DBG_CTL_STATUS : Fld := ⟨DBG_CTL, 30, 2⟩
abbrev DBG_CTL_REQ : Fld := ⟨DBG_CTL, 0, 2⟩
abbrev DBG_CNT_UNLOCK_FAIL : Fld := ⟨DBG_CNT, 16, 16⟩
abbrev DBG_CNT_UNLOCKS : Fld := ⟨DBG_CNT, 8, 8⟩
abbrev DBG_CNT_REQ_REFUSED : Fld := ⟨DBG_CNT, 0, 8⟩
abbrev DBG_CHAL_CHAL (i : Nat) : Fld := ⟨(DBG_CHAL i), 0, 32⟩
abbrev DMA_CFG_EN : Fld := ⟨DMA_CFG, 0, 1⟩
abbrev DMA_STAT_PARTS : Fld := ⟨DMA_STAT, 16, 5⟩
abbrev DMA_STAT_ACTIVE : Fld := ⟨DMA_STAT, 0, 6⟩
abbrev DMA_CNT_BAD : Fld := ⟨DMA_CNT, 16, 16⟩
abbrev DMA_CNT_LOST : Fld := ⟨DMA_CNT, 0, 16⟩
abbrev DMA_CH_CFG_EN (c : Nat) : Fld := ⟨(DMA_CH_CFG c), 31, 1⟩
abbrev DMA_CH_CFG_PRIO (c : Nat) : Fld := ⟨(DMA_CH_CFG c), 28, 2⟩
abbrev DMA_CH_CFG_SIZE (c : Nat) : Fld := ⟨(DMA_CH_CFG c), 24, 4⟩
abbrev DMA_CH_CFG_ERR_CQ (c : Nat) : Fld := ⟨(DMA_CH_CFG c), 16, 4⟩
abbrev DMA_CH_CFG_BASE (c : Nat) : Fld := ⟨(DMA_CH_CFG c), 0, 16⟩
abbrev DMA_CH_DB_RING (c : Nat) : Fld := ⟨(DMA_CH_DB c), 0, 1⟩
abbrev DMA_CH_STAT_STATE (c : Nat) : Fld := ⟨(DMA_CH_STAT c), 28, 4⟩
abbrev DMA_CH_STAT_PEND (c : Nat) : Fld := ⟨(DMA_CH_STAT c), 16, 12⟩
abbrev DMA_CH_STAT_LAST (c : Nat) : Fld := ⟨(DMA_CH_STAT c), 12, 4⟩
abbrev DMA_CH_STAT_IDX (c : Nat) : Fld := ⟨(DMA_CH_STAT c), 0, 12⟩
abbrev DMA_CH_CTL_NEW_IDX (c : Nat) : Fld := ⟨(DMA_CH_CTL c), 16, 12⟩
abbrev DMA_CH_CTL_ABORT (c : Nat) : Fld := ⟨(DMA_CH_CTL c), 1, 1⟩
abbrev DMA_CH_CTL_SET_IDX (c : Nat) : Fld := ⟨(DMA_CH_CTL c), 0, 1⟩
abbrev DMA_CH_CNT_DONE (c : Nat) : Fld := ⟨(DMA_CH_CNT c), 16, 16⟩
abbrev DMA_CH_CNT_BAD (c : Nat) : Fld := ⟨(DMA_CH_CNT c), 0, 16⟩
abbrev DMA_CQ_CFG_EN (q : Nat) : Fld := ⟨(DMA_CQ_CFG q), 31, 1⟩
abbrev DMA_CQ_CFG_SIZE (q : Nat) : Fld := ⟨(DMA_CQ_CFG q), 24, 4⟩
abbrev DMA_CQ_CFG_BASE (q : Nat) : Fld := ⟨(DMA_CQ_CFG q), 0, 16⟩
abbrev DMA_CQ_PTR_HEAD (q : Nat) : Fld := ⟨(DMA_CQ_PTR q), 16, 12⟩
abbrev DMA_CQ_PTR_TAIL (q : Nat) : Fld := ⟨(DMA_CQ_PTR q), 0, 12⟩
abbrev DMA_CQ_STAT_FULL_WAITS (q : Nat) : Fld := ⟨(DMA_CQ_STAT q), 16, 16⟩
abbrev DMA_CQ_STAT_GEN (q : Nat) : Fld := ⟨(DMA_CQ_STAT q), 0, 1⟩
abbrev DYN_STAT_POOL_REFUSED : Fld := ⟨DYN_STAT, 3, 1⟩
abbrev DYN_STAT_CHANGING : Fld := ⟨DYN_STAT, 2, 1⟩
abbrev DYN_STAT_ECC_UE : Fld := ⟨DYN_STAT, 1, 1⟩
abbrev DYN_STAT_ECC_CE : Fld := ⟨DYN_STAT, 0, 1⟩
abbrev DYN_POOL_OLD : Fld := ⟨DYN_POOL, 16, 16⟩
abbrev DYN_POOL_FREE : Fld := ⟨DYN_POOL, 0, 16⟩
abbrev DYN_CNT_CLIP : Fld := ⟨DYN_CNT, 16, 16⟩
abbrev DYN_CNT_NARROW_SAT : Fld := ⟨DYN_CNT, 0, 16⟩
abbrev DYN_ECC_ADDR_OFFSET : Fld := ⟨DYN_ECC_ADDR, 0, 25⟩
abbrev DYN_INST_CFG0_EN (i : Nat) : Fld := ⟨(DYN_INST_CFG0 i), 31, 1⟩
abbrev DYN_INST_CFG0_SC_SELF (i : Nat) : Fld := ⟨(DYN_INST_CFG0 i), 30, 1⟩
abbrev DYN_INST_CFG0_LOOKAHEAD (i : Nat) : Fld := ⟨(DYN_INST_CFG0 i), 28, 2⟩
abbrev DYN_INST_CFG0_DET (i : Nat) : Fld := ⟨(DYN_INST_CFG0 i), 27, 1⟩
abbrev DYN_INST_CFG0_SC (i : Nat) : Fld := ⟨(DYN_INST_CFG0 i), 12, 12⟩
abbrev DYN_INST_CFG0_DST (i : Nat) : Fld := ⟨(DYN_INST_CFG0 i), 0, 12⟩
abbrev DYN_INST_CFG1_THR (i : Nat) : Fld := ⟨(DYN_INST_CFG1 i), 16, 16⟩
abbrev DYN_INST_CFG1_KNEE (i : Nat) : Fld := ⟨(DYN_INST_CFG1 i), 8, 8⟩
abbrev DYN_INST_CFG1_SLOPE (i : Nat) : Fld := ⟨(DYN_INST_CFG1 i), 0, 8⟩
abbrev DYN_INST_CFG2_ATTACK (i : Nat) : Fld := ⟨(DYN_INST_CFG2 i), 16, 16⟩
abbrev DYN_INST_CFG2_RELEASE (i : Nat) : Fld := ⟨(DYN_INST_CFG2 i), 0, 16⟩
abbrev DYN_INST_CFG3_MAKEUP (i : Nat) : Fld := ⟨(DYN_INST_CFG3 i), 16, 16⟩
abbrev DYN_INST_CFG3_LINK (i : Nat) : Fld := ⟨(DYN_INST_CFG3 i), 8, 8⟩
abbrev DYN_INST_CFG3_RMS (i : Nat) : Fld := ⟨(DYN_INST_CFG3 i), 0, 8⟩
abbrev DYN_INST_GR_GR_ODD (k : Nat) : Fld := ⟨(DYN_INST_GR k), 16, 16⟩
abbrev DYN_INST_GR_GR_EVEN (k : Nat) : Fld := ⟨(DYN_INST_GR k), 0, 16⟩
abbrev DYN_LIM_CFG_EN (i : Nat) : Fld := ⟨(DYN_LIM_CFG i), 31, 1⟩
abbrev DYN_LIM_CFG_THR (i : Nat) : Fld := ⟨(DYN_LIM_CFG i), 0, 16⟩
abbrev DYN_LIM_TIME_ATTACK (i : Nat) : Fld := ⟨(DYN_LIM_TIME i), 16, 16⟩
abbrev DYN_LIM_TIME_RELEASE (i : Nat) : Fld := ⟨(DYN_LIM_TIME i), 0, 16⟩
abbrev DYN_LIM_GR_GR_ODD (k : Nat) : Fld := ⟨(DYN_LIM_GR k), 16, 16⟩
abbrev DYN_LIM_GR_GR_EVEN (k : Nat) : Fld := ⟨(DYN_LIM_GR k), 0, 16⟩
abbrev DYN_DLY_CFG_EN (d : Nat) : Fld := ⟨(DYN_DLY_CFG d), 31, 1⟩
abbrev DYN_DLY_CFG_FMT (d : Nat) : Fld := ⟨(DYN_DLY_CFG d), 30, 1⟩
abbrev DYN_DLY_CFG_RAMP (d : Nat) : Fld := ⟨(DYN_DLY_CFG d), 23, 4⟩
abbrev DYN_DLY_CFG_DELAY (d : Nat) : Fld := ⟨(DYN_DLY_CFG d), 0, 23⟩
abbrev DYN_DLY_STAT_CHANGING (d : Nat) : Fld := ⟨(DYN_DLY_STAT d), 31, 1⟩
abbrev DYN_DLY_STAT_WAIT (d : Nat) : Fld := ⟨(DYN_DLY_STAT d), 30, 1⟩
abbrev DYN_DLY_STAT_GRAN (d : Nat) : Fld := ⟨(DYN_DLY_STAT d), 0, 16⟩
abbrev FLT_STATUS_FAULT : Fld := ⟨FLT_STATUS, 0, 64⟩
abbrev FLT_CAUSE_PRESENT : Fld := ⟨FLT_CAUSE, 0, 64⟩
abbrev FLT_FIRST_VALID : Fld := ⟨FLT_FIRST, 7, 1⟩
abbrev FLT_FIRST_SRC : Fld := ⟨FLT_FIRST, 0, 6⟩
abbrev FLT_FIRST_TIME_WNS : Fld := ⟨FLT_FIRST_TIME, 0, 64⟩
abbrev FLT_PIN_CTL_DRIVE : Fld := ⟨FLT_PIN_CTL, 31, 1⟩
abbrev FLT_PIN_CTL_CLASS_EN : Fld := ⟨FLT_PIN_CTL, 0, 5⟩
abbrev FLT_PULSE_MIN_US : Fld := ⟨FLT_PULSE_MIN, 0, 14⟩
abbrev FLT_PIN_STAT_PULSING : Fld := ⟨FLT_PIN_STAT, 1, 1⟩
abbrev FLT_PIN_STAT_LEVEL : Fld := ⟨FLT_PIN_STAT, 0, 1⟩
abbrev FLT_CNT_LATCHES : Fld := ⟨FLT_CNT, 16, 16⟩
abbrev FLT_CNT_PULSES : Fld := ⟨FLT_CNT, 8, 8⟩
abbrev FLT_CNT_REFUSED : Fld := ⟨FLT_CNT, 0, 8⟩
abbrev FLT_CHAN_SAFE_CH : Fld := ⟨FLT_CHAN_SAFE, 0, 64⟩
abbrev FLT_SOFT_SOFT1 : Fld := ⟨FLT_SOFT, 1, 1⟩
abbrev FLT_SOFT_SOFT0 : Fld := ⟨FLT_SOFT, 0, 1⟩
abbrev FLT_RESET_HIST_COUNT : Fld := ⟨FLT_RESET_HIST, 24, 8⟩
abbrev FLT_RESET_HIST_DOWNGRADED : Fld := ⟨FLT_RESET_HIST, 8, 1⟩
abbrev FLT_RESET_HIST_VALID : Fld := ⟨FLT_RESET_HIST, 7, 1⟩
abbrev FLT_RESET_HIST_LAST_SRC : Fld := ⟨FLT_RESET_HIST, 0, 6⟩
abbrev FLT_HOLD_SRC_VALID : Fld := ⟨FLT_HOLD_SRC, 7, 1⟩
abbrev FLT_HOLD_SRC_SRC : Fld := ⟨FLT_HOLD_SRC, 0, 6⟩
abbrev FLT_SCRUB_CFG_PERIOD : Fld := ⟨FLT_SCRUB_CFG, 0, 8⟩
abbrev FLT_SCRUB_STAT_CORRECTED (a : Nat) : Fld := ⟨(FLT_SCRUB_STAT a), 16, 16⟩
abbrev FLT_SCRUB_STAT_UNCORR (a : Nat) : Fld := ⟨(FLT_SCRUB_STAT a), 8, 8⟩
abbrev FLT_SCRUB_STAT_PASSES (a : Nat) : Fld := ⟨(FLT_SCRUB_STAT a), 0, 8⟩
abbrev FLT_TJ_HIGH_THR : Fld := ⟨FLT_TJ, 16, 8⟩
abbrev FLT_TJ_TEMP : Fld := ⟨FLT_TJ, 0, 16⟩
abbrev FLT_CFG_AUTO (k : Nat) : Fld := ⟨(FLT_CFG k), 31, 1⟩
abbrev FLT_CFG_CLASS (k : Nat) : Fld := ⟨(FLT_CFG k), 0, 3⟩
abbrev GLB_ID_PART : Fld := ⟨GLB_ID, 16, 16⟩
abbrev GLB_ID_STEPPING : Fld := ⟨GLB_ID, 8, 8⟩
abbrev GLB_ID_GRADE : Fld := ⟨GLB_ID, 0, 4⟩
abbrev GLB_FW_VER_ROM_VER : Fld := ⟨GLB_FW_VER, 16, 16⟩
abbrev GLB_FW_VER_PATCH_VER : Fld := ⟨GLB_FW_VER, 0, 16⟩
abbrev GLB_STRAP_TW1_ADDR : Fld := ⟨GLB_STRAP, 4, 3⟩
abbrev GLB_STRAP_IMG_BYPASS : Fld := ⟨GLB_STRAP, 2, 1⟩
abbrev GLB_STRAP_SVC_BOOT : Fld := ⟨GLB_STRAP, 1, 1⟩
abbrev GLB_STRAP_AMP_DEFAULT : Fld := ⟨GLB_STRAP, 0, 1⟩
abbrev GLB_MODE_CLIENT : Fld := ⟨GLB_MODE, 21, 1⟩
abbrev GLB_MODE_LOCKED_ONCE : Fld := ⟨GLB_MODE, 20, 1⟩
abbrev GLB_MODE_PSTATE : Fld := ⟨GLB_MODE, 16, 3⟩
abbrev GLB_MODE_FS : Fld := ⟨GLB_MODE, 13, 1⟩
abbrev GLB_MODE_ROLE : Fld := ⟨GLB_MODE, 12, 1⟩
abbrev GLB_MODE_START_CAUSE : Fld := ⟨GLB_MODE, 8, 4⟩
abbrev GLB_MODE_PREV_MODE : Fld := ⟨GLB_MODE, 4, 4⟩
abbrev GLB_MODE_MODE : Fld := ⟨GLB_MODE, 0, 4⟩
abbrev GLB_MODE_REQ_STATUS : Fld := ⟨GLB_MODE_REQ, 28, 4⟩
abbrev GLB_MODE_REQ_SVC_AUDIO : Fld := ⟨GLB_MODE_REQ, 8, 1⟩
abbrev GLB_MODE_REQ_REQ : Fld := ⟨GLB_MODE_REQ, 0, 4⟩
abbrev GLB_MODE_TIME_N_LAST : Fld := ⟨GLB_MODE_TIME, 0, 64⟩
abbrev GLB_START_TIME_START_US : Fld := ⟨GLB_START_TIME, 0, 32⟩
abbrev GLB_TRANS_CNT_HOLD_CNT : Fld := ⟨GLB_TRANS_CNT, 16, 16⟩
abbrev GLB_TRANS_CNT_TRANS_CNT : Fld := ⟨GLB_TRANS_CNT, 0, 16⟩
abbrev GLB_POLICY_CTL_PROPOSAL_TIMEOUT : Fld := ⟨GLB_POLICY_CTL, 8, 8⟩
abbrev GLB_POLICY_CTL_CLIENT_TIMEOUT : Fld := ⟨GLB_POLICY_CTL, 0, 8⟩
abbrev GLB_TDM_CFG_BCLK_EDGE (p : Nat) : Fld := ⟨(GLB_TDM_CFG p), 6, 1⟩
abbrev GLB_TDM_CFG_TXHIZ (p : Nat) : Fld := ⟨(GLB_TDM_CFG p), 5, 1⟩
abbrev GLB_TDM_CFG_DELAY (p : Nat) : Fld := ⟨(GLB_TDM_CFG p), 4, 1⟩
abbrev GLB_TDM_CFG_FS_POL (p : Nat) : Fld := ⟨(GLB_TDM_CFG p), 3, 1⟩
abbrev GLB_TDM_CFG_FS_WIDTH (p : Nat) : Fld := ⟨(GLB_TDM_CFG p), 2, 1⟩
abbrev GLB_TDM_CFG_FMT (p : Nat) : Fld := ⟨(GLB_TDM_CFG p), 1, 1⟩
abbrev GLB_TDM_CFG_EN (p : Nat) : Fld := ⟨(GLB_TDM_CFG p), 0, 1⟩
abbrev GLB_TDM_RXEN_SLOTS (p : Nat) : Fld := ⟨(GLB_TDM_RXEN p), 0, 32⟩
abbrev GLB_TDM_TXEN_SLOTS (p : Nat) : Fld := ⟨(GLB_TDM_TXEN p), 0, 32⟩
abbrev MORTAR_STAT_DRAIN : Fld := ⟨MORTAR_STAT, 3, 1⟩
abbrev MORTAR_STAT_NO_PATH : Fld := ⟨MORTAR_STAT, 2, 1⟩
abbrev MORTAR_STAT_PAR_ERR : Fld := ⟨MORTAR_STAT, 1, 1⟩
abbrev MORTAR_STAT_LOCK : Fld := ⟨MORTAR_STAT, 0, 1⟩
abbrev MORTAR_ERR_KIND : Fld := ⟨MORTAR_ERR, 60, 4⟩
abbrev MORTAR_ERR_MASTER : Fld := ⟨MORTAR_ERR, 48, 5⟩
abbrev MORTAR_ERR_TARGET : Fld := ⟨MORTAR_ERR, 40, 5⟩
abbrev MORTAR_ERR_ADDR : Fld := ⟨MORTAR_ERR, 0, 32⟩
abbrev MORTAR_CNT_PAR_ERRS : Fld := ⟨MORTAR_CNT, 16, 16⟩
abbrev MORTAR_CNT_NO_PATH : Fld := ⟨MORTAR_CNT, 0, 16⟩
abbrev MORTAR_MST_STAT_PRIV (m : Nat) : Fld := ⟨(MORTAR_MST_STAT m), 31, 1⟩
abbrev MORTAR_MST_STAT_HELD (m : Nat) : Fld := ⟨(MORTAR_MST_STAT m), 30, 1⟩
abbrev MORTAR_MST_STAT_RESETTING (m : Nat) : Fld := ⟨(MORTAR_MST_STAT m), 29, 1⟩
abbrev MORTAR_MST_STAT_OUTSTANDING (m : Nat) : Fld := ⟨(MORTAR_MST_STAT m), 16, 6⟩
abbrev MORTAR_MST_STAT_AGE_MAX (m : Nat) : Fld := ⟨(MORTAR_MST_STAT m), 0, 13⟩
abbrev MORTAR_MST_PATH_RD_TARGETS (m : Nat) : Fld := ⟨(MORTAR_MST_PATH_RD m), 0, 17⟩
abbrev MORTAR_MST_PATH_WR_TARGETS (m : Nat) : Fld := ⟨(MORTAR_MST_PATH_WR m), 0, 17⟩
abbrev MORTAR_MST_CNT_GRANTS (m : Nat) : Fld := ⟨(MORTAR_MST_CNT m), 16, 16⟩
abbrev MORTAR_MST_CNT_ERRS (m : Nat) : Fld := ⟨(MORTAR_MST_CNT m), 0, 16⟩
abbrev NET_PORT_CFG_BC_LIMIT (p : Nat) : Fld := ⟨(NET_PORT_CFG p), 8, 8⟩
abbrev NET_PORT_CFG_SF (p : Nat) : Fld := ⟨(NET_PORT_CFG p), 6, 1⟩
abbrev NET_PORT_CFG_DOMAIN (p : Nat) : Fld := ⟨(NET_PORT_CFG p), 5, 1⟩
abbrev NET_PORT_CFG_FEC (p : Nat) : Fld := ⟨(NET_PORT_CFG p), 3, 2⟩
abbrev NET_PORT_CFG_RATE (p : Nat) : Fld := ⟨(NET_PORT_CFG p), 1, 2⟩
abbrev NET_PORT_CFG_EN (p : Nat) : Fld := ⟨(NET_PORT_CFG p), 0, 1⟩
abbrev NET_PORT_STAT_LINK_LOST (p : Nat) : Fld := ⟨(NET_PORT_STAT p), 4, 1⟩
abbrev NET_PORT_STAT_FEC_ON (p : Nat) : Fld := ⟨(NET_PORT_STAT p), 3, 1⟩
abbrev NET_PORT_STAT_RATE_NOW (p : Nat) : Fld := ⟨(NET_PORT_STAT p), 1, 2⟩
abbrev NET_PORT_STAT_LINK (p : Nat) : Fld := ⟨(NET_PORT_STAT p), 0, 1⟩
abbrev NET_CBS_IDLE_PM (p : Nat) : Fld := ⟨(NET_CBS p), 0, 10⟩
abbrev NET_PCP_MAP_QUEUE (p : Nat) : Fld := ⟨(NET_PCP_MAP p), 0, 16⟩
abbrev NET_DSCP_MAP_QUEUE (p m : Nat) : Fld := ⟨(NET_DSCP_MAP p m), 0, 32⟩
abbrev NET_CNT_COUNT (p k : Nat) : Fld := ⟨(NET_CNT p k), 0, 32⟩
abbrev NET_SW_CFG_AGE : Fld := ⟨NET_SW_CFG, 8, 8⟩
abbrev NET_SW_CFG_TC_EN : Fld := ⟨NET_SW_CFG, 2, 1⟩
abbrev NET_SW_CFG_UNK_MC : Fld := ⟨NET_SW_CFG, 1, 1⟩
abbrev NET_SW_CFG_IGMP_SNOOP : Fld := ⟨NET_SW_CFG, 0, 1⟩
abbrev NET_SW_STAT_MC_USED : Fld := ⟨NET_SW_STAT, 16, 11⟩
abbrev NET_SW_STAT_UC_USED : Fld := ⟨NET_SW_STAT, 0, 13⟩
abbrev NET_SW_MAC_MAC : Fld := ⟨NET_SW_MAC, 0, 48⟩
abbrev NET_RXR_CFG_BASE (r : Nat) : Fld := ⟨(NET_RXR_CFG r), 16, 16⟩
abbrev NET_RXR_CFG_SIZE (r : Nat) : Fld := ⟨(NET_RXR_CFG r), 8, 4⟩
abbrev NET_RXR_CFG_EN (r : Nat) : Fld := ⟨(NET_RXR_CFG r), 0, 1⟩
abbrev NET_RXR_PTR_HEAD (r : Nat) : Fld := ⟨(NET_RXR_PTR r), 16, 12⟩
abbrev NET_RXR_PTR_TAIL (r : Nat) : Fld := ⟨(NET_RXR_PTR r), 0, 12⟩
abbrev NET_RXR_DROP_COUNT (r : Nat) : Fld := ⟨(NET_RXR_DROP r), 0, 32⟩
abbrev NET_TXR_CFG_BASE (r : Nat) : Fld := ⟨(NET_TXR_CFG r), 16, 16⟩
abbrev NET_TXR_CFG_SIZE (r : Nat) : Fld := ⟨(NET_TXR_CFG r), 8, 4⟩
abbrev NET_TXR_CFG_EN (r : Nat) : Fld := ⟨(NET_TXR_CFG r), 0, 1⟩
abbrev NET_TXR_PTR_HEAD (r : Nat) : Fld := ⟨(NET_TXR_PTR r), 16, 12⟩
abbrev NET_TXR_PTR_TAIL (r : Nat) : Fld := ⟨(NET_TXR_PTR r), 0, 12⟩
abbrev PAIR_CFG_WATCH : Fld := ⟨PAIR_CFG, 16, 8⟩
abbrev PAIR_CFG_PRIORITY : Fld := ⟨PAIR_CFG, 8, 8⟩
abbrev PAIR_CFG_AUTH : Fld := ⟨PAIR_CFG, 4, 1⟩
abbrev PAIR_CFG_STANDBY : Fld := ⟨PAIR_CFG, 3, 1⟩
abbrev PAIR_CFG_PREFERRED : Fld := ⟨PAIR_CFG, 2, 1⟩
abbrev PAIR_CFG_EN : Fld := ⟨PAIR_CFG, 0, 1⟩
abbrev PAIR_TIMING_LISTEN_MS : Fld := ⟨PAIR_TIMING, 16, 16⟩
abbrev PAIR_TIMING_FLASH_LOSS : Fld := ⟨PAIR_TIMING, 8, 8⟩
abbrev PAIR_TIMING_RESYNC_BLK : Fld := ⟨PAIR_TIMING, 0, 8⟩
abbrev PAIR_FLASH_PORT_UDP_PORT : Fld := ⟨PAIR_FLASH_PORT, 0, 16⟩
abbrev PAIR_PARTNER_ADDR_ADDR (d : Nat) : Fld := ⟨(PAIR_PARTNER_ADDR d), 0, 32⟩
abbrev PAIR_STAT_WC_PHASE : Fld := ⟨PAIR_STAT, 24, 2⟩
abbrev PAIR_STAT_CFG_ERR : Fld := ⟨PAIR_STAT, 15, 1⟩
abbrev PAIR_STAT_HANDOVER : Fld := ⟨PAIR_STAT, 14, 1⟩
abbrev PAIR_STAT_HOT : Fld := ⟨PAIR_STAT, 13, 1⟩
abbrev PAIR_STAT_MATCHED : Fld := ⟨PAIR_STAT, 12, 1⟩
abbrev PAIR_STAT_HEALTH : Fld := ⟨PAIR_STAT, 10, 2⟩
abbrev PAIR_STAT_DAYMARK_MISMATCH : Fld := ⟨PAIR_STAT, 9, 1⟩
abbrev PAIR_STAT_LOST : Fld := ⟨PAIR_STAT, 8, 1⟩
abbrev PAIR_STAT_SEEN : Fld := ⟨PAIR_STAT, 4, 1⟩
abbrev PAIR_STAT_PARTNER_MODE : Fld := ⟨PAIR_STAT, 0, 4⟩
abbrev PAIR_CLAIM_PARTNER : Fld := ⟨PAIR_CLAIM, 16, 16⟩
abbrev PAIR_CLAIM_OWN : Fld := ⟨PAIR_CLAIM, 0, 16⟩
abbrev PAIR_EPOCH_EPOCH : Fld := ⟨PAIR_EPOCH, 0, 32⟩
abbrev PAIR_PARTNER_DTAG_DTAG : Fld := ⟨PAIR_PARTNER_DTAG, 0, 32⟩
abbrev PAIR_HO_HO_BLK : Fld := ⟨PAIR_HO, 0, 64⟩
abbrev PAIR_DAYMARK_D (i : Nat) : Fld := ⟨(PAIR_DAYMARK i), 0, 32⟩
abbrev PAIR_DIG_STAT_MATCH_RUN : Fld := ⟨PAIR_DIG_STAT, 16, 16⟩
abbrev PAIR_DIG_STAT_MISMATCH_ACC : Fld := ⟨PAIR_DIG_STAT, 8, 8⟩
abbrev PAIR_DIG_GRP_GROUPS : Fld := ⟨PAIR_DIG_GRP, 0, 32⟩
abbrev PAIR_DIG_BLK_BLK : Fld := ⟨PAIR_DIG_BLK, 0, 64⟩
abbrev PAIR_DIG_CNT_MISMATCH : Fld := ⟨PAIR_DIG_CNT, 16, 16⟩
abbrev PAIR_DIG_CNT_UNCOMPARED : Fld := ⟨PAIR_DIG_CNT, 0, 16⟩
abbrev PAIR_DIG_MASK_CH (k : Nat) : Fld := ⟨(PAIR_DIG_MASK k), 0, 32⟩
abbrev PAIR_WC_CFG_RATE : Fld := ⟨PAIR_WC_CFG, 0, 8⟩
abbrev PAIR_WC_CTL_RESYNC : Fld := ⟨PAIR_WC_CTL, 0, 1⟩
abbrev PAIR_WC_STAT_UNITS_LEFT : Fld := ⟨PAIR_WC_STAT, 16, 16⟩
abbrev PAIR_WC_STAT_UNIT : Fld := ⟨PAIR_WC_STAT, 0, 16⟩
abbrev PAIR_WC_CNT_FAILS : Fld := ⟨PAIR_WC_CNT, 24, 8⟩
abbrev PAIR_WC_CNT_STARTS : Fld := ⟨PAIR_WC_CNT, 16, 8⟩
abbrev PAIR_WC_CNT_RESTARTS : Fld := ⟨PAIR_WC_CNT, 0, 16⟩
abbrev PAIR_CKPT_CFG_BASE : Fld := ⟨PAIR_CKPT_CFG, 16, 10⟩
abbrev PAIR_CKPT_CFG_SIZE : Fld := ⟨PAIR_CKPT_CFG, 0, 11⟩
abbrev PAIR_CKPT_N_N : Fld := ⟨PAIR_CKPT_N, 0, 64⟩
abbrev PAIR_RELIEF_BUSY : Fld := ⟨PAIR_RELIEF, 24, 1⟩
abbrev PAIR_RELIEF_LAST_LOGICAL : Fld := ⟨PAIR_RELIEF, 16, 8⟩
abbrev PAIR_RELIEF_LAST_FAILED : Fld := ⟨PAIR_RELIEF, 8, 8⟩
abbrev PAIR_RELIEF_FREE : Fld := ⟨PAIR_RELIEF, 0, 4⟩
abbrev PAIR_RELIEF_CTL_GO : Fld := ⟨PAIR_RELIEF_CTL, 31, 1⟩
abbrev PAIR_RELIEF_CTL_LOGICAL : Fld := ⟨PAIR_RELIEF_CTL, 0, 7⟩
abbrev PAIR_CNT_FLASH_RX : Fld := ⟨PAIR_CNT, 16, 16⟩
abbrev PAIR_CNT_FLASH_BAD : Fld := ⟨PAIR_CNT, 8, 8⟩
abbrev PAIR_CNT_LOSSES : Fld := ⟨PAIR_CNT, 0, 8⟩
abbrev PAIR_CHSEL_EN (s : Nat) : Fld := ⟨(PAIR_CHSEL s), 31, 1⟩
abbrev PAIR_CHSEL_FIRST_P (s : Nat) : Fld := ⟨(PAIR_CHSEL s), 20, 10⟩
abbrev PAIR_CHSEL_FIRST_A (s : Nat) : Fld := ⟨(PAIR_CHSEL s), 10, 10⟩
abbrev PAIR_CHSEL_COUNT_M1 (s : Nat) : Fld := ⟨(PAIR_CHSEL s), 0, 6⟩
abbrev PAIR_CHSEL_ALT_ALT (s : Nat) : Fld := ⟨(PAIR_CHSEL_ALT s), 0, 64⟩
abbrev PAIR_CHSEL_CNT_SWITCHES (s : Nat) : Fld := ⟨(PAIR_CHSEL_CNT s), 0, 16⟩
abbrev PATCH_STAT_SHADOW_USED : Fld := ⟨PATCH_STAT, 16, 12⟩
abbrev PATCH_STAT_DEFERRED : Fld := ⟨PATCH_STAT, 3, 1⟩
abbrev PATCH_STAT_WAITING : Fld := ⟨PATCH_STAT, 2, 1⟩
abbrev PATCH_STAT_ECC_UE : Fld := ⟨PATCH_STAT, 1, 1⟩
abbrev PATCH_STAT_ECC_CE : Fld := ⟨PATCH_STAT, 0, 1⟩
abbrev PATCH_SAT_CNT_SUM_SAT : Fld := ⟨PATCH_SAT_CNT, 16, 16⟩
abbrev PATCH_SAT_CNT_OUT_SAT : Fld := ⟨PATCH_SAT_CNT, 0, 16⟩
abbrev PATCH_EVT_CNT_FADES : Fld := ⟨PATCH_EVT_CNT, 16, 16⟩
abbrev PATCH_EVT_CNT_WAITS : Fld := ⟨PATCH_EVT_CNT, 0, 16⟩
abbrev PATCH_ECC_ADDR_ENTRY : Fld := ⟨PATCH_ECC_ADDR, 0, 14⟩
abbrev PATCH_RAMP_TIME (q : Nat) : Fld := ⟨(PATCH_RAMP q), 0, 12⟩
abbrev PATCH_GEN_CFG_LEVEL (g : Nat) : Fld := ⟨(PATCH_GEN_CFG g), 16, 16⟩
abbrev PATCH_GEN_CFG_TYPE (g : Nat) : Fld := ⟨(PATCH_GEN_CFG g), 0, 2⟩
abbrev PATCH_GEN_FREQ_FREQ (g : Nat) : Fld := ⟨(PATCH_GEN_FREQ g), 0, 32⟩
abbrev PATCH_GEN_PHASE_PHASE (g : Nat) : Fld := ⟨(PATCH_GEN_PHASE g), 0, 32⟩
abbrev METER_CFG_WIN (j : Nat) : Fld := ⟨(METER_CFG j), 0, 4⟩
abbrev METER_PEAK_OVER (j : Nat) : Fld := ⟨(METER_PEAK j), 16, 16⟩
abbrev METER_PEAK_PEAK_DB (j : Nat) : Fld := ⟨(METER_PEAK j), 0, 16⟩
abbrev METER_RMS_RMS_DB (j : Nat) : Fld := ⟨(METER_RMS j), 0, 16⟩
abbrev PATCH_ENTRY_MUTE (i : Nat) : Fld := ⟨(PATCH_ENTRY i), 47, 1⟩
abbrev PATCH_ENTRY_INV (i : Nat) : Fld := ⟨(PATCH_ENTRY i), 46, 1⟩
abbrev PATCH_ENTRY_EN (i : Nat) : Fld := ⟨(PATCH_ENTRY i), 45, 1⟩
abbrev PATCH_ENTRY_CLASS (i : Nat) : Fld := ⟨(PATCH_ENTRY i), 44, 1⟩
abbrev PATCH_ENTRY_RAMP (i : Nat) : Fld := ⟨(PATCH_ENTRY i), 40, 4⟩
abbrev PATCH_ENTRY_GAIN (i : Nat) : Fld := ⟨(PATCH_ENTRY i), 24, 16⟩
abbrev PATCH_ENTRY_DST (i : Nat) : Fld := ⟨(PATCH_ENTRY i), 12, 12⟩
abbrev PATCH_ENTRY_SRC (i : Nat) : Fld := ⟨(PATCH_ENTRY i), 0, 12⟩
abbrev PWR_CFG_DORMANT_EN : Fld := ⟨PWR_CFG, 31, 1⟩
abbrev PWR_CFG_PREWAKE : Fld := ⟨PWR_CFG, 16, 8⟩
abbrev PWR_CFG_P3_PORT : Fld := ⟨PWR_CFG, 10, 2⟩
abbrev PWR_CFG_P3_AUTO : Fld := ⟨PWR_CFG, 9, 1⟩
abbrev PWR_CFG_PULSE_P4 : Fld := ⟨PWR_CFG, 7, 1⟩
abbrev PWR_CFG_FWD_FLOOR : Fld := ⟨PWR_CFG, 6, 1⟩
abbrev PWR_CFG_DEEPEST : Fld := ⟨PWR_CFG, 0, 3⟩
abbrev PWR_CTL_AWAKE_LOCK : Fld := ⟨PWR_CTL, 1, 1⟩
abbrev PWR_CTL_WAKE : Fld := ⟨PWR_CTL, 0, 1⟩
abbrev PWR_STAT_RELOCKING : Fld := ⟨PWR_STAT, 20, 1⟩
abbrev PWR_STAT_FLOORED : Fld := ⟨PWR_STAT, 19, 1⟩
abbrev PWR_STAT_PROPOSED : Fld := ⟨PWR_STAT, 18, 1⟩
abbrev PWR_STAT_BLOCK : Fld := ⟨PWR_STAT, 8, 8⟩
abbrev PWR_STAT_TARGET : Fld := ⟨PWR_STAT, 4, 3⟩
abbrev PWR_STAT_STATE : Fld := ⟨PWR_STAT, 0, 3⟩
abbrev PWR_TNEXT_WNS : Fld := ⟨PWR_TNEXT, 0, 64⟩
abbrev PWR_TNEXT_SRC_NEEDED : Fld := ⟨PWR_TNEXT_SRC, 8, 3⟩
abbrev PWR_TNEXT_SRC_SRC : Fld := ⟨PWR_TNEXT_SRC, 0, 4⟩
abbrev PWR_WAKE_CFG_TCAP : Fld := ⟨PWR_WAKE_CFG, 16, 16⟩
abbrev PWR_WAKE_CFG_LINK : Fld := ⟨PWR_WAKE_CFG, 0, 4⟩
abbrev PWR_WAKE_STAT_INDEX : Fld := ⟨PWR_WAKE_STAT, 4, 8⟩
abbrev PWR_WAKE_STAT_CAUSE : Fld := ⟨PWR_WAKE_STAT, 0, 4⟩
abbrev PWR_MOOR_MAX_SECONDS : Fld := ⟨PWR_MOOR_MAX, 0, 32⟩
abbrev PWR_GATED_TDM : Fld := ⟨PWR_GATED, 24, 8⟩
abbrev PWR_GATED_BRICKS : Fld := ⟨PWR_GATED, 16, 7⟩
abbrev PWR_GATED_MODS : Fld := ⟨PWR_GATED, 8, 7⟩
abbrev PWR_GATED_PORTS : Fld := ⟨PWR_GATED, 0, 4⟩
abbrev PWR_CNT_ENTRIES : Fld := ⟨PWR_CNT, 16, 16⟩
abbrev PWR_CNT_RISES : Fld := ⟨PWR_CNT, 0, 16⟩
abbrev REF_SEL_CTL_FORCE_EN : Fld := ⟨REF_SEL_CTL, 31, 1⟩
abbrev REF_SEL_CTL_FORCE_REF : Fld := ⟨REF_SEL_CTL, 28, 3⟩
abbrev REF_SEL_CTL_WTR : Fld := ⟨REF_SEL_CTL, 8, 8⟩
abbrev REF_SEL_CTL_HOLD_MAX : Fld := ⟨REF_SEL_CTL, 0, 8⟩
abbrev REF_SEL_STAT_QUALIFIED : Fld := ⟨REF_SEL_STAT, 24, 6⟩
abbrev REF_SEL_STAT_SUSPECT : Fld := ⟨REF_SEL_STAT, 16, 6⟩
abbrev REF_SEL_STAT_COMMITTED : Fld := ⟨REF_SEL_STAT, 11, 1⟩
abbrev REF_SEL_STAT_TARGET : Fld := ⟨REF_SEL_STAT, 8, 3⟩
abbrev REF_SEL_STAT_HOLDING : Fld := ⟨REF_SEL_STAT, 7, 1⟩
abbrev REF_SEL_STAT_SEL : Fld := ⟨REF_SEL_STAT, 4, 3⟩
abbrev REF_SEL_STAT_STATE : Fld := ⟨REF_SEL_STAT, 0, 3⟩
abbrev REF_EVT_CNT_SWITCHES : Fld := ⟨REF_EVT_CNT, 24, 8⟩
abbrev REF_EVT_CNT_ABORTS : Fld := ⟨REF_EVT_CNT, 16, 8⟩
abbrev REF_EVT_CNT_HOLDOVERS : Fld := ⟨REF_EVT_CNT, 8, 8⟩
abbrev REF_EVT_CNT_DISAGREES : Fld := ⟨REF_EVT_CNT, 0, 8⟩
abbrev REF_CFG_CLASS_MAX (r : Nat) : Fld := ⟨(REF_CFG r), 24, 8⟩
abbrev REF_CFG_QUAL_TIME (r : Nat) : Fld := ⟨(REF_CFG r), 16, 8⟩
abbrev REF_CFG_QUAL_PPM (r : Nat) : Fld := ⟨(REF_CFG r), 8, 8⟩
abbrev REF_CFG_BW (r : Nat) : Fld := ⟨(REF_CFG r), 4, 2⟩
abbrev REF_CFG_RANK (r : Nat) : Fld := ⟨(REF_CFG r), 0, 3⟩
abbrev REF_STAT_TIMER (r : Nat) : Fld := ⟨(REF_STAT r), 16, 16⟩
abbrev REF_STAT_LOST (r : Nat) : Fld := ⟨(REF_STAT r), 4, 1⟩
abbrev REF_STAT_WTR_RUN (r : Nat) : Fld := ⟨(REF_STAT r), 3, 1⟩
abbrev REF_STAT_SUSPECT (r : Nat) : Fld := ⟨(REF_STAT r), 2, 1⟩
abbrev REF_STAT_QUALIFIED (r : Nat) : Fld := ⟨(REF_STAT r), 1, 1⟩
abbrev REF_STAT_PRESENT (r : Nat) : Fld := ⟨(REF_STAT r), 0, 1⟩
abbrev REF_FREQ_D (r : Nat) : Fld := ⟨(REF_FREQ r), 0, 32⟩
abbrev REF_BIAS_BIAS (r : Nat) : Fld := ⟨(REF_BIAS r), 0, 64⟩
abbrev REF_PHASE_ERR (r : Nat) : Fld := ⟨(REF_PHASE r), 0, 32⟩
abbrev REF_CNT_LOSSES (r : Nat) : Fld := ⟨(REF_CNT r), 16, 16⟩
abbrev REF_CNT_SELECTED (r : Nat) : Fld := ⟨(REF_CNT r), 0, 16⟩
abbrev SEC_LIFECYCLE_ERASING : Fld := ⟨SEC_LIFECYCLE, 11, 1⟩
abbrev SEC_LIFECYCLE_STATE : Fld := ⟨SEC_LIFECYCLE, 8, 3⟩
abbrev SEC_LIFECYCLE_FUSES : Fld := ⟨SEC_LIFECYCLE, 0, 5⟩
abbrev SEC_DEV_ID_ID : Fld := ⟨SEC_DEV_ID, 0, 64⟩
abbrev SEC_FUSE_STAT_ERASED : Fld := ⟨SEC_FUSE_STAT, 5, 1⟩
abbrev SEC_FUSE_STAT_CHK_OK : Fld := ⟨SEC_FUSE_STAT, 4, 1⟩
abbrev SEC_FUSE_STAT_MEDIUM_SET : Fld := ⟨SEC_FUSE_STAT, 3, 1⟩
abbrev SEC_FUSE_STAT_OWNER_SET : Fld := ⟨SEC_FUSE_STAT, 2, 1⟩
abbrev SEC_FUSE_STAT_KSIGN_SET : Fld := ⟨SEC_FUSE_STAT, 1, 1⟩
abbrev SEC_FUSE_STAT_KDEV_SET : Fld := ⟨SEC_FUSE_STAT, 0, 1⟩
abbrev SEC_SIGN_PUB_V (i : Nat) : Fld := ⟨(SEC_SIGN_PUB i), 0, 32⟩
abbrev SEC_OWNER_PUB_V (i : Nat) : Fld := ⟨(SEC_OWNER_PUB i), 0, 32⟩
abbrev SEC_KMP_STAT_CTRL_IDX : Fld := ⟨SEC_KMP_STAT, 12, 4⟩
abbrev SEC_KMP_STAT_CTRL : Fld := ⟨SEC_KMP_STAT, 8, 1⟩
abbrev SEC_KMP_STAT_AUTH : Fld := ⟨SEC_KMP_STAT, 4, 4⟩
abbrev SEC_KMP_STAT_OPEN : Fld := ⟨SEC_KMP_STAT, 0, 4⟩
abbrev SEC_CNT_AUTH_FAIL : Fld := ⟨SEC_CNT, 16, 16⟩
abbrev SEC_CNT_REPLAY : Fld := ⟨SEC_CNT, 8, 8⟩
abbrev SEC_CNT_SIG_FAIL : Fld := ⟨SEC_CNT, 0, 8⟩
abbrev SEC_CMD_OP : Fld := ⟨SEC_CMD, 28, 4⟩
abbrev SEC_ZEROIZE_EVENT : Fld := ⟨SEC_ZEROIZE, 1, 1⟩
abbrev SEC_ZEROIZE_LEVEL : Fld := ⟨SEC_ZEROIZE, 0, 1⟩
abbrev STORE_GEOM_DENSITY : Fld := ⟨STORE_GEOM, 4, 3⟩
abbrev STORE_GEOM_MEDIUM : Fld := ⟨STORE_GEOM, 0, 2⟩
abbrev STORE_STAT_FILL_PCT : Fld := ⟨STORE_STAT, 16, 8⟩
abbrev STORE_STAT_COMPACT_STEP : Fld := ⟨STORE_STAT, 8, 4⟩
abbrev STORE_STAT_REPLAYED : Fld := ⟨STORE_STAT, 7, 1⟩
abbrev STORE_STAT_WRITING : Fld := ⟨STORE_STAT, 6, 1⟩
abbrev STORE_STAT_FULL : Fld := ⟨STORE_STAT, 5, 1⟩
abbrev STORE_STAT_COMPACTING : Fld := ⟨STORE_STAT, 4, 1⟩
abbrev STORE_STAT_FALLBACK : Fld := ⟨STORE_STAT, 3, 1⟩
abbrev STORE_STAT_VALID_B : Fld := ⟨STORE_STAT, 2, 1⟩
abbrev STORE_STAT_VALID_A : Fld := ⟨STORE_STAT, 1, 1⟩
abbrev STORE_STAT_ACTIVE_SLOT : Fld := ⟨STORE_STAT, 0, 1⟩
abbrev STORE_GENERATION_GENERATION : Fld := ⟨STORE_GENERATION, 0, 64⟩
abbrev STORE_JRN_SEQ_SEQ : Fld := ⟨STORE_JRN_SEQ, 0, 64⟩
abbrev STORE_JRN_START_START_SEQ : Fld := ⟨STORE_JRN_START, 0, 64⟩
abbrev STORE_JRN_WPTR_WPTR : Fld := ⟨STORE_JRN_WPTR, 0, 32⟩
abbrev STORE_CTL_COMPACT : Fld := ⟨STORE_CTL, 0, 1⟩
abbrev STORE_EVT_CNT_WRITE_ERR : Fld := ⟨STORE_EVT_CNT, 24, 8⟩
abbrev STORE_EVT_CNT_REPLAY : Fld := ⟨STORE_EVT_CNT, 16, 8⟩
abbrev STORE_EVT_CNT_COMPACT : Fld := ⟨STORE_EVT_CNT, 0, 16⟩
abbrev STORE_WEAR_JRN_WRAPS : Fld := ⟨STORE_WEAR, 0, 32⟩
abbrev STORE_ERR_REGION : Fld := ⟨STORE_ERR, 8, 2⟩
abbrev STORE_ERR_ERR_CODE : Fld := ⟨STORE_ERR, 0, 8⟩
abbrev STORE_ERR_OFS_OFFSET : Fld := ⟨STORE_ERR_OFS, 0, 32⟩
abbrev STORE_XSPI_CAL_CAL_OK : Fld := ⟨STORE_XSPI_CAL, 8, 1⟩
abbrev STORE_XSPI_CAL_DQS_DELAY : Fld := ⟨STORE_XSPI_CAL, 0, 8⟩
abbrev STR_STAT_TX_ACTIVE : Fld := ⟨STR_STAT, 16, 9⟩
abbrev STR_STAT_RX_ACTIVE : Fld := ⟨STR_STAT, 0, 9⟩
abbrev STR_MON_EN : Fld := ⟨STR_MON, 31, 1⟩
abbrev STR_MON_STREAM : Fld := ⟨STR_MON, 0, 8⟩
abbrev STR_TX_CFG_EN (k : Nat) : Fld := ⟨(STR_TX_CFG k), 31, 1⟩
abbrev STR_TX_CFG_ENC (k : Nat) : Fld := ⟨(STR_TX_CFG k), 30, 1⟩
abbrev STR_TX_CFG_PTIME (k : Nat) : Fld := ⟨(STR_TX_CFG k), 28, 2⟩
abbrev STR_TX_CFG_NCH_M1 (k : Nat) : Fld := ⟨(STR_TX_CFG k), 22, 6⟩
abbrev STR_TX_CFG_PO (k : Nat) : Fld := ⟨(STR_TX_CFG k), 15, 7⟩
abbrev STR_TX_CFG_PATHS (k : Nat) : Fld := ⟨(STR_TX_CFG k), 13, 2⟩
abbrev STR_TX_CFG_FIRST_CH (k : Nat) : Fld := ⟨(STR_TX_CFG k), 0, 10⟩
abbrev STR_TX_DST_V (k : Nat) : Fld := ⟨(STR_TX_DST k), 0, 32⟩
abbrev STR_TX_UDP_SRC_PORT (k : Nat) : Fld := ⟨(STR_TX_UDP k), 16, 16⟩
abbrev STR_TX_UDP_DST_PORT (k : Nat) : Fld := ⟨(STR_TX_UDP k), 0, 16⟩
abbrev STR_TX_TAG_TAGGED (k : Nat) : Fld := ⟨(STR_TX_TAG k), 31, 1⟩
abbrev STR_TX_TAG_PCP (k : Nat) : Fld := ⟨(STR_TX_TAG k), 28, 3⟩
abbrev STR_TX_TAG_VID (k : Nat) : Fld := ⟨(STR_TX_TAG k), 16, 12⟩
abbrev STR_TX_TAG_DSCP (k : Nat) : Fld := ⟨(STR_TX_TAG k), 8, 6⟩
abbrev STR_TX_TAG_PT (k : Nat) : Fld := ⟨(STR_TX_TAG k), 0, 7⟩
abbrev STR_TX_SSRC_V (k : Nat) : Fld := ⟨(STR_TX_SSRC k), 0, 32⟩
abbrev STR_TX_TSOFS_V (k : Nat) : Fld := ⟨(STR_TX_TSOFS k), 0, 32⟩
abbrev STR_TX_CNT_SEQ (k : Nat) : Fld := ⟨(STR_TX_CNT k), 0, 16⟩
abbrev STR_RX_CFG_EN (k : Nat) : Fld := ⟨(STR_RX_CFG k), 31, 1⟩
abbrev STR_RX_CFG_ENC (k : Nat) : Fld := ⟨(STR_RX_CFG k), 30, 1⟩
abbrev STR_RX_CFG_PTIME (k : Nat) : Fld := ⟨(STR_RX_CFG k), 28, 2⟩
abbrev STR_RX_CFG_NCH_M1 (k : Nat) : Fld := ⟨(STR_RX_CFG k), 22, 6⟩
abbrev STR_RX_CFG_PO (k : Nat) : Fld := ⟨(STR_RX_CFG k), 15, 7⟩
abbrev STR_RX_CFG_FIRST_CH (k : Nat) : Fld := ⟨(STR_RX_CFG k), 0, 10⟩
abbrev STR_RX_TSOFS_V (k : Nat) : Fld := ⟨(STR_RX_TSOFS k), 0, 32⟩
abbrev STR_RX_MISC_PHASE (k : Nat) : Fld := ⟨(STR_RX_MISC k), 8, 7⟩
abbrev STR_RX_MISC_PT_ANY (k : Nat) : Fld := ⟨(STR_RX_MISC k), 7, 1⟩
abbrev STR_RX_MISC_PT (k : Nat) : Fld := ⟨(STR_RX_MISC k), 0, 7⟩
abbrev STR_RX_STAT_CLAIM (k : Nat) : Fld := ⟨(STR_RX_STAT k), 16, 16⟩
abbrev STR_RX_STAT_LEGS_OK (k : Nat) : Fld := ⟨(STR_RX_STAT k), 12, 4⟩
abbrev STR_RX_STAT_LEG (k : Nat) : Fld := ⟨(STR_RX_STAT k), 8, 2⟩
abbrev STR_RX_STAT_LOST_LAST (k : Nat) : Fld := ⟨(STR_RX_STAT k), 0, 1⟩
abbrev STR_RX_DAYMARK_V (k : Nat) : Fld := ⟨(STR_RX_DAYMARK k), 0, 32⟩
abbrev STR_RX_SLACK_MIN (k : Nat) : Fld := ⟨(STR_RX_SLACK k), 16, 16⟩
abbrev STR_RX_SLACK_LAST (k : Nat) : Fld := ⟨(STR_RX_SLACK k), 0, 16⟩
abbrev STR_RX_CNT0_LOST (k : Nat) : Fld := ⟨(STR_RX_CNT0 k), 16, 16⟩
abbrev STR_RX_CNT0_LATE (k : Nat) : Fld := ⟨(STR_RX_CNT0 k), 0, 16⟩
abbrev STR_RX_CNT1_CRC_ERR (k : Nat) : Fld := ⟨(STR_RX_CNT1 k), 24, 8⟩
abbrev STR_RX_CNT1_FORMAT (k : Nat) : Fld := ⟨(STR_RX_CNT1 k), 16, 8⟩
abbrev STR_RX_CNT1_MAP_ERR (k : Nat) : Fld := ⟨(STR_RX_CNT1 k), 8, 8⟩
abbrev STR_RX_CNT1_EARLY (k : Nat) : Fld := ⟨(STR_RX_CNT1 k), 0, 8⟩
abbrev STR_RX_CNT2_CLASS0 (k : Nat) : Fld := ⟨(STR_RX_CNT2 k), 24, 8⟩
abbrev STR_RX_CNT2_DUP (k : Nat) : Fld := ⟨(STR_RX_CNT2 k), 16, 8⟩
abbrev STR_RX_CNT2_FOREIGN (k : Nat) : Fld := ⟨(STR_RX_CNT2 k), 8, 8⟩
abbrev STR_RX_LEG_CFG_EN (k j : Nat) : Fld := ⟨(STR_RX_LEG_CFG k j), 31, 1⟩
abbrev STR_RX_LEG_CFG_PATH (k j : Nat) : Fld := ⟨(STR_RX_LEG_CFG k j), 30, 1⟩
abbrev STR_RX_LEG_CFG_UDP_PORT (k j : Nat) : Fld := ⟨(STR_RX_LEG_CFG k j), 0, 16⟩
abbrev STR_RX_LEG_GRP_V (k j : Nat) : Fld := ⟨(STR_RX_LEG_GRP k j), 0, 32⟩
abbrev STR_RX_LEG_SRC_V (k j : Nat) : Fld := ⟨(STR_RX_LEG_SRC k j), 0, 32⟩
abbrev STR_RX_LEG_LATCH_V (k j : Nat) : Fld := ⟨(STR_RX_LEG_LATCH k j), 0, 32⟩
abbrev TMS_CTL_STEP_THR : Fld := ⟨TMS_CTL, 16, 16⟩
abbrev TMS_CTL_LOCK_WIN : Fld := ⟨TMS_CTL, 8, 8⟩
abbrev TMS_STAT_STEP_PENDING : Fld := ⟨TMS_STAT, 12, 1⟩
abbrev TMS_STAT_STEP_SRC : Fld := ⟨TMS_STAT, 10, 2⟩
abbrev TMS_STAT_STEPPED : Fld := ⟨TMS_STAT, 9, 1⟩
abbrev TMS_STAT_SPLIT : Fld := ⟨TMS_STAT, 8, 1⟩
abbrev TMS_STAT_SERVO_B : Fld := ⟨TMS_STAT, 4, 4⟩
abbrev TMS_STAT_SERVO_A : Fld := ⟨TMS_STAT, 0, 4⟩
abbrev TMS_STEP_CNT_SPLITS : Fld := ⟨TMS_STEP_CNT, 16, 16⟩
abbrev TMS_STEP_CNT_STEPS : Fld := ⟨TMS_STEP_CNT, 0, 16⟩
abbrev TMS_CMD_RESTEP : Fld := ⟨TMS_CMD, 0, 2⟩
abbrev TMS_NOW_NS_NS : Fld := ⟨TMS_NOW_NS, 32, 32⟩
abbrev TMS_NOW_NS_SUB : Fld := ⟨TMS_NOW_NS, 16, 16⟩
abbrev TMS_NOW_SEC_SEC : Fld := ⟨TMS_NOW_SEC, 0, 48⟩
abbrev TMS_NOW_WNS_WNS : Fld := ⟨TMS_NOW_WNS, 0, 64⟩
abbrev TMS_NOW_N_N : Fld := ⟨TMS_NOW_N, 0, 64⟩
abbrev TMS_T0_T0_WNS : Fld := ⟨TMS_T0, 0, 64⟩
abbrev TMS_T0_SUB_T0_SUB : Fld := ⟨TMS_T0_SUB, 0, 16⟩
abbrev TMS_PTP_CFG_EN (d : Nat) : Fld := ⟨(TMS_PTP_CFG d), 31, 1⟩
abbrev TMS_PTP_CFG_SLAVE_ONLY (d : Nat) : Fld := ⟨(TMS_PTP_CFG d), 30, 1⟩
abbrev TMS_PTP_CFG_DOMAIN_NUM (d : Nat) : Fld := ⟨(TMS_PTP_CFG d), 16, 8⟩
abbrev TMS_PTP_CFG_PRIORITY1 (d : Nat) : Fld := ⟨(TMS_PTP_CFG d), 8, 8⟩
abbrev TMS_PTP_CFG_PRIORITY2 (d : Nat) : Fld := ⟨(TMS_PTP_CFG d), 0, 8⟩
abbrev TMS_PTP_QUAL_CLOCK_CLASS (d : Nat) : Fld := ⟨(TMS_PTP_QUAL d), 24, 8⟩
abbrev TMS_PTP_QUAL_CLOCK_ACCURACY (d : Nat) : Fld := ⟨(TMS_PTP_QUAL d), 16, 8⟩
abbrev TMS_PTP_QUAL_LOG_VARIANCE (d : Nat) : Fld := ⟨(TMS_PTP_QUAL d), 0, 16⟩
abbrev TMS_PTP_INTV_LOG_SYNC (d : Nat) : Fld := ⟨(TMS_PTP_INTV d), 24, 8⟩
abbrev TMS_PTP_INTV_LOG_ANNOUNCE (d : Nat) : Fld := ⟨(TMS_PTP_INTV d), 16, 8⟩
abbrev TMS_PTP_INTV_ANNOUNCE_TO (d : Nat) : Fld := ⟨(TMS_PTP_INTV d), 8, 8⟩
abbrev TMS_PTP_INTV_LOG_DELAY_REQ (d : Nat) : Fld := ⟨(TMS_PTP_INTV d), 0, 8⟩
abbrev TMS_PTP_STAT_GM_CLASS (d : Nat) : Fld := ⟨(TMS_PTP_STAT d), 16, 8⟩
abbrev TMS_PTP_STAT_STEPS_REMOVED (d : Nat) : Fld := ⟨(TMS_PTP_STAT d), 8, 8⟩
abbrev TMS_PTP_STAT_SERVO (d : Nat) : Fld := ⟨(TMS_PTP_STAT d), 4, 4⟩
abbrev TMS_PTP_STAT_PORT_STATE (d : Nat) : Fld := ⟨(TMS_PTP_STAT d), 0, 4⟩
abbrev TMS_PTP_GMID_GMID (d : Nat) : Fld := ⟨(TMS_PTP_GMID d), 0, 64⟩
abbrev TMS_PTP_OFS_OFS (d : Nat) : Fld := ⟨(TMS_PTP_OFS d), 0, 64⟩
abbrev TMS_PTP_DELAY_MPD (d : Nat) : Fld := ⟨(TMS_PTP_DELAY d), 0, 32⟩
abbrev TMS_PTP_RATE_RATE (d : Nat) : Fld := ⟨(TMS_PTP_RATE d), 0, 32⟩
abbrev TMS_PTP_UTC_PTP_TIMESCALE (d : Nat) : Fld := ⟨(TMS_PTP_UTC d), 20, 1⟩
abbrev TMS_PTP_UTC_TIME_TRACEABLE (d : Nat) : Fld := ⟨(TMS_PTP_UTC d), 19, 1⟩
abbrev TMS_PTP_UTC_LEAP59 (d : Nat) : Fld := ⟨(TMS_PTP_UTC d), 18, 1⟩
abbrev TMS_PTP_UTC_LEAP61 (d : Nat) : Fld := ⟨(TMS_PTP_UTC d), 17, 1⟩
abbrev TMS_PTP_UTC_UTC_VALID (d : Nat) : Fld := ⟨(TMS_PTP_UTC d), 16, 1⟩
abbrev TMS_PTP_UTC_UTC_OFFSET (d : Nat) : Fld := ⟨(TMS_PTP_UTC d), 0, 16⟩
abbrev TMS_PTP_CNT_TIMEOUTS (d : Nat) : Fld := ⟨(TMS_PTP_CNT d), 16, 16⟩
abbrev TMS_PTP_CNT_SYNC_RX (d : Nat) : Fld := ⟨(TMS_PTP_CNT d), 0, 16⟩
abbrev TMS_PULSE_CFG_EN (i : Nat) : Fld := ⟨(TMS_PULSE_CFG i), 31, 1⟩
abbrev TMS_PULSE_CFG_PERIODIC (i : Nat) : Fld := ⟨(TMS_PULSE_CFG i), 30, 1⟩
abbrev TMS_PULSE_CFG_BASE (i : Nat) : Fld := ⟨(TMS_PULSE_CFG i), 29, 1⟩
abbrev TMS_PULSE_CFG_POL (i : Nat) : Fld := ⟨(TMS_PULSE_CFG i), 28, 1⟩
abbrev TMS_PULSE_CFG_WIDTH (i : Nat) : Fld := ⟨(TMS_PULSE_CFG i), 0, 28⟩
abbrev TMS_PULSE_STAT_FIRED (i : Nat) : Fld := ⟨(TMS_PULSE_STAT i), 16, 16⟩
abbrev TMS_PULSE_STAT_MISSED (i : Nat) : Fld := ⟨(TMS_PULSE_STAT i), 2, 1⟩
abbrev TMS_PULSE_STAT_LATE (i : Nat) : Fld := ⟨(TMS_PULSE_STAT i), 1, 1⟩
abbrev TMS_PULSE_STAT_ARMED (i : Nat) : Fld := ⟨(TMS_PULSE_STAT i), 0, 1⟩
abbrev TMS_PULSE_START_START (i : Nat) : Fld := ⟨(TMS_PULSE_START i), 0, 64⟩
abbrev TMS_PULSE_START_SUB_START_SUB (i : Nat) : Fld := ⟨(TMS_PULSE_START_SUB i), 0, 16⟩
abbrev TMS_PULSE_PERIOD_PERIOD (i : Nat) : Fld := ⟨(TMS_PULSE_PERIOD i), 16, 48⟩
abbrev TMS_PULSE_PERIOD_PERIOD_SUB (i : Nat) : Fld := ⟨(TMS_PULSE_PERIOD i), 0, 16⟩
abbrev TMS_CAP_CFG_EN (j : Nat) : Fld := ⟨(TMS_CAP_CFG j), 31, 1⟩
abbrev TMS_CAP_CFG_EDGE (j : Nat) : Fld := ⟨(TMS_CAP_CFG j), 29, 2⟩
abbrev TMS_CAP_CFG_FILT (j : Nat) : Fld := ⟨(TMS_CAP_CFG j), 0, 8⟩
abbrev TMS_CAP_STAT_OVF (j : Nat) : Fld := ⟨(TMS_CAP_STAT j), 16, 16⟩
abbrev TMS_CAP_STAT_POP (j : Nat) : Fld := ⟨(TMS_CAP_STAT j), 8, 1⟩
abbrev TMS_CAP_STAT_LEVEL (j : Nat) : Fld := ⟨(TMS_CAP_STAT j), 0, 4⟩
abbrev TMS_CAP_WNS_WNS (j : Nat) : Fld := ⟨(TMS_CAP_WNS j), 0, 64⟩
abbrev TMS_CAP_SUB_VALID (j : Nat) : Fld := ⟨(TMS_CAP_SUB j), 31, 1⟩
abbrev TMS_CAP_SUB_FALL (j : Nat) : Fld := ⟨(TMS_CAP_SUB j), 30, 1⟩
abbrev TMS_CAP_SUB_OVF_BEFORE (j : Nat) : Fld := ⟨(TMS_CAP_SUB j), 29, 1⟩
abbrev TMS_CAP_SUB_PRE_STEP (j : Nat) : Fld := ⟨(TMS_CAP_SUB j), 28, 1⟩
abbrev TMS_CAP_SUB_SUB (j : Nat) : Fld := ⟨(TMS_CAP_SUB j), 0, 16⟩
abbrev TW0_CFG_TIMEOUT : Fld := ⟨TW0_CFG, 16, 8⟩
abbrev TW0_CFG_ARB_RETRY : Fld := ⟨TW0_CFG, 8, 4⟩
abbrev TW0_CFG_FMP : Fld := ⟨TW0_CFG, 1, 1⟩
abbrev TW0_CFG_EN : Fld := ⟨TW0_CFG, 0, 1⟩
abbrev TW0_TIM0_HIGH : Fld := ⟨TW0_TIM0, 16, 12⟩
abbrev TW0_TIM0_LOW : Fld := ⟨TW0_TIM0, 0, 12⟩
abbrev TW0_TIM1_HD_STA : Fld := ⟨TW0_TIM1, 16, 12⟩
abbrev TW0_TIM1_SU_STA : Fld := ⟨TW0_TIM1, 0, 12⟩
abbrev TW0_TIM2_BUF : Fld := ⟨TW0_TIM2, 16, 12⟩
abbrev TW0_TIM2_SU_STO : Fld := ⟨TW0_TIM2, 0, 12⟩
abbrev TW0_TIM3_HD_DAT : Fld := ⟨TW0_TIM3, 0, 10⟩
abbrev TW0_CMD_GO : Fld := ⟨TW0_CMD, 31, 1⟩
abbrev TW0_CMD_PEC : Fld := ⟨TW0_CMD, 30, 1⟩
abbrev TW0_CMD_BLOCK : Fld := ⟨TW0_CMD, 29, 1⟩
abbrev TW0_CMD_ADDR : Fld := ⟨TW0_CMD, 22, 7⟩
abbrev TW0_CMD_WLEN : Fld := ⟨TW0_CMD, 15, 7⟩
abbrev TW0_CMD_RLEN : Fld := ⟨TW0_CMD, 8, 7⟩
abbrev TW0_CMD_TAG : Fld := ⟨TW0_CMD, 0, 8⟩
abbrev TW0_TXD_DATA : Fld := ⟨TW0_TXD, 0, 32⟩
abbrev TW0_RXD_DATA : Fld := ⟨TW0_RXD, 0, 32⟩
abbrev TW0_RES_VALID : Fld := ⟨TW0_RES, 31, 1⟩
abbrev TW0_RES_RESULT : Fld := ⟨TW0_RES, 27, 4⟩
abbrev TW0_RES_ACKED : Fld := ⟨TW0_RES, 20, 7⟩
abbrev TW0_RES_RCOUNT : Fld := ⟨TW0_RES, 13, 7⟩
abbrev TW0_RES_TAG : Fld := ⟨TW0_RES, 0, 8⟩
abbrev TW0_STAT_SCL_STUCK : Fld := ⟨TW0_STAT, 5, 1⟩
abbrev TW0_STAT_SDA_STUCK : Fld := ⟨TW0_STAT, 4, 1⟩
abbrev TW0_STAT_ARB_LOST : Fld := ⟨TW0_STAT, 3, 1⟩
abbrev TW0_STAT_BUS_BUSY : Fld := ⟨TW0_STAT, 2, 1⟩
abbrev TW0_STAT_RECOVERING : Fld := ⟨TW0_STAT, 1, 1⟩
abbrev TW0_STAT_BUSY : Fld := ⟨TW0_STAT, 0, 1⟩
abbrev TW0_CTL_RECOVER : Fld := ⟨TW0_CTL, 1, 1⟩
abbrev TW0_CTL_ABORT : Fld := ⟨TW0_CTL, 0, 1⟩
abbrev TW0_CNT_ARB_LOSSES : Fld := ⟨TW0_CNT, 24, 8⟩
abbrev TW0_CNT_NACKS : Fld := ⟨TW0_CNT, 16, 8⟩
abbrev TW0_CNT_TIMEOUTS : Fld := ⟨TW0_CNT, 8, 8⟩
abbrev TW0_CNT_RECOVERIES : Fld := ⟨TW0_CNT, 0, 8⟩
abbrev TW1_WINDOW_BASE : Fld := ⟨TW1_WINDOW, 8, 24⟩
abbrev TW1_STAT_POINTER : Fld := ⟨TW1_STAT, 8, 8⟩
abbrev TW1_STAT_TIMEOUT : Fld := ⟨TW1_STAT, 3, 1⟩
abbrev TW1_STAT_PEC_ERR : Fld := ⟨TW1_STAT, 2, 1⟩
abbrev TW1_STAT_PARTIAL : Fld := ⟨TW1_STAT, 1, 1⟩
abbrev TW1_STAT_ACC_ERR : Fld := ⟨TW1_STAT, 0, 1⟩
abbrev TW1_CNT_TW_PROTO_ERR : Fld := ⟨TW1_CNT, 24, 8⟩
abbrev TW1_CNT_PEC_ERR : Fld := ⟨TW1_CNT, 16, 8⟩
abbrev TW1_CNT_TIMEOUTS : Fld := ⟨TW1_CNT, 8, 8⟩
abbrev TW1_CNT_ACC_ERRS : Fld := ⟨TW1_CNT, 0, 8⟩
abbrev TW1_CFG_PEC_EN : Fld := ⟨TW1_CFG, 1, 1⟩
abbrev TW1_CFG_EN : Fld := ⟨TW1_CFG, 0, 1⟩

end F

/-! The register table, block by block. -/

def glbRegs : List RegDef := [
  /- GLB_ID -/ ⟨0x0, 1, 0x0, 1, 0x0, 32, 0x10241000,
    [⟨0, 4, .ro, []⟩, ⟨8, 8, .ro, []⟩, ⟨16, 16, .ro, []⟩]⟩,
  /- GLB_FW_VER -/ ⟨0x4, 1, 0x0, 1, 0x0, 32, 0x0,
    [⟨0, 16, .ro, []⟩, ⟨16, 16, .ro, []⟩]⟩,
  /- GLB_STRAP -/ ⟨0x8, 1, 0x0, 1, 0x0, 32, 0x0,
    [⟨0, 1, .ro, []⟩, ⟨1, 1, .ro, []⟩, ⟨2, 1, .ro, []⟩, ⟨4, 3, .ro, []⟩]⟩,
  /- GLB_MODE -/ ⟨0x10, 1, 0x0, 1, 0x0, 32, 0x0,
    [⟨0, 4, .ro, []⟩, ⟨4, 4, .ro, []⟩, ⟨8, 4, .ro, []⟩, ⟨12, 1, .ro, []⟩, ⟨13, 1, .ro, []⟩, ⟨16, 3, .ro, []⟩, ⟨20, 1, .ro, []⟩, ⟨21, 1, .ro, []⟩]⟩,
  /- GLB_MODE_REQ -/ ⟨0x14, 1, 0x0, 1, 0x0, 32, 0x0,
    [⟨0, 4, .wo, []⟩, ⟨8, 1, .rw, []⟩, ⟨28, 4, .ro, []⟩]⟩,
  /- GLB_MODE_TIME -/ ⟨0x18, 1, 0x0, 1, 0x0, 64, 0x0,
    [⟨0, 64, .ro, []⟩]⟩,
  /- GLB_START_TIME -/ ⟨0x20, 1, 0x0, 1, 0x0, 32, 0x0,
    [⟨0, 32, .ro, []⟩]⟩,
  /- GLB_TRANS_CNT -/ ⟨0x24, 1, 0x0, 1, 0x0, 32, 0x0,
    [⟨0, 16, .rc, []⟩, ⟨16, 16, .rc, []⟩]⟩,
  /- GLB_POLICY_CTL -/ ⟨0x28, 1, 0x0, 1, 0x0, 32, 0x1E0A,
    [⟨0, 8, .rw, [(1, 255)]⟩, ⟨8, 8, .rw, [(1, 255)]⟩]⟩,
  /- GLB_TDM_CFG -/ ⟨0x100, 8, 0x10, 1, 0x0, 32, 0x0,
    [⟨0, 1, .rw, []⟩, ⟨1, 1, .rw, []⟩, ⟨2, 1, .rw, []⟩, ⟨3, 1, .rw, []⟩, ⟨4, 1, .rw, []⟩, ⟨5, 1, .rw, []⟩, ⟨6, 1, .rw, []⟩]⟩,
  /- GLB_TDM_RXEN -/ ⟨0x104, 8, 0x10, 1, 0x0, 32, 0x0,
    [⟨0, 32, .rw, []⟩]⟩,
  /- GLB_TDM_TXEN -/ ⟨0x108, 8, 0x10, 1, 0x0, 32, 0x0,
    [⟨0, 32, .rw, []⟩]⟩]

def storeRegs : List RegDef := [
  /- STORE_GEOM -/ ⟨0xD0000, 1, 0x0, 1, 0x0, 32, 0x0,
    [⟨0, 2, .ro, []⟩, ⟨4, 3, .ro, []⟩]⟩,
  /- STORE_STAT -/ ⟨0xD0004, 1, 0x0, 1, 0x0, 32, 0x0,
    [⟨0, 1, .ro, []⟩, ⟨1, 1, .ro, []⟩, ⟨2, 1, .ro, []⟩, ⟨3, 1, .ro, []⟩, ⟨4, 1, .ro, []⟩, ⟨5, 1, .ro, []⟩, ⟨6, 1, .ro, []⟩, ⟨7, 1, .ro, []⟩, ⟨8, 4, .ro, []⟩, ⟨16, 8, .ro, []⟩]⟩,
  /- STORE_GENERATION -/ ⟨0xD0008, 1, 0x0, 1, 0x0, 64, 0x0,
    [⟨0, 64, .ro, []⟩]⟩,
  /- STORE_JRN_SEQ -/ ⟨0xD0010, 1, 0x0, 1, 0x0, 64, 0x0,
    [⟨0, 64, .ro, []⟩]⟩,
  /- STORE_JRN_START -/ ⟨0xD0018, 1, 0x0, 1, 0x0, 64, 0x0,
    [⟨0, 64, .ro, []⟩]⟩,
  /- STORE_JRN_WPTR -/ ⟨0xD0020, 1, 0x0, 1, 0x0, 32, 0x0,
    [⟨0, 32, .ro, []⟩]⟩,
  /- STORE_CTL -/ ⟨0xD0024, 1, 0x0, 1, 0x0, 32, 0x0,
    [⟨0, 1, .wo, []⟩]⟩,
  /- STORE_EVT_CNT -/ ⟨0xD0028, 1, 0x0, 1, 0x0, 32, 0x0,
    [⟨0, 16, .rc, []⟩, ⟨16, 8, .rc, []⟩, ⟨24, 8, .rc, []⟩]⟩,
  /- STORE_WEAR -/ ⟨0xD002C, 1, 0x0, 1, 0x0, 32, 0x0,
    [⟨0, 32, .ro, []⟩]⟩,
  /- STORE_ERR -/ ⟨0xD0030, 1, 0x0, 1, 0x0, 32, 0x0,
    [⟨0, 8, .ro, []⟩, ⟨8, 2, .ro, []⟩]⟩,
  /- STORE_ERR_OFS -/ ⟨0xD0034, 1, 0x0, 1, 0x0, 32, 0x0,
    [⟨0, 32, .ro, []⟩]⟩,
  /- STORE_XSPI_CAL -/ ⟨0xD0038, 1, 0x0, 1, 0x0, 32, 0x0,
    [⟨0, 8, .ro, []⟩, ⟨8, 1, .ro, []⟩]⟩]

def brkRegs : List RegDef := [
  /- BRK_CTL -/ ⟨0x2000000, 96, 0x10000, 1, 0x0, 32, 0x0,
    [⟨0, 1, .rw, []⟩]⟩,
  /- BRK_STAT -/ ⟨0x2000004, 96, 0x10000, 1, 0x0, 32, 0x4,
    [⟨0, 1, .ro, []⟩, ⟨1, 1, .ro, []⟩, ⟨2, 1, .ro, []⟩, ⟨4, 1, .w1c, []⟩, ⟨5, 1, .w1c, []⟩, ⟨6, 1, .w1c, []⟩, ⟨7, 1, .w1c, []⟩]⟩,
  /- BRK_ROLE -/ ⟨0x2000008, 96, 0x10000, 1, 0x0, 32, 0xFF0000,
    [⟨0, 2, .ro, []⟩, ⟨8, 4, .ro, []⟩, ⟨16, 8, .ro, []⟩]⟩,
  /- BRK_SAT_CNT -/ ⟨0x200000C, 96, 0x10000, 1, 0x0, 32, 0x0,
    [⟨0, 16, .rc, []⟩, ⟨16, 16, .rc, []⟩]⟩,
  /- BRK_OVR_CNT -/ ⟨0x2000010, 96, 0x10000, 1, 0x0, 32, 0x0,
    [⟨0, 16, .rc, []⟩, ⟨16, 16, .rc, []⟩]⟩,
  /- BRK_CYC_FG -/ ⟨0x2000014, 96, 0x10000, 1, 0x0, 32, 0x0,
    [⟨0, 16, .ro, []⟩, ⟨16, 16, .rc, []⟩]⟩,
  /- BRK_CYC_BG -/ ⟨0x2000018, 96, 0x10000, 1, 0x0, 32, 0x0,
    [⟨0, 16, .ro, []⟩, ⟨16, 16, .rc, []⟩]⟩,
  /- BRK_PORT -/ ⟨0x200001C, 96, 0x10000, 1, 0x0, 32, 0x0,
    [⟨0, 8, .rw, []⟩, ⟨16, 16, .rc, []⟩]⟩,
  /- BRK_TN -/ ⟨0x2000020, 96, 0x10000, 1, 0x0, 32, 0x0,
    [⟨0, 32, .ro, []⟩]⟩,
  /- BRK_PC -/ ⟨0x2000024, 96, 0x10000, 1, 0x0, 32, 0x0,
    [⟨0, 15, .ro, []⟩, ⟨16, 15, .ro, []⟩]⟩,
  /- BRK_TRIG -/ ⟨0x2000100, 96, 0x10000, 16, 0x4, 32, 0x0,
    [⟨0, 15, .rw, []⟩, ⟨30, 1, .rw, []⟩, ⟨31, 1, .rw, []⟩]⟩,
  /- BRK_IO -/ ⟨0x2000400, 96, 0x10000, 256, 0x4, 32, 0x0,
    [⟨4, 12, .rw, []⟩, ⟨16, 11, .rw, []⟩, ⟨30, 1, .rw, []⟩, ⟨31, 1, .rw, []⟩]⟩]

def patchRegs : List RegDef := [
  /- PATCH_STAT -/ ⟨0x1000, 1, 0x0, 1, 0x0, 32, 0x0,
    [⟨0, 1, .w1c, []⟩, ⟨1, 1, .w1c, []⟩, ⟨2, 1, .ro, []⟩, ⟨3, 1, .ro, []⟩, ⟨16, 12, .ro, []⟩]⟩,
  /- PATCH_SAT_CNT -/ ⟨0x1004, 1, 0x0, 1, 0x0, 32, 0x0,
    [⟨0, 16, .rc, []⟩, ⟨16, 16, .rc, []⟩]⟩,
  /- PATCH_EVT_CNT -/ ⟨0x1008, 1, 0x0, 1, 0x0, 32, 0x0,
    [⟨0, 16, .rc, []⟩, ⟨16, 16, .rc, []⟩]⟩,
  /- PATCH_ECC_ADDR -/ ⟨0x100C, 1, 0x0, 1, 0x0, 32, 0x0,
    [⟨0, 14, .ro, []⟩]⟩,
  /- PATCH_RAMP -/ ⟨0x1100, 16, 0x4, 1, 0x0, 32, 0x28,
    [⟨0, 12, .rw, [(1, 4000)]⟩]⟩,
  /- PATCH_GEN_CFG -/ ⟨0x1200, 63, 0x10, 1, 0x0, 32, 0x80000000,
    [⟨0, 2, .rw, []⟩, ⟨16, 16, .rw, [(0, 0), (32768, 65535)]⟩]⟩,
  /- PATCH_GEN_FREQ -/ ⟨0x1204, 63, 0x10, 1, 0x0, 32, 0x1,
    [⟨0, 32, .rw, []⟩]⟩,
  /- PATCH_GEN_PHASE -/ ⟨0x1208, 63, 0x10, 1, 0x0, 32, 0x0,
    [⟨0, 32, .rw, []⟩]⟩,
  /- METER_CFG -/ ⟨0x2000, 256, 0x4, 1, 0x0, 32, 0x7,
    [⟨0, 4, .rw, [(0, 12)]⟩]⟩,
  /- METER_PEAK -/ ⟨0x2400, 256, 0x4, 1, 0x0, 32, 0x8000,
    [⟨0, 16, .rc, []⟩, ⟨16, 16, .rc, []⟩]⟩,
  /- METER_RMS -/ ⟨0x2800, 256, 0x4, 1, 0x0, 32, 0x8000,
    [⟨0, 16, .ro, []⟩]⟩,
  /- PATCH_ENTRY -/ ⟨0x1000000, 16384, 0x8, 1, 0x0, 64, 0x0,
    [⟨0, 12, .rw, []⟩, ⟨12, 12, .rw, []⟩, ⟨24, 16, .rw, []⟩, ⟨40, 4, .rw, []⟩, ⟨44, 1, .rw, []⟩, ⟨45, 1, .rw, []⟩, ⟨46, 1, .rw, []⟩, ⟨47, 1, .rw, []⟩]⟩]

def dynRegs : List RegDef := [
  /- DYN_STAT -/ ⟨0x70000, 1, 0x0, 1, 0x0, 32, 0x0,
    [⟨0, 1, .w1c, []⟩, ⟨1, 1, .w1c, []⟩, ⟨2, 1, .ro, []⟩, ⟨3, 1, .w1c, []⟩]⟩,
  /- DYN_POOL -/ ⟨0x70004, 1, 0x0, 1, 0x0, 32, 0x8000,
    [⟨0, 16, .ro, []⟩, ⟨16, 16, .ro, []⟩]⟩,
  /- DYN_CNT -/ ⟨0x70008, 1, 0x0, 1, 0x0, 32, 0x0,
    [⟨0, 16, .rc, []⟩, ⟨16, 16, .rc, []⟩]⟩,
  /- DYN_ECC_ADDR -/ ⟨0x7000C, 1, 0x0, 1, 0x0, 32, 0x0,
    [⟨0, 25, .ro, []⟩]⟩,
  /- DYN_INST_CFG0 -/ ⟨0x70100, 1280, 0x10, 1, 0x0, 32, 0x0,
    [⟨0, 12, .rw, [(0, 3391)]⟩, ⟨12, 12, .rw, [(0, 3455)]⟩, ⟨27, 1, .rw, []⟩, ⟨28, 2, .rw, [(0, 2)]⟩, ⟨30, 1, .rw, []⟩, ⟨31, 1, .rw, []⟩]⟩,
  /- DYN_INST_CFG1 -/ ⟨0x70104, 1280, 0x10, 1, 0x0, 32, 0x0,
    [⟨0, 8, .rw, []⟩, ⟨8, 8, .rw, []⟩, ⟨16, 16, .rw, [(0, 32767), (32769, 65535)]⟩]⟩,
  /- DYN_INST_CFG2 -/ ⟨0x70108, 1280, 0x10, 1, 0x0, 32, 0x6403E8,
    [⟨0, 16, .rw, [(50, 50000)]⟩, ⟨16, 16, .rw, [(5, 50000)]⟩]⟩,
  /- DYN_INST_CFG3 -/ ⟨0x7010C, 1280, 0x10, 1, 0x0, 32, 0xA,
    [⟨0, 8, .rw, [(1, 255)]⟩, ⟨8, 8, .rw, []⟩, ⟨16, 16, .rw, [(0, 12288)]⟩]⟩,
  /- DYN_INST_GR -/ ⟨0x75100, 640, 0x4, 1, 0x0, 32, 0x0,
    [⟨0, 16, .ro, []⟩, ⟨16, 16, .ro, []⟩]⟩,
  /- DYN_LIM_CFG -/ ⟨0x75B00, 1344, 0x8, 1, 0x0, 32, 0x0,
    [⟨0, 16, .rw, [(0, 0), (32769, 65535)]⟩, ⟨31, 1, .rw, []⟩]⟩,
  /- DYN_LIM_TIME -/ ⟨0x75B04, 1344, 0x8, 1, 0x0, 32, 0x1F4,
    [⟨0, 16, .rw, [(50, 50000)]⟩, ⟨16, 16, .rw, [(0, 1000)]⟩]⟩,
  /- DYN_LIM_GR -/ ⟨0x78500, 672, 0x4, 1, 0x0, 32, 0x0,
    [⟨0, 16, .ro, []⟩, ⟨16, 16, .ro, []⟩]⟩,
  /- DYN_DLY_CFG -/ ⟨0x79000, 3392, 0x4, 1, 0x0, 32, 0x0,
    [⟨0, 23, .rw, []⟩, ⟨23, 4, .rw, []⟩, ⟨30, 1, .rw, []⟩, ⟨31, 1, .rw, []⟩]⟩,
  /- DYN_DLY_STAT -/ ⟨0x7C800, 3392, 0x4, 1, 0x0, 32, 0x0,
    [⟨0, 16, .ro, []⟩, ⟨30, 1, .ro, []⟩, ⟨31, 1, .ro, []⟩]⟩]

def netRegs : List RegDef := [
  /- NET_PORT_CFG -/ ⟨0x40000, 4, 0x4000, 1, 0x0, 32, 0x0,
    [⟨0, 1, .rw, []⟩, ⟨1, 2, .rw, [(0, 2)]⟩, ⟨3, 2, .rw, [(0, 2)]⟩, ⟨5, 1, .rw, []⟩, ⟨6, 1, .rw, []⟩, ⟨8, 8, .rw, []⟩]⟩,
  /- NET_PORT_STAT -/ ⟨0x40004, 4, 0x4000, 1, 0x0, 32, 0x0,
    [⟨0, 1, .ro, []⟩, ⟨1, 2, .ro, []⟩, ⟨3, 1, .ro, []⟩, ⟨4, 1, .w1c, []⟩]⟩,
  /- NET_CBS -/ ⟨0x40008, 4, 0x4000, 1, 0x0, 32, 0x2EE,
    [⟨0, 10, .rw, [(1, 1000)]⟩]⟩,
  /- NET_PCP_MAP -/ ⟨0x4000C, 4, 0x4000, 1, 0x0, 32, 0xFA50,
    [⟨0, 16, .rw, []⟩]⟩,
  /- NET_DSCP_MAP -/ ⟨0x40010, 4, 0x4000, 4, 0x4, 32, 0x0,
    [⟨0, 32, .rw, []⟩]⟩,
  /- NET_CNT -/ ⟨0x40040, 4, 0x4000, 16, 0x4, 32, 0x0,
    [⟨0, 32, .rc, []⟩]⟩,
  /- NET_SW_CFG -/ ⟨0x41000, 1, 0x0, 1, 0x0, 32, 0x1E07,
    [⟨0, 1, .rw, []⟩, ⟨1, 1, .rw, []⟩, ⟨2, 1, .rw, []⟩, ⟨8, 8, .rw, [(1, 255)]⟩]⟩,
  /- NET_SW_STAT -/ ⟨0x41004, 1, 0x0, 1, 0x0, 32, 0x0,
    [⟨0, 13, .ro, []⟩, ⟨16, 11, .ro, []⟩]⟩,
  /- NET_SW_MAC -/ ⟨0x41008, 1, 0x0, 1, 0x0, 64, 0x0,
    [⟨0, 48, .ro, []⟩]⟩,
  /- NET_RXR_CFG -/ ⟨0x41100, 8, 0x10, 1, 0x0, 32, 0x0,
    [⟨0, 1, .rw, []⟩, ⟨8, 4, .rw, [(4, 12)]⟩, ⟨16, 16, .rw, []⟩]⟩,
  /- NET_RXR_PTR -/ ⟨0x41104, 8, 0x10, 1, 0x0, 32, 0x0,
    [⟨0, 12, .rw, []⟩, ⟨16, 12, .ro, []⟩]⟩,
  /- NET_RXR_DROP -/ ⟨0x41108, 8, 0x10, 1, 0x0, 32, 0x0,
    [⟨0, 32, .rc, []⟩]⟩,
  /- NET_TXR_CFG -/ ⟨0x41200, 8, 0x10, 1, 0x0, 32, 0x0,
    [⟨0, 1, .rw, []⟩, ⟨8, 4, .rw, [(4, 12)]⟩, ⟨16, 16, .rw, []⟩]⟩,
  /- NET_TXR_PTR -/ ⟨0x41204, 8, 0x10, 1, 0x0, 32, 0x0,
    [⟨0, 12, .ro, []⟩, ⟨16, 12, .rw, []⟩]⟩]

def strRegs : List RegDef := [
  /- STR_STAT -/ ⟨0x50000, 1, 0x0, 1, 0x0, 32, 0x0,
    [⟨0, 9, .ro, []⟩, ⟨16, 9, .ro, []⟩]⟩,
  /- STR_MON -/ ⟨0x50004, 1, 0x0, 1, 0x0, 32, 0x0,
    [⟨0, 8, .rw, []⟩, ⟨31, 1, .rw, []⟩]⟩,
  /- STR_TX_CFG -/ ⟨0x51000, 256, 0x20, 1, 0x0, 32, 0x0,
    [⟨0, 10, .rw, []⟩, ⟨13, 2, .rw, []⟩, ⟨15, 7, .rw, []⟩, ⟨22, 6, .rw, []⟩, ⟨28, 2, .rw, [(0, 2)]⟩, ⟨30, 1, .rw, []⟩, ⟨31, 1, .rw, []⟩]⟩,
  /- STR_TX_DST -/ ⟨0x51004, 256, 0x20, 1, 0x0, 32, 0x0,
    [⟨0, 32, .rw, []⟩]⟩,
  /- STR_TX_UDP -/ ⟨0x51008, 256, 0x20, 1, 0x0, 32, 0x0,
    [⟨0, 16, .rw, []⟩, ⟨16, 16, .rw, []⟩]⟩,
  /- STR_TX_TAG -/ ⟨0x5100C, 256, 0x20, 1, 0x0, 32, 0x0,
    [⟨0, 7, .rw, []⟩, ⟨8, 6, .rw, []⟩, ⟨16, 12, .rw, []⟩, ⟨28, 3, .rw, []⟩, ⟨31, 1, .rw, []⟩]⟩,
  /- STR_TX_SSRC -/ ⟨0x51010, 256, 0x20, 1, 0x0, 32, 0x0,
    [⟨0, 32, .rw, []⟩]⟩,
  /- STR_TX_TSOFS -/ ⟨0x51014, 256, 0x20, 1, 0x0, 32, 0x0,
    [⟨0, 32, .rw, []⟩]⟩,
  /- STR_TX_CNT -/ ⟨0x51018, 256, 0x20, 1, 0x0, 32, 0x0,
    [⟨0, 16, .ro, []⟩]⟩,
  /- STR_RX_CFG -/ ⟨0x54000, 256, 0x80, 1, 0x0, 32, 0x0,
    [⟨0, 10, .rw, []⟩, ⟨15, 7, .rw, []⟩, ⟨22, 6, .rw, []⟩, ⟨28, 2, .rw, [(0, 2)]⟩, ⟨30, 1, .rw, []⟩, ⟨31, 1, .rw, []⟩]⟩,
  /- STR_RX_TSOFS -/ ⟨0x54004, 256, 0x80, 1, 0x0, 32, 0x0,
    [⟨0, 32, .rw, []⟩]⟩,
  /- STR_RX_MISC -/ ⟨0x54008, 256, 0x80, 1, 0x0, 32, 0x0,
    [⟨0, 7, .rw, []⟩, ⟨7, 1, .rw, []⟩, ⟨8, 7, .rw, []⟩]⟩,
  /- STR_RX_STAT -/ ⟨0x5400C, 256, 0x80, 1, 0x0, 32, 0x0,
    [⟨0, 1, .ro, []⟩, ⟨8, 2, .ro, []⟩, ⟨12, 4, .ro, []⟩, ⟨16, 16, .ro, []⟩]⟩,
  /- STR_RX_DAYMARK -/ ⟨0x54010, 256, 0x80, 1, 0x0, 32, 0x0,
    [⟨0, 32, .ro, []⟩]⟩,
  /- STR_RX_SLACK -/ ⟨0x54014, 256, 0x80, 1, 0x0, 32, 0xFFFF0000,
    [⟨0, 16, .ro, []⟩, ⟨16, 16, .rc, []⟩]⟩,
  /- STR_RX_CNT0 -/ ⟨0x54018, 256, 0x80, 1, 0x0, 32, 0x0,
    [⟨0, 16, .rc, []⟩, ⟨16, 16, .rc, []⟩]⟩,
  /- STR_RX_CNT1 -/ ⟨0x5401C, 256, 0x80, 1, 0x0, 32, 0x0,
    [⟨0, 8, .rc, []⟩, ⟨8, 8, .rc, []⟩, ⟨16, 8, .rc, []⟩, ⟨24, 8, .rc, []⟩]⟩,
  /- STR_RX_CNT2 -/ ⟨0x54020, 256, 0x80, 1, 0x0, 32, 0x0,
    [⟨8, 8, .rc, []⟩, ⟨16, 8, .rc, []⟩, ⟨24, 8, .rc, []⟩]⟩,
  /- STR_RX_LEG_CFG -/ ⟨0x54040, 256, 0x80, 4, 0x10, 32, 0x0,
    [⟨0, 16, .rw, []⟩, ⟨30, 1, .rw, []⟩, ⟨31, 1, .rw, []⟩]⟩,
  /- STR_RX_LEG_GRP -/ ⟨0x54044, 256, 0x80, 4, 0x10, 32, 0x0,
    [⟨0, 32, .rw, []⟩]⟩,
  /- STR_RX_LEG_SRC -/ ⟨0x54048, 256, 0x80, 4, 0x10, 32, 0x0,
    [⟨0, 32, .rw, []⟩]⟩,
  /- STR_RX_LEG_LATCH -/ ⟨0x5404C, 256, 0x80, 4, 0x10, 32, 0x0,
    [⟨0, 32, .ro, []⟩]⟩]

def tmsRegs : List RegDef := [
  /- TMS_CTL -/ ⟨0x30000, 1, 0x0, 1, 0x0, 32, 0x3E86400,
    [⟨8, 8, .rw, [(1, 255)]⟩, ⟨16, 16, .rw, [(1, 65535)]⟩]⟩,
  /- TMS_STAT -/ ⟨0x30004, 1, 0x0, 1, 0x0, 32, 0x0,
    [⟨0, 4, .ro, []⟩, ⟨4, 4, .ro, []⟩, ⟨8, 1, .ro, []⟩, ⟨9, 1, .w1c, []⟩, ⟨10, 2, .ro, []⟩, ⟨12, 1, .ro, []⟩]⟩,
  /- TMS_STEP_CNT -/ ⟨0x30008, 1, 0x0, 1, 0x0, 32, 0x0,
    [⟨0, 16, .rc, []⟩, ⟨16, 16, .rc, []⟩]⟩,
  /- TMS_CMD -/ ⟨0x3000C, 1, 0x0, 1, 0x0, 32, 0x0,
    [⟨0, 2, .wo, []⟩]⟩,
  /- TMS_NOW_NS -/ ⟨0x30010, 1, 0x0, 1, 0x0, 64, 0x0,
    [⟨16, 16, .ro, []⟩, ⟨32, 32, .ro, []⟩]⟩,
  /- TMS_NOW_SEC -/ ⟨0x30018, 1, 0x0, 1, 0x0, 64, 0x0,
    [⟨0, 48, .ro, []⟩]⟩,
  /- TMS_NOW_WNS -/ ⟨0x30020, 1, 0x0, 1, 0x0, 64, 0x0,
    [⟨0, 64, .ro, []⟩]⟩,
  /- TMS_NOW_N -/ ⟨0x30028, 1, 0x0, 1, 0x0, 64, 0x0,
    [⟨0, 64, .ro, []⟩]⟩,
  /- TMS_T0 -/ ⟨0x30030, 1, 0x0, 1, 0x0, 64, 0x0,
    [⟨0, 64, .ro, []⟩]⟩,
  /- TMS_T0_SUB -/ ⟨0x30038, 1, 0x0, 1, 0x0, 32, 0x0,
    [⟨0, 16, .ro, []⟩]⟩,
  /- TMS_PTP_CFG -/ ⟨0x30100, 2, 0x40, 1, 0x0, 32, 0xFEFE,
    [⟨0, 8, .rw, []⟩, ⟨8, 8, .rw, []⟩, ⟨16, 8, .rw, [(0, 127)]⟩, ⟨30, 1, .rw, []⟩, ⟨31, 1, .rw, []⟩]⟩,
  /- TMS_PTP_QUAL -/ ⟨0x30104, 2, 0x40, 1, 0x0, 32, 0xF8FEFFFF,
    [⟨0, 16, .rw, []⟩, ⟨16, 8, .rw, []⟩, ⟨24, 8, .rw, []⟩]⟩,
  /- TMS_PTP_INTV -/ ⟨0x30108, 2, 0x40, 1, 0x0, 32, 0xFD010300,
    [⟨0, 8, .rw, [(0, 5), (252, 255)]⟩, ⟨8, 8, .rw, [(2, 10)]⟩, ⟨16, 8, .rw, [(0, 4), (253, 255)]⟩, ⟨24, 8, .rw, [(0, 1), (252, 255)]⟩]⟩,
  /- TMS_PTP_STAT -/ ⟨0x3010C, 2, 0x40, 1, 0x0, 32, 0x0,
    [⟨0, 4, .ro, []⟩, ⟨4, 4, .ro, []⟩, ⟨8, 8, .ro, []⟩, ⟨16, 8, .ro, []⟩]⟩,
  /- TMS_PTP_GMID -/ ⟨0x30110, 2, 0x40, 1, 0x0, 64, 0x0,
    [⟨0, 64, .ro, []⟩]⟩,
  /- TMS_PTP_OFS -/ ⟨0x30118, 2, 0x40, 1, 0x0, 64, 0x0,
    [⟨0, 64, .ro, []⟩]⟩,
  /- TMS_PTP_DELAY -/ ⟨0x30120, 2, 0x40, 1, 0x0, 32, 0x0,
    [⟨0, 32, .ro, []⟩]⟩,
  /- TMS_PTP_RATE -/ ⟨0x30124, 2, 0x40, 1, 0x0, 32, 0x0,
    [⟨0, 32, .ro, []⟩]⟩,
  /- TMS_PTP_UTC -/ ⟨0x30128, 2, 0x40, 1, 0x0, 32, 0x0,
    [⟨0, 16, .ro, []⟩, ⟨16, 1, .ro, []⟩, ⟨17, 1, .ro, []⟩, ⟨18, 1, .ro, []⟩, ⟨19, 1, .ro, []⟩, ⟨20, 1, .ro, []⟩]⟩,
  /- TMS_PTP_CNT -/ ⟨0x3012C, 2, 0x40, 1, 0x0, 32, 0x0,
    [⟨0, 16, .rc, []⟩, ⟨16, 16, .rc, []⟩]⟩,
  /- TMS_PULSE_CFG -/ ⟨0x30400, 8, 0x20, 1, 0x0, 32, 0x0,
    [⟨0, 28, .rw, [(1, 268435455)]⟩, ⟨28, 1, .rw, []⟩, ⟨29, 1, .rw, []⟩, ⟨30, 1, .rw, []⟩, ⟨31, 1, .rw, []⟩]⟩,
  /- TMS_PULSE_STAT -/ ⟨0x30404, 8, 0x20, 1, 0x0, 32, 0x0,
    [⟨0, 1, .ro, []⟩, ⟨1, 1, .w1c, []⟩, ⟨2, 1, .w1c, []⟩, ⟨16, 16, .rc, []⟩]⟩,
  /- TMS_PULSE_START -/ ⟨0x30408, 8, 0x20, 1, 0x0, 64, 0x0,
    [⟨0, 64, .rw, []⟩]⟩,
  /- TMS_PULSE_START_SUB -/ ⟨0x30410, 8, 0x20, 1, 0x0, 32, 0x0,
    [⟨0, 16, .rw, []⟩]⟩,
  /- TMS_PULSE_PERIOD -/ ⟨0x30418, 8, 0x20, 1, 0x0, 64, 0x0,
    [⟨0, 16, .rw, []⟩, ⟨16, 48, .rw, []⟩]⟩,
  /- TMS_CAP_CFG -/ ⟨0x30800, 16, 0x20, 1, 0x0, 32, 0x0,
    [⟨0, 8, .rw, []⟩, ⟨29, 2, .rw, [(0, 2)]⟩, ⟨31, 1, .rw, []⟩]⟩,
  /- TMS_CAP_STAT -/ ⟨0x30804, 16, 0x20, 1, 0x0, 32, 0x0,
    [⟨0, 4, .ro, []⟩, ⟨8, 1, .wo, []⟩, ⟨16, 16, .rc, []⟩]⟩,
  /- TMS_CAP_WNS -/ ⟨0x30808, 16, 0x20, 1, 0x0, 64, 0x0,
    [⟨0, 64, .ro, []⟩]⟩,
  /- TMS_CAP_SUB -/ ⟨0x30810, 16, 0x20, 1, 0x0, 32, 0x0,
    [⟨0, 16, .ro, []⟩, ⟨28, 1, .ro, []⟩, ⟨29, 1, .ro, []⟩, ⟨30, 1, .ro, []⟩, ⟨31, 1, .ro, []⟩]⟩]

def clkRegs : List RegDef := [
  /- CLK_STAT -/ ⟨0x20000, 1, 0x0, 1, 0x0, 32, 0x0,
    [⟨0, 1, .ro, []⟩, ⟨1, 1, .ro, []⟩, ⟨2, 1, .ro, []⟩, ⟨3, 1, .ro, []⟩]⟩,
  /- CLK_RATE -/ ⟨0x20004, 1, 0x0, 1, 0x0, 32, 0x0,
    [⟨0, 32, .ro, []⟩]⟩,
  /- CLK_MODEL -/ ⟨0x20008, 1, 0x0, 1, 0x0, 32, 0x0,
    [⟨0, 32, .ro, []⟩]⟩,
  /- CLK_MODEL_AGE -/ ⟨0x2000C, 1, 0x0, 1, 0x0, 32, 0x0,
    [⟨0, 32, .ro, []⟩]⟩,
  /- CLK_HOLD_TIME -/ ⟨0x20010, 1, 0x0, 1, 0x0, 32, 0x0,
    [⟨0, 32, .ro, []⟩]⟩,
  /- CLK_REALIGN -/ ⟨0x20018, 1, 0x0, 1, 0x0, 64, 0x0,
    [⟨0, 1, .wo, []⟩, ⟨1, 2, .ro, []⟩, ⟨3, 61, .rw, []⟩]⟩,
  /- CLK_CNT -/ ⟨0x20020, 1, 0x0, 1, 0x0, 32, 0x0,
    [⟨0, 16, .rc, []⟩, ⟨16, 16, .rc, []⟩]⟩]

def refRegs : List RegDef := [
  /- REF_SEL_CTL -/ ⟨0x28000, 1, 0x0, 1, 0x0, 32, 0x518,
    [⟨0, 8, .rw, [(1, 255)]⟩, ⟨8, 8, .rw, [(1, 255)]⟩, ⟨28, 3, .rw, [(0, 5)]⟩, ⟨31, 1, .rw, []⟩]⟩,
  /- REF_SEL_STAT -/ ⟨0x28004, 1, 0x0, 1, 0x0, 32, 0x777,
    [⟨0, 3, .ro, []⟩, ⟨4, 3, .ro, []⟩, ⟨7, 1, .ro, []⟩, ⟨8, 3, .ro, []⟩, ⟨11, 1, .ro, []⟩, ⟨16, 6, .ro, []⟩, ⟨24, 6, .ro, []⟩]⟩,
  /- REF_EVT_CNT -/ ⟨0x28008, 1, 0x0, 1, 0x0, 32, 0x0,
    [⟨0, 8, .rc, []⟩, ⟨8, 8, .rc, []⟩, ⟨16, 8, .rc, []⟩, ⟨24, 8, .rc, []⟩]⟩,
  /- REF_CFG -/ ⟨0x28100, 6, 0x20, 1, 0x0, 32, 0xFF0A1410,
    [⟨0, 3, .rw, []⟩, ⟨4, 2, .rw, [(0, 2)]⟩, ⟨8, 8, .rw, [(1, 50)]⟩, ⟨16, 8, .rw, []⟩, ⟨24, 8, .rw, []⟩]⟩,
  /- REF_STAT -/ ⟨0x28104, 6, 0x20, 1, 0x0, 32, 0x0,
    [⟨0, 1, .ro, []⟩, ⟨1, 1, .ro, []⟩, ⟨2, 1, .ro, []⟩, ⟨3, 1, .ro, []⟩, ⟨4, 1, .w1c, []⟩, ⟨16, 16, .ro, []⟩]⟩,
  /- REF_FREQ -/ ⟨0x28108, 6, 0x20, 1, 0x0, 32, 0x0,
    [⟨0, 32, .ro, []⟩]⟩,
  /- REF_BIAS -/ ⟨0x28110, 6, 0x20, 1, 0x0, 64, 0x0,
    [⟨0, 64, .ro, []⟩]⟩,
  /- REF_PHASE -/ ⟨0x28118, 6, 0x20, 1, 0x0, 32, 0x0,
    [⟨0, 32, .ro, []⟩]⟩,
  /- REF_CNT -/ ⟨0x2811C, 6, 0x20, 1, 0x0, 32, 0x0,
    [⟨0, 16, .rc, []⟩, ⟨16, 16, .rc, []⟩]⟩]

def pairRegs : List RegDef := [
  /- PAIR_CFG -/ ⟨0x60000, 1, 0x0, 1, 0x0, 32, 0x0,
    [⟨0, 1, .rw, []⟩, ⟨2, 1, .rw, []⟩, ⟨3, 1, .rw, []⟩, ⟨4, 1, .rw, []⟩, ⟨8, 8, .rw, []⟩, ⟨16, 8, .rw, []⟩]⟩,
  /- PAIR_TIMING -/ ⟨0x60004, 1, 0x0, 1, 0x0, 32, 0xC80310,
    [⟨0, 8, .rw, [(1, 255)]⟩, ⟨8, 8, .rw, [(2, 64)]⟩, ⟨16, 16, .rw, [(10, 5000)]⟩]⟩,
  /- PAIR_FLASH_PORT -/ ⟨0x60008, 1, 0x0, 1, 0x0, 32, 0xB7FD,
    [⟨0, 16, .rw, [(1, 65534)]⟩]⟩,
  /- PAIR_PARTNER_ADDR -/ ⟨0x60010, 2, 0x4, 1, 0x0, 32, 0x0,
    [⟨0, 32, .rw, []⟩]⟩,
  /- PAIR_STAT -/ ⟨0x60020, 1, 0x0, 1, 0x0, 32, 0x0,
    [⟨0, 4, .ro, []⟩, ⟨4, 1, .ro, []⟩, ⟨8, 1, .w1c, []⟩, ⟨9, 1, .ro, []⟩, ⟨10, 2, .ro, []⟩, ⟨12, 1, .ro, []⟩, ⟨13, 1, .ro, []⟩, ⟨14, 1, .ro, []⟩, ⟨15, 1, .ro, []⟩, ⟨24, 2, .ro, []⟩]⟩,
  /- PAIR_CLAIM -/ ⟨0x60024, 1, 0x0, 1, 0x0, 32, 0x0,
    [⟨0, 16, .ro, []⟩, ⟨16, 16, .ro, []⟩]⟩,
  /- PAIR_EPOCH -/ ⟨0x60028, 1, 0x0, 1, 0x0, 32, 0x0,
    [⟨0, 32, .ro, []⟩]⟩,
  /- PAIR_PARTNER_DTAG -/ ⟨0x6002C, 1, 0x0, 1, 0x0, 32, 0x0,
    [⟨0, 32, .ro, []⟩]⟩,
  /- PAIR_HO -/ ⟨0x60030, 1, 0x0, 1, 0x0, 64, 0x0,
    [⟨0, 64, .ro, []⟩]⟩,
  /- PAIR_DAYMARK -/ ⟨0x60040, 8, 0x4, 1, 0x0, 32, 0x0,
    [⟨0, 32, .ro, []⟩]⟩,
  /- PAIR_DIG_STAT -/ ⟨0x60060, 1, 0x0, 1, 0x0, 32, 0x0,
    [⟨8, 8, .ro, []⟩, ⟨16, 16, .ro, []⟩]⟩,
  /- PAIR_DIG_GRP -/ ⟨0x60064, 1, 0x0, 1, 0x0, 32, 0x0,
    [⟨0, 32, .ro, []⟩]⟩,
  /- PAIR_DIG_BLK -/ ⟨0x60068, 1, 0x0, 1, 0x0, 64, 0x0,
    [⟨0, 64, .ro, []⟩]⟩,
  /- PAIR_DIG_CNT -/ ⟨0x60070, 1, 0x0, 1, 0x0, 32, 0x0,
    [⟨0, 16, .rc, []⟩, ⟨16, 16, .rc, []⟩]⟩,
  /- PAIR_DIG_MASK -/ ⟨0x60080, 32, 0x4, 1, 0x0, 32, 0x0,
    [⟨0, 32, .rw, []⟩]⟩,
  /- PAIR_WC_CFG -/ ⟨0x60100, 1, 0x0, 1, 0x0, 32, 0xC8,
    [⟨0, 8, .rw, [(1, 250)]⟩]⟩,
  /- PAIR_WC_CTL -/ ⟨0x60104, 1, 0x0, 1, 0x0, 32, 0x0,
    [⟨0, 1, .wo, []⟩]⟩,
  /- PAIR_WC_STAT -/ ⟨0x60108, 1, 0x0, 1, 0x0, 32, 0x0,
    [⟨0, 16, .ro, []⟩, ⟨16, 16, .ro, []⟩]⟩,
  /- PAIR_WC_CNT -/ ⟨0x6010C, 1, 0x0, 1, 0x0, 32, 0x0,
    [⟨0, 16, .rc, []⟩, ⟨16, 8, .rc, []⟩, ⟨24, 8, .rc, []⟩]⟩,
  /- PAIR_CKPT_CFG -/ ⟨0x60200, 1, 0x0, 1, 0x0, 32, 0x0,
    [⟨0, 11, .rw, [(0, 1024)]⟩, ⟨16, 10, .rw, []⟩]⟩,
  /- PAIR_CKPT_N -/ ⟨0x60208, 1, 0x0, 1, 0x0, 64, 0x0,
    [⟨0, 64, .ro, []⟩]⟩,
  /- PAIR_RELIEF -/ ⟨0x60210, 1, 0x0, 1, 0x0, 32, 0xFFFF0F,
    [⟨0, 4, .ro, []⟩, ⟨8, 8, .ro, []⟩, ⟨16, 8, .ro, []⟩, ⟨24, 1, .ro, []⟩]⟩,
  /- PAIR_RELIEF_CTL -/ ⟨0x60214, 1, 0x0, 1, 0x0, 32, 0x0,
    [⟨0, 7, .rw, [(0, 91)]⟩, ⟨31, 1, .wo, []⟩]⟩,
  /- PAIR_CNT -/ ⟨0x60220, 1, 0x0, 1, 0x0, 32, 0x0,
    [⟨0, 8, .rc, []⟩, ⟨8, 8, .rc, []⟩, ⟨16, 16, .rc, []⟩]⟩,
  /- PAIR_CHSEL -/ ⟨0x60400, 64, 0x4, 1, 0x0, 32, 0x0,
    [⟨0, 6, .rw, []⟩, ⟨10, 10, .rw, []⟩, ⟨20, 10, .rw, []⟩, ⟨31, 1, .rw, []⟩]⟩,
  /- PAIR_CHSEL_ALT -/ ⟨0x60600, 64, 0x8, 1, 0x0, 64, 0x0,
    [⟨0, 64, .ro, []⟩]⟩,
  /- PAIR_CHSEL_CNT -/ ⟨0x60800, 64, 0x4, 1, 0x0, 32, 0x0,
    [⟨0, 16, .rc, []⟩]⟩]

def ampRegs : List RegDef := [
  /- AMP_STAT -/ ⟨0x80000, 1, 0x0, 1, 0x0, 32, 0x0,
    [⟨0, 1, .ro, []⟩, ⟨1, 1, .ro, []⟩, ⟨2, 1, .ro, []⟩, ⟨24, 8, .ro, []⟩]⟩,
  /- AMP_DIAG_CTL -/ ⟨0x80008, 1, 0x0, 1, 0x0, 32, 0x0,
    [⟨0, 1, .wo, []⟩, ⟨1, 2, .rw, [(0, 2)]⟩, ⟨30, 2, .ro, []⟩]⟩,
  /- AMP_DIAG_MASK -/ ⟨0x80010, 1, 0x0, 1, 0x0, 64, 0x0,
    [⟨0, 64, .rw, []⟩]⟩,
  /- AMP_SWEEP -/ ⟨0x80040, 16, 0x8, 1, 0x0, 64, 0x0,
    [⟨0, 16, .rw, []⟩, ⟨32, 16, .rw, [(0, 0), (32769, 65535)]⟩, ⟨48, 8, .rw, [(20, 255)]⟩, ⟨62, 1, .rw, []⟩, ⟨63, 1, .rw, []⟩]⟩,
  /- AMP_RAIL_CFG -/ ⟨0x80100, 8, 0x10, 1, 0x0, 32, 0x7D00001,
    [⟨0, 1, .rw, []⟩, ⟨16, 16, .rw, []⟩]⟩,
  /- AMP_RAIL_LIM -/ ⟨0x80104, 8, 0x10, 1, 0x0, 32, 0x0,
    [⟨0, 16, .rw, []⟩, ⟨16, 16, .rw, []⟩]⟩,
  /- AMP_RAIL_V -/ ⟨0x80108, 8, 0x10, 1, 0x0, 32, 0x0,
    [⟨0, 16, .ro, []⟩, ⟨16, 16, .rc, []⟩]⟩,
  /- AMP_RAIL_STAT -/ ⟨0x8010C, 8, 0x10, 1, 0x0, 32, 0x0,
    [⟨0, 1, .w1c, []⟩, ⟨1, 1, .ro, []⟩, ⟨2, 1, .ro, []⟩, ⟨3, 1, .ro, []⟩]⟩,
  /- AMP_CH_CFG -/ ⟨0x81000, 64, 0x80, 1, 0x0, 32, 0x50000006,
    [⟨0, 6, .rw, []⟩, ⟨11, 4, .rw, []⟩, ⟨15, 3, .rw, []⟩, ⟨18, 2, .rw, []⟩, ⟨20, 6, .rw, [(0, 62)]⟩, ⟨26, 1, .rw, []⟩, ⟨27, 1, .rw, []⟩, ⟨28, 1, .rw, []⟩, ⟨29, 1, .rw, []⟩, ⟨30, 1, .rw, []⟩, ⟨31, 1, .rw, []⟩]⟩,
  /- AMP_CH_SCALE -/ ⟨0x81004, 64, 0x80, 1, 0x0, 32, 0x3E80800,
    [⟨0, 16, .rw, [(1, 65535)]⟩, ⟨16, 16, .rw, [(1, 65535)]⟩]⟩,
  /- AMP_CH_SNS_SCALE -/ ⟨0x81008, 64, 0x80, 1, 0x0, 32, 0x7D00FA0,
    [⟨0, 16, .rw, [(1, 65535)]⟩, ⟨16, 16, .rw, [(1, 65535)]⟩]⟩,
  /- AMP_CH_PROT -/ ⟨0x8100C, 64, 0x80, 1, 0x0, 32, 0x325818,
    [⟨0, 5, .rw, [(1, 31)]⟩, ⟨11, 5, .rw, [(4, 16)]⟩, ⟨16, 16, .rw, [(1, 65535)]⟩]⟩,
  /- AMP_CH_TIME -/ ⟨0x81010, 64, 0x80, 1, 0x0, 32, 0x50A1414,
    [⟨0, 8, .rw, [(1, 255)]⟩, ⟨8, 8, .rw, [(1, 255)]⟩, ⟨16, 8, .rw, [(1, 255)]⟩, ⟨24, 8, .rw, []⟩]⟩,
  /- AMP_CH_RAILSAG -/ ⟨0x81014, 64, 0x80, 1, 0x0, 32, 0xF3330014,
    [⟨0, 16, .rw, []⟩, ⟨16, 16, .rw, []⟩]⟩,
  /- AMP_CH_COIL -/ ⟨0x81018, 64, 0x80, 1, 0x0, 32, 0x78B4202D,
    [⟨0, 8, .rw, []⟩, ⟨8, 8, .rw, [(1, 255)]⟩, ⟨16, 8, .rw, []⟩, ⟨24, 8, .rw, []⟩]⟩,
  /- AMP_CH_HF -/ ⟨0x8101C, 64, 0x80, 1, 0x0, 32, 0x10000F5A,
    [⟨0, 16, .rw, [(1, 65535)]⟩, ⟨16, 16, .rw, []⟩]⟩,
  /- AMP_CH_TAP -/ ⟨0x81020, 64, 0x80, 1, 0x0, 32, 0x0,
    [⟨0, 11, .rw, []⟩, ⟨15, 1, .rw, []⟩, ⟨16, 11, .rw, []⟩, ⟨31, 1, .rw, []⟩]⟩,
  /- AMP_CH_CTL -/ ⟨0x81024, 64, 0x80, 1, 0x0, 32, 0x0,
    [⟨0, 1, .wo, []⟩]⟩,
  /- AMP_CH_STAT -/ ⟨0x81028, 64, 0x80, 1, 0x0, 32, 0x0,
    [⟨0, 1, .w1c, []⟩, ⟨1, 1, .ro, []⟩, ⟨2, 1, .w1c, []⟩, ⟨3, 1, .w1c, []⟩, ⟨4, 1, .ro, []⟩, ⟨5, 1, .ro, []⟩, ⟨6, 1, .ro, []⟩, ⟨7, 1, .ro, []⟩, ⟨19, 3, .ro, []⟩, ⟨26, 2, .ro, []⟩, ⟨28, 4, .ro, []⟩]⟩,
  /- AMP_CH_GR -/ ⟨0x8102C, 64, 0x80, 1, 0x0, 32, 0x0,
    [⟨0, 16, .ro, []⟩, ⟨16, 16, .ro, []⟩]⟩,
  /- AMP_CH_POWER -/ ⟨0x81030, 64, 0x80, 1, 0x0, 32, 0x32,
    [⟨0, 16, .ro, []⟩, ⟨16, 16, .ro, []⟩]⟩,
  /- AMP_CH_RDC -/ ⟨0x81034, 64, 0x80, 1, 0x0, 32, 0x0,
    [⟨0, 32, .ro, []⟩]⟩,
  /- AMP_CH_ZMAG -/ ⟨0x81038, 64, 0x80, 1, 0x0, 32, 0x0,
    [⟨0, 32, .ro, []⟩]⟩,
  /- AMP_CH_ZPH -/ ⟨0x8103C, 64, 0x80, 1, 0x0, 32, 0x2800,
    [⟨0, 16, .ro, []⟩, ⟨16, 16, .ro, []⟩]⟩,
  /- AMP_CH_ZBASE -/ ⟨0x81040, 64, 0x80, 1, 0x0, 32, 0x0,
    [⟨0, 32, .ro, []⟩]⟩,
  /- AMP_CH_CNT -/ ⟨0x81044, 64, 0x80, 1, 0x0, 32, 0x0,
    [⟨0, 4, .rc, []⟩, ⟨4, 4, .rc, []⟩, ⟨8, 8, .rc, []⟩, ⟨16, 16, .rc, []⟩]⟩,
  /- AMP_CH_SWEEP -/ ⟨0x84000, 64, 0x80, 16, 0x8, 64, 0x0,
    [⟨0, 1, .ro, []⟩, ⟨16, 16, .ro, []⟩, ⟨32, 32, .ro, []⟩]⟩]

def cbusRegs : List RegDef := [
  /- CBUS_CFG -/ ⟨0x90000, 4, 0x1000, 1, 0x0, 32, 0x5F20A34,
    [⟨0, 1, .rw, []⟩, ⟨1, 1, .rw, []⟩, ⟨2, 1, .rw, []⟩, ⟨3, 1, .rw, []⟩, ⟨4, 1, .rw, []⟩, ⟨5, 1, .rw, []⟩, ⟨8, 8, .rw, [(1, 255)]⟩, ⟨16, 11, .rw, [(64, 2048)]⟩]⟩,
  /- CBUS_STAT -/ ⟨0x90004, 4, 0x1000, 1, 0x0, 32, 0x0,
    [⟨0, 1, .ro, []⟩, ⟨1, 1, .ro, []⟩, ⟨2, 1, .ro, []⟩, ⟨3, 1, .w1c, []⟩, ⟨4, 1, .w1c, []⟩, ⟨5, 1, .w1c, []⟩, ⟨6, 1, .w1c, []⟩, ⟨7, 1, .ro, []⟩, ⟨8, 4, .ro, []⟩, ⟨12, 4, .ro, []⟩]⟩,
  /- CBUS_FILT -/ ⟨0x90010, 4, 0x1000, 8, 0x8, 64, 0x0,
    [⟨0, 48, .rw, []⟩, ⟨48, 1, .rw, []⟩]⟩,
  /- CBUS_RX_STAT -/ ⟨0x90050, 4, 0x1000, 1, 0x0, 32, 0x0,
    [⟨0, 12, .ro, []⟩, ⟨21, 3, .ro, []⟩, ⟨24, 1, .ro, []⟩, ⟨25, 1, .ro, []⟩, ⟨26, 1, .ro, []⟩, ⟨27, 1, .ro, []⟩, ⟨28, 1, .ro, []⟩, ⟨29, 1, .ro, []⟩, ⟨30, 1, .ro, []⟩, ⟨31, 1, .ro, []⟩]⟩,
  /- CBUS_RX_TS -/ ⟨0x90058, 4, 0x1000, 1, 0x0, 64, 0x0,
    [⟨0, 64, .ro, []⟩]⟩,
  /- CBUS_RX_DATA -/ ⟨0x90060, 4, 0x1000, 1, 0x0, 32, 0x0,
    [⟨0, 32, .ro, []⟩]⟩,
  /- CBUS_CTL -/ ⟨0x90064, 4, 0x1000, 1, 0x0, 32, 0x0,
    [⟨0, 1, .wo, []⟩, ⟨1, 1, .wo, []⟩]⟩,
  /- CBUS_TX_DATA -/ ⟨0x90070, 4, 0x1000, 1, 0x0, 32, 0x0,
    [⟨0, 32, .wo, []⟩]⟩,
  /- CBUS_TX_CMD -/ ⟨0x90074, 4, 0x1000, 1, 0x0, 32, 0x0,
    [⟨0, 12, .wo, []⟩, ⟨12, 8, .wo, []⟩, ⟨30, 1, .wo, []⟩, ⟨31, 1, .wo, []⟩]⟩,
  /- CBUS_TX_RES -/ ⟨0x90078, 4, 0x1000, 1, 0x0, 32, 0x0,
    [⟨0, 8, .ro, []⟩, ⟨16, 5, .ro, []⟩, ⟨28, 3, .ro, []⟩, ⟨31, 1, .ro, []⟩]⟩,
  /- CBUS_MDIO -/ ⟨0x90080, 4, 0x1000, 1, 0x0, 32, 0x0,
    [⟨0, 16, .rw, []⟩, ⟨16, 5, .rw, []⟩, ⟨21, 5, .rw, []⟩, ⟨28, 2, .wo, []⟩, ⟨30, 1, .ro, []⟩, ⟨31, 1, .ro, []⟩]⟩,
  /- CBUS_CNT -/ ⟨0x90100, 4, 0x1000, 32, 0x4, 32, 0x0,
    [⟨0, 32, .rc, []⟩]⟩]

def tw0Regs : List RegDef := [
  /- TW0_CFG -/ ⟨0xA0000, 1, 0x0, 1, 0x0, 32, 0x190300,
    [⟨0, 1, .rw, []⟩, ⟨1, 1, .rw, []⟩, ⟨8, 4, .rw, []⟩, ⟨16, 8, .rw, [(25, 35)]⟩]⟩,
  /- TW0_TIM0 -/ ⟨0xA0004, 1, 0x0, 1, 0x0, 32, 0x3E008B,
    [⟨0, 12, .rw, [(1, 4095)]⟩, ⟨16, 12, .rw, [(1, 4095)]⟩]⟩,
  /- TW0_TIM1 -/ ⟨0xA0008, 1, 0x0, 1, 0x0, 32, 0x3E003E,
    [⟨0, 12, .rw, [(1, 4095)]⟩, ⟨16, 12, .rw, [(1, 4095)]⟩]⟩,
  /- TW0_TIM2 -/ ⟨0xA000C, 1, 0x0, 1, 0x0, 32, 0x86003E,
    [⟨0, 12, .rw, [(1, 4095)]⟩, ⟨16, 12, .rw, [(1, 4095)]⟩]⟩,
  /- TW0_TIM3 -/ ⟨0xA0010, 1, 0x0, 1, 0x0, 32, 0x3E,
    [⟨0, 10, .rw, [(1, 1023)]⟩]⟩,
  /- TW0_CMD -/ ⟨0xA0014, 1, 0x0, 1, 0x0, 32, 0x0,
    [⟨0, 8, .rw, []⟩, ⟨8, 7, .rw, [(0, 64)]⟩, ⟨15, 7, .rw, [(0, 64)]⟩, ⟨22, 7, .rw, []⟩, ⟨29, 1, .rw, []⟩, ⟨30, 1, .rw, []⟩, ⟨31, 1, .wo, []⟩]⟩,
  /- TW0_TXD -/ ⟨0xA0018, 1, 0x0, 1, 0x0, 32, 0x0,
    [⟨0, 32, .wo, []⟩]⟩,
  /- TW0_RXD -/ ⟨0xA001C, 1, 0x0, 1, 0x0, 32, 0x0,
    [⟨0, 32, .ro, []⟩]⟩,
  /- TW0_RES -/ ⟨0xA0020, 1, 0x0, 1, 0x0, 32, 0x0,
    [⟨0, 8, .ro, []⟩, ⟨13, 7, .ro, []⟩, ⟨20, 7, .ro, []⟩, ⟨27, 4, .ro, []⟩, ⟨31, 1, .ro, []⟩]⟩,
  /- TW0_STAT -/ ⟨0xA0024, 1, 0x0, 1, 0x0, 32, 0x0,
    [⟨0, 1, .ro, []⟩, ⟨1, 1, .ro, []⟩, ⟨2, 1, .ro, []⟩, ⟨3, 1, .w1c, []⟩, ⟨4, 1, .w1c, []⟩, ⟨5, 1, .w1c, []⟩]⟩,
  /- TW0_CTL -/ ⟨0xA0028, 1, 0x0, 1, 0x0, 32, 0x0,
    [⟨0, 1, .wo, []⟩, ⟨1, 1, .wo, []⟩]⟩,
  /- TW0_CNT -/ ⟨0xA002C, 1, 0x0, 1, 0x0, 32, 0x0,
    [⟨0, 8, .rc, []⟩, ⟨8, 8, .rc, []⟩, ⟨16, 8, .rc, []⟩, ⟨24, 8, .rc, []⟩]⟩]

def tw1Regs : List RegDef := [
  /- TW1_WINDOW -/ ⟨0xA8000, 1, 0x0, 1, 0x0, 32, 0x0,
    [⟨8, 24, .rw, []⟩]⟩,
  /- TW1_STAT -/ ⟨0xA8004, 1, 0x0, 1, 0x0, 32, 0x0,
    [⟨0, 1, .w1c, []⟩, ⟨1, 1, .w1c, []⟩, ⟨2, 1, .w1c, []⟩, ⟨3, 1, .w1c, []⟩, ⟨8, 8, .ro, []⟩]⟩,
  /- TW1_CNT -/ ⟨0xA8008, 1, 0x0, 1, 0x0, 32, 0x0,
    [⟨0, 8, .rc, []⟩, ⟨8, 8, .rc, []⟩, ⟨16, 8, .rc, []⟩, ⟨24, 8, .rc, []⟩]⟩,
  /- TW1_CFG -/ ⟨0xA800C, 1, 0x0, 1, 0x0, 32, 0x1,
    [⟨0, 1, .rw, []⟩, ⟨1, 1, .rw, []⟩]⟩]

def dmaRegs : List RegDef := [
  /- DMA_CFG -/ ⟨0xB0000, 1, 0x0, 1, 0x0, 32, 0x0,
    [⟨0, 1, .rw, []⟩]⟩,
  /- DMA_STAT -/ ⟨0xB0004, 1, 0x0, 1, 0x0, 32, 0x0,
    [⟨0, 6, .ro, []⟩, ⟨16, 5, .ro, []⟩]⟩,
  /- DMA_CNT -/ ⟨0xB0008, 1, 0x0, 1, 0x0, 32, 0x0,
    [⟨0, 16, .rc, []⟩, ⟨16, 16, .rc, []⟩]⟩,
  /- DMA_CH_CFG -/ ⟨0xB0100, 32, 0x20, 1, 0x0, 32, 0x0,
    [⟨0, 16, .rw, []⟩, ⟨16, 4, .rw, []⟩, ⟨24, 4, .rw, [(4, 12)]⟩, ⟨28, 2, .rw, []⟩, ⟨31, 1, .rw, []⟩]⟩,
  /- DMA_CH_DB -/ ⟨0xB0104, 32, 0x20, 1, 0x0, 32, 0x0,
    [⟨0, 1, .wo, []⟩]⟩,
  /- DMA_CH_STAT -/ ⟨0xB0108, 32, 0x20, 1, 0x0, 32, 0x0,
    [⟨0, 12, .ro, []⟩, ⟨12, 4, .ro, []⟩, ⟨16, 12, .ro, []⟩, ⟨28, 4, .ro, []⟩]⟩,
  /- DMA_CH_CTL -/ ⟨0xB010C, 32, 0x20, 1, 0x0, 32, 0x0,
    [⟨0, 1, .wo, []⟩, ⟨1, 1, .wo, []⟩, ⟨16, 12, .rw, []⟩]⟩,
  /- DMA_CH_CNT -/ ⟨0xB0110, 32, 0x20, 1, 0x0, 32, 0x0,
    [⟨0, 16, .rc, []⟩, ⟨16, 16, .rc, []⟩]⟩,
  /- DMA_CQ_CFG -/ ⟨0xB0800, 16, 0x10, 1, 0x0, 32, 0x0,
    [⟨0, 16, .rw, []⟩, ⟨24, 4, .rw, [(4, 12)]⟩, ⟨31, 1, .rw, []⟩]⟩,
  /- DMA_CQ_PTR -/ ⟨0xB0804, 16, 0x10, 1, 0x0, 32, 0x0,
    [⟨0, 12, .rw, []⟩, ⟨16, 12, .ro, []⟩]⟩,
  /- DMA_CQ_STAT -/ ⟨0xB0808, 16, 0x10, 1, 0x0, 32, 0x0,
    [⟨0, 1, .ro, []⟩, ⟨16, 16, .rc, []⟩]⟩]

def mortarRegs : List RegDef := [
  /- MORTAR_STAT -/ ⟨0xC0000, 1, 0x0, 1, 0x0, 32, 0x0,
    [⟨0, 1, .ro, []⟩, ⟨1, 1, .w1c, []⟩, ⟨2, 1, .w1c, []⟩, ⟨3, 1, .w1c, []⟩]⟩,
  /- MORTAR_ERR -/ ⟨0xC0008, 1, 0x0, 1, 0x0, 64, 0x0,
    [⟨0, 32, .ro, []⟩, ⟨40, 5, .ro, []⟩, ⟨48, 5, .ro, []⟩, ⟨60, 4, .ro, []⟩]⟩,
  /- MORTAR_CNT -/ ⟨0xC0010, 1, 0x0, 1, 0x0, 32, 0x0,
    [⟨0, 16, .rc, []⟩, ⟨16, 16, .rc, []⟩]⟩,
  /- MORTAR_MST_STAT -/ ⟨0xC0100, 20, 0x10, 1, 0x0, 32, 0x80000000,
    [⟨0, 13, .rc, []⟩, ⟨16, 6, .ro, []⟩, ⟨29, 1, .ro, []⟩, ⟨30, 1, .ro, []⟩, ⟨31, 1, .ro, []⟩]⟩,
  /- MORTAR_MST_PATH_RD -/ ⟨0xC0104, 20, 0x10, 1, 0x0, 32, 0x0,
    [⟨0, 17, .ro, []⟩]⟩,
  /- MORTAR_MST_PATH_WR -/ ⟨0xC0108, 20, 0x10, 1, 0x0, 32, 0x0,
    [⟨0, 17, .ro, []⟩]⟩,
  /- MORTAR_MST_CNT -/ ⟨0xC010C, 20, 0x10, 1, 0x0, 32, 0x0,
    [⟨0, 16, .rc, []⟩, ⟨16, 16, .rc, []⟩]⟩]

def fltRegs : List RegDef := [
  /- FLT_STATUS -/ ⟨0x10000, 1, 0x0, 1, 0x0, 64, 0x0,
    [⟨0, 64, .w1c, []⟩]⟩,
  /- FLT_CAUSE -/ ⟨0x10008, 1, 0x0, 1, 0x0, 64, 0x0,
    [⟨0, 64, .ro, []⟩]⟩,
  /- FLT_FIRST -/ ⟨0x10010, 1, 0x0, 1, 0x0, 32, 0x0,
    [⟨0, 6, .ro, []⟩, ⟨7, 1, .ro, []⟩]⟩,
  /- FLT_FIRST_TIME -/ ⟨0x10018, 1, 0x0, 1, 0x0, 64, 0x0,
    [⟨0, 64, .ro, []⟩]⟩,
  /- FLT_PIN_CTL -/ ⟨0x10020, 1, 0x0, 1, 0x0, 32, 0x1E,
    [⟨0, 5, .rw, []⟩, ⟨31, 1, .rw, []⟩]⟩,
  /- FLT_PULSE_MIN -/ ⟨0x10024, 1, 0x0, 1, 0x0, 32, 0xA,
    [⟨0, 14, .rw, [(1, 10000)]⟩]⟩,
  /- FLT_PIN_STAT -/ ⟨0x10028, 1, 0x0, 1, 0x0, 32, 0x1,
    [⟨0, 1, .ro, []⟩, ⟨1, 1, .ro, []⟩]⟩,
  /- FLT_CNT -/ ⟨0x10030, 1, 0x0, 1, 0x0, 32, 0x0,
    [⟨0, 8, .rc, []⟩, ⟨8, 8, .rc, []⟩, ⟨16, 16, .rc, []⟩]⟩,
  /- FLT_CHAN_SAFE -/ ⟨0x10038, 1, 0x0, 1, 0x0, 64, 0x0,
    [⟨0, 64, .ro, []⟩]⟩,
  /- FLT_SOFT -/ ⟨0x10040, 1, 0x0, 1, 0x0, 32, 0x0,
    [⟨0, 1, .wo, []⟩, ⟨1, 1, .wo, []⟩]⟩,
  /- FLT_RESET_HIST -/ ⟨0x10048, 1, 0x0, 1, 0x0, 32, 0x0,
    [⟨0, 6, .ro, []⟩, ⟨7, 1, .ro, []⟩, ⟨8, 1, .ro, []⟩, ⟨24, 8, .ro, []⟩]⟩,
  /- FLT_HOLD_SRC -/ ⟨0x10050, 1, 0x0, 1, 0x0, 32, 0x0,
    [⟨0, 6, .ro, []⟩, ⟨7, 1, .ro, []⟩]⟩,
  /- FLT_SCRUB_CFG -/ ⟨0x10060, 1, 0x0, 1, 0x0, 32, 0xA,
    [⟨0, 8, .rw, [(1, 255)]⟩]⟩,
  /- FLT_SCRUB_STAT -/ ⟨0x10070, 4, 0x4, 1, 0x0, 32, 0x0,
    [⟨0, 8, .ro, []⟩, ⟨8, 8, .rc, []⟩, ⟨16, 16, .rc, []⟩]⟩,
  /- FLT_TJ -/ ⟨0x10080, 1, 0x0, 1, 0x0, 32, 0x690000,
    [⟨0, 16, .ro, []⟩, ⟨16, 8, .rw, [(60, 110)]⟩]⟩,
  /- FLT_CFG -/ ⟨0x10100, 64, 0x4, 1, 0x0, 32, 0x0,
    [⟨0, 3, .rw, [(0, 4)]⟩, ⟨31, 1, .rw, []⟩]⟩]

def pwrRegs : List RegDef := [
  /- PWR_CFG -/ ⟨0xE0000, 1, 0x0, 1, 0x0, 32, 0xA0244,
    [⟨0, 3, .rw, [(2, 4)]⟩, ⟨6, 1, .rw, []⟩, ⟨7, 1, .rw, []⟩, ⟨9, 1, .rw, []⟩, ⟨10, 2, .rw, []⟩, ⟨16, 8, .rw, []⟩, ⟨31, 1, .rw, []⟩]⟩,
  /- PWR_CTL -/ ⟨0xE0004, 1, 0x0, 1, 0x0, 32, 0x0,
    [⟨0, 1, .wo, []⟩, ⟨1, 1, .rw, []⟩]⟩,
  /- PWR_STAT -/ ⟨0xE0008, 1, 0x0, 1, 0x0, 32, 0x0,
    [⟨0, 3, .ro, []⟩, ⟨4, 3, .ro, []⟩, ⟨8, 8, .ro, []⟩, ⟨18, 1, .ro, []⟩, ⟨19, 1, .ro, []⟩, ⟨20, 1, .ro, []⟩]⟩,
  /- PWR_TNEXT -/ ⟨0xE0010, 1, 0x0, 1, 0x0, 64, 0x0,
    [⟨0, 64, .ro, []⟩]⟩,
  /- PWR_TNEXT_SRC -/ ⟨0xE0018, 1, 0x0, 1, 0x0, 32, 0x0,
    [⟨0, 4, .ro, []⟩, ⟨8, 3, .ro, []⟩]⟩,
  /- PWR_WAKE_CFG -/ ⟨0xE001C, 1, 0x0, 1, 0x0, 32, 0xF,
    [⟨0, 4, .rw, []⟩, ⟨16, 16, .rw, []⟩]⟩,
  /- PWR_WAKE_STAT -/ ⟨0xE0020, 1, 0x0, 1, 0x0, 32, 0x0,
    [⟨0, 4, .ro, []⟩, ⟨4, 8, .ro, []⟩]⟩,
  /- PWR_MOOR_MAX -/ ⟨0xE0024, 1, 0x0, 1, 0x0, 32, 0x0,
    [⟨0, 32, .ro, []⟩]⟩,
  /- PWR_GATED -/ ⟨0xE0028, 1, 0x0, 1, 0x0, 32, 0x0,
    [⟨0, 4, .ro, []⟩, ⟨8, 7, .ro, []⟩, ⟨16, 7, .ro, []⟩, ⟨24, 8, .ro, []⟩]⟩,
  /- PWR_CNT -/ ⟨0xE0030, 1, 0x0, 1, 0x0, 32, 0x0,
    [⟨0, 16, .rc, []⟩, ⟨16, 16, .rc, []⟩]⟩]

def secRegs : List RegDef := [
  /- SEC_LIFECYCLE -/ ⟨0xF0000, 1, 0x0, 1, 0x0, 32, 0x0,
    [⟨0, 5, .ro, []⟩, ⟨8, 3, .ro, []⟩, ⟨11, 1, .ro, []⟩]⟩,
  /- SEC_DEV_ID -/ ⟨0xF0008, 1, 0x0, 1, 0x0, 64, 0x0,
    [⟨0, 64, .ro, []⟩]⟩,
  /- SEC_FUSE_STAT -/ ⟨0xF0010, 1, 0x0, 1, 0x0, 32, 0x0,
    [⟨0, 1, .ro, []⟩, ⟨1, 1, .ro, []⟩, ⟨2, 1, .ro, []⟩, ⟨3, 1, .ro, []⟩, ⟨4, 1, .ro, []⟩, ⟨5, 1, .ro, []⟩]⟩,
  /- SEC_SIGN_PUB -/ ⟨0xF0040, 16, 0x4, 1, 0x0, 32, 0x0,
    [⟨0, 32, .ro, []⟩]⟩,
  /- SEC_OWNER_PUB -/ ⟨0xF0080, 16, 0x4, 1, 0x0, 32, 0x0,
    [⟨0, 32, .ro, []⟩]⟩,
  /- SEC_KMP_STAT -/ ⟨0xF0100, 1, 0x0, 1, 0x0, 32, 0x0,
    [⟨0, 4, .ro, []⟩, ⟨4, 4, .ro, []⟩, ⟨8, 1, .ro, []⟩, ⟨12, 4, .ro, []⟩]⟩,
  /- SEC_CNT -/ ⟨0xF0104, 1, 0x0, 1, 0x0, 32, 0x0,
    [⟨0, 8, .rc, []⟩, ⟨8, 8, .rc, []⟩, ⟨16, 16, .rc, []⟩]⟩,
  /- SEC_CMD -/ ⟨0xF0108, 1, 0x0, 1, 0x0, 32, 0x0,
    [⟨28, 4, .wo, []⟩]⟩,
  /- SEC_ZEROIZE -/ ⟨0xF010C, 1, 0x0, 1, 0x0, 32, 0x0,
    [⟨0, 1, .ro, []⟩, ⟨1, 1, .w1c, []⟩]⟩]

def dbgRegs : List RegDef := [
  /- DBG_LEVEL -/ ⟨0xF8000, 1, 0x0, 1, 0x0, 32, 0x0,
    [⟨0, 2, .ro, []⟩, ⟨4, 2, .ro, []⟩, ⟨8, 1, .ro, []⟩, ⟨9, 1, .ro, []⟩, ⟨10, 1, .ro, []⟩]⟩,
  /- DBG_CTL -/ ⟨0xF8004, 1, 0x0, 1, 0x0, 32, 0x0,
    [⟨0, 2, .wo, []⟩, ⟨30, 2, .ro, []⟩]⟩,
  /- DBG_CNT -/ ⟨0xF8008, 1, 0x0, 1, 0x0, 32, 0x0,
    [⟨0, 8, .rc, []⟩, ⟨8, 8, .rc, []⟩, ⟨16, 16, .rc, []⟩]⟩,
  /- DBG_CHAL -/ ⟨0xF8010, 8, 0x4, 1, 0x0, 32, 0x0,
    [⟨0, 32, .ro, []⟩]⟩]

/-- Every register of the part. -/
def regTable : List RegDef :=
  glbRegs ++ storeRegs ++ brkRegs ++ patchRegs ++ dynRegs ++ netRegs ++ strRegs ++ tmsRegs ++ clkRegs ++ refRegs ++ pairRegs ++ ampRegs ++ cbusRegs ++ tw0Regs ++ tw1Regs ++ dmaRegs ++ mortarRegs ++ fltRegs ++ pwrRegs ++ secRegs ++ dbgRegs

/-- The instance of `d` that the byte address `a` falls in: its two indices. -/
def RegDef.index (d : RegDef) (a : Nat) : Option (Nat × Nat) :=
  if a < d.base then none else
  let r := a - d.base
  let i := if d.s1 = 0 then 0 else r / d.s1
  let r1 := r - i * d.s1
  let j := if d.s2 = 0 then 0 else r1 / d.s2
  let r2 := r1 - j * d.s2
  if i < d.n1 ∧ j < d.n2 ∧ r2 < d.bits / 8 then some (i, j) else none

/-- The address of instance (i, j). -/
def RegDef.instAddr (d : RegDef) (i j : Nat) : Nat := d.base + d.s1 * i + d.s2 * j

/-- The register whose bytes cover `a`, with its instance. -/
def findRegIn : List RegDef → Nat → Option (RegDef × Nat × Nat)
  | [], _ => none
  | d :: ds, a =>
    match d.index a with
    | some (i, j) => some (d, i, j)
    | none => findRegIn ds a

/-- The register at `a` in the whole part. -/
def findReg (a : Nat) : Option (RegDef × Nat × Nat) := findRegIn regTable a

/-- Default classes of Table 16.1, source by source (R447). -/
def fltClassDefault : List Nat :=
  [1,0,1,1,0,1,0,1,0,3,0,4,1,0,0,0,1,1,0,0,0,0,0,0,0,0,0,0,0,1,1,1,0,3,1,0,0,1,0,2,2,2,1,0,0,0,0,0,0,1,0,0,0,3,1,3,3,0,0,0,0,0,0,0]

/-- Sources whose AUTO field resets to 0 (Table 16.1). -/
def fltAutoOff : List Nat := [3, 9, 11, 40]

/-- Read paths of Table 15.1, as bits per target code (R424). -/
def pathRd (m : Nat) : Nat :=
  match m with
  | 0 => 0x1FFFF | 1 => 0x1FFE3 | 2 => 0 | 3 => 0x10 | 4 => 1 | 5 => 9 | 6 => 0x1FFF3 | 7 => 0x1FFFF | _ => 1

/-- Write paths of Table 15.1 (R424). -/
def pathWr (m : Nat) : Nat :=
  match m with
  | 0 => 0x1FFFF | 1 => 0 | 2 => 0x1FFE3 | 3 => 1 | 4 => 0x11 | 5 => 9 | 6 => 0x1FFF3 | 7 => 0x1FFFF | _ => 1

/-- The frequencies of the eight sweep points at reset (AMP_SWEEP). -/
def sweepFreqDefault : List Nat := [63, 125, 250, 500, 1000, 4000, 12000, 18000]

/-- The value instance (i, j) of a register holds at reset, as its description gives it. -/
def RegDef.resetAt (d : RegDef) (i j : Nat) : Nat :=
  if d.base = BRK_ROLE 0 then 0x00FF0000 + 0x100 * (i / 8)
  else if d.base = NET_DSCP_MAP 0 0 then
    (if j = 2 then 0x30000020 else if j = 3 then 1 else 0)
  else if d.base = REF_CFG 0 then
    (if i < 2 then 0xFF0A1410 else if i < 4 then 0xFF011410 else if i = 4 then 0xFF101410 else 0xFF001417)
  else if d.base = AMP_SWEEP 0 then
    (if i < 8 then 2 ^ 63 + (if i = 7 then 2 ^ 62 else 0) + 50 * 2 ^ 48 + 0xD800 * 2 ^ 32 + sweepFreqDefault.getD i 0 else 0)
  else if d.base = AMP_RAIL_CFG 0 then (if i = 0 then 0x07D00001 else 0x07D00000)
  else if d.base = AMP_CH_CFG 0 then 0x50000006 + 0x800 * (i % 16)
  else if d.base = MORTAR_MST_STAT 0 then (if i = 0 ∨ i = 5 ∨ i = 7 then 0x80000000 else 0)
  else if d.base = MORTAR_MST_PATH_RD 0 then pathRd i
  else if d.base = MORTAR_MST_PATH_WR 0 then pathWr i
  else if d.base = FLT_CFG 0 then
    (if fltAutoOff.contains i then 0 else 0x80000000) + fltClassDefault.getD i 0
  else d.reset

/-- What the register file reads at an address it does not list: the register's value at reset, 0 where no register is
defined (R26). -/
def resetValue (a : Nat) : BitVec 64 :=
  match findReg a with
  | some (d, i, j) => if d.instAddr i j = a then BitVec.ofNat 64 (d.resetAt i j) else 0
  | none => 0

end Sys2Proof.Machine
end

