-- ==== Sys2Proof/Machine/State.lean ====
section
/-! DEFINITION. The state of one KM1024 engine as plain data: the register file, the memories, the store, the fuses, and
the typed state of every block; the reasons a step can stop; the state right after reset. -/

namespace Sys2Proof.Machine

/-! ## Modes (chapter 2) -/

/-- The modes of Table 2.1 (R56). -/
inductive Mode where
  | start | replay | beacon | lead | shadow | hold | service | dormant
deriving DecidableEq, Repr

/-- The causes of GLB_MODE.START_CAUSE. -/
inductive StartCause where
  | powerOn | resetN | resetFault | kmpReset | firstImage | exitService | firmwareUpdate | lifecycle
deriving DecidableEq, Repr

/-- The role of an engine (R66). -/
inductive Role where
  | processing | amplifier
deriving DecidableEq, Repr

/-- Power states P0 to P4 (Table 17.1). -/
inductive PState where
  | p0 | p1 | p2 | p3 | p4
deriving DecidableEq, Repr

/-- Where a START stands: not in one; an image START waiting for its mute, or with its tables loaded for the block boundary
of step 12 (R63); in the listen window of a START for a mode, of an image START or not, or of a wake (R68); waiting for the
AFTER_LOCK gate (R69); halted in SCRAPPED (R67). -/
inductive StartPhase where
  | none
  | imageMute (cause : StartCause)
  | boundary (dest : Mode)
  | listen (dest : Mode) (image : Bool)
  | gate
  | halted
deriving DecidableEq, Repr

/-! ## Patch engine, dynamics, delay pool (chapters 6 and 7) -/

/-- A gain ramp (R188): codes in 1/256 dB, sample index and length. -/
structure Ramp where
  g0 : Int
  g1 : Int
  k : Nat
  len : Nat
deriving DecidableEq, Repr

/-- A fade (R189): direction, sample index and length. -/
structure Fade where
  out : Bool
  k : Nat
  len : Nat
deriving DecidableEq, Repr

/-- A shadow entry (R192): the old image, its frozen gain code, and its fade out (none while it waits at full level). -/
structure Shadow where
  image : Word64
  gain : Int
  fade : Option Fade
  /-- The old physical Brick a commanded replacement keeps playing here (R339). -/
  oldBrick : Option Nat
deriving DecidableEq, Repr

/-- A wait of R196: the destination, and the media sample count of the apply tick of the changes that wait together. -/
abbrev WaitId := Nat × Nat

/-- Why a changed value waits: since an apply tick for a shadow entry (R192), for the running fade (R193), or for programs feeding
the fade into a destination (R196). The first two name the wait of the changes they were made with. -/
inductive WaitKind where
  | shadow (n : Nat) (wait : Option WaitId)
  | fade (wait : Option WaitId)
  | program (wait : WaitId)
deriving DecidableEq, Repr

/-- The running state of one patch entry that is not simply at rest on its table value. DESIGN CHOICE, log 20: safe. -/
structure PEntry where
  cur : Word64
  ramp : Option Ramp
  fade : Option Fade
  shadow : Option Shadow
  waiting : Option (WaitKind × Word64)
  damaged : Bool
  /-- The old physical Brick that the present value plays from until its fade to the Relief Brick starts (R339). -/
  old : Option Nat
deriving DecidableEq, Repr

/-- The grounds on which a destination is muted (R191 and the rules that use it). -/
inductive MuteReason where
  | start
  | gate
  | hold
  | service
  | imageStart
  | firstLock
  | realign
  | dormant
  | lookahead (inst : Nat)
  | chanSafe (source : Nat)
  | replay
deriving DecidableEq, Repr

/-- A destination mute factor (R191). The position u of the fade law is num / den at sample 0 and moves by 1 / len a
sample, down while a reason stands and up otherwise; the factor is sin(pi u / 2). -/
structure Mute where
  reasons : List MuteReason
  num : Nat
  den : Nat
  k : Nat
  len : Nat
deriving DecidableEq, Repr

/-- One buffer of a delay line (R206, R207): format, delay, its granules in order, samples written. -/
structure DelayBuf where
  narrow : Bool
  delay : Nat
  ramp : Nat
  grans : List Nat
  cnt : Nat
deriving DecidableEq, Repr

/-- A delay line (R210, R211): the buffer in use, the new one with its fade, and a change that waits. -/
structure DelayLine where
  cur : DelayBuf
  next : Option (DelayBuf × Option Fade)
  pend : Option Word32
deriving DecidableEq, Repr

/-- A dynamics instance acting on a destination (R213 to R219): the images in effect, the smoothed gain (Q8.16 dB), the
mean square of the RMS detector (units of 2^-64), the make-up ramp, the private delay, the gain last applied. -/
structure DynInst where
  cfg0 : Word32
  cfg1 : Word32
  cfg2 : Word32
  cfg3 : Word32
  g : Int
  mean : Nat
  makeup : Ramp
  look : List Int
  applied : Int
deriving DecidableEq, Repr

/-- One meter's running window (R202): squares summed, samples left, and the sum of the last completed window. -/
structure Meter where
  sumSq : Nat
  cnt : Nat
  running : Bool
  done : Option (Nat × Nat)
deriving DecidableEq, Repr

/-- The audio engine's typed state. -/
structure Audio where
  /-- Audio processing runs (from step 13 of Table 2.4). -/
  running : Bool
  patch : Tbl PEntry
  /-- The mute factor shared by network transmit destinations without one of their own, and by TDM and modulator ones. -/
  muteNet : Mute
  muteOut : Mute
  mutes : Tbl Mute
  lines : Tbl DelayLine
  dyn : Tbl DynInst
  /-- Detaching instances in ascending index (R219). -/
  detaching : Tbl DynInst
  /-- Changes that wait for the look-ahead mute (R220): instance and its four images. -/
  lookWait : Tbl (Word32 × Word32 × Word32 × Word32)
  /-- Smoothed gain of each enabled final limiter (R222). -/
  lim : Tbl Int
  /-- Gain last applied by each limiter, in 1/256 dB. -/
  limApplied : Tbl Int
  meters : Tbl Meter
  /-- Source samples of the last boundaries, newest first (Table 1.3). -/
  history : List (Tbl Int)
  /-- Destination values computed at the last two ticks (output stage of Table 1.3), newest first. -/
  pipe : List (Tbl Int)
  /-- Brick input samples formed at the last tick, written at the next (R41). -/
  brickIn : Tbl Int
  /-- The 48-bit value of each destination after step 1 of Table 1.5, this tick. -/
  sums : Tbl Int
  /-- TDM output words of the present frame, by destination (R201); none while a slot is high-impedance. -/
  tdmOut : Tbl (Option Nat)
  /-- Samples that reach the modulators at this tick, by channel. -/
  modIn : Tbl Int
  /-- Destinations whose line or instance removal waits for a class change's fade (R197). -/
  classFade : List Nat
  /-- Patch entries, dynamics instances and delay lines whose registers were written since the last tick: they take effect together
  at the next one (R34). -/
  touchedEntries : List Nat
  touchedInsts : List Nat
  touchedLines : List Nat
  /-- The first N whose sample audio processes since it last began. -/
  startN : Nat
deriving DecidableEq, Repr

/-! ## Bricks (chapters 4 and 5) -/

/-- The F register (Table 4.4). -/
structure Flags where
  z : Bool
  n : Bool
  v : Bool
  ss : Bool
  asat : Bool
deriving DecidableEq, Repr

/-- An active hardware loop (R167): first and last bundle of its body and the runs still due, this one included. -/
structure LoopFrame where
  first : Nat
  last : Nat
  left : Nat
deriving DecidableEq, Repr

/-- One register context of a Brick (Table 4.1, R166, R167). -/
structure Ctx where
  x : Vector Word32 16
  a : Vector Acc 4
  p : Vector (BitVec 16) 8
  b : Vector (BitVec 16) 8
  l : Vector (BitVec 16) 8
  f : Flags
  tn : Word32
  pc : BitVec 15
  rets : List (BitVec 15)
  loops : List LoopFrame
deriving DecidableEq, Repr

/-- What one recent bundle produced, for the interlocks of Table 4.6: the cycle in
which it left stage M, the x register it loaded, the x
registers it computed, the accumulator it wrote, whether it wrote F, the word it stored. -/
structure Produced where
  t : Nat
  load : Option Nat
  alu : List Nat
  acc : Option Nat
  flags : Bool
  stored : Option Nat
deriving DecidableEq, Repr

/-- A program's run in one context: the trigger entries still to start after the present one, the cycle of its work in
which its last bundle was in stage M, the recent bundles, the ticks since its trigger, the bundles in the fetch queue with the
cycle each was fetched in (R141), the first cycle in which its next bundle can be in M, and the cycle of the present Ts at
which cycle 0 of the work stands. -/
structure Work where
  rest : List Nat
  cycles : Nat
  recent : List Produced
  age : Nat
  queue : List (Nat × Nat) := []
  hold : Nat := 0
  base : Int := 0
deriving DecidableEq, Repr

/-- The Course-port requests of a Brick in the present Ts (Table 4.7, R142): samples and checkpoint reads waiting, words of
management accesses waiting and of those left from an earlier Ts, slots taken at order 2, and those of them by management accesses;
the cycles in which a store of work that has ended is in W. -/
structure CPort where
  audio : Nat
  mgmt : Nat
  old : Nat
  steals : Nat
  mgmtSteals : Nat
  stores : List Int
deriving DecidableEq, Repr

/-- One physical Brick: its two contexts, the work in each, for each trigger entry its present ENTRY with the number of
successive dispatches of it (R195), and its Course-port requests. -/
structure Brick where
  fg : Ctx
  bg : Ctx
  fgWork : Option Work
  bgWork : Option Work
  ready : Tbl (Nat × Nat)
  port : CPort
deriving DecidableEq, Repr

/-! ## Node: mode, time base, faults (chapters 1, 2, 9, 16) -/

/-- Mode, START, sample count and time. -/
structure Node where
  /-- The supplies are in range. -/
  powered : Bool
  /-- RESET_N holds the engine in reset (R515). -/
  inReset : Bool
  mode : Mode
  prevMode : Mode
  cause : StartCause
  role : Role
  /-- fs is 96 kHz. -/
  fs96 : Bool
  /-- The first-lock step has been applied since the last full START. -/
  lockedOnce : Bool
  phase : StartPhase
  /-- A partner Flash was heard in the present listen window (R311). -/
  heard : Bool
  /-- Media sample count N of the last tick (R31). -/
  n : Word64
  /-- N has just been set, and the tick of that N is still to come. -/
  fresh : Bool
  /-- A NODE_HOLD latch and a SERVICE command of the present Ts (R61). -/
  holdNow : Bool
  serviceNow : Bool
  /-- The time counter in units of 2^-16 ns: (SEC x 10^9 + NS) x 2^16 + SUB (R264). -/
  time : Nat
  /-- Position in the pattern of three by which REF5 advances the counter in P4 (R266). -/
  pattern : Nat
  /-- The tick origin in the same units (R268). -/
  t0 : Int
  /-- Time since power-on, in the same units, that no step changes. -/
  uptime : Nat
  /-- Where HOLD releases to: BEACON, SERVICE, or by the pair (none) (Table 2.2). -/
  releaseTo : Option Mode
  /-- A RELEASE, or the policy's last clear, has been received in this HOLD (R60). -/
  released : Bool
  /-- The first-lock or restep mute is running for this instance (R70, R273, R276). -/
  stepping : Option Nat
  /-- Mode requests that wait for the end of the transition in progress, oldest first, and the cause of an image START that
  does (R61). -/
  asked : List Nat
  startAsked : Option StartCause
  /-- Strap levels at the balls: TW1_ADDR, IMG_BYPASS, SVC_BOOT, AMP_DEFAULT. -/
  strapPins : Nat
  /-- 1 for KM1024-I (R5). -/
  grade : Nat
deriving DecidableEq, Repr

/-- The fault collector's state beside its registers. -/
structure Flt where
  /-- Bits latched under NODE_HOLD and not yet cleared (R449). -/
  hold : Word64
  /-- Bits latched under DEGRADE, or under CHANNEL_SAFE on a source outside AMP, and not yet cleared (Table 16.2). -/
  degrade : Word64
  /-- Channels held by CHANNEL_SAFE: source and channel. -/
  chanSafe : List (Nat × Nat)
  /-- The source of a RESET-class latch whose START waits for the end of its pulse. -/
  resetPending : Option Nat
  /-- An ERR_N pulse is running. -/
  pulsing : Bool
  /-- Uptimes of the RESET-class STARTs of the last 10 minutes. -/
  resetTimes : List Nat
  /-- Bits latched under CHANNEL_SAFE (R449). -/
  safe : Word64
  /-- Bits whose line asserts in the PERI cycle of the write in progress (R456). -/
  asserted : Word64
  /-- A supply monitor is outside its window (source 56). -/
  supplyBad : Bool
  /-- A logical Brick has failed with no Relief Brick (source 3). -/
  reliefNone : List Nat
  /-- A compaction was abandoned and none has committed since (source 17). -/
  compactBad : Bool
  /-- A scrub pass is running in each array: Brick memories, delay pool, shared SRAM, patch table. -/
  scrubbing : List Nat
deriving DecidableEq, Repr

/-! ## KMP (R80 to R83, R484 to R495) -/

/-- A stored reply (R491): SEQ and body of the request, body of the reply. -/
structure StoredReply where
  seq : Nat
  request : List Byte
  reply : List Byte
deriving DecidableEq, Repr

/-- A notification that waits for its acknowledgement: SEQ, body, resends so far. -/
structure Unacked where
  seq : Nat
  body : List Byte
  resends : Nat
deriving DecidableEq, Repr

/-- An open session. -/
structure Session where
  num : Nat
  client : List Byte
  auth : Bool
  /-- K_s of an authenticated session (R485). -/
  key : List Byte
  capable : Bool
  rxSeq : Nat
  txSeq : Nat
  mask : Word64
  replies : List StoredReply
  unacked : List Unacked
  /-- A KEEPALIVE has arrived within CLIENT_TIMEOUT. -/
  alive : Bool
deriving DecidableEq, Repr

/-- What the policy proposes or does (Table 2.8). -/
inductive PolicyAct where
  | refSelect (target : Nat)
  | pairRevert
  | pairSwap
  | clearFault (source : Nat)
  | dormant
  /-- A power limit of a channel, and the coil temperature it stands for (R364). -/
  | relax (channel : Nat) (limit : Nat) (temp : Int)
  | deepen (state : Nat)
deriving DecidableEq, Repr

/-- An open proposal (R82), and one that was refused or lapsed and may not be made again yet. -/
structure Proposal where
  id : Nat
  act : PolicyAct
deriving DecidableEq, Repr

/-- An image transfer (R73, R495): bytes named and received; bytes written to slot A, those of the record that is not yet
whole, and whether a record failed step 3 of R74; what R75 noted. -/
structure Transfer where
  session : Nat
  size : Nat
  received : Nat
  done : Nat
  buf : List Byte
  bad : Bool
  gOld : Nat
  sOld : Nat
  wraps : Nat
deriving DecidableEq, Repr

/-- The KMP server. -/
structure Kmp where
  sessions : List Session
  controller : Option Nat
  nextProposal : Nat
  proposals : List Proposal
  /-- Acts refused or lapsed, not yet to be proposed again, with the id each was proposed by (R82). -/
  barred : List (Nat × PolicyAct)
  transfer : Option Transfer
  /-- Journal-group bytes received so far (OFFSET, TOTAL of GROUP): session, total, bytes. -/
  groupBuf : Option (Nat × Nat × List Byte)
deriving DecidableEq, Repr

/-! ## Outputs -/

/-- What the engine puts out: the answers and frames its commands cause, in order. DESIGN CHOICE, log 2: safe. -/
inductive Output where
  /-- A KMP datagram: session, type, SEQ, body, TAG. -/
  | kmp (session type seq : Nat) (body tag : List Byte)
  /-- Data answered to a register read of a master. -/
  | data (value : Nat)
  /-- An error response to a master (R24, R26, R424). -/
  | error
  /-- A write accepted. -/
  | done
  /-- Bits shifted out at TDO. -/
  | tdo (bits : Nat) (value : Nat)
  /-- An Ethernet frame sent by external port `port`. -/
  | frame (port : Nat) (bytes : List Byte)
  /-- A frame whose sending ends with its FCS inverted (R234). -/
  | stomped (port : Nat)
  /-- A membership report or leave the Keeper sends for a receive leg (R251) or for the STANDBY watch (R318): domain, group, source
  filter. -/
  | igmp (domain group src : Nat) (join : Bool)
  /-- MOD_AH, MOD_AL and MOD_BH, MOD_BL of a channel over a Ts, from `start` MOD cycles after its tick on: runs of MOD cycles with the
  high and the low output of half-bridge A and of half-bridge B (R345 to R349). -/
  | gates (m start : Nat) (a b : List (Nat × Bool × Bool))
  /-- SNS_CLK[3:0] run from here on at 24.576 MHz, or stay low (R352, Table 18.4). -/
  | snsClk (on : Bool)
  /-- The four gate outputs of a channel go low and stay low (R349). -/
  | gatesLow (m : Nat)
  /-- An RTP packet handed to the internal port: stream, header and payload bytes. -/
  | packet (stream : Nat) (bytes : List Byte)
  /-- A Flash handed to the internal port for a domain: the partner's address, the UDP port of source and destination, the
  datagram's payload. -/
  | flash (domain addr port : Nat) (bytes : List Byte)
  /-- A warm-copy frame handed to the internal port for the partner: domain, its address, UDP port and payload. -/
  | warm (domain addr port : Nat) (bytes : List Byte)
  /-- A PTP message sent by an instance into its domain: IPv4 group and UDP port (Table 9.1). -/
  | ptp (inst : Nat) (kind : PtpKind) (group port : Nat) (msg : PtpMsg)
  /-- The KMP presence announcement sent in DORMANT (R470). -/
  | presence
  /-- The DNS-SD announcement over mDNS: host name before `.local`, the instance name of service `_kamyan-kmp._udp`, its UDP
  port, and the transmit streams announced (Table 0.9, Table 2.5, Table 8.13). -/
  | dnssd (host name : List Byte) (port : Nat) (streams : List Nat)
  /-- A pulse output goes to a level at a value of the time counter, for a number of TIME cycles (0: from then on). -/
  | pulse (out : Nat) (high : Bool) (at_ cycles : Nat)
  /-- The code on REF_STAT[2:0] (R288, R290). -/
  | refStat (code : Nat)
  /-- ERR_N, true when pulled low. -/
  | errN (low : Bool)
  /-- A control-bus frame attempt or frame sent by a MAC. -/
  | cbus (mac : Nat) (bytes : List Byte)
  /-- A jam sent by a MAC. -/
  | jam (mac : Nat)
  /-- An MDIO frame: MAC, write, PHY and register, data. -/
  | mdio (mac : Nat) (write : Bool) (phy reg data : Nat)
  /-- TW0 bus traffic: START with an address byte, bytes written, STOP. -/
  | tw0 (addr : Nat) (bytes : List Byte)
  /-- Recovery clocks on the two-wire bus. -/
  | tw0Recovery
  /-- Bytes a TW1 read transaction returns, or a refusal to acknowledge. -/
  | tw1 (bytes : List Byte)
  | tw1Nack
deriving DecidableEq, Repr

/-! ## Store, journal and configuration (chapter 3) -/

/-- One record of the store (Table 3.2): the header fields kept, its payload and signature. -/
structure Rec where
  type : Nat
  flags : Nat
  seq : Nat
  len : Nat
  prevCrc : Nat
  crc : Nat
  payload : List Byte
  sig : List Byte
deriving DecidableEq, Repr

/-- A journal group on its way (R106): who asked, its records numbered with their journal offsets, the bytes that are being
written in order (device
address and bytes, COMMIT of the END record last), its apply tick, and the position and CRC after it. -/
structure GroupRun where
  session : Nat
  reqId : Nat
  recs : List (Nat × Rec)
  writes : List (Nat × List Byte)
  endCommit : Nat × List Byte
  applyAt : Option Nat
  endSeq : Nat
  nextPos : Nat
  lastCrc : Nat
deriving DecidableEq, Repr

/-- A CODE run whose words are still being written (R194): logical Brick, INDEX of the run, bytes. -/
structure CodeLoad where
  l : Nat
  index : Nat
  bytes : List Byte
deriving DecidableEq, Repr

/-- A trigger entry that keeps its previous effect until its run is written (R194): logical Brick, entry, its new image,
the run, whether it then waits for a block boundary, and the N at which it takes its value once that is known. -/
structure TrigWait where
  l : Nat
  k : Nat
  image : Nat
  run : Nat
  block : Bool
  due : Option Nat
deriving DecidableEq, Repr

/-- A BANK whose inactive-range words are still being written, or whose selector is still to be written (R174): logical
Brick, INDEX, words by address, the selector's new value, whether the words are written, whether the group's apply tick
is past, whether the selector then waits for a block boundary, and its N once that is known. `seq` is the END record's SEQ of the group. -/
structure BankLoad where
  seq : Nat
  l : Nat
  index : Nat
  words : List (Nat × List Byte)
  sel : Option (List Byte)
  written : Bool
  applied : Bool
  block : Bool
  due : Option Nat
deriving DecidableEq, Repr

/-- A compaction in progress (Table 3.10): S, the idle slot, the image's records with their device addresses, length and CRC for the
marker. -/
structure Compaction where
  s : Nat
  slot : Nat
  recs : List (Nat × Rec)
  marker : Nat × List Byte
  session : Option (Nat × Nat)
deriving DecidableEq, Repr

/-- The store engine's state beside its registers. DESIGN CHOICE, log 20: safe. -/
structure StoreSt where
  /-- Density of the attached device as STORE_GEOM codes it (SFDP). -/
  density : Nat
  /-- The active image's sections: section, then key or element index, then value bytes (R94, R95). -/
  cfg : Tbl (Tbl (List Byte))
  /-- Sections as the active base image holds them, before any journal group. -/
  base : Tbl (Tbl (List Byte))
  /-- Journal records applied on top, oldest first, with their offsets. -/
  journal : List (Nat × Rec)
  jrnStartOfs : Nat
  /-- SEQ and CRC of the last record of the chain. -/
  lastSeq : Nat
  lastCrc : Nat
  waiting : List GroupRun
  writing : Option GroupRun
  committed : List GroupRun
  codeLoads : List CodeLoad
  trigWaits : List TrigWait
  bankLoads : List BankLoad
  compaction : Option Compaction
  /-- Retries made of an abandoned compaction, and whether one is due. -/
  compactTries : Nat
  compactRetry : Bool
  /-- Device addresses of the sectors being erased in the background (R110). -/
  erasing : List Nat
deriving DecidableEq, Repr

/-! ## Modulators, sense and protection (chapter 12) -/

/-- Channel states (Table 12.6). -/
inductive ChState where
  | off | diag | playing | railHold | latched | retest | locked | senseOff
deriving DecidableEq, Repr

/-- A correlator's window (R373): samples so far and the sums SU and SJ, real and imaginary part, in units of
2^-31 × 2^-62. -/
structure Corr where
  n : Nat
  uRe : Int
  uIm : Int
  jRe : Int
  jIm : Int
deriving DecidableEq, Repr

/-- Steps of a diagnostic run (R374, R377). -/
inductive DiagStep where
  | fadeOut | dcRise | dcHold | dcFall | sweep (k : Nat)
deriving DecidableEq, Repr

/-- A diagnostic run of one channel: at start or commanded, AMP_DIAG_CTL.MODE, its step with the samples done and due,
the correlator. -/
structure DiagRun where
  start : Bool
  mode : Nat
  step : DiagStep
  k : Nat
  len : Nat
  corr : Corr
  /-- R_dc measured in this run, Q16.16, all ones for open. -/
  rdc : Option Nat
  /-- A sense input of the channel has been lost during the run (R355). -/
  lost : Bool
deriving DecidableEq, Repr

/-- A half-bridge: the output that conducts, true the high one, and the MOD cycles of dead time still to run (R347). -/
structure HalfBridge where
  on : Option Bool
  wait : Nat
deriving DecidableEq, Repr

/-- What a carrier period plays: gates-low, the zero-low state, or pulses of duty word `d`, in MOD cycles of half a period
(Table 12.1, R346). -/
inductive Wanted where
  | off | zero
  | duty (d : Int)
deriving DecidableEq, Repr

/-- A carrier period of the running Ts: what it plays, and the cycle at which the current limit ends its pulse, with whether the
bridge goes gates-low there (R365, R366). -/
structure Carrier where
  play : Wanted
  cut : Option (Nat × Bool)
deriving DecidableEq, Repr

/-- The typed state of one modulator channel. -/
structure AmpCh where
  state : ChState
  /-- LOCKED, and whether by DC (R370) or by retests (R368). -/
  lockedDc : Bool
  /-- The protection factor (R350 step 3). -/
  prot : Mute
  /-- Carrier periods of the last trips, counted from N = 0, newest first (R366). -/
  trips : List Nat
  /-- The retest under way: samples played and the correlator (R367). -/
  retest : Option (Nat × Corr)
  diag : Option DiagRun
  /-- Smoothed rail-sag gain and power-limit gain in Q8.16 dB, the block's target for the latter, and the power-limit
  gains applied at the last three ticks, newest first (R360 to R363). -/
  rs : Int
  pl : Int
  plTarget : Int
  plHist : List Int
  /-- The power window, newest first: power without the channel's own gain and measured power, units of 2^-62 mW. -/
  win : List (Int × Int)
  /-- Sums of v over the blocks of the last second, newest first, and of the running block (R370). -/
  dcBlocks : List Int
  dcCur : Int
  /-- The pilot's two half-windows and the last whole window not yet read (R379). -/
  pilotA : Corr
  pilotB : Corr
  pilotDone : Option (Corr × Corr)
  /-- Impedance baselines: R_dc and Re Z_ref in Q16.16 ohm (R378). -/
  rdcBase : Option Nat
  zRef : Option Nat
  /-- The starting temperature T_ref, Q8.8 degrees. -/
  tRef : Int
  /-- The carrier periods of the running Ts, none listed for gates-low; the half-bridges at its start, and whether the bridge has been
  gates-low up to it (R349). -/
  plan : List Carrier
  halfA : HalfBridge
  halfB : HalfBridge
  idle : Bool
  /-- The values of step 5 of Table 12.2 that the interpolator holds, and the noise shaper's errors, newest first (R351). -/
  up : List Int
  shaper : List Int
  /-- The coil temperature that the power limit in force stands for, Q8.8 degrees (R364). -/
  tLim : Int
  /-- The channel has had its first audio since START (R374). -/
  started : Bool
deriving DecidableEq, Repr

/-- The AMP block: channels not listed are at rest in OFF; the bitstreams of the sense inputs over the last 4 Ts, newest first, none for
a Ts that brought none. DESIGN CHOICE, log 7: safe. -/
structure Amp where
  chs : Tbl AmpCh
  bits : Tbl (List (Option (BitVec 512)))
  /-- Lowest reading of each rail since AMP_RAIL_V was last read. -/
  vMin : Tbl Nat
  /-- Decimated sense samples of this tick: key 2m current, 2m + 1 voltage of channel m, 128 + r rail r, Q1.31. -/
  sense : Tbl Int
  /-- The values that leave step 5 of Table 12.2 at this tick, by channel. -/
  mod : Tbl Int
  /-- Writes to AMP registers that wait for the tick, address and command bits, oldest first, and the values that configuration
  registers take then (R34, R52, R381). -/
  waiting : List (Nat × Nat)
  parked : Tbl Nat
deriving DecidableEq, Repr


/-! ## Pairs, warm copy and Relief (chapter 11) -/

/-- The content of a Flash that the pair unit keeps (Table 11.3). -/
structure FlashInfo where
  mode : Nat
  claim : Nat
  blk : Nat
  epoch : Nat
  dtag : Nat
  flags : Nat
  gvalid : Nat
  hoBlk : Nat
  digests : List Nat
deriving DecidableEq, Repr

/-- An announced hand-over (R331) or SWAP (R333): its block, whether this node announced it, whether it has been
echoed, and the MODE request it answers. -/
structure HandOver where
  swap : Bool
  blk : Nat
  mine : Bool
  echoed : Bool
  /-- The LEAD has lost its partner or seen it at class 0 since, and stays (R332). -/
  void : Bool
deriving DecidableEq, Repr

/-- A unit's state in a warm copy (Table 11.12, KIND 0x10). -/
inductive UnitSt where
  | waiting | copying | verifying | joined | restart
deriving DecidableEq, Repr

/-- One unit of a warm copy (R323): its number (Table 11.11), its state, the next FSEQ of each kind, the block at whose
trigger R runs it itself, clean blocks verified, failed verifications, restarts, differences of this block; and at A the most
rows its mirror has taken in one tick, and the addresses of the rows its bulk copy has still to send. -/
structure WcUnit where
  id : Nat
  st : UnitSt
  fseq : Tbl Nat
  runAt : Option Nat
  clean : Nat
  fails : Nat
  restarts : Nat
  diffs : Nat
  rows : Nat
  left : List Nat
deriving DecidableEq, Repr

/-- A warm copy under way, as the returning node R or as its partner A. -/
structure WarmCopy where
  copyId : Nat
  units : List WcUnit
  /-- Patch descriptors collected from PATCH frames, and whether the set is whole and waits for the boundary. -/
  descr : List (List Byte)
  whole : Bool
  /-- The block at whose boundary they stand. -/
  descrBlk : Nat
  /-- FSEQ of R's next STATUS frame (Table 11.11). -/
  statusSeq : Nat
deriving DecidableEq, Repr

/-- A Relief takeover (R338, R339): logical Brick, failed physical Brick, Relief, whether commanded, and how far it is. -/
structure Takeover where
  logical : Nat
  failed : Nat
  relief : Nat
  commanded : Bool
  loaded : Bool
  runs : Bool
  ready : Bool
deriving DecidableEq, Repr

/-- A checkpoint round of one logical Brick (R341): buffer written now, words read, and the buffer of the last complete
round. -/
structure Ckpt where
  buf : Nat
  pos : Nat
  running : Bool
  startN : Nat
  complete : Option Nat
deriving DecidableEq, Repr

/-- The pair unit. DESIGN CHOICE, log 20: safe. -/
structure Pair where
  last : Option FlashInfo
  /-- BLK of the last accepted Flash, unless forgotten (R309). -/
  lastBlk : Option Nat
  /-- The partner is lost and no Flash has been accepted since (R310). -/
  lostNow : Bool
  /-- Sample ticks since the last accepted Flash (R310). -/
  quiet : Nat
  /-- Own and partner Flashes that wait for comparison, newest first (R315). -/
  own : List FlashInfo
  theirs : List FlashInfo
  /-- The partner's higher claim has been seen: yield at the next block boundary (R307). -/
  yield : Bool
  ho : Option HandOver
  /-- HO_BLK echoed to the partner's SWAP. -/
  echo : Option Nat
  /-- A STANDBY SHADOW has turned HOT (R318). -/
  hot : Bool
  /-- Output samples of the running block by network transmit channel, newest first (R314). -/
  block : Tbl (List Int)
  /-- R's copy, A's copy, a copy asked for, and the retry after a failure. -/
  wc : Option WarmCopy
  src : Option WarmCopy
  wcAsked : Bool
  wcRetry : Bool
  /-- The former LEAD of an exchange of roles begun by a takeover is to resync (R343). -/
  owed : Bool
  /-- The first block whose digests count after a warm copy (R329). -/
  countFrom : Nat
  /-- Rows that programs and fixed-function blocks have written in this tick, latest first, kept while a copy goes out (R326). -/
  wrote : List Nat
  takeovers : List Takeover
  /-- Physical Brick of each logical Brick that a Relief carries. -/
  carried : Tbl Nat
  ckpt : Tbl Ckpt
deriving DecidableEq, Repr


/-! ## Power, security and debug (chapter 17) -/

/-- The power controller's state beside its registers. DESIGN CHOICE, log 7: safe. -/
structure Power where
  /-- The entry fade of R474 runs. -/
  entering : Bool
  /-- A wake from P4 by link or capture keeps P3 the deepest state until this uptime (Table 17.3). -/
  floor : Option Nat
  /-- A relock keeps P3 the deepest state until this uptime (R472). -/
  relock : Option Nat
  /-- The reference selected at entry to P4, while the selector has not been ACQUIRING or LOCKED on it since. -/
  moored : Option Nat
  /-- Uptime at which the selector was last ACQUIRING or LOCKED on it. -/
  mooredSince : Nat
  /-- Uptimes of the last Flash and the last keep-alive sent in DORMANT, or of the entry. -/
  flashAt : Nat
  keepAt : Nat
  /-- The engine leaves DORMANT and listens for its partner: PWR_WAKE_STAT cause and index (R476). -/
  waking : Option (Nat × Nat)
  /-- Counted time, in the units of node.time, of the AWAKE occurrence that caused the wake, for PWR_LATE. -/
  due : Option Nat
  /-- The P3 port, chosen at entry (R468). -/
  p3port : Nat
  /-- Uptime at which the Keeper timer runs out that was named last (Table 17.2). -/
  timer : Option Nat
deriving DecidableEq, Repr

/-- The fuse banks (Table 17.6): LIFECYCLE bits, and each bank's content with whether it is written and verified. -/
structure Fuses where
  lifecycle : Nat
  deviceId : Nat
  mac : Nat
  medium : Nat
  kDev : List Byte
  kSign : List Byte
  signPub : List Byte
  ownerPub : List Byte
  keyChk : Nat
  /-- Provisioning banks written and verified: MEDIUM, K_DEV, K_SIGN with SIGN_PUB, OWNER_PUB; and those that failed. -/
  written : List Nat
  failed : List Nat
deriving DecidableEq, Repr

/-- Security and debug state beside the registers. DESIGN CHOICE, log 20: safe. -/
structure Sec where
  /-- The erasure of R482 runs. -/
  erasing : Bool
  /-- The challenge of R499, and the time out of which none is issued. -/
  challenge : Option (List Byte)
  backoff : Bool
  /-- Unlock failures since the last full START. -/
  failures : Nat
  /-- An authenticated FULL unlock in SEALED is active. -/
  unlocked : Bool
  /-- Boundary-scan register content preloaded or driven. -/
  boundary : Option Nat
  extest : Bool
deriving DecidableEq, Repr



/-! ## Network ports, switch and streams (chapter 8) -/

/-- A frame on its way out of a port: bytes from the destination address to the end of the payload (no FCS), its ingress
timestamp in the units of node.time (none for the engine's own), and the transmit descriptor it came from. -/
structure EgressFrame where
  bytes : List Byte
  ingress : Option Nat
  desc : Option (Nat × Nat)
deriving DecidableEq, Repr

/-- One external port: the attempt of Table 8.1 under way, the four egress queues, the frame being sent with its queue
and start, the shaper's credit (bits × 1000 × 2^16) at its last update, and ingress times of admitted broadcast and
unknown-destination frames. -/
structure Port where
  attempt : Nat
  queues : Vector (List EgressFrame) 4
  sending : Option (EgressFrame × Nat × Nat)
  credit : Int
  creditAt : Nat
  bcTimes : List Nat
deriving DecidableEq, Repr

/-- The switch: address table (MAC + 2^48 × domain → port), group table (group + 2^32 × domain → ports, bit 4 the internal port),
node address per domain and whether it is link-local. -/
structure Net where
  ports : Vector Port 4
  addrs : Tbl Nat
  groups : Tbl Nat
  node : Tbl Nat
  /-- Groups joined for the STANDBY watch (R318). -/
  watching : List (Nat × Nat)
  /-- Frames of the pair unit handed to the internal port since the last tick, by domain (R308, R324). -/
  outbox : List (Nat × List Byte)
deriving DecidableEq, Repr

/-- A copy held for a leg (R254): leg, N at its arrival, source address, bytes from the RTP header on, end of its frame. -/
structure RxCopy where
  leg : Nat
  n : Nat
  src : Nat
  rtp : List Byte
  endT : Nat
deriving DecidableEq, Repr

/-- A closed packet of a receive stream: first sample, and the selected copy's claim and payload (none when lost). -/
structure Packet where
  n0 : Nat
  sel : Option (Nat × List Byte)
deriving DecidableEq, Repr

/-- A receive stream: copies held, last deadline closed, packets being presented, newest first. -/
structure RxStream where
  held : List RxCopy
  closed : Option Nat
  packets : List Packet
deriving DecidableEq, Repr

/-- A transmit stream: its running packets, oldest first, each with its first sample and the images in force at it (CFG, DST, UDP,
TAG, SSRC, TSOFS; R249), and the frames of its last packet, by domain. -/
structure TxStream where
  runs : List (Nat × List Nat)
  last : List (Nat × List Byte)
deriving DecidableEq, Repr

/-- One channel of a channel selector (R320, R321): whether the alternate is the candidate, and the fade's sample. -/
structure ChSel where
  alt : Bool
  fade : Option Nat
deriving DecidableEq, Repr

/-- The stream engine. -/
structure Streams where
  rx : Tbl RxStream
  tx : Tbl TxStream
  /-- Transmit channel values of the last ticks, newest first. -/
  txHist : List (Tbl Int)
  /-- Channel selectors' channels: 64 × selector + channel. -/
  sel : Tbl ChSel
  /-- First samples of the partner's watched packets that have arrived (R318). -/
  watched : List Nat
deriving DecidableEq, Repr



/-! ## Time unit, PTP, reference selector (chapters 9 and 10) -/

/-- A foreign master heard (IEEE 1588): its port, its data, its announce interval, the uptime of its latest two Announce messages,
newest first. -/
structure Foreign where
  src : Nat
  clock : ClockData
  logIntv : Int
  heard : List Nat
deriving DecidableEq, Repr

/-- One PTP instance beside its registers. Times and offsets are in 2^-16 ns, rates in 2^-32. -/
structure PtpInst where
  foreign : List Foreign
  /-- Source port identity of the chosen master. -/
  master : Option Nat
  /-- No offset has been formed since the master was chosen (Table 9.2: the first ofs). -/
  first : Bool
  /-- t1 and t2 of the latest Sync used. -/
  lastSync : Option (Int × Int)
  /-- Sequence number, t2 and correction of a two-step Sync that waits for its Follow_Up. -/
  waitFollow : Option (Nat × Int × Int)
  /-- The latest offset and the t2 it stands for (R273). -/
  latest : Option (Int × Int)
  /-- Uptime of the latest Announce and of the latest Sync that count for the receipt timeout (Table 9.1). -/
  heardAt : Nat
  syncAt : Nat
  /-- t2 − t1 − cf_sync of the latest Sync. -/
  ms : Option Int
  /-- Sequence number and t3 of the Delay_Req that waits for its Delay_Resp. -/
  req : Option (Nat × Int)
  delays : List Int
  aside : List Int
  offsets : List Int
  offsAside : List Int
  rates : List Int
  nOffsets : Nat
  lockRun : Nat
  farRun : Nat
  splitRun : Nat
  nearRun : Nat
  drIntv : Int
  seqSync : Nat
  seqAnn : Nat
  seqReq : Nat
deriving DecidableEq, Repr

/-- An armed pulse (R277): tick base, first target and period in its unit (ticks, or 2^-16 ns), the next k, periodic. -/
structure PulseRun where
  tick : Bool
  start : Nat
  period : Nat
  k : Nat
  periodic : Bool
deriving DecidableEq, Repr

/-- A queued capture (R280): counter in 2^-16 ns, falling, OVF_BEFORE, PRE_STEP. -/
structure CapEntry where
  t : Nat
  fall : Bool
  ovf : Bool
  pre : Bool
deriving DecidableEq, Repr

/-- A capture input's queue, oldest first, and whether an edge was discarded since the last one accepted. -/
structure CapQueue where
  entries : List CapEntry
  lost : Bool
deriving DecidableEq, Repr

/-- One reference as the selector measures it (R283 to R287): last event, unwrapped phase in 2^-16 ns and the correction of ROOT
summed over time until then, index of the last update, the same at the last seconds (newest first), the phase window of a switch,
updates in a row within the lock window, y_r in 2^-32, whether its conditions hold, and the seconds its timers have run. -/
structure RefSt where
  last : Option (Nat × Int × Int)
  upd : Nat
  snaps : List (Nat × Int × Int)
  winN : Nat
  winSum : Int
  run : Nat
  y : Int
  ok : Bool
  okFor : Nat
  wtrFor : Nat
deriving DecidableEq, Repr

/-- The reference selector beside its registers: the state of Table 10.2 that underlies DISAGREE, the state and
reference a switch left, whether that reference was lost since, an update of the target since the commit point, for each
pair of references the measurements in a row that disagreed and that agreed, a pending re-alignment's N_AT with the reference whose
mute runs, the correction of ROOT (2^-32) summed over the time in 2^-16 ns until a value of the counter, the reference recorded on
entry to P3 or P4 and the one that requalifies after a wake (R300). -/
structure Selector where
  refs : Tbl RefSt
  base : Nat
  fromState : Nat
  fromRef : Nat
  fromLost : Bool
  updated : Bool
  dis : Tbl Nat
  agr : Tbl Nat
  realign : Option (Nat × Option Nat)
  ySum : Int
  yAt : Nat
  recorded : Option Nat
  requal : Option Nat
  /-- The reference that was followed last and no longer is, and the uptime at which that ended (R472). -/
  left : Option (Nat × Nat)
deriving DecidableEq, Repr

/-- The time unit. -/
structure TimeUnit where
  ptp : Tbl PtpInst
  pulses : Tbl PulseRun
  caps : Tbl CapQueue
  sel : Selector
  /-- A restep, not the first lock, is under way (R276). -/
  restep : Bool
  /-- TMS_NOW captures by master: counter and N (R533). -/
  now : Tbl (Nat × Nat)
  /-- The PTP instances whose UTC_OFFSET has been valid (R469). -/
  utc : List Nat
deriving DecidableEq, Repr



/-! ## Control-bus MACs, two-wire buses, DMA, Mortar (chapters 13 to 15) -/

/-- A frame in a transmit slot: TAG, bytes from the destination on without FCS, attempts and collisions so far, the KMP
session and REQ_ID that submitted it. -/
structure CbusFrame where
  tag : Nat
  bytes : List Byte
  attempts : Nat
  collisions : Nat
  owner : Option (Nat × Nat)
deriving DecidableEq, Repr

/-- A result entry (R396). -/
structure CbusRes where
  tag : Nat
  result : Nat
  attempts : Nat
  owner : Option (Nat × Nat)
deriving DecidableEq, Repr

/-- A receive slot that holds a frame: CBUS_RX_STAT image, CBUS_RX_TS, bytes, bytes read so far. -/
structure CbusSlot where
  stat : Nat
  ts : Nat
  bytes : List Byte
  pos : Nat
deriving DecidableEq, Repr

/-- What a MAC's transmitter does with the frame at the head of its queue: defer, send an attempt, back off for r slot
times. -/
inductive CbusPhase where
  | defer
  | attempt
  | backoff (slots : Nat)
deriving DecidableEq, Repr

/-- One control-bus MAC beside its registers. -/
structure CbusMac where
  /-- The slot being filled. -/
  fill : Option (List Byte)
  queue : List CbusFrame
  phase : CbusPhase
  /-- FLUSH or a disable waits for the attempt in progress, which is not retried: the frames behind it that then end. -/
  flush : Option Nat
  results : List CbusRes
  rx : List CbusSlot
  /-- MDIO frame in progress: write, data. -/
  mdio : Option (Bool × Nat)
  /-- Carrier has been held for DEFER_MAX and has not fallen (the cause of R390). -/
  stuck : Bool
  /-- Receive is ignored after a jabber (R394). -/
  jabber : Bool
  txLost : Bool
  rxLost : Bool
  /-- The generator of the back-off values (R391). -/
  gen : Word32
  /-- Enabled in DORMANT: the PHY is reached once the engine leaves it (R385, R386). -/
  enabling : Bool
deriving DecidableEq, Repr

/-- A configured partner (R398): requests missed in a row, a request that waits for its answer, the frame that answered last. -/
structure Partner where
  misses : Nat
  asked : Bool
  reading : Option (List Byte)
deriving DecidableEq, Repr

/-- The control buses: the MACs, and the configured partners by their PERIPHERALS keys. DESIGN CHOICE, log 7: safe. -/
structure Cbus where
  macs : Tbl CbusMac
  partners : Tbl Partner
deriving DecidableEq, Repr

/-- A TW0 transaction: the TW0_CMD image, its write bytes, retries made, whether it waits to be retried after a lost
arbitration, the KMP session and REQ_ID that submitted it. -/
structure Tw0Run where
  cmd : Nat
  data : List Byte
  tries : Nat
  lost : Bool
  owner : Option (Nat × Nat)
deriving DecidableEq, Repr

/-- The TW0 controller beside its registers. DESIGN CHOICE, log 7: safe. -/
structure Tw0 where
  tx : List Byte
  rx : List Byte
  pos : Nat
  run : Option Tw0Run
  /-- Another controller's START holds the bus (R410). -/
  taken : Bool
  /-- Transactions a session submitted that wait for those before them: TW0_CMD image, write bytes, session and REQ_ID (R404). -/
  waits : List (Nat × List Byte × Option (Nat × Nat))
  /-- SDA, SCL held low: the causes of R412. -/
  sdaLow : Bool
  sclLow : Bool
deriving DecidableEq, Repr

/-- The TW1 target beside its registers: the address after a protocol error is not acknowledged (R420). -/
structure Tw1 where
  skip : Bool
deriving DecidableEq, Repr

/-- A DMA descriptor in progress (Table 15.2). -/
structure DmaDesc where
  src : Nat
  dst : Nat
  len : Nat
  ctl : Nat
  user : Nat
deriving DecidableEq, Repr

/-- What a channel does once its record is appended: go on by END, halt, or stand IDLE after an abort. -/
inductive DmaAfter where
  | onward (last : Bool)
  | halt
  | aborted
deriving DecidableEq, Repr

/-- One DMA channel beside its registers: END pending in IDLE, whether the read under way is a re-read, the descriptor
in progress, whether it holds a buffer partition, and the record that waits with its queue and what follows it. -/
structure DmaCh where
  endSeen : Bool
  reread : Bool
  desc : Option DmaDesc
  part : Bool
  record : Option (Nat × List Byte × DmaAfter)
deriving DecidableEq, Repr

/-- The DMA engine beside its registers: channels in order of their wait for a queue, and the last channel given a
partition in each priority. -/
structure Dma where
  chs : Tbl DmaCh
  waits : List Nat
  lastPart : Tbl Nat
deriving DecidableEq, Repr

/-- Mortar: source granted last by each target's arbiter, Brick granted last by each Course arbiter (R434), requests of
resetting masters that wait at their ports (R432), 64-bit rows of shared SRAM with an uncorrectable error (R461). -/
structure Mortar where
  top : Tbl Nat
  course : Tbl Nat
  held : List MortarReq
  /-- Bricks whose requests at their Course port drain (R432). -/
  drains : List Nat
  badRows : List Nat
  /-- Rows of Brick memory, by address / 8, whose check bits find a single-bit error (R138). -/
  softRows : List Nat
deriving DecidableEq, Repr


/-! ## Why a step can stop -/

/-- Nothing in this model stops with a fault: the spec gives every command an effect, an error response or no effect. The
type has no member, which is safe: no claim can rest on a fault. -/
inductive Fault
deriving DecidableEq, Repr

/-- Refusals. -/
inductive Refusal where
  /-- Raised by `exec` for a command without a meaning in the model; no arm of `exec` raises it now. Safe: the model stops
  where the engine goes on. -/
  | notModelled (mnemonic : String)
deriving DecidableEq, Repr

/-! ## The engine -/

/-- The state of one engine. -/
structure State where
  /-- Every register of Table 1.10's blocks, by address; an address not listed holds its reset value. -/
  regs : List (Nat × Word64)
  /-- Brick memory, delay pool and shared SRAM by management address; an address not listed reads 0. -/
  mem : List Host.Cell
  /-- The xSPI store by device address; an address not listed reads 0xFF. -/
  store : List Host.Cell
  node : Node
  flt : Flt
  kmp : Kmp
  st : StoreSt
  audio : Audio
  bricks : Tbl Brick
  amp : Amp
  pair : Pair
  net : Net
  str : Streams
  tu : TimeUnit
  cbus : Cbus
  tw0 : Tw0
  tw1 : Tw1
  dma : Dma
  mortar : Mortar
  /-- The capture of R25 of each master: address of the upper word and its value. -/
  caps : List (Master × Nat × Word32)
  pwr : Power
  fuses : Fuses
  sec : Sec
  /-- The model's counter of free values used (not the spec's). DESIGN CHOICE, log 1: safe. -/
  free : Nat
  /-- Outputs put out so far (the model's own record of what the outside sees). DESIGN CHOICE, log 2: safe. -/
  out : List Output
  pending : List Instr
deriving DecidableEq, Repr

/-! ## Reset -/

/-- A register context of a Brick at reset. DESIGN CHOICE, log 83: unsafe. -/
def Ctx.reset : Ctx :=
  { x := Vector.replicate 16 0, a := Vector.replicate 4 0, p := Vector.replicate 8 0, b := Vector.replicate 8 0,
    l := Vector.replicate 8 0, f := ⟨false, false, false, false, false⟩, tn := 0, pc := 0, rets := [], loops := [] }

/-- Mode and time base at reset: the supplies in range, RESET_N low, START, N and the time counter 0 (R264, R268). The
straps and the grade are the model's choice (log 3). DESIGN CHOICE, log 10: unsafe. -/
def Node.reset : Node :=
  { powered := true, inReset := true, mode := .start, prevMode := .start, cause := .powerOn, role := .processing,
    fs96 := false, lockedOnce := false, phase := .none, heard := false, n := 0, fresh := true, holdNow := false, serviceNow := false, time := 0, pattern := 0, t0 := 0, uptime := 0,
    releaseTo := none, released := false, stepping := none, asked := [], startAsked := none, strapPins := 0, grade := 0 }

/-- The fault collector at reset. -/
def Flt.reset : Flt :=
  { hold := 0, degrade := 0, safe := 0, asserted := 0, chanSafe := [], resetPending := none, pulsing := false, resetTimes := [], supplyBad := false,
    reliefNone := [], compactBad := false, scrubbing := [] }

/-- The KMP server at reset. DESIGN CHOICE, log 83: unsafe. -/
def Kmp.reset : Kmp :=
  { sessions := [], controller := none, nextProposal := 1, proposals := [], barred := [], transfer := none, groupBuf := none }

/-- The store engine at reset; no device is identified yet. DESIGN CHOICE, log 4: unsafe. DESIGN CHOICE, log 83: unsafe. -/
def StoreSt.reset : StoreSt :=
  { density := 0, cfg := [], base := [], journal := [], jrnStartOfs := 0, lastSeq := 0, lastCrc := 0, waiting := [], writing := none,
    committed := [], codeLoads := [], trigWaits := [], bankLoads := [], compaction := none, compactTries := 0,
    compactRetry := false, erasing := [] }

/-- The audio engine at reset: outputs muted (Table 2.4 step 1). DESIGN CHOICE, log 83: unsafe. -/
def Audio.reset : Audio :=
  { running := false, patch := [], muteNet := ⟨[.start], 0, 1, 0, 0⟩, muteOut := ⟨[.start], 0, 1, 0, 0⟩, mutes := [],
    lines := [], dyn := [], detaching := [], lookWait := [], lim := [], limApplied := [], meters := [], history := [],
    pipe := [], brickIn := [], sums := [], tdmOut := [], modIn := [], classFade := [], touchedEntries := [], touchedInsts := [],
    touchedLines := [], startN := 0 }

/-- The pair unit at reset. DESIGN CHOICE, log 83: unsafe. -/
def Pair.reset : Pair :=
  { last := none, lastBlk := none, lostNow := false, quiet := 0, own := [], theirs := [], yield := false, ho := none, echo := none,
    hot := false, block := [], wc := none, src := none, wcAsked := false, wcRetry := false, owed := false, countFrom := 0, wrote := [], takeovers := [], carried := [],
    ckpt := [] }

/-- The network at reset. DESIGN CHOICE, log 83: unsafe. -/
def Net.reset : Net :=
  { ports := Vector.replicate 4 ⟨0, Vector.replicate 4 [], none, 0, 0, []⟩, addrs := [], groups := [], node := [], watching := [], outbox := [] }

/-- The reference selector at reset: NO_HISTORY on REF5. DESIGN CHOICE, log 83: unsafe. -/
def Selector.reset : Selector :=
  { refs := [], base := 0, fromState := 0, fromRef := 0, fromLost := false, updated := false, dis := [], agr := [],
    realign := none, ySum := 0, yAt := 0, recorded := none, requal := none, left := none }

/-- The power controller at reset. DESIGN CHOICE, log 83: unsafe. -/
def Power.reset : Power :=
  { entering := false, floor := none, relock := none, moored := none, mooredSince := 0, flashAt := 0, keepAt := 0,
    waking := none, due := none, p3port := 0, timer := none }

/-- The fuses: an OPEN part with an MRAM store and every key bank zero (log 3); KEY_CHK is the CRC of those banks. -/
def Fuses.reset : Fuses :=
  { lifecycle := 1, deviceId := 0, mac := 0, medium := 1, kDev := List.replicate 32 0, kSign := List.replicate 32 0,
    signPub := List.replicate 64 0, ownerPub := List.replicate 64 0, keyChk := 136799451, written := [0, 1, 2, 3], failed := [] }

/-- Security and debug at reset. DESIGN CHOICE, log 83: unsafe. -/
def Sec.reset : Sec :=
  { erasing := false, challenge := none, backoff := false, failures := 0, unlocked := false, boundary := none, extest := false }

/-- The engine right after reset: RESET_N low, every register at its reset value, memories and queues empty.
DESIGN CHOICE, log 3: unsafe. DESIGN CHOICE, log 10: unsafe. -/
def State.reset : State :=
  { regs := [], mem := [], store := [], node := Node.reset, flt := Flt.reset, kmp := Kmp.reset, st := StoreSt.reset,
    audio := Audio.reset, bricks := [], amp := ⟨[], [], [], [], [], [], []⟩, pair := Pair.reset, net := Net.reset,
    str := ⟨[], [], [], [], []⟩, tu := ⟨[], [], [], Selector.reset, false, [], []⟩, cbus := ⟨[], []⟩,
    tw0 := ⟨[], [], 0, none, false, [], false, false⟩, tw1 := ⟨false⟩, dma := ⟨[], [], []⟩, mortar := ⟨[], [], [], [], [], []⟩, caps := [],
    pwr := Power.reset, fuses := Fuses.reset, sec := Sec.reset, free := 0, out := [], pending := [] }

end Sys2Proof.Machine
end

