-- ==== Sys2Proof/Machine/Ops.lean ====
section
/-! DEFINITION. The named operations over the register file, the memories and the sparse tables of the state. -/

namespace Sys2Proof.Machine

/-! ## Sparse maps in canonical form: keys rising, no entry equal to what an unlisted key reads as -/

/-- What key `a` reads as, `d` giving the value of an unlisted key. -/
def cget {α : Type} (d : Nat → α) : List (Nat × α) → Nat → α
  | [], a => d a
  | (b, v) :: m, a => if a = b then v else cget d m a

/-- Insert or replace an entry, keys kept rising. -/
def cins {α : Type} : List (Nat × α) → Nat → α → List (Nat × α)
  | [], a, v => [(a, v)]
  | (b, w) :: m, a, v =>
    if a < b then (a, v) :: (b, w) :: m
    else if a = b then (a, v) :: m
    else (b, w) :: cins m a v

/-- Remove the entry of a key. -/
def cdel {α : Type} (m : List (Nat × α)) (a : Nat) : List (Nat × α) :=
  m.filter (fun e => !(e.1 == a))

/-- Write a value, keeping the canonical form. -/
def cset {α : Type} [DecidableEq α] (d : Nat → α) (m : List (Nat × α)) (a : Nat) (v : α) : List (Nat × α) :=
  if v = d a then cdel m a else cins m a v

/-- Keys strictly rising. -/
def rising {α : Type} : List (Nat × α) → Bool
  | [] => true
  | [_] => true
  | e :: f :: m => decide (e.1 < f.1) && rising (f :: m)

/-- The canonical form. -/
def cwf {α : Type} [DecidableEq α] (d : Nat → α) (m : List (Nat × α)) : Bool :=
  rising m && m.all (fun e => decide (e.2 ≠ d e.1))

/-- The entry of a key in a sparse table. -/
def tget {α : Type} : Tbl α → Nat → Option α
  | [], _ => none
  | (b, v) :: m, a => if a = b then some v else tget m a

/-- The entry of a key, or a default. -/
def tgetD {α : Type} (m : Tbl α) (a : Nat) (d : α) : α := (tget m a).getD d

/-- Set, or with `none` remove, the entry of a key. -/
def tput {α : Type} (m : Tbl α) (a : Nat) : Option α → Tbl α
  | some v => cins m a v
  | none => cdel m a

/-- Change every entry. -/
def tmap {α : Type} (f : Nat → α → α) (m : Tbl α) : Tbl α := m.map (fun e => (e.1, f e.1 e.2))

/-! ## Bit fields -/

/-- `width` bits of `v` from bit `lo` (R12). -/
def fieldOf (v lo width : Nat) : Nat := v / 2 ^ lo % 2 ^ width

/-- `v` with `width` bits from bit `lo` replaced. -/
def withField (v lo width x : Nat) : Nat :=
  v / 2 ^ (lo + width) * 2 ^ (lo + width) + x % 2 ^ width * 2 ^ lo + v % 2 ^ lo

/-- The little-endian number of a list of bytes (R13). -/
def leNat : List Byte → Nat
  | [] => 0
  | b :: bs => b.toNat + 256 * leNat bs

/-- A number as `n` little-endian bytes. -/
def leBytes : Nat → Nat → List Byte
  | 0, _ => []
  | n + 1, v => BitVec.ofNat 8 v :: leBytes n (v / 256)

/-- The big-endian number of a list of bytes. -/
def beNat (bs : List Byte) : Nat := leNat bs.reverse

/-- A number as `n` big-endian bytes. -/
def beBytes (n v : Nat) : List Byte := (leBytes n v).reverse

/-! ## The register file -/

/-- The image a register holds. -/
def State.rg (s : State) (a : Nat) : Nat := (cget resetValue s.regs a).toNat

/-- The image last written to a register: an AMP register takes it at the next tick (R34), and reads back at once. -/
def State.lastWritten (s : State) (a : Nat) : Nat := (tget s.amp.parked a).getD (s.rg a)

/-- Set a register's image. -/
def State.setRg (s : State) (a v : Nat) : State :=
  { s with regs := cset resetValue s.regs a (BitVec.ofNat 64 v) }

/-- Put a register back to its reset value. -/
def State.clearRg (s : State) (a : Nat) : State := { s with regs := cdel s.regs a }

/-- A field's value. -/
def State.get (s : State) (f : Fld) : Nat := fieldOf (s.rg f.addr) f.lo f.width

/-- Set a field, the register's other bits unchanged. -/
def State.put (s : State) (f : Fld) (v : Nat) : State :=
  s.setRg f.addr (withField (s.rg f.addr) f.lo f.width v)

/-- A one-bit field. -/
def State.bit (s : State) (f : Fld) : Bool := s.get f != 0

/-- Set a one-bit field. -/
def State.putBit (s : State) (f : Fld) (b : Bool) : State := s.put f (if b then 1 else 0)

/-- A field read as two's complement. -/
def State.getS (s : State) (f : Fld) : Int := signed f.width (s.get f)

/-- Add to a counting field that holds at its maximum. -/
def State.bump (s : State) (f : Fld) (n : Nat := 1) : State :=
  s.put f (min (2 ^ f.width - 1) (s.get f + n))

/-- Add to a counting field that wraps. -/
def State.bumpWrap (s : State) (f : Fld) (n : Nat := 1) : State := s.put f (s.get f + n)

/-! ## Memory -/

/-- What a byte of SRAM reads as before anything has written it: zero (step 4 of Table 2.4). DESIGN CHOICE, log 4: unsafe. -/
def memDefault (_ : Nat) : Byte := 0

/-- What a byte of the store reads as before anything has written it (R529 leaves it open). DESIGN CHOICE, log 4: unsafe. -/
def storeDefault (_ : Nat) : Byte := 0xFF

/-- The canonical form of a memory. -/
def Memory.wf (m : List Host.Cell) : Bool := cwf memDefault m

/-- The canonical form of the store. -/
def Store.wf (m : List Host.Cell) : Bool := cwf storeDefault m

/-- One byte of the SRAM windows. DESIGN CHOICE, log 4: unsafe. -/
def State.rdByte (s : State) (a : Nat) : Byte := cget memDefault s.mem a

/-- Write one byte of the SRAM windows. -/
def State.wrByte (s : State) (a : Nat) (v : Byte) : State := { s with mem := cset memDefault s.mem a v }

/-- `n` bytes from address `a`. -/
def State.rdBytes (s : State) : Nat → Nat → List Byte
  | 0, _ => []
  | n + 1, a => s.rdByte a :: s.rdBytes n (a + 1)

/-- Write bytes from address `a` on. -/
def State.wrBytes (s : State) (a : Nat) : List Byte → State
  | [] => s
  | b :: bs => (s.wrByte a b).wrBytes (a + 1) bs

/-- A row of shared SRAM with an uncorrectable error lies in a range (R461). DEDUCED, log 80: unsafe. -/
def State.sramFails (s : State) (a n : Nat) : Bool :=
  s.mortar.badRows.any (fun r => decide (0x30000000 + 8 * r < a + n) && decide (a < 0x30000000 + 8 * r + 8))

/-- A row of shared SRAM becomes uncorrectable (R461). -/
def State.badRow (s : State) (r : Nat) : State :=
  if s.mortar.badRows.contains r then s else { s with mortar := { s.mortar with badRows := r :: s.mortar.badRows } }

/-- A bit flips in a row of Brick memory, 32,768 × Brick + row: a load or fetch reads it corrected, a store or the scrubber mends it
(R138, R462). -/
def State.softRow (s : State) (r : Nat) : State :=
  let k := 0x2000000 + r
  if s.mortar.softRows.contains k then s else { s with mortar := { s.mortar with softRows := k :: s.mortar.softRows } }

/-- A write to a range gives the rows it meets valid check bits (R461). -/
def State.healRows (s : State) (a n : Nat) : State :=
  if s.sramFails a n then
    { s with mortar := { s.mortar with badRows := s.mortar.badRows.filter (fun r =>
      !(decide (0x30000000 + 8 * r < a + n) && decide (a < 0x30000000 + 8 * r + 8))) } }
  else s

/-- A 32-bit word, little-endian (R13). -/
def State.rd32 (s : State) (a : Nat) : Word32 := BitVec.ofNat 32 (leNat (s.rdBytes 4 a))

/-- Write a 32-bit word. -/
def State.wr32 (s : State) (a : Nat) (v : Word32) : State := s.wrBytes a (leBytes 4 v.toNat)

/-- A number of `n` bytes. -/
def State.rdNat (s : State) (n a : Nat) : Nat := leNat (s.rdBytes n a)

/-- Write a number of `n` bytes. -/
def State.wrNat (s : State) (n a v : Nat) : State := s.wrBytes a (leBytes n v)

/-- `n` values from key `a` on, of a map whose keys rise and are none below `a`. -/
def readRun {α : Type} (d : Nat → α) : List (Nat × α) → Nat → Nat → List α
  | _, 0, _ => []
  | [], n + 1, a => d a :: readRun d [] n (a + 1)
  | (b, v) :: m, n + 1, a => if b = a then v :: readRun d m n (a + 1) else d a :: readRun d ((b, v) :: m) n (a + 1)

/-- `n` bytes of the store from device address `a`. DESIGN CHOICE, log 4: unsafe. -/
def State.rdStore (s : State) (n a : Nat) : List Byte :=
  readRun storeDefault (s.store.dropWhile (fun c => decide (c.1 < a))) n a

/-- Write bytes of the store. -/
def State.wrStore (s : State) (a : Nat) : List Byte → State
  | [] => s
  | b :: bs => ({ s with store := cset storeDefault s.store a b } : State).wrStore (a + 1) bs

/-- Address of word `w` of Brick `b` (Table 1.10, R138). -/
def brickWordAddr (b w : Nat) : Nat := 0x10000000 + 0x40000 * b + 4 * (w % 65536)

/-- A word of Brick memory. -/
def State.brickWord (s : State) (b w : Nat) : Word32 := s.rd32 (brickWordAddr b w)

/-- The row at an address is written back whole, with new check bits: a single-bit error in it is corrected (R138). -/
def State.mendRow (s : State) (a : Nat) : State :=
  { s with mortar := { s.mortar with softRows := s.mortar.softRows.filter (fun r => r != a / 8) } }

/-- A program or a fixed-function block writes the row at an address, while a warm copy goes out (R326). -/
def State.noteRow (s : State) (a : Nat) : State :=
  if s.pair.src.isSome then { s with pair := { s.pair with wrote := a / 8 * 8 :: s.pair.wrote } } else s

/-- Write a word of Brick memory. -/
def State.setBrickWord (s : State) (b w : Nat) (v : Word32) : State := ((s.wr32 (brickWordAddr b w) v).mendRow (brickWordAddr b w)).noteRow (brickWordAddr b w)

/-- Take the next free value's index. DESIGN CHOICE, log 1: safe. -/
def State.nextFree (s : State) : State := { s with free := s.free + 1 }

/-- What a command answers. -/
abbrev Result := Host.Outcome State Fault Refusal

/-- The engine runs: powered, out of reset, not halted in SCRAPPED or in an erasure (R67, R482). DEDUCED, log 9: unsafe. -/
def State.alive (s : State) : Bool :=
  s.node.powered && !s.node.inReset && (match s.node.phase with
    | .halted => false
    | _ => true)

/-- A command takes effect in every state; the queue of waiting commands is the step's. DEDUCED, log 9: unsafe. -/
def always (s : State) (f : State → State) : Result := .next { f s with pending := s.pending }

/-- A command takes effect while the engine runs. An event whose condition the state does not meet changes nothing, and one
that ends a time-out not counted in samples is a fact of the environment.
DEDUCED, log 9: unsafe. DESIGN CHOICE, log 7: safe. DESIGN CHOICE, log 8: safe. -/
def runs (s : State) (f : State → State) : Result := always s (fun s => if s.alive then f s else s)

/-- A command of the debug port's TAP takes effect while the engine is powered and out of reset, halted or not (R496).
DEDUCED, log 9: unsafe. -/
def tapRuns (s : State) (f : State → State) : Result :=
  always s (fun s => if s.node.powered && !s.node.inReset then f s else s)

/-- `n` steps of a state function. -/
def iterate {α : Type} (f : α → α) : Nat → α → α
  | 0, s => s
  | n + 1, s => iterate f n (f s)

/-- A number below `n`, or none. -/
def finOf (n v : Nat) : Option (Fin n) := if h : v < n then some ⟨v, h⟩ else none

end Sys2Proof.Machine
end

