-- ==== Sys2Proof/Machine/Operands.lean ====
section
/-! DEFINITION. The operand forms of a Brick bundle (R144, R155 to R157), the move and operation encodings (Tables 5.4,
5.6, 5.7), and the checks of R160 on one bundle. -/

namespace Sys2Proof.Machine

/-! ## Contexts -/

/-- A context with every register zero (R127). -/
def Ctx.zero : Ctx :=
  { x := Vector.replicate 16 0, a := Vector.replicate 4 0, p := Vector.replicate 8 0,
    b := Vector.replicate 8 0, l := Vector.replicate 8 0,
    f := ⟨false, false, false, false, false⟩, tn := 0, pc := 0, rets := [], loops := [] }

/-- A Brick at rest after START. DESIGN CHOICE, log 83: unsafe. -/
def Brick.zero : Brick :=
  { fg := Ctx.zero, bg := Ctx.zero, fgWork := none, bgWork := none, ready := [], port := ⟨0, 0, 0, 0, 0, []⟩ }

/-- Write a data register. -/
def Ctx.setX (c : Ctx) (r : Fin 16) (v : Word32) : Ctx := { c with x := c.x.set r.val v r.isLt }
/-- Write an accumulator. -/
def Ctx.setA (c : Ctx) (k : Fin 4) (v : Acc) : Ctx := { c with a := c.a.set k.val v k.isLt }
/-- Write a pointer. -/
def Ctx.setP (c : Ctx) (g : Fin 8) (v : BitVec 16) : Ctx := { c with p := c.p.set g.val v g.isLt }
/-- Write a generator register. -/
def Ctx.setGen (c : Ctx) (file : GenFile) (g : Fin 8) (v : BitVec 16) : Ctx :=
  match file with
  | .p => c.setP g v
  | .b => { c with b := c.b.set g.val v g.isLt }
  | .l => { c with l := c.l.set g.val v g.isLt }
/-- Read a generator register. -/
def Ctx.gen (c : Ctx) (file : GenFile) (g : Fin 8) : BitVec 16 :=
  match file with
  | .p => c.p[g]
  | .b => c.b[g]
  | .l => c.l[g]

/-! ## Address generators -/

/-- wrap(p, s, b, l) on exact integers (R144). -/
def wrap (p s b l : Int) : Nat :=
  let t := p + s
  if l = 0 then (t % 65536).toNat
  else if t ≥ b + l then ((t - l) % 65536).toNat
  else if t < b then ((t + l) % 65536).toNat
  else (t % 65536).toNat

/-- The step of an address field, signed. -/
def stepVal (c : Ctx) : Step → Int
  | .imm v => v.toInt
  | .reg r => (c.x[r].truncate 16 : BitVec 16).toInt

/-- Pointer `p` of generator `g` moved by a step. -/
def wrapGen (c : Ctx) (p : BitVec 16) (g : Fin 8) (st : Step) : BitVec 16 :=
  BitVec.ofNat 16 (wrap p.toNat (stepVal c st) (c.b[g].toNat) (c.l[g].toNat))

/-- The generator and mode part of a field: the word address it gives and the pointer it leaves, from pointer values `p`. -/
def agAddr (c : Ctx) (p : Vector (BitVec 16) 8) : AgField → Nat × Vector (BitVec 16) 8
  | .none => (0, p)
  | .plain g => (p[g].toNat, p)
  | .post g st => (p[g].toNat, p.set g.val (wrapGen c p[g] g st) g.isLt)
  | .indexed g st => ((wrapGen c p[g] g st).toNat, p)

/-- Both fields of a bundle: the address of A, the address of B, the pointers after both updates (A first, R156). -/
def agBoth (c : Ctx) (bd : Bundle) : Nat × Nat × Vector (BitVec 16) 8 :=
  let r := agAddr c c.p bd.aga
  let q := agAddr c r.2 bd.agb
  (r.1, q.1, q.2)

/-! ## Operands -/

/-- The value a selector names, from the words its bundle accessed. -/
def selVal (c : Ctx) (ma mb : Word32) : Sel → Word32
  | .x r => c.x[r]
  | .mem .a => ma
  | .mem .b => mb

/-- The second operand of form R. -/
def selBVal (c : Ctx) (ma mb : Word32) : SelB → Word32
  | .sel s => selVal c ma mb s
  | .imm v => v.zeroExtend 32

end Sys2Proof.Machine

namespace Sys2Proof

/-- The operand selectors an operation reads. -/
def BrickOp.sels : BrickOp → List Sel
  | .mac _ _ a b | .msu _ _ a b | .mpy _ _ a b | .mpn _ _ a b | .mpyx _ _ a b => [a, b]
  | .alu _ _ a (.sel b) | .cmp a (.sel b) => [a, b]
  | .alu _ _ a (.imm _) | .cmp a (.imm _) => [a]
  | .abs _ a | .neg _ a => [a]
  | _ => []

/-- The x register an operation writes. -/
def BrickOp.dstX : BrickOp → Option (Fin 16)
  | .alu _ d _ _ | .abs d _ | .neg d _ | .mpyx d _ _ _ | .ldi d _ | .lsi d _ | .cls d _ => some d
  | _ => none

/-- The accumulator an operation writes. -/
def BrickOp.dstA : BrickOp → Option (Fin 4)
  | .mac k _ _ _ | .msu k _ _ _ | .mpy k _ _ _ | .mpn k _ _ _ | .aclr k | .amov k _ | .aadd k _ | .asub k _
  | .aneg k _ | .aabs k _ | .ashl k _ _ | .ashr k _ _ | .aldx k _ | .ares k _ _ _ => some k
  | _ => none

/-- The x register a move writes. -/
def Move.dstX : Move → Option (Fin 16)
  | .ld d _ | .cvt _ _ d | .mov d _ | .mfg _ _ d | .mfgTN d => some d
  | _ => Option.none

/-- The field a move accesses memory through. -/
def Move.ag : Move → Option Ag
  | .ld _ g | .st _ g | .sta _ _ g => some g
  | _ => Option.none

/-- The field named. -/
def Bundle.field (bd : Bundle) : Ag → AgField
  | .a => bd.aga
  | .b => bd.agb

/-- A selector or a load names the field. -/
def Bundle.reads (bd : Bundle) (g : Ag) : Bool :=
  bd.op.sels.any (fun s => s == .mem g) ||
  (match bd.mv with | .ld _ h => h == g | _ => false)

/-- A store names the field. -/
def Bundle.stores (bd : Bundle) (g : Ag) : Bool :=
  match bd.mv with
  | .st _ h | .sta _ _ h => h == g
  | _ => false

/-- The generator a field updates. -/
def AgField.updates : AgField → Option (Fin 8)
  | .post g _ => some g
  | _ => Option.none

end Sys2Proof

namespace Sys2Proof.Machine

/-- The checks of R160 that one bundle can break by itself, reserved encodings aside: no x register written twice, no MTG
into a pointer beside a post-modify of it, no store through a field that is also read, no access through a field whose
mode is none, no loop of length 0. DEDUCED, log 16: unsafe. -/
def bundleOk (bd : Bundle) : Bool :=
  (match bd.op.dstX, bd.mv.dstX with | some d, some e => d != e | _, _ => true) &&
  (match bd.mv with
   | .mtg .p g _ => bd.aga.updates != some g && bd.agb.updates != some g
   | _ => true) &&
  (match bd.mv with
   | .st _ g | .sta _ _ g => !(bd.op.sels.any (fun s => s == .mem g))
   | _ => true) &&
  ([Ag.a, Ag.b].all fun g => !(bd.reads g || bd.stores g) || bd.field g != .none) &&
  (match bd.op with | .loop len _ | .loopr len _ => len != 0 | _ => true)

/-! ## Encodings -/

/-- Operand selector codes (R157). -/
def decodeSel (v : Nat) : Option Sel :=
  if h : v < 16 then some (.x ⟨v, h⟩) else if v = 0x10 then some (.mem .a) else if v = 0x11 then some (.mem .b) else none

/-- An address field (Table 5.2). STEP and SR of MODE plain may hold any value, which nothing reads. DESIGN CHOICE, log 95: unsafe. -/
def decodeAg (v : Nat) : Option AgField :=
  let mode := fieldOf v 13 2
  let g : Fin 8 := ⟨fieldOf v 10 3, Nat.mod_lt _ (by decide)⟩
  let sr := fieldOf v 9 1
  let st := fieldOf v 0 9
  let step : Option Step :=
    if sr = 0 then some (.imm (BitVec.ofNat 9 st))
    else if st < 16 then some (.reg ⟨st % 16, Nat.mod_lt _ (by decide)⟩) else none
  match mode with
  | 0 => if v = 0 then some .none else none
  | 1 => if sr = 0 ∧ st = 0 then some (.plain g) else step.map (fun _ => .plain g)
  | 2 => step.map (.post g)
  | _ => step.map (.indexed g)

/-- Format codes (Table 5.5). -/
def decodeFmt : Nat → Option Fmt
  | 0 => some .q31 | 1 => some .q30 | 2 => some .int32 | 3 => some .spill0 | 4 => some .spill1 | 5 => some .spill2
  | _ => none

/-- A number below 2^k as a register number. -/
def finMod (n v : Nat) (h : 0 < n) : Fin n := ⟨v % n, Nat.mod_lt _ h⟩

/-- The field a move's AG bit names. -/
def agOf (v : Nat) : Ag := if v = 0 then .a else .b

/-- The move field (Table 5.4). -/
def decodeMove (v : Nat) : Option Move :=
  let r (lo : Nat) : Fin 16 := finMod 16 (fieldOf v lo 4) (by decide)
  let k : Fin 4 := finMod 4 (fieldOf v 7 2) (by decide)
  let g : Fin 8 := finMod 8 (fieldOf v 4 3) (by decide)
  match fieldOf v 9 3 with
  | 0 => if v = 0 then some .none else none
  | 1 => if fieldOf v 0 4 = 0 then some (.ld (r 5) (agOf (fieldOf v 4 1))) else none
  | 2 => if fieldOf v 0 4 = 0 then some (.st (r 5) (agOf (fieldOf v 4 1))) else none
  | 3 => if fieldOf v 0 3 = 0 then (decodeFmt (fieldOf v 4 3)).map (fun f => .sta k f (agOf (fieldOf v 3 1))) else none
  | 4 => (decodeFmt (fieldOf v 4 3)).map (fun f => .cvt k f (r 0))
  | 5 => if fieldOf v 8 1 = 0 then some (.mov (r 4) (r 0)) else none
  | 6 =>
    (match fieldOf v 7 2 with
     | 0 => some (.mtg .p g (r 0))
     | 1 => some (.mtg .b g (r 0))
     | 2 => some (.mtg .l g (r 0))
     | _ => if fieldOf v 4 3 = 0 then some (.mtgF (r 0)) else none)
  | _ =>
    (match fieldOf v 7 2 with
     | 0 => some (.mfg .p g (r 0))
     | 1 => some (.mfg .b g (r 0))
     | 2 => some (.mfg .l g (r 0))
     | _ => if fieldOf v 4 3 = 0 then some (.mfgTN (r 0)) else none)

/-- Condition codes (Table 5.8). -/
def decodeCond (v : Nat) : Option Cond :=
  [Cond.al, .eq, .ne, .lt, .ge, .gt, .le, .vs, .vc, .ss, .as_, .ns][v]?

/-- Two-operand codes 0x10 to 0x1B. -/
def decodeAlu (v : Nat) : Option AluOp :=
  [AluOp.add, .adds, .sub, .subs, .and, .or, .xor, .shl, .shr, .asr, .min, .max][v - 0x10]?

/-- The second operand of form R: SB, or the unsigned immediate in its place when IM is 1. -/
def decodeSelB (im sb : Nat) : Option SelB :=
  if im = 0 then (decodeSel sb).map .sel else some (.imm (BitVec.ofNat 5 sb))

/-- The operation of codes OP and OPF (Tables 5.6 and 5.7); none where the encoding is reserved (R160). -/
def decodeOp (op f : Nat) : Option BrickOp :=
  let k : Fin 4 := finMod 4 (fieldOf f 14 2) (by decide)
  let j : Fin 4 := finMod 4 (fieldOf f 12 2) (by decide)
  let d : Fin 16 := finMod 16 (fieldOf f 12 4) (by decide)
  let sa := decodeSel (fieldOf f 7 5)
  let sb := decodeSel (fieldOf f 2 5)
  let r (lo : Nat) : Fin 16 := finMod 16 (fieldOf f lo 4) (by decide)
  let sh := fieldOf f 6 6
  let formM (mk : Fin 4 → Fin 4 → Sel → Sel → BrickOp) : Option BrickOp :=
    if fieldOf f 0 2 = 0 then (match sa, sb with | some a, some b => some (mk k j a b) | _, _ => none) else none
  let formA (mk : Fin 4 → Fin 4 → BrickOp) : Option BrickOp :=
    if fieldOf f 0 12 = 0 then some (mk k j) else none
  match op with
  | 0x00 => if f = 0 then some .nop else none
  | 0x01 => formM .mac
  | 0x02 => formM .msu
  | 0x03 => formM .mpy
  | 0x04 => formM .mpn
  | 0x05 => if fieldOf f 0 14 = 0 then some (.aclr k) else none
  | 0x06 => formA .amov
  | 0x07 => formA .aadd
  | 0x08 => formA .asub
  | 0x09 => formA .aneg
  | 0x0A => formA .aabs
  | 0x0B => if fieldOf f 0 6 = 0 then (finOf 16 sh).map (.ashl k j) else none
  | 0x0C => if fieldOf f 0 6 = 0 then (finOf 64 sh).map (.ashr k j) else none
  | 0x0D => if fieldOf f 0 10 = 0 then some (.aldx k (r 10)) else none
  | 0x0E => if fieldOf f 0 2 = 0 then some (.ares k (r 10) (r 6) (r 2)) else none
  | 0x1C => if fieldOf f 0 7 = 0 then sa.map (.abs d) else none
  | 0x1D => if fieldOf f 0 7 = 0 then sa.map (.neg d) else none
  | 0x1E =>
    if fieldOf f 12 4 = 0 ∧ fieldOf f 0 1 = 0 then
      (match sa, decodeSelB (fieldOf f 1 1) (fieldOf f 2 5) with | some a, some b => some (.cmp a b) | _, _ => none)
    else none
  | 0x1F => (match sa, sb with
     | some a, some b => some (.mpyx d (finMod 4 (fieldOf f 0 2) (by decide)) a b) | _, _ => none)
  | 0x20 => some (.ldi d (BitVec.ofNat 12 f))
  | 0x21 => some (.lsi d (BitVec.ofNat 12 f))
  | 0x22 => if fieldOf f 0 10 = 0 then some (.cls d (finMod 4 (fieldOf f 10 2) (by decide))) else none
  | 0x30 => (decodeCond (fieldOf f 12 4)).map (fun c => .br c (BitVec.ofNat 12 f))
  | 0x31 => (decodeCond (fieldOf f 12 4)).map (fun c => .call c (BitVec.ofNat 12 f))
  | 0x32 => if f = 0 then some .ret else none
  | 0x33 => if fieldOf f 0 12 = 0 then some (.jmpx d) else none
  | 0x34 => some (.loop (BitVec.ofNat 6 (fieldOf f 10 6)) (BitVec.ofNat 10 f))
  | 0x35 => if fieldOf f 0 6 = 0 then some (.loopr (BitVec.ofNat 6 (fieldOf f 10 6)) (r 6)) else none
  | 0x36 => if f = 0 then some .endp else none
  | _ =>
    if 0x10 ≤ op ∧ op ≤ 0x1B ∧ fieldOf f 0 1 = 0 then
      (match decodeAlu op, sa, decodeSelB (fieldOf f 1 1) (fieldOf f 2 5) with
       | some o, some a, some b => some (.alu o d a b) | _, _, _ => none)
    else none

/-- A bundle's 64 bits (Table 5.1); none where any field is reserved. DEDUCED, log 16: unsafe. -/
def decodeBundle (w : Nat) : Option Bundle :=
  match decodeOp (fieldOf w 58 6) (fieldOf w 42 16), decodeAg (fieldOf w 27 15), decodeAg (fieldOf w 12 15),
    decodeMove (fieldOf w 0 12) with
  | some o, some a, some b, some m => some ⟨o, a, b, m⟩
  | _, _, _, _ => none

/-- A bundle that executes as NOP and nothing else (R160). DEDUCED, log 16: unsafe. -/
def nopBundle : Bundle := ⟨.nop, .none, .none, .none⟩

end Sys2Proof.Machine
end

