-- ==== Sys2Proof/Machine/Flags.lean ====
section
/-! DEFINITION. The flag computations of a Brick (Table 4.4, R129, R132, R163, R164), its accumulator conversions (R130)
and its branch conditions (Table 5.8). -/

namespace Sys2Proof.Machine

/-- Z and N of a result, V given, SS and AS kept. -/
def Flags.result (f : Flags) (v : Int) (sat : Bool) : Flags := { f with z := v == 0, n := decide (v < 0), v := sat }

/-- The flags after an accumulate (R129, R163): AS is set when it saturates and stays set. -/
def Flags.accum (f : Flags) (v : Int) (sat : Bool) : Flags := { f.result v sat with asat := f.asat || sat }

/-- The flags after a conversion (R132, R164): SS is set when it saturates and stays set. -/
def Flags.convert (f : Flags) (v : Int) (sat : Bool) : Flags := { f.result v sat with ss := f.ss || sat }

/-- F as MTG writes it from the low five bits of a register (Table 5.4). -/
def Flags.ofBits (w : Word32) : Flags :=
  ⟨w.getLsbD 0, w.getLsbD 1, w.getLsbD 2, w.getLsbD 3, w.getLsbD 4⟩

/-- A branch condition (Table 5.8). -/
def Flags.test (f : Flags) : Cond → Bool
  | .al => true
  | .eq => f.z
  | .ne => !f.z
  | .lt => f.n
  | .ge => !f.n
  | .gt => !f.z && !f.n
  | .le => f.z || f.n
  | .vs => f.v
  | .vc => !f.v
  | .ss => f.ss
  | .as_ => f.asat
  | .ns => !f.ss && !f.asat

/-- round-half-even of a at bit k (R130). -/
def roundAt (a : Int) (k : Nat) : Int := rhe a (2 ^ k)

/-- cvt(a, fmt): the 32-bit value and whether it saturated (Table 4.3, R130). -/
def convert (a : Int) : Fmt → Int × Bool
  | .q31 => let q := roundAt a 32; (sat32 q, sat32 q != q)
  | .q30 => let q := roundAt a 33; (sat32 q, sat32 q != q)
  | .int32 => (sat32 a, sat32 a != a)
  | .spill0 => ((BitVec.ofInt 32 a).toInt, false)
  | .spill1 => ((BitVec.ofInt 32 (a / 2 ^ 32)).toInt, false)
  | .spill2 => ((BitVec.ofInt 16 (a / 2 ^ 64)).toInt, false)

/-- The product of two operands shifted by alignment code `al` (R128). -/
def alignedProduct (sa sb : Word32) (al : Fin 4) : Int := sa.toInt * sb.toInt * 2 ^ al.val

end Sys2Proof.Machine
end

