-- ==== Sys2Proof/Machine/Brick.lean ====
section
/-! DEFINITION. What one bundle does to a Brick's context and memory (Table 5.7, R155 to R168). -/

namespace Sys2Proof.Machine

/-! ## One bundle on one context -/

/-- What a bundle leaves: the context, a word to store, whether an accumulate saturated, how many conversions did,
whether a branch was taken, whether the program's run ended, whether a loop body came round, whether one was skipped. -/
structure BundleEffect where
  ctx : Ctx
  store : Option (Nat × Word32)
  accSat : Bool
  convSats : Nat
  taken : Bool
  ended : Bool
  cameRound : Bool
  skipped : Bool
deriving DecidableEq, Repr

/-- A 32-bit result written by an ALU operation: value, flags source (exact result), whether it saturated. -/
def aluResult (o : AluOp) (sa sb : Word32) : Word32 × Int × Bool :=
  let plain (w : Word32) : Word32 × Int × Bool := (w, w.toInt, false)
  let satw (v : Int) : Word32 × Int × Bool := (BitVec.ofInt 32 (sat32 v), sat32 v, sat32 v != v)
  let sh := sb.toNat % 32
  match o with
  | .add => plain (sa + sb)
  | .adds => satw (sa.toInt + sb.toInt)
  | .sub => plain (sa - sb)
  | .subs => satw (sa.toInt - sb.toInt)
  | .and => plain (sa &&& sb)
  | .or => plain (sa ||| sb)
  | .xor => plain (sa ^^^ sb)
  | .shl => plain (sa <<< sh)
  | .shr => plain (sa >>> sh)
  | .asr => plain (sa.sshiftRight sh)
  | .min => plain (if sa.toInt ≤ sb.toInt then sa else sb)
  | .max => plain (if sa.toInt ≤ sb.toInt then sb else sa)

/-- Consecutive bits below bit 79 equal to it (CLS). -/
def signRun (a : Acc) : Nat :=
  let s := a.getLsbD 79
  ((List.range 79).map (fun i => a.getLsbD (78 - i))).takeWhile (fun b => b == s) |>.length

/-- Write an accumulator with the flags of an operation that cannot saturate. -/
def accPlain (c : Ctx) (k : Fin 4) (v : Int) : Ctx × Bool :=
  ({ c.setA k (BitVec.ofInt 80 v) with f := c.f.result (BitVec.ofInt 80 v).toInt false }, false)

/-- Write an accumulator by sat80, with its flags (R129). -/
def accSatW (c : Ctx) (k : Fin 4) (v : Int) : Ctx × Bool :=
  let r := sat80 v
  ({ c.setA k (BitVec.ofInt 80 r) with f := c.f.accum r (r != v) }, r != v)

/-- Write an x register with flags Z, N and V. -/
def xFlags (c : Ctx) (d : Fin 16) (r : Word32 × Int × Bool) : Ctx :=
  { c.setX d r.1 with f := c.f.result r.2.1 r.2.2 }

/-- The arithmetic operations of Table 5.7 on context `o` (as it stood before the bundle), written into context `c`:
the context, whether an accumulate saturated, whether a conversion did. -/
def arith (o c : Ctx) (ma mb : Word32) (op : BrickOp) : Ctx × Bool × Bool :=
  let sv := selVal o ma mb
  let acc (r : Ctx × Bool) : Ctx × Bool × Bool := (r.1, r.2, false)
  let reg (r : Ctx) : Ctx × Bool × Bool := (r, false, false)
  match op with
  | .mac k al sa sb => acc (accSatW c k (o.a[k].toInt + alignedProduct (sv sa) (sv sb) al))
  | .msu k al sa sb => acc (accSatW c k (o.a[k].toInt - alignedProduct (sv sa) (sv sb) al))
  | .mpy k al sa sb => acc (accPlain c k (alignedProduct (sv sa) (sv sb) al))
  | .mpn k al sa sb => acc (accPlain c k (-alignedProduct (sv sa) (sv sb) al))
  | .aclr k => acc (accPlain c k 0)
  | .amov k j => acc (accPlain c k o.a[j].toInt)
  | .aadd k j => acc (accSatW c k (o.a[k].toInt + o.a[j].toInt))
  | .asub k j => acc (accSatW c k (o.a[k].toInt - o.a[j].toInt))
  | .aneg k j => acc (accSatW c k (-o.a[j].toInt))
  | .aabs k j => acc (accSatW c k (o.a[j].toInt.natAbs))
  | .ashl k j sh => acc (accSatW c k (o.a[j].toInt * 2 ^ sh.val))
  | .ashr k j sh => acc (accPlain c k (o.a[j].toInt / 2 ^ sh.val))
  | .aldx k xl => acc (accPlain c k (o.x[xl].toInt * 2 ^ 32))
  | .ares k xl xm xh =>
    acc (accPlain c k ((o.x[xh].truncate 16 : BitVec 16).toInt * 2 ^ 64 + o.x[xm].toNat * 2 ^ 32 + o.x[xl].toNat))
  | .alu op d sa sb => reg (xFlags c d (aluResult op (sv sa) (selBVal o ma mb sb)))
  | .abs d sa =>
    let v : Int := (sv sa).toInt.natAbs
    reg (xFlags c d (BitVec.ofInt 32 (sat32 v), sat32 v, sat32 v != v))
  | .neg d sa =>
    let v := -(sv sa).toInt
    reg (xFlags c d (BitVec.ofInt 32 (sat32 v), sat32 v, sat32 v != v))
  | .cmp sa sb =>
    reg { c with f := c.f.result ((sv sa).toInt - (selBVal o ma mb sb).toInt) false }
  | .mpyx d al sa sb =>
    let r := convert (alignedProduct (sv sa) (sv sb) al) (if al = 0 then .int32 else .q31)
    ({ c.setX d (BitVec.ofInt 32 r.1) with f := c.f.convert r.1 r.2 }, false, r.2)
  | .ldi d imm => reg (c.setX d (imm.signExtend 32))
  | .lsi d imm => reg (c.setX d (o.x[d] * 4096 + imm.zeroExtend 32))
  | .cls d k => reg (c.setX d (BitVec.ofNat 32 (signRun o.a[k])))
  | _ => (c, false, false)

/-- The move of a bundle on context `o`, written into `c`: the context, the word to store, whether a conversion saturated.
MTG into F is left to the end of the bundle (R164). -/
def moveEffect (o c : Ctx) (aa ab : Nat) (ma mb : Word32) (mv : Move) : Ctx × Option (Nat × Word32) × Bool :=
  let addr : Ag → Nat := fun g => match g with | .a => aa | .b => ab
  let word : Ag → Word32 := fun g => match g with | .a => ma | .b => mb
  match mv with
  | .none => (c, none, false)
  | .ld d g => (c.setX d (word g), none, false)
  | .st r g => (c, some (addr g, o.x[r]), false)
  | .sta k fmt g =>
    let r := convert o.a[k].toInt fmt
    ({ c with f := c.f.convert r.1 r.2 }, some (addr g, BitVec.ofInt 32 r.1), r.2)
  | .cvt k fmt d =>
    let r := convert o.a[k].toInt fmt
    ({ c.setX d (BitVec.ofInt 32 r.1) with f := c.f.convert r.1 r.2 }, none, r.2)
  | .mov d r => (c.setX d o.x[r], none, false)
  | .mtg file g r => (c.setGen file g (o.x[r].truncate 16), none, false)
  | .mtgF _ => (c, none, false)
  | .mfg file g d => (c.setX d ((o.gen file g).zeroExtend 32), none, false)
  | .mfgTN d => (c.setX d o.tn, none, false)

/-- The bundle index `n` after `pc`. -/
def pcAdd (pc : BitVec 15) (n : Int) : BitVec 15 := BitVec.ofInt 15 (pc.toNat + n)

/-- How many bundles a loop's body has, bundle indices counted modulo 32,768. -/
def bodyLen (fr : LoopFrame) : Nat := (fr.last + 32768 - fr.first) % 32768 + 1

/-- Whether a loop's body holds a bundle. -/
def inBody (fr : LoopFrame) (q : Nat) : Bool := decide ((q + 32768 - fr.first) % 32768 < bodyLen fr)

/-- Loops whose body holds the target stay; inner ones that do not, end (Table 5.9). DEDUCED, log 17: unsafe. -/
def keepLoops (target : Nat) : List LoopFrame → List LoopFrame
  | [] => []
  | fr :: rest => if inBody fr target then fr :: rest else keepLoops target rest

/-- The bundle after one that does not branch, the loops then active, and whether a body comes round (R167). Where the last run of a body ends on the last bundle of the enclosing one too, that one comes round
or ends in its turn. DEDUCED, log 17: unsafe. -/
def sequential (pc : BitVec 15) : List LoopFrame → BitVec 15 × List LoopFrame × Bool
  | fr :: rest =>
    if pc.toNat = fr.last then
      if 1 < fr.left then (BitVec.ofNat 15 fr.first, { fr with left := fr.left - 1 } :: rest, true)
      else sequential pc rest
    else (pcAdd pc 1, fr :: rest, false)
  | [] => (pcAdd pc 1, [], false)

/-- Control flow of a bundle (R165 to R167): context `o` before it, `c` with its other effects; gives the context, and
whether a branch was taken, the run ended, a body came round, a body was skipped. A CALL on the last bundle of a body leaves the
loop active with its count, and the RET goes to the bundle after the body. DEDUCED, log 17: unsafe. -/
def control (o c : Ctx) (op : BrickOp) : Ctx × Bool × Bool × Bool × Bool :=
  let q := o.pc
  let seq : Ctx × Bool × Bool × Bool × Bool :=
    let n := sequential q o.loops
    ({ c with pc := n.1, loops := n.2.1 }, false, false, n.2.2, false)
  let endRun : Ctx × Bool × Bool × Bool × Bool := ({ c with rets := [], loops := [] }, false, true, false, false)
  let enter (len count : Nat) : Ctx × Bool × Bool × Bool × Bool :=
    if 2 ≤ o.loops.length then ({ c with pc := pcAdd q 1 }, false, false, false, false)
    else ({ c with pc := pcAdd q 1, loops := ⟨(pcAdd q 1).toNat, (pcAdd q len).toNat, count⟩ :: o.loops }, false, false, false, false)
  match op with
  | .br cond rel =>
    if o.f.test cond then
      let t := pcAdd q rel.toInt
      ({ c with pc := t, loops := keepLoops t.toNat o.loops }, true, false, false, false)
    else seq
  | .call cond rel =>
    if o.f.test cond then
      ({ c with pc := pcAdd q rel.toInt, rets := (pcAdd q 1 :: o.rets).take 4 }, true, false, false, false)
    else seq
  | .ret =>
    match o.rets with
    | t :: rest => ({ c with pc := t, rets := rest }, true, false, false, false)
    | [] => endRun
  | .jmpx x =>
    let t : BitVec 15 := o.x[x].truncate 15
    ({ c with pc := t, loops := keepLoops t.toNat o.loops }, true, false, false, false)
  | .loop len count => enter len.toNat (if count = 0 then 1024 else count.toNat)
  | .loopr len x =>
    let n := (o.x[x].truncate 16 : BitVec 16).toNat
    if n = 0 then ({ c with pc := pcAdd q (len.toNat + 1) }, false, false, false, true)
    else enter len.toNat n
  | .endp => endRun
  | _ => seq

/-- What a bundle does to a context, the words its two fields access given (R136, R159, R163, R164). -/
def bundleEffect (o : Ctx) (ma mb : Word32) (bd : Bundle) : BundleEffect :=
  let ag := agBoth o bd
  let c0 : Ctx := { o with p := ag.2.2 }
  let mvd := moveEffect o c0 ag.1 ag.2.1 ma mb bd.mv
  let ar := arith o mvd.1 ma mb bd.op
  let c2 : Ctx := match bd.mv with | .mtgF r => { ar.1 with f := Flags.ofBits o.x[r] } | _ => ar.1
  let ct := control o c2 bd.op
  { ctx := ct.1, store := mvd.2.1, accSat := ar.2.1,
    convSats := (if mvd.2.2 then 1 else 0) + (if ar.2.2 then 1 else 0),
    taken := ct.2.1, ended := ct.2.2.1, cameRound := ct.2.2.2.1, skipped := ct.2.2.2.2 }

end Sys2Proof.Machine
end

