-- ==== Sys2Proof/Machine/Pipe.lean ====
section
/-! DEFINITION. The pipeline of a Brick: interlocks (Table 4.6), slots (Table 4.7), the Course port (R142), the fetch queue
(R141), and the cycle in which a bundle is in stage M (R134 to R141, R161). -/

namespace Sys2Proof.Machine

/-! ## Interlocks (Table 4.6) -/

/-- x registers a bundle reads in stage D: register steps, MTG into p, b or l, JMPX, LOOPR (R161). -/
def readsInD (bd : Bundle) : List Nat :=
  let st : AgField → List Nat := fun g => match g with
    | .post _ (.reg r) | .indexed _ (.reg r) => [r.val]
    | _ => []
  st bd.aga ++ st bd.agb ++
  (match bd.mv with | .mtg _ _ r => [r.val] | _ => []) ++
  (match bd.op with | .jmpx r | .loopr _ r => [r.val] | _ => [])

/-- Accumulators a bundle reads in stage X (R161). -/
def readsAccX (bd : Bundle) : List Nat :=
  (match bd.op with
   | .amov _ j | .aadd _ j | .asub _ j | .aneg _ j | .aabs _ j | .ashl _ j _ | .ashr _ j _ => [j.val]
   | .cls _ k => [k.val]
   | _ => []) ++
  (match bd.mv with | .sta k _ _ | .cvt k _ _ => [k.val] | _ => [])

/-- A conditional branch. -/
def isCondBranch (bd : Bundle) : Bool :=
  match bd.op with
  | .br c _ | .call c _ => c != .al
  | _ => false

/-- Whether a bundle writes F. -/
def writesFlags (bd : Bundle) : Bool :=
  (match bd.op with
   | .nop | .ldi _ _ | .lsi _ _ | .cls _ _ | .br _ _ | .call _ _ | .ret | .jmpx _ | .loop _ _ | .loopr _ _ | .endp => false
   | _ => true) ||
  (match bd.mv with | .sta _ _ _ | .cvt _ _ _ | .mtgF _ => true | _ => false)

/-- Words a bundle reads in stage M. -/
def wordsRead (o : Ctx) (bd : Bundle) : List Nat :=
  let ag := agBoth o bd
  (if bd.reads .a then [ag.1] else []) ++ (if bd.reads .b then [ag.2.1] else [])

/-- The cycle before which a bundle gets no slots in stage M, by one earlier bundle (Table 4.6): registers it reads in D, a loaded one
being ready when the loading bundle leaves M (Table 4.5), flags a conditional branch tests, words it loads. -/
def notBefore (o : Ctx) (bd : Bundle) (p : Produced) : Nat :=
  let d := readsInD bd
  let hit (b : Bool) (n : Nat) : Nat := if b then n else 0
  [hit (match p.load with | some r => d.contains r | none => false) (p.t + 2),
   hit (p.alu.any (fun r => d.contains r)) (p.t + 3),
   hit (p.flags && isCondBranch bd) (p.t + 4),
   hit (match p.stored with | some w => (wordsRead o bd).contains w | none => false) (p.t + 3)].foldl max 0

/-- The cycle before which a bundle does not leave stage M, by one earlier bundle (Table 4.6): an accumulator it reads in X. -/
def notLeaving (bd : Bundle) (p : Produced) : Nat :=
  match p.acc with
  | some k => if (readsAccX bd).contains k then p.t + 2 else 0
  | none => 0

/-- What a bundle produces, for later bundles. -/
def produced (bd : Bundle) (t : Nat) (st : Option Nat) : Produced :=
  { t := t
    load := match bd.mv with | .ld d _ => some d.val | _ => none
    alu := (match bd.op.dstX with | some d => [d.val] | none => []) ++
      (match bd.mv with | .cvt _ _ d | .mov d _ | .mfg _ _ d | .mfgTN d => [d.val] | _ => [])
    acc := bd.op.dstA.map (fun k => k.val)
    flags := writesFlags bd
    stored := st }

/-! ## The Course port (Table 4.7 orders 2 and 4) -/

/-- A management access left from an earlier Ts, which has waited more than 64 cycles, may steal (R142). -/
def CPort.oldSteals (p : CPort) : Bool := decide (0 < p.old) && decide (p.mgmtSteals < 8)

/-- A request has waited 64 cycles at cycle `c` of the Ts, and a management access may still steal (R142). A request counts
as arriving at the tick. DESIGN CHOICE, log 13: unsafe. -/
def CPort.aged (p : CPort) (c : Int) : Bool :=
  p.oldSteals || (decide (64 ≤ c) && (0 < p.audio || (0 < p.mgmt && p.mgmtSteals < 8)))

/-- A request takes a slot at order 2: the oldest first, then samples and checkpoint reads before management accesses.
DESIGN CHOICE, log 13: unsafe. -/
def CPort.steal (p : CPort) : CPort :=
  if p.oldSteals then { p with old := p.old - 1, steals := p.steals + 1, mgmtSteals := p.mgmtSteals + 1 }
  else if 0 < p.audio then { p with audio := p.audio - 1, steals := p.steals + 1 }
  else { p with mgmt := p.mgmt - 1, steals := p.steals + 1, mgmtSteals := p.mgmtSteals + 1 }

/-- Requests take up to `n` free slots at order 4, oldest first: the port and the slots left. -/
def CPort.serve (p : CPort) (n : Nat) : CPort × Nat :=
  let o := min n p.old
  let a := min (n - o) p.audio
  let m := min (n - o - a) p.mgmt
  ({ p with old := p.old - o, audio := p.audio - a, mgmt := p.mgmt - m }, n - o - a - m)

/-- Requests waiting. -/
def CPort.waiting (p : CPort) : Nat := p.audio + p.mgmt + p.old

/-- Orders 1 and 2 of Table 4.7 at cycle `c` of the Ts: the port and the slots left. -/
def CPort.claim (p : CPort) (c : Int) (store : Bool) : CPort × Nat :=
  let free := if store then 1 else 2
  if p.aged c then (p.steal, free - 1) else (p, free)

/-- `n` cycles from cycle `c` of the Ts on, in which no program runs; a store of one that has ended may be in W. -/
def CPort.idle (c : Int) : Nat → CPort → CPort
  | 0, p => p
  | n + 1, p =>
    if p.waiting = 0 then p
    else
      let r := p.claim c (p.stores.contains c)
      CPort.idle (c + 1) n (r.1.serve r.2).1

/-! ## The fetch queue (R141) -/

/-- The fetch queue: bundles with the cycle in which each was fetched, oldest first. -/
abbrev Queue := List (Nat × Nat)

/-- A bundle is in the queue. -/
def Queue.has (q : Queue) (i : Nat) : Bool := q.any (fun e => e.1 == i)

/-- Bundle `i` was fetched at least `n` cycles before cycle `c`: one for F, two for D, three for M. -/
def Queue.reaches (q : Queue) (i n c : Nat) : Bool := q.any (fun e => e.1 == i && decide (e.2 + n ≤ c))

/-- The next bundle in sequence from `pc` not yet fetched. -/
def Queue.next (q : Queue) (pc : Nat) : Nat :=
  ((List.range 35).map (fun i => (pc + i) % 32768)).find? (fun i => !q.has i) |>.getD pc

/-- Bundle `i` stays in the queue for an active loop, the PC at `pc`: its body is retained, or is kept while the code it
called runs (R141). -/
def retains (loops : List LoopFrame) (pc i : Nat) : Bool :=
  loops.any (fun fr => inBody fr i && decide (bodyLen fr ≤ if inBody fr pc then 32 else 31))

/-- What a program fetches and waits for: the active loops and the bundle index of its next bundle to enter M. -/
structure Fetcher where
  loops : List LoopFrame
  pc : Nat

/-- Bundles of the list that have left the queue in cycle `c`: the next one, in F or D, and the one after it, in F. -/
def Queue.left (q : Queue) (f : Fetcher) (c : Nat) : Nat :=
  let after := (f.pc + 1) % 32768
  (if q.reaches f.pc 1 c && !retains f.loops f.pc f.pc then 1 else 0)
    + (if q.reaches f.pc 2 c && q.reaches after 1 c && !retains f.loops f.pc after then 1 else 0)

/-- Fetch up to `n` bundles in cycle `c` while the queue has room for 32. Where it has none, the next bundle wanted takes the
place of the oldest one. DESIGN CHOICE, log 13: unsafe. -/
def Queue.fetch (f : Fetcher) (c : Nat) : Nat → Queue → Queue
  | 0, q => q
  | n + 1, q =>
    if q.length < 32 + q.left f c then Queue.fetch f c n (q ++ [(q.next f.pc, c)])
    else if q.has f.pc then q
    else q.drop 1 ++ [(f.pc, c)]

/-- The queue after a bundle with this effect: what lies ahead of the PC stays unless a branch was taken, and what a loop
retains stays. A loop body that comes round counts as a taken branch when its first bundle is not in the queue (Table 5.9). -/
def Queue.after (q : Queue) (e : BundleEffect) : Queue :=
  let pc := e.ctx.pc.toNat
  let clears := e.taken || (e.cameRound && !q.has pc)
  q.filter (fun x => retains e.ctx.loops pc x.1 || (!clears && decide ((x.1 + 32768 - pc) % 32768 < 35)))

/-- The first cycle in which the bundle after one with this effect, in M at cycle `m`, can be in M, when the queue holds it:
one later, two for a taken branch into a retained body, three for a skipped body (R137, Table 5.9). -/
def BundleEffect.follow (e : BundleEffect) (m : Nat) : Nat :=
  if e.taken then m + 2 else if e.skipped then m + 3 else m + 1

/-! ## One bundle through stage M -/

/-- A store reaches W in cycle `c` (R140). -/
def storeIn (recent : List Produced) (c : Nat) : Bool := recent.any (fun p => p.stored.isSome && p.t + 2 == c)

/-- Orders 4 and 5 of Table 4.7 in cycle `c`: the port and the fetch take the `free` slots. -/
def passSlots (f : Fetcher) (c free : Nat) (x : CPort × Queue) : CPort × Queue :=
  let r := x.1.serve free
  (r.1, Queue.fetch f c r.2 x.2)

/-- `n` cycles from cycle `c` on in which the bundle in M takes no slot. -/
def passCycles (f : Fetcher) (base : Int) (recent : List Produced) : Nat → Nat → CPort × Queue → CPort × Queue
  | 0, _, x => x
  | n + 1, c, x =>
    let r := x.1.claim (base + c) (storeIn recent c)
    passCycles f base recent n (c + 1) (passSlots f c r.2 (r.1, x.2))

/-- The cycle in which a bundle that needs `need` slots, and may have them from cycle `early` on, gets them (R139); the port and
the queue then, and the slots it leaves. -/
def findSlots (f : Fetcher) (early need : Nat) (base : Int) (recent : List Produced) :
    Nat → Nat → CPort × Queue → Nat × Nat × CPort × Queue
  | 0, c, x => (c, 0, x)
  | n + 1, c, x =>
    let r := x.1.claim (base + c) (storeIn recent c)
    if early ≤ c && x.2.reaches f.pc 3 c && need ≤ r.2 then (c, r.2 - need, (r.1, x.2))
    else findSlots f early need base recent n (c + 1) (passSlots f c r.2 (r.1, x.2))

/-- A program's work and the port after a bundle with effect `e`, issued from context `o` (R135 to R141, R161): it gets its
slots in one cycle of M, leaves M in that or a later one, and from then on the fetch follows its effect.
DESIGN CHOICE, log 13: unsafe. -/
def Work.issue (w : Work) (o : Ctx) (bd : Bundle) (e : BundleEffect) (p : CPort) : Work × CPort :=
  let early := (w.recent.map (notBefore o bd)).foldl max (max w.hold (w.cycles + 1))
  let here : Fetcher := ⟨o.loops, o.pc.toNat⟩
  let there : Fetcher := ⟨e.ctx.loops, e.ctx.pc.toNat⟩
  let (g, left, x) := findSlots here early (wordsRead o bd).length w.base w.recent (p.waiting + 24) (w.cycles + 1) (p, w.queue)
  let m := (w.recent.map (notLeaving bd)).foldl max g
  let x := if m = g then passSlots there g left (x.1, x.2.after e)
    else
      let y := passCycles here w.base w.recent (m - g - 1) (g + 1) (passSlots here g left x)
      passCycles there w.base w.recent 1 m (y.1, y.2.after e)
  ({ w with
      cycles := m
      recent := (produced bd m (e.store.map Prod.fst) :: w.recent).take 4
      queue := x.2
      hold := e.follow m }, x.1)

/-- The cycles of the Ts in which stores of the recent bundles are in W. -/
def Work.storeCycles (w : Work) : List Int :=
  (w.recent.filter (fun p => p.stored.isSome)).map (fun p => w.base + p.t + 2)

/-- The 4 entry cycles of a program after cycle `w.cycles` (R162): its entry bundle is fetched from the second of them on, and the
first bundle is in M in the cycle after them; stores of the program before it are still in W. DESIGN CHOICE, log 13: unsafe. -/
def Work.enter (w : Work) (entry : Nat) (p : CPort) : Work × CPort :=
  let c := w.cycles + 1
  let r := p.claim (w.base + c) (storeIn w.recent c)
  let x := passCycles ⟨[], entry⟩ w.base w.recent 3 (c + 1) ((r.1.serve r.2).1, [])
  ({ w with cycles := w.cycles + 4, queue := x.2, hold := w.cycles + 5 }, x.1)

end Sys2Proof.Machine
end

