-- ==== Sys2Proof/Machine/Issue.lean ====
section
/-! DEFINITION. Bundles issued on a Brick, and a program's run within a budget (R146 to R152, R160). -/

namespace Sys2Proof.Machine

/-! ## Issue -/

/-- The Brick at a physical index. -/
def State.brick (s : State) (b : Nat) : Brick := tgetD s.bricks b Brick.zero

/-- Set a Brick. -/
def State.setBrick (s : State) (b : Nat) (v : Brick) : State := { s with bricks := cins s.bricks b v }

/-- A context of a Brick. -/
def Brick.ctx (br : Brick) : CtxSel → Ctx
  | .fg => br.fg
  | .bg => br.bg

/-- Set a context of a Brick. -/
def Brick.setCtx (br : Brick) (c : Ctx) : CtxSel → Brick
  | .fg => { br with fg := c }
  | .bg => { br with bg := c }

/-- The run in a context. -/
def Brick.work (br : Brick) : CtxSel → Option Work
  | .fg => br.fgWork
  | .bg => br.bgWork

/-- Set the run in a context. -/
def Brick.setWork (br : Brick) (w : Option Work) : CtxSel → Brick
  | .fg => { br with fgWork := w }
  | .bg => { br with bgWork := w }

/-- OUT_OF_SERVICE: the datapath clock of the Brick is stopped (R126). -/
def State.outOfService (s : State) (b : Nat) : Bool := s.get (F.BRK_ROLE_ROLE b) == 2

/-- The stacks of a context are cleared (Table 5.9). -/
def Brick.clearStacks (br : Brick) (sel : CtxSel) : Brick := br.setCtx { br.ctx sel with rets := [], loops := [] } sel

/-- Start a trigger entry in a context: PC and TN set, both stacks cleared (R127, Table 5.9). -/
def Brick.start (br : Brick) (sel : CtxSel) (entry : Nat) (tn : Word32) : Brick :=
  br.setCtx { br.ctx sel with pc := BitVec.ofNat 15 entry, tn := tn, rets := [], loops := [] } sel

/-- One more dispatch of entry `k` at ENTRY `e` (R195). -/
def Brick.dispatched (br : Brick) (k e : Nat) : Brick :=
  let n := match tget br.ready k with | some (e', n) => if e' = e then n + 1 else 1 | none => 1
  { br with ready := cins br.ready k (e, min 16 n) }

/-- Record a finished run in BRK_CYC_FG or BRK_CYC_BG. DESIGN CHOICE, log 13: unsafe. -/
def State.recordCycles (s : State) (b : Nat) (sel : CtxSel) (n : Nat) : State :=
  let v := min 65535 n
  match sel with
  | .fg => (s.put (F.BRK_CYC_FG_LAST b) v).put (F.BRK_CYC_FG_MAX b) (max v (s.get (F.BRK_CYC_FG_MAX b)))
  | .bg => (s.put (F.BRK_CYC_BG_LAST b) v).put (F.BRK_CYC_BG_MAX b) (max v (s.get (F.BRK_CYC_BG_MAX b)))

/-- Trigger entry `k` starts in a context, after the cycles the work has used (R146, R162). -/
def State.enterEntry (s : State) (b : Nat) (sel : CtxSel) (k entry : Nat) (tn : Word32) (w : Work) : State :=
  let br := ((s.brick b).start sel entry tn).dispatched k entry
  let r := w.enter entry br.port
  s.setBrick b ({ br with port := r.2 }.setWork (some r.1) sel)

/-- The end of a program's run: the next entry of the same trigger starts, or the context's work is done. -/
def endProgram (b : Nat) (sel : CtxSel) (w : Work) (s : State) : State :=
  match w.rest with
  | k :: rest => s.enterEntry b sel k (s.get (F.BRK_TRIG_ENTRY b k)) ((s.brick b).ctx sel).tn { w with rest := rest }
  | [] =>
    let br := s.brick b
    (s.setBrick b ({ br with port := { br.port with stores := w.storeCycles } }.setWork none sel)).recordCycles b sel w.cycles

/-- One bundle issued by Brick `b` in a context (R136, R160): its memory words, its effect, its counters, its cycles.
DEDUCED, log 16: unsafe. -/
def issueBundle (b : Nat) (sel : CtxSel) (bd0 : Bundle) (s : State) : State :=
  if s.outOfService b then s else
  let bd := if bundleOk bd0 then bd0 else nopBundle
  let br := s.brick b
  let o := br.ctx sel
  let ag := agBoth o bd
  let e := bundleEffect o (s.brickWord b ag.1) (s.brickWord b ag.2.1) bd
  let s1 := match e.store with | some (w, v) => s.setBrickWord b w v | none => s
  let s2 := if e.accSat then s1.bump (F.BRK_SAT_CNT_ACC_SAT b) else s1
  let s3 := if e.convSats = 0 then s2 else s2.bump (F.BRK_SAT_CNT_STORE_SAT b) e.convSats
  let br1 := (br.setCtx e.ctx sel)
  match br.work sel with
  | none => s3.setBrick b br1
  | some w =>
    let r := w.issue o bd e br.port
    let s4 := s3.setBrick b ({ br1 with port := r.2 }.setWork (some r.1) sel)
    if e.ended then endProgram b sel r.1 s4 else s4

/-- Enabled trigger entries of a Brick: index and image. -/
def State.triggers (s : State) (b : Nat) : List (Nat × Nat) :=
  (List.range 16).filterMap (fun k => if s.bit (F.BRK_TRIG_EN b k) then some (k, s.rg (BRK_TRIG b k)) else none)

/-- `n` words of management accesses ask for Brick `b`'s Course port; one without enabled triggers serves them in every slot
(R142). -/
def State.portAsk (s : State) (b n : Nat) : State :=
  if (s.triggers b).isEmpty then s
  else s.setBrick b { s.brick b with port := { (s.brick b).port with mgmt := (s.brick b).port.mgmt + n } }

/-- The bundle in memory at index `i` of Brick `b`; a reserved encoding executes as NOP (R138, R160). -/
def State.bundleAt (s : State) (b i : Nat) : Bundle :=
  let w := (s.brickWord b (2 * i)).toNat + 2 ^ 32 * (s.brickWord b (2 * i + 1)).toNat
  (decodeBundle w).getD nopBundle

/-- The cycle in which the next bundle of a context's work is in stage M (R161). -/
def nextM (b : Nat) (sel : CtxSel) (w : Work) (bd0 : Bundle) (s : State) : Nat :=
  let bd := if bundleOk bd0 then bd0 else nopBundle
  let o := (s.brick b).ctx sel
  let ag := agBoth o bd
  (w.issue o bd (bundleEffect o (s.brickWord b ag.1) (s.brickWord b ag.2.1) bd) (s.brick b).port).1.cycles

/-- Run a context's work until it ends or the next bundle no longer fits the budget, at most `fuel` bundles.
DEDUCED, log 14: unsafe. -/
def runWork (b : Nat) (sel : CtxSel) (budget : Nat) : Nat → State → State
  | 0, s => s
  | n + 1, s =>
    match (s.brick b).work sel with
    | none => s
    | some w =>
      let bd := s.bundleAt b ((s.brick b).ctx sel).pc.toNat
      if budget < nextM b sel w bd s then s
      else runWork b sel budget n (issueBundle b sel bd s)

end Sys2Proof.Machine
end

