-- ==== Sys2Proof/Machine/Bundles.lean ====
section
/-! DEFINITION. The Brick commands: one bundle whose operation or move is the row's (R136, R158, R163). -/

namespace Sys2Proof.Machine

/-- Issue a bundle with the operation of a row. -/
def issueSlot (sl : Slot) (op : BrickOp) (s : State) : State := issueBundle sl.brick.val sl.ctx ⟨op, sl.aga, sl.agb, sl.mv⟩ s

/-- Issue a bundle with the move of a row. -/
def issueMove (sl : MvSlot) (mv : Move) (s : State) : State := issueBundle sl.brick.val sl.ctx ⟨sl.op, sl.aga, sl.agb, mv⟩ s

/-- The move of an MTG. -/
def mtgMove (dest : MtgTo) (src : Fin 16) : Move :=
  match dest with
  | .gen f g => .mtg f g src
  | .flags => .mtgF src

/-- The move of an MFG. -/
def mfgMove (fr : MfgFrom) (dst : Fin 16) : Move :=
  match fr with
  | .gen f g => .mfg f g dst
  | .tn => .mfgTN dst

/-! ## Meanings of the commands -/

/-- NOP (R163). -/
def execNop (sl : Slot) (s : State) : Result :=
  runs s (issueSlot sl .nop)

/-- MAC (R163). -/
def execMac (sl : Slot) (k : Fin 4) (al : Fin 4) (sa : Sel) (sb : Sel) (s : State) : Result :=
  runs s (issueSlot sl (.mac k al sa sb))

/-- MSU (R163). -/
def execMsu (sl : Slot) (k : Fin 4) (al : Fin 4) (sa : Sel) (sb : Sel) (s : State) : Result :=
  runs s (issueSlot sl (.msu k al sa sb))

/-- MPY (R163). -/
def execMpy (sl : Slot) (k : Fin 4) (al : Fin 4) (sa : Sel) (sb : Sel) (s : State) : Result :=
  runs s (issueSlot sl (.mpy k al sa sb))

/-- MPN (R163). -/
def execMpn (sl : Slot) (k : Fin 4) (al : Fin 4) (sa : Sel) (sb : Sel) (s : State) : Result :=
  runs s (issueSlot sl (.mpn k al sa sb))

/-- ACLR (R163). -/
def execAclr (sl : Slot) (k : Fin 4) (s : State) : Result :=
  runs s (issueSlot sl (.aclr k))

/-- AMOV (R163). -/
def execAmov (sl : Slot) (k : Fin 4) (j : Fin 4) (s : State) : Result :=
  runs s (issueSlot sl (.amov k j))

/-- AADD (R163). -/
def execAadd (sl : Slot) (k : Fin 4) (j : Fin 4) (s : State) : Result :=
  runs s (issueSlot sl (.aadd k j))

/-- ASUB (R163). -/
def execAsub (sl : Slot) (k : Fin 4) (j : Fin 4) (s : State) : Result :=
  runs s (issueSlot sl (.asub k j))

/-- ANEG (R163). -/
def execAneg (sl : Slot) (k : Fin 4) (j : Fin 4) (s : State) : Result :=
  runs s (issueSlot sl (.aneg k j))

/-- AABS (R163). -/
def execAabs (sl : Slot) (k : Fin 4) (j : Fin 4) (s : State) : Result :=
  runs s (issueSlot sl (.aabs k j))

/-- ASHL (R163). -/
def execAshl (sl : Slot) (k : Fin 4) (j : Fin 4) (sh : Fin 16) (s : State) : Result :=
  runs s (issueSlot sl (.ashl k j sh))

/-- ASHR (R163). -/
def execAshr (sl : Slot) (k : Fin 4) (j : Fin 4) (sh : Fin 64) (s : State) : Result :=
  runs s (issueSlot sl (.ashr k j sh))

/-- ALDX (R163). -/
def execAldx (sl : Slot) (k : Fin 4) (xl : Fin 16) (s : State) : Result :=
  runs s (issueSlot sl (.aldx k xl))

/-- ARES (R163). -/
def execAres (sl : Slot) (k : Fin 4) (xl : Fin 16) (xm : Fin 16) (xh : Fin 16) (s : State) : Result :=
  runs s (issueSlot sl (.ares k xl xm xh))

/-- ADD (R163). -/
def execAdd (sl : Slot) (d : Fin 16) (sa : Sel) (sb : SelB) (s : State) : Result :=
  runs s (issueSlot sl (.alu .add d sa sb))

/-- ADDS (R163). -/
def execAdds (sl : Slot) (d : Fin 16) (sa : Sel) (sb : SelB) (s : State) : Result :=
  runs s (issueSlot sl (.alu .adds d sa sb))

/-- SUB (R163). -/
def execSub (sl : Slot) (d : Fin 16) (sa : Sel) (sb : SelB) (s : State) : Result :=
  runs s (issueSlot sl (.alu .sub d sa sb))

/-- SUBS (R163). -/
def execSubs (sl : Slot) (d : Fin 16) (sa : Sel) (sb : SelB) (s : State) : Result :=
  runs s (issueSlot sl (.alu .subs d sa sb))

/-- AND (R163). -/
def execAnd (sl : Slot) (d : Fin 16) (sa : Sel) (sb : SelB) (s : State) : Result :=
  runs s (issueSlot sl (.alu .and d sa sb))

/-- OR (R163). -/
def execOr (sl : Slot) (d : Fin 16) (sa : Sel) (sb : SelB) (s : State) : Result :=
  runs s (issueSlot sl (.alu .or d sa sb))

/-- XOR (R163). -/
def execXor (sl : Slot) (d : Fin 16) (sa : Sel) (sb : SelB) (s : State) : Result :=
  runs s (issueSlot sl (.alu .xor d sa sb))

/-- SHL (R163). -/
def execShl (sl : Slot) (d : Fin 16) (sa : Sel) (sb : SelB) (s : State) : Result :=
  runs s (issueSlot sl (.alu .shl d sa sb))

/-- SHR (R163). -/
def execShr (sl : Slot) (d : Fin 16) (sa : Sel) (sb : SelB) (s : State) : Result :=
  runs s (issueSlot sl (.alu .shr d sa sb))

/-- ASR (R163). -/
def execAsr (sl : Slot) (d : Fin 16) (sa : Sel) (sb : SelB) (s : State) : Result :=
  runs s (issueSlot sl (.alu .asr d sa sb))

/-- MIN (R163). -/
def execMin (sl : Slot) (d : Fin 16) (sa : Sel) (sb : SelB) (s : State) : Result :=
  runs s (issueSlot sl (.alu .min d sa sb))

/-- MAX (R163). -/
def execMax (sl : Slot) (d : Fin 16) (sa : Sel) (sb : SelB) (s : State) : Result :=
  runs s (issueSlot sl (.alu .max d sa sb))

/-- ABS (R163). -/
def execAbs (sl : Slot) (d : Fin 16) (sa : Sel) (s : State) : Result :=
  runs s (issueSlot sl (.abs d sa))

/-- NEG (R163). -/
def execNeg (sl : Slot) (d : Fin 16) (sa : Sel) (s : State) : Result :=
  runs s (issueSlot sl (.neg d sa))

/-- CMP (R163). -/
def execCmp (sl : Slot) (sa : Sel) (sb : SelB) (s : State) : Result :=
  runs s (issueSlot sl (.cmp sa sb))

/-- MPYX (R163). -/
def execMpyx (sl : Slot) (d : Fin 16) (al : Fin 4) (sa : Sel) (sb : Sel) (s : State) : Result :=
  runs s (issueSlot sl (.mpyx d al sa sb))

/-- LDI (R163). -/
def execLdi (sl : Slot) (d : Fin 16) (imm : BitVec 12) (s : State) : Result :=
  runs s (issueSlot sl (.ldi d imm))

/-- LSI (R163). -/
def execLsi (sl : Slot) (d : Fin 16) (imm : BitVec 12) (s : State) : Result :=
  runs s (issueSlot sl (.lsi d imm))

/-- CLS (R163). -/
def execCls (sl : Slot) (d : Fin 16) (k : Fin 4) (s : State) : Result :=
  runs s (issueSlot sl (.cls d k))

/-- BR (R165). -/
def execBr (sl : Slot) (cc : Cond) (rel : BitVec 12) (s : State) : Result :=
  runs s (issueSlot sl (.br cc rel))

/-- CALL (R166). -/
def execCall (sl : Slot) (cc : Cond) (rel : BitVec 12) (s : State) : Result :=
  runs s (issueSlot sl (.call cc rel))

/-- RET (R166). -/
def execRet (sl : Slot) (s : State) : Result :=
  runs s (issueSlot sl .ret)

/-- JMPX (R165). -/
def execJmpx (sl : Slot) (x : Fin 16) (s : State) : Result :=
  runs s (issueSlot sl (.jmpx x))

/-- LOOP (R167). -/
def execLoop (sl : Slot) (len : BitVec 6) (count : BitVec 10) (s : State) : Result :=
  runs s (issueSlot sl (.loop len count))

/-- LOOPR (R167). -/
def execLoopr (sl : Slot) (len : BitVec 6) (x : Fin 16) (s : State) : Result :=
  runs s (issueSlot sl (.loopr len x))

/-- END (R163). -/
def execEnd (sl : Slot) (s : State) : Result :=
  runs s (issueSlot sl .endp)

/-- LD (R158). -/
def execLd (sl : MvSlot) (dst : Fin 16) (ag : Ag) (s : State) : Result :=
  runs s (issueMove sl (.ld dst ag))

/-- ST (R158). -/
def execSt (sl : MvSlot) (src : Fin 16) (ag : Ag) (s : State) : Result :=
  runs s (issueMove sl (.st src ag))

/-- STA (R158). -/
def execSta (sl : MvSlot) (k : Fin 4) (fmt : Fmt) (ag : Ag) (s : State) : Result :=
  runs s (issueMove sl (.sta k fmt ag))

/-- CVT (R158). -/
def execCvt (sl : MvSlot) (k : Fin 4) (fmt : Fmt) (dst : Fin 16) (s : State) : Result :=
  runs s (issueMove sl (.cvt k fmt dst))

/-- MOV (R158). -/
def execMov (sl : MvSlot) (dst : Fin 16) (src : Fin 16) (s : State) : Result :=
  runs s (issueMove sl (.mov dst src))

/-- MTG (R158). -/
def execMtg (sl : MvSlot) (dest : MtgTo) (src : Fin 16) (s : State) : Result :=
  runs s (issueMove sl (mtgMove dest src))

/-- MFG (R158). -/
def execMfg (sl : MvSlot) (fr : MfgFrom) (dst : Fin 16) (s : State) : Result :=
  runs s (issueMove sl (mfgMove fr dst))

end Sys2Proof.Machine
end

