-- ==== Sys2Proof/Config.lean ====
section
/-! DEFINITION. The free values: what the specification leaves open. They have no body, so nothing can be proved of their
value; each use takes the next index (State.free). -/

namespace Sys2Proof

/-- A word of up to 64 bits that the specification does not determine, by the index of its use.
DESIGN CHOICE, log 1: safe. DESIGN CHOICE, log 12: safe. DESIGN CHOICE, log 56: safe. -/
opaque Config.freeWord : Nat → Word64

/-- Random bytes of the engine (nonces, challenges, keys), by the index of their use. DESIGN CHOICE, log 1: safe. -/
opaque Config.random : Nat → List Byte

/-- The temperature that a control-bus partner's reading holds for an output channel, Q8.8 degrees (Table 2.6, R398): none where the
partner is no sensor of that channel's cabinet. DESIGN CHOICE, log 1: safe. DESIGN CHOICE, log 79: safe. -/
opaque Config.cabinetTemp : List Byte → Nat → Option (BitVec 16)

/-- The generator of a control-bus MAC (R391): its word from the time counter at an enable, its next word, and what a word draws as
the low bits of a back-off. DESIGN CHOICE, log 1: safe. DESIGN CHOICE, log 96: safe. -/
opaque Config.backoffSeed : Nat → Word32
opaque Config.backoffNext : Word32 → Word32
opaque Config.backoffDraw : Word32 → Nat

/-- The interpolator's weight, in 2^-40, of the sample `j` Ts old in carrier period `k`, by rate (true: 96 kHz), and by how much its
gain at DC departs from 1 (R351). DESIGN CHOICE, log 1: safe. DESIGN CHOICE, log 92: unsafe. -/
opaque Config.interp : Bool → Nat → Nat → Int
opaque Config.interpGain : Bool → Nat → Nat

/-- The noise shaper's weight, in 2^-16, of its error `j` + 1 carrier periods ago, by rate (R351).
DESIGN CHOICE, log 1: safe. DESIGN CHOICE, log 92: unsafe. -/
opaque Config.shaper : Bool → Nat → Int

/-- The sense decimator's weight, in 2^-40, of a bit `d` SENSE cycles from its middle, by rate, and by how much its gain at DC departs
from 1 (R353). DESIGN CHOICE, log 1: safe. DESIGN CHOICE, log 92: unsafe. -/
opaque Config.decim : Bool → Nat → Int
opaque Config.decimGain : Bool → Nat

/-- The size in bytes of the receive buffers a ring's descriptors name, by ring (Table 8.11 gives none).
DESIGN CHOICE, log 1: safe. DESIGN CHOICE, log 69: safe. -/
opaque Config.ringBuffer : Nat → Nat

/-- The source address that a partner's configuration entry names, as a number; the entry's layout is not given (R399).
DESIGN CHOICE, log 1: safe. DESIGN CHOICE, log 62: safe. -/
opaque Config.partnerAddr : List Byte → Nat

/-- The base from which BUILD_ID of an image the engine compacts is derived with the generation that will follow
(Table 3.10); the derivation is not given. DESIGN CHOICE, log 1: safe. DESIGN CHOICE, log 88: unsafe. -/
opaque Config.buildBase : Word64

/-- The lines of a stream's SDP text before the two that R269 states, by 2 × stream, plus 1 for a receive stream.
DESIGN CHOICE, log 1: safe. PRESUMED, log 30: unsafe. -/
opaque Config.sdpBody : Nat → List Byte

end Sys2Proof
end

