-- ==== Sys2Proof/Machine/Mutes.lean ====
section
/-! DEFINITION. The destination mute factors (R191) and the destination ranges they cover. -/

namespace Sys2Proof.Machine

/-- The sample rate in Hz. -/
def State.fs (s : State) : Nat := if s.node.fs96 then 96000 else 48000

/-- The 5 ms of R191 in samples. -/
def State.ms5 (s : State) : Nat := s.fs / 200

/-- The sample count of the coming tick (R31). DESIGN CHOICE, log 6: unsafe. -/
def State.nextN (s : State) : Nat := if s.node.fresh then s.node.n.toNat else (s.node.n.toNat + 1) % 2 ^ 64

/-- What the first `m` REF5 cycles of a stay in P4 add to the time counter, in 2^-16 ns (R266): 122 ns + 4,608 units in three. -/
def refUnits (m : Nat) : Nat := m / 3 * 8000000 + m % 3 * 2666667

/-- The REF5 cycles after which the counter has gained at least `x`. -/
def refCycles (x : Nat) : Nat := x / 8000000 * 3 + (x % 8000000 + 2666666) / 2666667

/-- The first value of the time counter at or after `t`, and the position in the pattern of P4 there: TIME cycles of 160,000 units,
or REF5 cycles in P4 (R264, R266). -/
def State.counterFrom (s : State) (t : Nat) : Nat × Nat :=
  let d := t - s.node.time
  if s.get F.PWR_STAT_STATE < 4 then (s.node.time + (d + 159999) / 160000 * 160000, 0)
  else
    let p := s.node.pattern
    let m := refCycles (d + refUnits p)
    if d = 0 then (s.node.time, p) else (s.node.time + (refUnits m - refUnits p), m % 3)

/-- One ramp time, PATCH_RAMP[q].TIME × fs / 2,000 samples (R190). -/
def State.rampLen (s : State) (q : Nat) : Nat := s.get (F.PATCH_RAMP_TIME q) * s.fs / 2000

/-- Network transmit destinations (Table 1.6). -/
def isNetDst (d : Nat) : Bool := d < 1024
/-- TDM output destinations. -/
def isTdmDst (d : Nat) : Bool := 1024 ≤ d && d < 1280
/-- Brick input destinations. -/
def isBrickDst (d : Nat) : Bool := 1280 ≤ d && d < 3328
/-- Modulator destinations. -/
def isModDst (d : Nat) : Bool := 3328 ≤ d && d < 3392

/-- The position of the fade law, as a fraction. -/
def Mute.pos (m : Mute) : Nat × Nat :=
  if m.len = 0 then (if m.reasons.isEmpty then (1, 1) else (0, 1))
  else
    let d := m.den * m.len
    let at0 := m.num * m.len
    let n := if m.reasons.isEmpty then min d (at0 + m.k * m.den) else at0 - m.k * m.den
    (n, d)

/-- The factor m in Q2.30. -/
def Mute.factor (m : Mute) : Nat := let p := m.pos; sinQ30 p.1 p.2

/-- A new ramp from the present position, over `len` samples. -/
def Mute.restart (m : Mute) (len : Nat) (reasons : List MuteReason) : Mute :=
  let p := m.pos
  let g := Nat.gcd p.1 p.2
  ⟨reasons, p.1 / max 1 g, p.2 / max 1 g, 0, len⟩

/-- Add a ground for the mute; the first one starts the fade out. -/
def Mute.add (r : MuteReason) (len : Nat) (m : Mute) : Mute :=
  if m.reasons.contains r then m
  else if m.reasons.isEmpty then m.restart len [r]
  else { m with reasons := r :: m.reasons }

/-- Take a ground away; the last one starts the fade in. -/
def Mute.remove (r : MuteReason) (len : Nat) (m : Mute) : Mute :=
  if !m.reasons.contains r then m
  else if m.reasons == [r] then m.restart len []
  else { m with reasons := m.reasons.filter (· != r) }

/-- One sample later. -/
def Mute.tick (m : Mute) : Mute := { m with k := min m.len (m.k + 1) }

/-- Fully muted on a ground, as at the first audio after START (Table 2.6). -/
def Mute.silent (r : MuteReason) : Mute := ⟨[r], 0, 1, 0, 0⟩

/-- At unity. -/
def Mute.rest : Mute := ⟨[], 1, 1, 0, 0⟩

/-- The fade out has reached mute. -/
def Mute.ended (m : Mute) : Bool := m.pos.1 == 0

/-- The factor of one destination. -/
def State.muteOf (s : State) (d : Nat) : Mute :=
  (tget s.audio.mutes d).getD (if isNetDst d then s.audio.muteNet else s.audio.muteOut)

/-- Change the factor of one destination; one equal to its class's factor needs no entry. -/
def State.mapMute (s : State) (d : Nat) (f : Mute → Mute) : State :=
  let m := f (s.muteOf d)
  let cls := if isNetDst d then s.audio.muteNet else s.audio.muteOut
  { s with audio := { s.audio with mutes := tput s.audio.mutes d (if m = cls then none else some m) } }

/-- Change the factor of every TDM output and modulator. -/
def State.mapMuteOut (s : State) (f : Mute → Mute) : State :=
  { s with audio := { s.audio with
      muteOut := f s.audio.muteOut
      mutes := s.audio.mutes.map (fun e => if isNetDst e.1 then e else (e.1, f e.2)) } }

/-- Change the factor of every network transmit, TDM output and modulator destination. -/
def State.mapMuteAll (s : State) (f : Mute → Mute) : State :=
  { s with audio := { s.audio with
      muteNet := f s.audio.muteNet
      muteOut := f s.audio.muteOut
      mutes := tmap (fun _ => f) s.audio.mutes } }

/-- Mute every TDM output and modulator over 5 ms. -/
def State.muteOuts (s : State) (r : MuteReason) : State := s.mapMuteOut (Mute.add r s.ms5)
/-- Take that ground away, ramping in over PATCH_RAMP[0]. -/
def State.unmuteOuts (s : State) (r : MuteReason) : State := s.mapMuteOut (Mute.remove r (s.rampLen 0))
/-- Mute every destination that has a factor over 5 ms. -/
def State.muteAllOuts (s : State) (r : MuteReason) : State := s.mapMuteAll (Mute.add r s.ms5)
/-- Take that ground away everywhere. -/
def State.unmuteAllOuts (s : State) (r : MuteReason) : State := s.mapMuteAll (Mute.remove r (s.rampLen 0))

/-- Every factor starts muted and ramps up over one ramp time (Table 2.6), grounds that stand kept. -/
def State.freshMutes (s : State) (keep : MuteReason → Bool) : State :=
  s.mapMuteAll (fun m =>
    let rs := m.reasons.filter keep
    if rs.isEmpty then ⟨[], 0, 1, 0, s.rampLen 0⟩ else ⟨rs, 0, 1, 0, 0⟩)

end Sys2Proof.Machine
end

