-- ==== Sys2Proof/Machine/Sections.lean ====
section
/-! DEFINITION. Reading the active configuration: sections and their items (Table 3.5, R94, R95), the placement of logical
Bricks (R170), their items (Table 5.10). -/

namespace Sys2Proof.Machine

/-- Section identifiers (Table 3.5). -/
def secGlobal : Nat := 0x1
def secPatch : Nat := 0x2
def secGenerators : Nat := 0x3
def secTdm : Nat := 0x4
def secDynamics : Nat := 0x5
def secLimiters : Nat := 0x6
def secDelay : Nat := 0x7
def secPrograms : Nat := 0x8
def secStreams : Nat := 0x9
def secAmp : Nat := 0xA
def secFaults : Nat := 0xB
def secPolicy : Nat := 0xC
def secSchedule : Nat := 0xD
def secReferences : Nat := 0xE
def secPeripherals : Nat := 0xF
def secNode : Nat := 0x100
def secKeeper : Nat := 0x101
def secAccess : Nat := 0x102

/-- The sections of a configuration: section, then key or element index, then value. -/
abbrev Cfg := Tbl (Tbl (List Byte))

/-- The items of a section. -/
def Cfg.items (c : Cfg) (sec : Nat) : Tbl (List Byte) := tgetD c sec []

/-- One item. -/
def Cfg.item (c : Cfg) (sec key : Nat) : Option (List Byte) := tget (c.items sec) key

/-- `n` bytes of a value from offset `o`, little-endian (R13). -/
def leAt (v : List Byte) (o n : Nat) : Nat := leNat ((v.drop o).take n)

/-- `n` bytes of a value from offset `o`, big-endian. -/
def beAt (v : List Byte) (o n : Nat) : Nat := beNat ((v.drop o).take n)

/-- An item of the active configuration. -/
def State.cfgItem (s : State) (sec key : Nat) : Option (List Byte) := Cfg.item s.st.cfg sec key

/-- An item's 32-bit image, or the given value when the item is absent. -/
def State.cfgWord (s : State) (sec key d : Nat) : Nat :=
  match s.cfgItem sec key with
  | some v => leAt v 0 4
  | none => d

/-- KEY of a PROGRAMS item (R169). -/
def progKey (type l index : Nat) : Nat := type * 2 ^ 24 + l * 2 ^ 16 + index

/-- The PROGRAMS items of one type and logical Brick: INDEX and VALUE. -/
def Cfg.progItems (c : Cfg) (type l : Nat) : List (Nat × List Byte) :=
  ((c.items secPrograms).filter (fun e => decide (e.1 / 2 ^ 16 = type * 256 + l))).map (fun e => (e.1 % 2 ^ 16, e.2))

/-- Number of logical Bricks (R170). -/
def nLogical : Nat := 92

/-- The physical Brick that carries logical Brick `l`: R170's placement, or the Relief Brick that took it over. -/
def State.physOf (s : State) (l : Nat) : Nat := tgetD s.pair.carried l (l + l / 23)

/-- The state area of a logical Brick (Table 5.10): first word, length, CK_WORDS. -/
def State.stateArea (s : State) (l : Nat) : Option (Nat × Nat × Nat) :=
  (s.cfgItem secPrograms (progKey 5 l 0)).map (fun v => (leAt v 0 2, leAt v 2 2, leAt v 4 1))

/-- Lifecycle state codes (Tables 17.5, 17.6): the highest fuse set, or BLANK. -/
def State.lifecycle (s : State) : Nat :=
  let f := s.fuses.lifecycle
  if f.testBit 4 then 4 else if f.testBit 3 then 3 else if f.testBit 1 then 2 else if f.testBit 0 then 1 else 0

/-- Lifecycle SEALED. -/
def State.sealed (s : State) : Bool := s.lifecycle = 2

/-- Keys are unusable from the start of an erasure (R482). -/
def State.keysUsable (s : State) : Bool := !s.fuses.lifecycle.testBit 2

/-- Clear a range of SRAM to zero. -/
def State.zeroMem (s : State) (a n : Nat) : State :=
  { s with mem := s.mem.filter (fun c => decide (c.1 < a) || decide (a + n ≤ c.1)) }

/-- Zero the state areas of the placed programs (Table 2.6). -/
def State.zeroStateAreas (s : State) : State :=
  (List.range nLogical).foldl (fun s l =>
    match s.stateArea l with
    | some (first, len, _) => s.zeroMem (brickWordAddr (s.physOf l) first) (4 * len)
    | none => s) s

end Sys2Proof.Machine
end

