-- ==== Sys2Proof/Machine/History.lean ====
section
/-! DEFINITION. The states of blocks without history (Table 2.6) and the restart events (Table 2.7). -/

namespace Sys2Proof.Machine

/-- An empty correlator. -/
def Corr.zero : Corr := ⟨0, 0, 0, 0, 0⟩

/-- The state of a modulator channel that has never run. -/
def AmpCh.rest : AmpCh :=
  { state := .off, lockedDc := false, prot := Mute.silent .start, trips := [], retest := none, diag := none,
    rs := 0, pl := 0, plTarget := 0, plHist := [], win := [], dcBlocks := [], dcCur := 0, pilotA := Corr.zero,
    pilotB := Corr.zero, pilotDone := none, rdcBase := none, zRef := none, tRef := 40 * 256, plan := [], halfA := ⟨none, 0⟩,
    halfB := ⟨none, 0⟩, idle := true, up := [], shaper := [], tLim := 40 * 256, started := false }

/-- A modulator channel's typed state. -/
def State.ch (s : State) (m : Nat) : AmpCh := tgetD s.amp.chs m AmpCh.rest

/-- Set a modulator channel's typed state. -/
def State.setCh (s : State) (m : Nat) (c : AmpCh) : State :=
  { s with amp := { s.amp with chs := tput s.amp.chs m (if c = AmpCh.rest then none else some c) } }

/-- A delay buffer as if never written. -/
def DelayBuf.fresh (b : DelayBuf) : DelayBuf := { b with cnt := 0 }

/-- A make-up ramp at its target. -/
def Ramp.atEnd (r : Ramp) : Ramp := { r with k := r.len }

/-- A dynamics instance without history: unity gain, detector level zero. -/
def DynInst.fresh (d : DynInst) : DynInst :=
  { d with g := 0, mean := 0, look := [], applied := 0, makeup := d.makeup.atEnd }

/-- A meter at zero. -/
def Meter.fresh (m : Meter) : Meter := { m with sumSq := 0, cnt := 0, done := none }

/-- A channel's windows and smoothed gains empty (power-limit RMS window, R370's mean). -/
def AmpCh.fresh (c : AmpCh) : AmpCh :=
  { c with rs := 0, pl := 0, plTarget := 0, plHist := [], win := [], dcBlocks := [], dcCur := 0,
           pilotA := Corr.zero, pilotB := Corr.zero, pilotDone := none, up := [], shaper := [] }

/-- The granules of the delay lines, zeroed. -/
def State.zeroGranules (s : State) (b : DelayBuf) : State :=
  b.grans.foldl (fun s g => s.zeroMem (0x20000000 + 1024 * g) 1024) s

/-- The first column of Table 2.7: delay lines, Brick state areas, envelopes, ramps, meters and RMS windows without
history. -/
def State.firstUse (s : State) : State :=
  let s := s.zeroStateAreas
  let s := s.audio.lines.foldl (fun s e =>
    match e.2.next with
    | some (b, _) => (s.zeroGranules e.2.cur).zeroGranules b
    | none => s.zeroGranules e.2.cur) s
  let s := { s with audio := { s.audio with
    lines := tmap (fun _ l => { l with cur := l.cur.fresh, next := l.next.map (fun (b : DelayBuf × Option Fade) => (b.1.fresh, b.2)) }) s.audio.lines
    dyn := tmap (fun _ d => d.fresh) s.audio.dyn
    detaching := []
    lim := []
    limApplied := []
    meters := tmap (fun _ m => m.fresh) s.audio.meters } }
  let s := { s with amp := { s.amp with chs := tmap (fun _ c => c.fresh) s.amp.chs } }
  (List.range 256).foldl (fun s j => (s.clearRg (METER_PEAK j)).clearRg (METER_RMS j)) s

/-- The impedance baselines of every channel, reset to the nominal value (R378). -/
def State.resetBaselines (s : State) : State :=
  (List.range 64).foldl (fun s m =>
    ((s.setCh m { s.ch m with rdcBase := none, zRef := none }).clearRg (AMP_CH_RDC m)).clearRg (AMP_CH_ZBASE m)) s

/-- A key of the PERIPHERALS section that names a control-bus partner (R399). DESIGN CHOICE, log 62: safe. -/
def partnerKey (k : Nat) : Bool := 0x01000010 ≤ k && k < 0x01000400 && 0x10 ≤ k % 0x100

/-- What the services hold of a partner, by its PERIPHERALS key. -/
def State.partner (s : State) (key : Nat) : Partner := tgetD s.cbus.partners key ⟨0, false, none⟩

/-- The value of a partner that is not absent: the last frame that answered in time (R398). -/
def Partner.value (p : Partner) : Option (List Byte) := if p.misses < 3 then p.reading else none

/-- The cabinet temperature of a channel: the reading of the first partner configured that gives one (Table 2.6, R398).
DESIGN CHOICE, log 79: safe. -/
def State.cabinetSensor (s : State) (m : Nat) : Option (BitVec 16) :=
  (Cfg.items s.st.cfg secPeripherals).findSome? (fun e =>
    if partnerKey e.1 then (s.partner e.1).value.bind (fun v => Config.cabinetTemp v m) else none)

/-- The starting temperature of a channel's coil: a configured sensor's reading, else 40 degrees (Table 2.6).
DESIGN CHOICE, log 79: safe. -/
def State.startTemp (s : State) (m : Nat) : Int :=
  match s.cabinetSensor m with
  | some t => t.toInt
  | none => 40 * 256

/-- The coil temperature of every channel, back at its starting value (Table 2.6). -/
def State.resetCoil (s : State) : State :=
  ((List.range 64).foldl (fun s m =>
    let t := s.startTemp m
    let s := if s.bit (F.AMP_CH_CFG_EN m) || (s.cabinetSensor m).isSome then s.setCh m { s.ch m with tRef := t } else s
    (s.clearRg (AMP_CH_ZPH m)).put (F.AMP_CH_ZPH_TCOIL m) (unsigned 16 t)) s)

end Sys2Proof.Machine
end

