-- ==== Sys2Proof/Machine/Crypto.lean ====
section
/-! DEFINITION. The check and digest functions of R27 and R28: CRC-32C, SHA-256 (FIPS 180-4), HMAC-SHA-256 (RFC 2104), and
ECDSA P-256 verification (R116, R499). -/

namespace Sys2Proof.Machine

/-! ## CRC-32C (R27) -/

/-- Eight shifts of the reflected register. -/
def crcShift (poly : Nat) : Nat → Nat → Nat
  | 0, c => c
  | n + 1, c => crcShift poly n (if c % 2 = 1 then (c / 2) ^^^ poly else c / 2)

/-- One byte into a reflected CRC register. -/
def crcByte (poly c : Nat) (b : Byte) : Nat := crcShift poly 8 (c ^^^ b.toNat)

/-- CRC-32C of bytes, the register started at `c`. -/
def crc32cFrom (c : Nat) (bs : List Byte) : Nat := bs.foldl (crcByte 0x82F63B78) c

/-- CRC-32C (R27). -/
def crc32c (bs : List Byte) : Nat := crc32cFrom 0xFFFFFFFF bs ^^^ 0xFFFFFFFF

/-- CRC-32 of IEEE 802.3, the frame check sequence. -/
def crc32 (bs : List Byte) : Nat := bs.foldl (crcByte 0xEDB88320) 0xFFFFFFFF ^^^ 0xFFFFFFFF

/-! ## SHA-256 (R28): its constants are bits of roots of the first primes -/

/-- The largest number whose `e`-th power is at most `x`, by its bits from `k` down. -/
def rootBits (e x : Nat) : Nat → Nat → Nat
  | 0, r => r
  | k + 1, r => rootBits e x k (if (r + 2 ^ k) ^ e ≤ x then r + 2 ^ k else r)

/-- The first 32 bits after the binary point of the `e`-th root of a number below 4,096. -/
def rootFraction (e n : Nat) : Word32 := BitVec.ofNat 32 (rootBits e (n * 2 ^ (32 * e)) 38 0)

/-- The first 64 primes. -/
def shaPrimes : List Nat :=
  (List.range 312).filter (fun n => 2 ≤ n && (List.range 16).all (fun d => n ≤ d + 2 || n % (d + 2) != 0))

/-- What a block is mixed with, round by round: cube roots. -/
def shaRound : List Word32 := shaPrimes.map (rootFraction 3)

/-- The chaining value: the last four words of its left and of its right half, newest first. -/
structure ShaHalves where
  left : List Word32
  right : List Word32

/-- The chaining value before the first block: square roots. -/
def ShaHalves.start : ShaHalves :=
  let w := (shaPrimes.take 8).map (rootFraction 2)
  ⟨w.take 4, w.drop 4⟩

/-- XOR of the rotations of a word to the right by `l`. -/
def turns (l : List Nat) (x : Word32) : Word32 := l.foldl (fun y n => y ^^^ x.rotateRight n) 0

/-- `n` more words of the message schedule, newest first. -/
def shaExtend : Nat → List Word32 → List Word32
  | 0, w => w
  | n + 1, w =>
    let back (i : Nat) : Word32 := w.getD (i - 1) 0
    shaExtend n ((back 16 + back 7 + (turns [7, 18] (back 15) ^^^ (back 15 >>> 3))
      + (turns [17, 19] (back 2) ^^^ (back 2 >>> 10))) :: w)

/-- A round: both halves take a word in front and drop their oldest one. -/
def ShaHalves.round (h : ShaHalves) (kw : Word32) : ShaHalves :=
  let l (i : Nat) : Word32 := h.left.getD i 0
  let r (i : Nat) : Word32 := h.right.getD i 0
  let pick := (r 0 &&& r 1) ||| (~~~(r 0) &&& r 2)
  let most := (l 0 &&& l 1) ||| (l 2 &&& (l 0 ||| l 1))
  let mixed := r 3 + turns [6, 11, 25] (r 0) + pick + kw
  ⟨(mixed + turns [2, 13, 22] (l 0) + most) :: h.left.take 3, (l 3 + mixed) :: h.right.take 3⟩

/-- The words of a block, newest first. -/
def shaBlockWords (block : List Byte) : List Word32 :=
  ((List.range 16).map (fun i => BitVec.ofNat 32 (beNat ((block.drop (4 * i)).take 4)))).reverse

/-- A block of 64 bytes goes into the chaining value. -/
def ShaHalves.absorb (h : ShaHalves) (block : List Byte) : ShaHalves :=
  let kws := shaRound.zipWith (· + ·) (shaExtend 48 (shaBlockWords block)).reverse
  let g := kws.foldl ShaHalves.round h
  ⟨h.left.zipWith (· + ·) g.left, h.right.zipWith (· + ·) g.right⟩

/-- SHA-256 of a message, 32 bytes: a one bit, zeros and the length in bits fill its last block. -/
def sha256 (m : List Byte) : List Byte :=
  let zeros := (119 - m.length % 64) % 64
  let whole := m ++ (0x80 : Byte) :: (List.replicate zeros 0 ++ beBytes 8 (8 * m.length))
  let h := (List.range (whole.length / 64)).foldl (fun h i => ShaHalves.absorb h ((whole.drop (64 * i)).take 64)) ShaHalves.start
  (h.left ++ h.right).flatMap (fun w => beBytes 4 w.toNat)

/-- HMAC-SHA-256 (R28). -/
def hmac (key m : List Byte) : List Byte :=
  let k0 := if 64 < key.length then sha256 key else key
  let k := k0 ++ List.replicate (64 - k0.length) 0
  sha256 (k.map (· ^^^ 0x5C) ++ sha256 (k.map (· ^^^ 0x36) ++ m))

/-- The bytes of an ASCII text. -/
def ascii (t : String) : List Byte := t.toList.map (fun c => BitVec.ofNat 8 c.toNat)

/-! ## ECDSA P-256 verification -/

/-- The field prime, the group order, the coefficient b and the base point of P-256 (FIPS 186-4). -/
def p256p : Nat := 0xffffffff00000001000000000000000000000000ffffffffffffffffffffffff
def p256n : Nat := 0xffffffff00000000ffffffffffffffffbce6faada7179e84f3b9cac2fc632551
def p256b : Nat := 0x5ac635d8aa3a93e7b3ebbd55769886bc651d06b0cc53b0f63bce3c3e27d2604b
def p256gx : Nat := 0x6b17d1f2e12c4247f8bce6e563a440f277037d812deb33a0f4a13945d898c296
def p256gy : Nat := 0x4fe342e2fe1a7f9b8ee7eb4a7c0f9e162bce33576b315ececbb6406837bf51f5

/-- x^e mod m, by the bits of e from `k` down. -/
def powMod (m x e : Nat) : Nat → Nat → Nat
  | 0, r => r
  | k + 1, r =>
    let r2 := r * r % m
    powMod m x e k (if e / 2 ^ k % 2 = 1 then r2 * x % m else r2)

/-- The inverse modulo a prime of 256 bits. -/
def invMod (m x : Nat) : Nat := powMod m x (m - 2) 256 1

/-- A point in Jacobian coordinates; z = 0 is the point at infinity. -/
abbrev JPoint := Nat × Nat × Nat

/-- Difference modulo the field prime. -/
def subP (a b : Nat) : Nat := (a + p256p - b % p256p) % p256p

/-- Point doubling, a = −3. -/
def jDouble (q : JPoint) : JPoint :=
  let x := q.1; let y := q.2.1; let z := q.2.2
  let zz := z * z % p256p
  let m := 3 * (subP x zz * ((x + zz) % p256p)) % p256p
  let yy := y * y % p256p
  let s := 4 * (x * yy) % p256p
  let x3 := subP (m * m % p256p) (2 * s % p256p)
  (x3, subP (m * subP s x3 % p256p) (8 * (yy * yy) % p256p), 2 * (y * z) % p256p)

/-- Point addition. -/
def jAdd (q r : JPoint) : JPoint :=
  if q.2.2 = 0 then r else if r.2.2 = 0 then q else
  let z1 := q.2.2 * q.2.2 % p256p
  let z2 := r.2.2 * r.2.2 % p256p
  let u1 := q.1 * z2 % p256p
  let u2 := r.1 * z1 % p256p
  let s1 := q.2.1 * (z2 * r.2.2 % p256p) % p256p
  let s2 := r.2.1 * (z1 * q.2.2 % p256p) % p256p
  if u1 = u2 then (if s1 = s2 then jDouble q else (1, 1, 0)) else
  let h := subP u2 u1
  let rr := subP s2 s1
  let hh := h * h % p256p
  let hhh := hh * h % p256p
  let v := u1 * hh % p256p
  let x3 := subP (subP (rr * rr % p256p) hhh) (2 * v % p256p)
  (x3, subP (rr * subP v x3 % p256p) (s1 * hhh % p256p), (q.2.2 * r.2.2 % p256p) * h % p256p)

/-- k × q by the bits of k from `n` down. -/
def jMul (k : Nat) (q : JPoint) : Nat → JPoint → JPoint
  | 0, r => r
  | n + 1, r =>
    let r2 := jDouble r
    jMul k q n (if k / 2 ^ n % 2 = 1 then jAdd r2 q else r2)

/-- The affine x and y of a point. -/
def jAffine (q : JPoint) : Nat × Nat :=
  let zi := invMod p256p q.2.2
  let zz := zi * zi % p256p
  (q.1 * zz % p256p, q.2.1 * (zz * zi % p256p) % p256p)

/-- Verify an ECDSA P-256 signature r, s over a 32-byte digest with public key X, Y (64 bytes). -/
def ecdsaVerify (pub digest sig : List Byte) : Bool :=
  let x := beNat (pub.take 32)
  let y := beNat ((pub.drop 32).take 32)
  let r := beNat (sig.take 32)
  let s := beNat ((sig.drop 32).take 32)
  if r = 0 ∨ s = 0 ∨ p256n ≤ r ∨ p256n ≤ s ∨ p256p ≤ x ∨ p256p ≤ y then false else
  if y * y % p256p ≠ (x * x % p256p * x + (p256p - 3) * x + p256b) % p256p then false else
  let w := invMod p256n s
  let u1 := beNat digest * w % p256n
  let u2 := r * w % p256n
  let q := jAdd (jMul u1 (p256gx, p256gy, 1) 256 (1, 1, 0)) (jMul u2 (x, y, 1) 256 (1, 1, 0))
  if q.2.2 = 0 then false else (jAffine q).1 % p256n == r

/-- The public key of a private scalar: X then Y, 64 bytes. -/
def ecdsaPublic (d : Nat) : List Byte :=
  let a := jAffine (jMul d (p256gx, p256gy, 1) 256 (1, 1, 0))
  beBytes 32 a.1 ++ beBytes 32 a.2

/-- The signature of a digest with private scalar d and per-signature scalar k: r then s, 64 bytes. -/
def ecdsaSign (d k : Nat) (digest : List Byte) : List Byte :=
  let r := (jAffine (jMul (k % p256n) (p256gx, p256gy, 1) 256 (1, 1, 0))).1 % p256n
  let s := invMod p256n (k % p256n) * ((beNat digest + r * d) % p256n) % p256n
  beBytes 32 r ++ beBytes 32 s

end Sys2Proof.Machine
end

