-- ==== Sys2Proof/Machine/Notify.lean ====
section
/-! DEFINITION. What the engine sends over KMP: messages, notifications (R489, R494) and the client's presence (R80). -/

namespace Sys2Proof.Machine

/-- Put out one item. DESIGN CHOICE, log 2: safe. -/
def State.emit (s : State) (o : Output) : State := { s with out := s.out ++ [o] }

/-- The message of Table 17.11 without its TAG. -/
def kmpBytes (session type : Nat) (auth : Bool) (seq : Nat) (body : List Byte) : List Byte :=
  beBytes 2 0x4B4D ++ [1, BitVec.ofNat 8 type, BitVec.ofNat 8 session, if auth then 1 else 0]
    ++ beBytes 2 body.length ++ beBytes 8 seq ++ body

/-- The TAG of R485: HMAC under K_s over the message with TAG zero, cut to 16 bytes. -/
def kmpTag (key : List Byte) (session type : Nat) (seq : Nat) (body : List Byte) : List Byte :=
  (hmac key (kmpBytes session type true seq body ++ List.replicate 16 0)).take 16

/-- An open session by number. -/
def State.session (s : State) (n : Nat) : Option Session := s.kmp.sessions.find? (fun x => x.num == n)

/-- Change one session. -/
def State.mapSession (s : State) (n : Nat) (f : Session → Session) : State :=
  { s with kmp := { s.kmp with sessions := s.kmp.sessions.map (fun x => if x.num = n then f x else x) } }

/-- Send one message on a session: the next SEQ, and a TAG when the session is authenticated; none goes out in P4, where the rings
and the ports have stopped (R466). DEDUCED, log 45: unsafe. -/
def State.sendKmp (s : State) (n type : Nat) (body : List Byte) : State :=
  match s.session n with
  | none => s
  | some x =>
    let seq := x.txSeq + 1
    let tag := if x.auth then kmpTag x.key n type seq body else []
    let s := s.mapSession n (fun x => { x with txSeq := seq })
    if s.get F.PWR_STAT_STATE = 4 then s else s.emit (.kmp n type seq body tag)

/-- Send a notification to one session that subscribes to its event; events 1 to 3 wait for an acknowledgement. -/
def State.notifyOne (s : State) (x : Session) (event : Nat) (data : List Byte) : State :=
  if !(x.mask.getLsbD event) then s
  else
    let body := beBytes 2 event ++ [0, 0] ++ beBytes 8 s.node.n.toNat ++ data
    let s1 := s.sendKmp x.num 0x20 body
    if 1 ≤ event && event ≤ 3 then
      s1.mapSession x.num (fun y => { y with unacked := y.unacked ++ [(⟨x.txSeq + 1, body, 0⟩ : Unacked)] })
    else s1

/-- R494: a notification to every open session that subscribes to it. -/
def State.notify (s : State) (event : Nat) (data : List Byte) : State :=
  s.kmp.sessions.foldl (fun s x => s.notifyOne x event data) s

/-- Keep a reply body for the newest stored request whose OP and REQ_ID it names; entries stand newest first.
DESIGN CHOICE, log 22: unsafe. -/
def keepReply (body : List Byte) : List StoredReply → List StoredReply
  | [] => []
  | r :: rs => if r.request.take 4 = body.take 4 then { r with reply := body } :: rs else r :: keepReply body rs

/-- A REPLY on a session, kept for retransmissions in place of an earlier one to the same request (R491).
DESIGN CHOICE, log 22: unsafe. -/
def State.reply (s : State) (n op reqId status : Nat) (results : List Byte) : State :=
  let body := beBytes 2 op ++ beBytes 2 reqId ++ beBytes 2 status ++ [0, 0] ++ results
  (s.mapSession n (fun x => { x with replies := keepReply body x.replies })).sendKmp n 0x11 body

/-- The final REPLY of a request that was PENDING: session and REQ_ID. -/
def State.finish (s : State) (owner : Option (Nat × Nat)) (op status : Nat) (results : List Byte) : State :=
  match owner with
  | some (n, reqId) => s.reply n op reqId status results
  | none => s

/-- R80: a client is present while the session that holds CONTROLLER keeps alive. DEDUCED, log 24: unsafe. -/
def State.present (s : State) : Bool :=
  match s.kmp.controller.bind s.session with
  | some x => x.alive
  | none => false

/-- The policy acts on its own: no client is present (R81). -/
def State.policyActs (s : State) : Bool := !s.present

/-- The row of Table 2.8 an act belongs to, counted from 1. -/
def PolicyAct.matter : PolicyAct → Nat
  | .refSelect _ => 1
  | .pairRevert => 2
  | .pairSwap => 2
  | .clearFault _ => 4
  | .dormant => 6
  | .deepen _ => 6
  | .relax _ _ _ => 8

/-- The proposed value the notification carries. -/
def PolicyAct.value : PolicyAct → Nat
  | .refSelect t => t
  | .pairRevert => 1
  | .pairSwap => 2
  | .clearFault k => k
  | .dormant => 2
  | .deepen p => p
  | .relax c l _ => c * 65536 + l

/-- An act stands proposed to the client. -/
def State.proposed (s : State) (a : PolicyAct) : Bool := s.kmp.proposals.any (fun p => decide (p.act = a))

/-- R82: the proposal is sent to the present client and, as every notification, to each open session that subscribes to its event
(R494), unless it is open already or may not be made again yet.
DEDUCED, log 31: unsafe. DESIGN CHOICE, log 82: unsafe. -/
def State.propose (s : State) (a : PolicyAct) : State :=
  if s.proposed a || s.kmp.barred.any (fun b => decide (b.2 = a)) then s
  else
    let id := s.kmp.nextProposal
    let s1 := { s with kmp := { s.kmp with
      proposals := s.kmp.proposals ++ [(⟨id, a⟩ : Proposal)], nextProposal := (id + 1) % 2 ^ 32 } }
    s1.notify 3 (beBytes 4 id ++ beBytes 2 a.matter ++ [0, 0] ++ beBytes 8 a.value)

/-- What shows that an act waits for the client ends with its proposal: COIL_PEND of R364. -/
def State.answered (s : State) (a : PolicyAct) : State :=
  match a with
  | .relax m _ _ => s.putBit (F.AMP_CH_STAT_COIL_PEND m) false
  | _ => s

/-- Close a proposal with an outcome of Table 17.15. DEDUCED, log 31: unsafe. -/
def State.endProposal (s : State) (p : Proposal) (outcome : Nat) : State :=
  let s1 := { s with kmp := { s.kmp with
    proposals := s.kmp.proposals.filter (fun q => q.id != p.id)
    barred := if outcome = 0 then s.kmp.barred else (p.id, p.act) :: s.kmp.barred.filter (fun b => decide (b.2 ≠ p.act)) } }
  (s1.answered p.act).notify 4 (beBytes 4 p.id ++ [BitVec.ofNat 8 outcome, 0, 0, 0])

/-- The grounds of an act are new or gone: it may be proposed again (R82). -/
def State.unbar (s : State) (a : PolicyAct) : State :=
  { s with kmp := { s.kmp with barred := s.kmp.barred.filter (fun b => decide (b.2 ≠ a)) } }

end Sys2Proof.Machine
end

