-- ==== Sys2Proof/Machine/PairFrames.lean ====
section
/-! DEFINITION. Authentication of Flash and warm-copy frames (R309, R486) and the layout of a warm-copy frame (Table 11.11). -/

namespace Sys2Proof.Machine

/-- A wrapped ACCESS value opened (R486). -/
def State.unwrap (s : State) (key : Nat) : Option (List Byte) :=
  (s.cfgItem secAccess key).map (fun v =>
    List.zipWith (fun (a b : Byte) => a ^^^ b) v (hmac s.fuses.kDev (ascii "KAMYAN-WRAP-1" ++ leBytes 4 key)))

/-- The pair key (R486). -/
def State.pairKey (s : State) : List Byte := (s.unwrap 1).getD []

/-- Flash and warm-copy frames are authenticated (R309). -/
def State.pairAuth (s : State) : Bool := s.bit F.PAIR_CFG_AUTH || s.sealed

/-- The AUTH field over the bytes before it. -/
def State.authField (s : State) (bytes : List Byte) : List Byte :=
  if s.pairAuth then (hmac s.pairKey bytes).take 8 else List.replicate 8 0

/-- The engine's address in a domain (R262). -/
def State.nodeAddr (s : State) (d : Nat) : Nat := tgetD s.net.node d 0

/-- Daymark tag (R121). -/
def State.dtag (s : State) : Nat := s.rg (PAIR_DAYMARK 7)

/-- The tag of the partner's last accepted Flash differs from this node's (Table 11.2). -/
def State.tagsDiffer (s : State) : Bool :=
  match s.pair.last with
  | some f => f.dtag != s.dtag
  | none => false

/-- The block of the present tick. -/
def State.blk (s : State) : Nat := s.node.n.toNat / 8

/-- A warm-copy frame (Table 11.11). -/
def State.wcFrame (s : State) (kind copyId unit fseq blk : Nat) (last : Bool) (entries : List (List Byte)) : List Byte :=
  let body := beBytes 4 0x4B574350 ++ [1, BitVec.ofNat 8 kind, BitVec.ofNat 8 entries.length, if last then 1 else 0]
    ++ beBytes 4 copyId ++ beBytes 2 unit ++ beBytes 2 fseq ++ beBytes 8 blk ++ entries.flatMap id
  body ++ s.authField body

/-- A group address. -/
def isGroupMac (m : Nat) : Bool := (m / 2 ^ 40).testBit 0
/-- An IPv4 multicast address. -/
def isGroupIp (a : Nat) : Bool := a / 2 ^ 28 = 14

/-- A one's-complement sum of 16 bits. -/
def ones16 (v : Nat) : Nat := (v % 65536 + v / 65536) % 65536 + (v % 65536 + v / 65536) / 65536

/-- The one's-complement sum of a header. -/
def ipSum (b : List Byte) : Nat :=
  let rec go : Nat → List Byte → Nat
    | 0, _ => 0
    | n + 1, l => beAt l 0 2 + go n (l.drop 2)
  ones16 (ones16 (go (b.length / 2) b))

/-- A UDP datagram of the engine in an Ethernet frame of domain `d`: destination address, both ports, DSCP, a tag: identification,
fragment flags, UDP checksum and a unicast next hop are not given and stand free. DESIGN CHOICE, log 67: safe. -/
def State.udpFrame (s : State) (d dst udp dscp : Nat) (vlan payload : List Byte) (w : Nat) : List Byte :=
  let mac := if isGroupIp dst then 0x01005E000000 + dst % 2 ^ 23 else w / 2 ^ 16
  let eth := beBytes 6 mac ++ beBytes 6 s.fuses.mac ++ vlan ++ beBytes 2 0x0800
  let h1 := [0x45, BitVec.ofNat 8 (4 * dscp)] ++ beBytes 2 (28 + payload.length) ++ beBytes 2 w ++ beBytes 2 (w / 2 ^ 32 % 2 * 0x4000) ++ [64, 17]
  let h2 := beBytes 4 (s.nodeAddr d) ++ beBytes 4 dst
  eth ++ h1 ++ beBytes 2 (65535 - ipSum (h1 ++ h2)) ++ h2 ++ beBytes 2 (udp / 65536) ++ beBytes 2 udp
    ++ beBytes 2 (8 + payload.length) ++ beBytes 2 (w / 2 ^ 16) ++ payload

/-- A domain holds a link: an enabled port of it is up. -/
def State.domainUp (s : State) (d : Nat) : Bool :=
  (List.range 4).any (fun p => s.bit (F.NET_PORT_CFG_EN p) && s.bit (F.NET_PORT_STAT_LINK p)
    && s.get (F.NET_PORT_CFG_DOMAIN p) == d)

/-- The domain is one in which the pair unit sends: a partner address, an address of its own and a link (R308). -/
def State.pairDomain (s : State) (d : Nat) : Bool := s.rg (PAIR_PARTNER_ADDR d) != 0 && s.nodeAddr d != 0 && s.domainUp d

/-- A datagram of the pair unit for the partner goes to the internal port, with one UDP port as source and destination. -/
def State.toPartner (s : State) (d port dscp : Nat) (payload : List Byte) : State :=
  let frame := s.udpFrame d (s.rg (PAIR_PARTNER_ADDR d)) (port * 65537) dscp [] payload (Config.freeWord s.free).toNat
  ({ s with net := { s.net with outbox := s.net.outbox ++ [(d, frame)] } }).nextFree

/-- Hand a warm-copy frame to the internal port, for UDP_PORT + 1 with DSCP 0 (R324), in the lower domain that reaches the partner.
DESIGN CHOICE, log 67: safe. -/
def State.emitWc (s : State) (bytes : List Byte) : State :=
  match (List.range 2).find? s.pairDomain with
  | some d =>
    let port := s.get F.PAIR_FLASH_PORT_UDP_PORT + 1
    (s.emit (.warm d (s.rg (PAIR_PARTNER_ADDR d)) port bytes)).toPartner d port 0 bytes
  | none => s

/-- Send a warm-copy frame. -/
def State.sendWc (s : State) (kind copyId unit fseq : Nat) (last : Bool) (entries : List (List Byte)) : State :=
  s.emitWc (s.wcFrame kind copyId unit fseq s.blk last entries)

end Sys2Proof.Machine
end

