-- ==== Sys2Proof/Machine/Faults.lean ====
section
/-! DEFINITION. Mode changes (R59 to R61), the fault collector (chapter 16) and entering and leaving HOLD. -/

namespace Sys2Proof.Machine

/-! ## Modes -/

/-- Mode codes (Table 2.1). -/
def Mode.code : Mode → Nat
  | .start => 0 | .replay => 1 | .beacon => 2 | .lead => 3 | .shadow => 4 | .hold => 5 | .service => 6 | .dormant => 7

/-- The claim class of a mode (Table 2.1). -/
def Mode.claimClass : Mode → Nat
  | .beacon => 1 | .lead => 3 | .shadow => 2 | _ => 0

/-- GLB_MODE.START_CAUSE codes. -/
def StartCause.code : StartCause → Nat
  | .powerOn => 0 | .resetN => 1 | .resetFault => 2 | .kmpReset => 3 | .firstImage => 4 | .exitService => 5
  | .firmwareUpdate => 6 | .lifecycle => 7

/-- Audio runs in these modes; in the others outputs are muted and streams stopped (Table 2.1). -/
def Mode.live : Mode → Bool
  | .beacon | .lead | .shadow | .hold | .service => true
  | _ => false

/-- The node is paired (R303). -/
def State.paired (s : State) : Bool := s.bit F.PAIR_CFG_EN

/-- MATCH_RUN of 4,096 or more (R316). -/
def State.matched (s : State) : Bool := decide (4096 ≤ s.get F.PAIR_DIG_STAT_MATCH_RUN)

/-- A warm copy, on either side, ends without joining: R says so by ABORT, A by STOP (Table 11.12).
DEDUCED, log 75: unsafe. -/
def State.dropCopy (s : State) : State :=
  let s := match s.pair.wc with
    | some c => s.sendWc 0x11 c.copyId 0 0 false []
    | none => s
  let s := match s.pair.src with
    | some c => s.sendWc 0x05 c.copyId 0 0 false []
    | none => s
  let s := if s.get F.PAIR_STAT_WC_PHASE = 1 then s.put F.PAIR_STAT_WC_PHASE 0 else s
  let s := (s.put F.PAIR_WC_STAT_UNITS_LEFT 0).put F.PAIR_WC_STAT_UNIT 0
  { s with pair := { s.pair with wc := none, src := none } }

/-- The copy starts again from the patch unit (Table 11.7); R asks for it again. -/
def State.restartCopy (s : State) : State :=
  let ask := s.pair.wc.isSome
  let s := s.dropCopy
  { s with pair := { s.pair with wcAsked := s.pair.wcAsked || ask } }

/-- R306: the epoch at an entry into LEAD. -/
def State.nextEpoch (s : State) : Nat :=
  let theirs := match s.pair.last with
    | some f => f.epoch
    | none => 0
  max (s.rg PAIR_EPOCH) theirs + 1

/-- What entering LEAD or SHADOW, or leaving SHADOW, brings with it (R306, R318, R324, R330). -/
def State.roleEntry (s : State) (old new : Mode) : State :=
  let s := if old = .shadow || old = .lead then s.dropCopy else s
  if new = .lead then s.put F.PAIR_EPOCH_EPOCH s.nextEpoch
  else if new = .shadow then
    let ask := match old with
      | .start | .replay | .hold | .dormant => true
      | _ => !s.matched || s.pair.owed
    let s := s.putBit F.PAIR_STAT_HOT (!s.bit F.PAIR_CFG_STANDBY)
    { s with pair := { s.pair with hot := false, wcAsked := ask, wcRetry := false, owed := false } }
  else s

/-- A change of mode (R59): GLB_MODE, GLB_MODE_TIME, GLB_TRANS_CNT and the MODE notification. -/
def State.setMode (s : State) (m : Mode) : State :=
  let old := s.node.mode
  if old = m then s
  else
    let s := s.roleEntry old m
    let s := { s with node := { s.node with mode := m, prevMode := old } }
    let s := s.put F.GLB_MODE_TIME_N_LAST s.node.n.toNat
    let s := s.bump F.GLB_TRANS_CNT_TRANS_CNT
    let s := if m = .hold then s.bump F.GLB_TRANS_CNT_HOLD_CNT else s
    s.notify 2 [BitVec.ofNat 8 m.code, BitVec.ofNat 8 old.code, BitVec.ofNat 8 s.node.cause.code, 0]

/-- The BLK of the last accepted Flash is forgotten (R309). -/
def State.forgetBlk (s : State) : State := { s with pair := { s.pair with lastBlk := none } }

/-- A wake from P3 or P4: the recorded reference qualifies on its first valid measurement (R300). -/
def State.requalify (s : State) : State :=
  { s with tu := { s.tu with sel := { s.tu.sel with requal := s.tu.sel.recorded } } }

/-- A rise out of P4: the debug port reconnects with its TAP in Test-Logic-Reset (R501), and a relock begins (R472). -/
def State.unmoor (s : State) : State :=
  let s := (s.putBit F.DBG_LEVEL_DISC false).requalify
  let s := { s with sec := { s.sec with extest := false } }
  let s := { s with node := { s.node with pattern := 0 } }
  if s.pwr.moored.isSome then { s with pwr := { s.pwr with relock := some (s.node.uptime + 30 * 1000000000 * 65536) } } else s

/-- The audio blocks begin again out of DORMANT (R476, Table 2.7); no trigger was dispatched meanwhile (R195). DEDUCED, log 48: unsafe. -/
def State.wakeAudio (s : State) (cause index : Nat) : State :=
  let s := if s.get F.PWR_STAT_STATE = 4 then s.unmoor else if s.get F.PWR_STAT_STATE = 3 then s.requalify else s
  let s := (s.firstUse).resetCoil
  let s := { s with bricks := tmap (fun _ br => { br with ready := [] }) s.bricks }
  let s := s.freshMutes (fun r => !(decide (r = .dormant)))
  let s := { s with
    audio := { s.audio with running := true, startN := s.nextN }
    pwr := { s.pwr with waking := none } }
  let s := (s.put F.PWR_WAKE_STAT_CAUSE cause).put F.PWR_WAKE_STAT_INDEX index
  s.put F.PWR_STAT_STATE 0

/-- The DORMANT entry fade aborts (Table 17.4). -/
def State.abortDormant (s : State) : State :=
  if s.pwr.entering then
    ({ s with pwr := { s.pwr with entering := false } }).unmuteAllOuts .dormant
  else s

/-- A transition that has begun and completes before another cause is acted on (R61): an image START, the entry into DORMANT,
the listen window of a wake, an announced exchange of roles. -/
def State.inTransition (s : State) : Bool :=
  (match s.node.phase with
    | .imageMute _ => true
    | .boundary _ => true
    | _ => false) || s.pair.ho.isSome || s.pwr.entering || s.pwr.waking.isSome

/-- An image START is in progress, from its mute to step 13. -/
def State.imageStarting (s : State) : Bool :=
  match s.node.phase with
  | .imageMute _ => true
  | .boundary _ => true
  | .listen _ image => image
  | _ => false

/-- A transition of the power controller or an image START is in progress, which completes before the pair's causes are acted on
(R61). -/
def State.otherTransition (s : State) : Bool := s.imageStarting || s.pwr.entering || s.pwr.waking.isSome

/-- A master resets with transactions outstanding (R432): its port drains. -/
def State.masterReset (s : State) (m : Nat) : State :=
  let s := s.putBit (F.MORTAR_MST_STAT_RESETTING m) true
  (s.putBit F.MORTAR_STAT_DRAIN true).setRg MORTAR_ERR (4 * 2 ^ 60 + m * 2 ^ 48)

/-- Entering HOLD (R57, R61): a transition in progress is preempted, its request refused. DEDUCED, log 48: unsafe. -/
def State.enterHold (s : State) (src : Option Nat) : State :=
  if s.node.mode = .hold then s
  else
    let old := s.node.mode
    let s := if old = Mode.dormant then (s.forgetBlk).wakeAudio 5 (src.getD 0) else s.abortDormant
    -- so is a SERVICE command of the same Ts (R61)
    let lost := s.get F.GLB_MODE_REQ_STATUS = 1 || (src.isSome && s.node.serviceNow && old = .service)
    let s := if lost then s.put F.GLB_MODE_REQ_STATUS 3 else s
    let s := { s with
      node := { s.node with
        releaseTo := if old = Mode.beacon then some Mode.beacon else none
        released := false
        asked := []
        startAsked := none
        phase := match s.node.phase with
          | .imageMute _ => .none
          | .listen _ _ => .none
          | .boundary _ => .none
          | p => p }
      pair := { s.pair with ho := none, echo := none, yield := false } }
    let s := (s.put F.PAIR_STAT_HANDOVER 0).put F.PAIR_HO_HO_BLK 0
    let s := match src with
      | some k => (s.put F.FLT_HOLD_SRC_VALID 1).put F.FLT_HOLD_SRC_SRC k
      | none => s.put F.FLT_HOLD_SRC_VALID 0
    let s := s.unmuteAllOuts .imageStart
    let s := if s.sec.unlocked then (s.put F.DBG_LEVEL_LEVEL 2).masterReset 7 else s
    (s.setMode .hold).muteOuts .hold

/-! ## Causes -/

/-- Modulator channels that satisfy a test. -/
def State.chsWhere (s : State) (p : AmpCh → Bool) : List Nat :=
  (List.range 64).filter (fun m => p (s.ch m))

/-- A channel latched, retesting or locked by a short. -/
def AmpCh.shorted (c : AmpCh) : Bool :=
  c.state = .latched || c.state = .retest || (c.state = .locked && !c.lockedDc)

/-- A channel locked by DC. -/
def AmpCh.dcLocked (c : AmpCh) : Bool := c.state = .locked && c.lockedDc

/-- Rail `r` is out of range. -/
def State.railBad (s : State) (r : Nat) : Bool := s.bit (F.AMP_RAIL_STAT_UV r) || s.bit (F.AMP_RAIL_STAT_OV r)

/-- T_c of a channel has reached T_MAX (R364). -/
def State.coilHot (s : State) (m : Nat) : Bool :=
  s.bit (F.AMP_CH_CFG_EN m) && decide ((s.get (F.AMP_CH_COIL_T_MAX m) : Int) * 256 ≤ s.getS (F.AMP_CH_ZPH_TCOIL m))

/-- An enabled sense input is lost (R355). -/
def State.senseBad (s : State) : Bool :=
  (List.range 64).any (fun m => s.bit (F.AMP_CH_CFG_SENSE_EN m) && s.bit (F.AMP_CH_CFG_EN m)
      && (s.bit (F.AMP_CH_STAT_I_LOST m) || s.bit (F.AMP_CH_STAT_V_LOST m)))
    || (List.range 8).any (fun r => s.bit (F.AMP_RAIL_CFG_EN r) && s.bit (F.AMP_RAIL_STAT_LOST r))

/-- Die temperature in Q8.8. -/
def State.tj (s : State) : Int := s.getS F.FLT_TJ_TEMP

/-- The cause of a source is present (Table 16.1); event sources have none. -/
def State.causePresent (s : State) (k : Nat) : Bool :=
  match k with
  | 3 => !s.flt.reliefNone.isEmpty
  | 4 => s.bit F.PAIR_RELIEF_BUSY
  | 15 => (List.range 32).any (fun c => s.get (F.DMA_CH_STAT_STATE c) == 5)
  | 17 => s.flt.compactBad
  | 19 => s.bit F.STORE_STAT_FALLBACK
  | 21 | 22 | 23 | 24 => s.bit (F.NET_PORT_CFG_EN (k - 21)) && !s.bit (F.NET_PORT_STAT_LINK (k - 21))
  | 29 => (List.range 2).any (fun d => s.get (F.TMS_PTP_STAT_SERVO d) == 6)
  | 30 => s.get F.REF_SEL_STAT_STATE == 5 || s.get F.REF_SEL_STAT_STATE == 1
  | 31 => s.get F.REF_SEL_STAT_SUSPECT != 0
  | 33 => !s.bit F.CLK_STAT_ROOT_LOCK
  | 34 => s.tagsDiffer
  | 35 => s.pair.lostNow
  | 37 => s.get F.PAIR_STAT_WC_PHASE == 3
  | 38 => s.bit F.PAIR_STAT_CFG_ERR
  | 39 => !(s.chsWhere AmpCh.shorted).isEmpty
  | 40 => !(s.chsWhere AmpCh.dcLocked).isEmpty
  | 41 => (List.range 8).any s.railBad
  | 42 => s.senseBad
  | 45 => (List.range 64).any s.coilHot
  | 48 => s.cbus.macs.any (fun e => e.2.stuck || e.2.txLost || e.2.rxLost)
  | 49 => s.tw0.sdaLow || s.tw0.sclLow
  | 53 => s.sec.unlocked
  | 54 => decide ((s.get F.FLT_TJ_HIGH_THR : Int) * 256 - 5 * 256 < s.tj)
  | 55 => decide (110 * 256 < s.tj)
  | 56 => s.flt.supplyBad
  | 58 => !s.present
  | 60 => s.node.mode == .beacon
  | _ => false

/-- The condition that holds channel `m` by CHANNEL_SAFE for a source with a lasting cause (Table 16.2). -/
def State.chanCause (s : State) (k m : Nat) : Bool :=
  match k with
  | 39 => (s.ch m).shorted
  | 40 => (s.ch m).dcLocked
  | 41 => s.railBad (s.get (F.AMP_CH_CFG_RAIL m))
  | 42 => s.bit (F.AMP_CH_STAT_I_LOST m) || s.bit (F.AMP_CH_STAT_V_LOST m)
      || s.bit (F.AMP_RAIL_STAT_LOST (s.get (F.AMP_CH_CFG_RAIL m)))
  | 45 => s.coilHot m
  | _ => false

/-- AMP_LOAD, AMP_TRIP and AMP_SAT have no lasting cause: their mute follows the bit. -/
def ampEvent (k : Nat) : Bool := k = 43 || k = 44 || k = 46

/-- The AMP sources. -/
def ampSource (k : Nat) : Bool := 39 ≤ k && k ≤ 46

/-! ## Latching -/

/-- Bit `k` of FLT_STATUS. -/
def State.latched (s : State) (k : Nat) : Bool := (s.rg FLT_STATUS).testBit k

/-- A 64-bit word with one bit set or cleared. -/
def setBit64 (w : Word64) (k : Nat) (b : Bool) : Word64 :=
  if b then w ||| BitVec.ofNat 64 (2 ^ k) else w &&& ~~~(BitVec.ofNat 64 (2 ^ k))

/-- Set or clear one bit of a 64-bit register. -/
def State.setRegBit (s : State) (a k : Nat) (b : Bool) : State :=
  s.setRg a (setBit64 (BitVec.ofNat 64 (s.rg a)) k b).toNat

/-- The class code in force for a source; that of DBG_UNLOCK is fixed (R451). -/
def State.classOf (s : State) (k : Nat) : Nat := if k = 53 then 3 else s.get (F.FLT_CFG_CLASS k)

/-- ERR_N is pulled low: by a pulse, or held by DRIVE (R454). DEDUCED, log 41: unsafe. -/
def State.errLow (s : State) : Bool := s.flt.pulsing || s.bit F.FLT_PIN_CTL_DRIVE

/-- A change that may move the pin. -/
def State.pinStep (s : State) (t : State) : State := if t.errLow = s.errLow then t else t.emit (.errN t.errLow)

/-- R455: with no client present the policy drives ERR_N while a bit of class NODE_HOLD, RESET or CHANNEL_SAFE is set. -/
def State.policyPin (s : State) : State :=
  if s.present then s
  else s.pinStep (s.putBit F.FLT_PIN_CTL_DRIVE
    ((List.range 64).any (fun k => s.latched k && (s.classOf k = 2 || s.classOf k = 3 || s.classOf k = 4))))

/-- The Foghorn (R454): a pulse starts, or one that runs is extended. DEDUCED, log 49: unsafe. -/
def State.pulse (s : State) (cls : Nat) : State :=
  if !(s.get F.FLT_PIN_CTL_CLASS_EN).testBit cls then s
  else if s.flt.pulsing then s
  else s.pinStep (({ s with flt := { s.flt with pulsing := true } }).bump F.FLT_CNT_PULSES)

/-- Hold channels by CHANNEL_SAFE: their mute fades out over 5 ms. -/
def State.holdChans (s : State) (k : Nat) (chans : List Nat) : State :=
  chans.foldl (fun s m =>
    let s := if s.flt.chanSafe.contains (k, m) then s
      else { s with flt := { s.flt with chanSafe := s.flt.chanSafe ++ [(k, m)] } }
    s.mapMute (3328 + m) (Mute.add (.chanSafe k) s.ms5)) s

/-- Let a channel go of a CHANNEL_SAFE hold: its mute fades in over PATCH_RAMP[0]. -/
def State.freeChan (s : State) (k m : Nat) : State :=
  if s.flt.chanSafe.contains (k, m) then
    ({ s with flt := { s.flt with chanSafe := s.flt.chanSafe.filter (fun e => e != (k, m)) } }).mapMute (3328 + m)
      (Mute.remove (.chanSafe k) (s.rampLen 0))
  else s

/-- Let every channel go whose lasting cause is absent. -/
def State.freeChans (s : State) : State :=
  s.flt.chanSafe.foldl (fun s e =>
    if ampEvent e.1 || s.chanCause e.1 e.2 then s else s.freeChan e.1 e.2) s

/-- Ten minutes in the units of node.uptime. -/
def tenMinutes : Nat := 600 * 1000000000 * 65536

/-- RESET-class STARTs of the last ten minutes. -/
def State.recentResets (s : State) : List Nat :=
  s.flt.resetTimes.filter (fun t => decide (s.node.uptime < t + tenMinutes))

/-- The NODE_HOLD reaction (Table 16.2, R62): HOLD at once, or at step 12 in START and REPLAY. -/
def State.reactHold (s : State) (k : Nat) : State :=
  let s := { s with
    flt := { s.flt with hold := setBit64 s.flt.hold k true }
    node := { s.node with holdNow := true } }
  if s.node.mode = .start || s.node.mode = .replay then s else s.enterHold (some k)

/-- The RESET reaction (R449, R452): a full START is due when the pulse ends; the fourth within ten minutes is taken as
NODE_HOLD from then on. -/
def State.reactReset (s : State) (k : Nat) : State :=
  if s.bit F.FLT_RESET_HIST_DOWNGRADED then s.reactHold k
  else if 3 ≤ s.recentResets.length then (s.put F.FLT_RESET_HIST_DOWNGRADED 1).reactHold k
  else { s with flt := { s.flt with resetPending := some k } }

/-- The reaction of a class (Table 16.2). DEDUCED, log 49: unsafe. -/
def State.react (s : State) (k cls : Nat) (chans : List Nat) : State :=
  match cls with
  | 1 => { s with flt := { s.flt with degrade := setBit64 s.flt.degrade k true } }
  | 2 => if ampSource k then ({ s with flt := { s.flt with safe := setBit64 s.flt.safe k true } }).holdChans k chans
    else { s with flt := { s.flt with degrade := setBit64 s.flt.degrade k true } }
  | 3 => s.reactHold k
  | 4 => s.reactReset k
  | _ => s

/-- A new latch of bit `k`: counted, notified, with the pulse and the reaction of its class (R448, R449, R454). -/
def State.newLatch (s : State) (k : Nat) (chans : List Nat) : State :=
  let cls := s.classOf k
  let s := ((s.setRegBit FLT_STATUS k true).bump F.FLT_CNT_LATCHES).unbar (.clearFault k)
  let s := s.notify 1 ([BitVec.ofNat 8 k, BitVec.ofNat 8 cls, 0, 0] ++ beBytes 8 (s.rg FLT_STATUS))
  ((s.pulse cls).react k cls chans).policyPin

/-- An error line is asserted (R448, R449); `chans` are the modulator channels whose condition raises it. A bit that is set already
acts by the class it latched under: CHANNEL_SAFE holds these channels too. -/
def State.latch (s : State) (k : Nat) (chans : List Nat := []) : State :=
  if s.latched k then
    if s.flt.safe.getLsbD k then s.holdChans k chans else s
  else
    let s := if s.rg FLT_STATUS = 0 then
        ((s.put F.FLT_FIRST_VALID 1).put F.FLT_FIRST_SRC k).setRg FLT_FIRST_TIME (s.node.time / 65536)
      else s
    s.newLatch k chans

/-- Error lines asserted in one PERI cycle, lowest first (R448). -/
def State.latchAll (s : State) (ks : List Nat) : State := ks.foldl (fun s k => s.latch k) s

/-! ## Clearing -/

/-- Whether this node, if nothing holds it, leaves HOLD (R60). -/
def State.releaseReady (s : State) : Bool :=
  s.node.mode = .hold && s.flt.hold = 0 && !s.sec.unlocked && s.node.released

/-- The outputs in SERVICE: muted unless SVC_AUDIO is 1 (Table 2.1). -/
def State.serviceMute (s : State) : State :=
  if s.node.mode = .service && !s.bit F.GLB_MODE_REQ_SVC_AUDIO then s.muteOuts .service else s.unmuteOuts .service

/-- R60: leave HOLD for the mode of Table 2.2 once the release condition holds. -/
def State.tryRelease (s : State) : State :=
  if !s.releaseReady then s
  else
    let dest := match s.node.releaseTo with
      | some m => m
      | none => if s.paired then .shadow else .lead
    let s := { s with node := { s.node with released := false } }
    let s := s.unmuteOuts .hold
    let s := if s.get F.GLB_MODE_REQ_STATUS = 1 then s.put F.GLB_MODE_REQ_STATUS 2 else s
    (s.setMode dest).serviceMute

/-- Clear bit `k` of FLT_STATUS unless its cause is present (R456). -/
def State.clearFault (s : State) (k : Nat) : State :=
  if !s.latched k then s
  else if s.causePresent k then s
  else
    let s := s.setRegBit FLT_STATUS k false
    let s := { s with flt := { s.flt with
      hold := setBit64 s.flt.hold k false, degrade := setBit64 s.flt.degrade k false, safe := setBit64 s.flt.safe k false } }
    let s := if s.rg FLT_STATUS = 0 then s.put F.FLT_FIRST_VALID 0 else s
    if ampEvent k then (List.range 64).foldl (fun s m => s.freeChan k m) s else s

/-- A write of 1 to the bits of a mask of FLT_STATUS clears them, lowest first; one that meets a bit whose cause is present counts once
in REFUSED. A bit whose line asserts in the same PERI cycle stays set and is a new latch (R456). DEDUCED, log 41: unsafe. -/
def State.clearFaults (s : State) (mask : Nat) : State :=
  let hit := (List.range 64).filter (fun k => mask.testBit k && s.latched k)
  let again := hit.filter (fun k => s.flt.asserted.getLsbD k)
  let rest := hit.filter (fun k => !s.flt.asserted.getLsbD k)
  let t := if rest.any (fun k => s.causePresent k) then s.bump F.FLT_CNT_REFUSED else s
  let t := rest.foldl (fun t k => t.clearFault k) t
  (again.foldl (fun t k => t.newLatch k ((List.range 64).filter (fun m => s.chanCause k m))) t).policyPin

/-- Streams are sent now: in a live mode with the datapath running, in SHADOW when HOT (Table 2.1, R318). -/
def State.sends (s : State) : Bool :=
  s.node.mode.live && s.audio.running && (s.node.mode != .shadow || s.bit F.PAIR_STAT_HOT)

/-! ## Health and claim (R305) -/

/-- Health (Table 11.2). -/
def State.health (s : State) : Nat :=
  if s.paired && s.tagsDiffer then 0
  else if s.paired && (!s.matched || s.get F.PAIR_STAT_WC_PHASE = 1 || s.get F.PAIR_STAT_WC_PHASE = 3
      || s.bit F.PAIR_RELIEF_BUSY) then 1
  else if s.flt.degrade != 0 || s.get F.REF_SEL_STAT_STATE != 3 || s.get F.PAIR_RELIEF_FREE = 0 then 2
  else 3

/-- PAIR_STAT as it reads: DAYMARK_MISMATCH, HEALTH, MATCHED and HOT follow the state. DEDUCED, log 41: unsafe. -/
def State.pairImage (s : State) : Nat :=
  let w := withField (withField (s.rg PAIR_STAT) 9 1 (if s.tagsDiffer then 1 else 0)) 10 2 s.health
  withField (withField w 12 1 (if s.matched then 1 else 0)) 13 1 (if s.sends then 1 else 0)

/-- The claim in force (Table 8.7, R305). -/
def State.claim (s : State) : Nat :=
  s.node.mode.claimClass * 2 ^ 14 + s.get F.PAIR_CFG_PRIORITY * 2 ^ 6 + s.rg PAIR_EPOCH % 16 * 4 + s.health

/-! ## Mortar's error record (R424 to R426) -/

/-- An access to an address that no block maps (R26), as MORTAR_ERR records it; no target is named for it.
DEDUCED, log 38: safe. -/
def State.decodeError (s : State) (master a : Nat) : State :=
  let s := s.setRg MORTAR_ERR (2 * 2 ^ 60 + master * 2 ^ 48 + (Config.freeWord s.free).toNat % 32 * 2 ^ 40 + a % 2 ^ 32)
  (s.bump (F.MORTAR_MST_CNT_ERRS master)).nextFree

/-- A request of a master for a target no path leads to (R424), as it shows in the Mortar registers. -/
def State.noPath (s : State) (master target a : Nat) : State :=
  let s := (s.putBit F.MORTAR_STAT_NO_PATH true).bump F.MORTAR_CNT_NO_PATH
  let s := (s.setRg MORTAR_ERR (1 * 2 ^ 60 + master * 2 ^ 48 + target * 2 ^ 40 + a)).bump (F.MORTAR_MST_CNT_ERRS master)
  s.latch 13

/-- A master's access to `n` bytes of shared SRAM from `a` on: it finds a path as far as the sample exchange area (R425);
past it, or past the memory, the first such byte answers with an error. -/
def State.sharedPath (s : State) (m a n : Nat) : State × Bool :=
  if a + n ≤ 0x303F8000 then (s, true)
  else
    let b := max a 0x303F8000
    (if b < 0x30400000 then s.noPath m 0 b else s.decodeError m b, false)

end Sys2Proof.Machine
end

