-- ==== Sys2Proof/Machine/Windows.lean ====
section
/-! DEFINITION. The memory windows of the management space (Table 1.10) as Mortar's masters reach them. -/

namespace Sys2Proof.Machine

/-- Bounds of the Brick memory window, the delay pool, shared SRAM and its sample exchange area (Table 1.10, R425). -/
def brickBase : Nat := 0x10000000
/-- End of the Brick memory window. -/
def brickEnd : Nat := 0x11800000
/-- The delay pool. -/
def poolBase : Nat := 0x20000000
/-- End of the delay pool. -/
def poolEnd : Nat := 0x22000000
/-- Shared SRAM. -/
def sharedBase : Nat := 0x30000000
/-- The sample exchange area. -/
def exchangeBase : Nat := 0x303F8000
/-- End of shared SRAM. -/
def sharedEnd : Nat := 0x30400000

/-- A range lies wholly within a window. -/
def within (lo hi a n : Nat) : Bool := lo ≤ a && a + n ≤ hi

/-- The range is memory that DMA may reach (R436). -/
def dmaRange (a n : Nat) : Bool :=
  within brickBase brickEnd a n || within poolBase poolEnd a n || within sharedBase exchangeBase a n

/-- The address lies in the memory window of a Brick that is OUT_OF_SERVICE. -/
def State.deadWindow (s : State) (a : Nat) : Bool :=
  brickBase ≤ a && a < brickEnd && s.outOfService ((a - brickBase) / 0x40000)

/-- A byte of the windows; that of a Brick OUT_OF_SERVICE reads 0 (R126). -/
def State.winByte (s : State) (a : Nat) : Byte := if s.deadWindow a then 0 else s.rdByte a

/-- `n` bytes of the windows. -/
def State.winBytes (s : State) (n a : Nat) : List Byte := (List.range n).map (fun i => s.winByte (a + i))

/-- Write a byte of the windows. -/
def State.winPut (s : State) (a : Nat) (v : Byte) : State := if s.deadWindow a then s else ((s.wrByte a v).mendRow a).healRows a 1

/-- Write bytes of the windows; an entry of none is a byte whose strobe is not set. -/
def State.winWrite (s : State) (a : Nat) : List (Option Byte) → State
  | [] => s
  | some v :: bs => (s.winPut a v).winWrite (a + 1) bs
  | none :: bs => s.winWrite (a + 1) bs

/-- The Course port's part in an access to `n` bytes of the windows from `a` on, when they lie in a Brick's memory (R124). -/
def State.windowAsk (s : State) (a n : Nat) : State :=
  if brickBase ≤ a && a < brickEnd then s.portAsk ((a - brickBase) / 0x40000) ((n + 3) / 4) else s

/-- The beats of a range: 64-byte pieces at 64-byte boundaries, as offsets and lengths (R430). -/
def beatsOf (a n : Nat) : List (Nat × Nat) :=
  if n = 0 then []
  else (List.range ((a + n - 1) / 64 - a / 64 + 1)).map (fun i =>
    let lo := max a ((a / 64 + i) * 64)
    let hi := min (a + n) ((a / 64 + i + 1) * 64)
    (lo - a, hi - lo))

end Sys2Proof.Machine
end

