-- ==== Sys2Proof/Machine/Dma.lean ====
section
/-! DEFINITION. The DMA engine (chapter 15): channels, descriptors, completion queues. -/

namespace Sys2Proof.Machine

/-- Channel states of DMA_CH_STAT. -/
def dmaOff : Nat := 0
/-- IDLE. -/
def dmaIdle : Nat := 1
/-- FETCH. -/
def dmaFetch : Nat := 2
/-- RUN. -/
def dmaRun : Nat := 3
/-- WAIT_CQ. -/
def dmaWaitCq : Nat := 4
/-- HALTED. -/
def dmaHalted : Nat := 5

/-- A channel that does nothing. -/
def DmaCh.rest : DmaCh := ⟨false, false, none, false, none⟩

/-- A channel's typed state. -/
def State.dch (s : State) (c : Nat) : DmaCh := tgetD s.dma.chs c DmaCh.rest

/-- Set a channel's typed state, and DMA_STAT with it. -/
def State.setDch (s : State) (c : Nat) (d : DmaCh) : State :=
  let s := { s with dma := { s.dma with chs := tput s.dma.chs c (if d = DmaCh.rest then none else some d) } }
  s.put F.DMA_STAT_PARTS ((s.dma.chs.filter (fun e => e.2.part)).length)

/-- Set a channel's STATE, and DMA_STAT.ACTIVE with it. -/
def State.dmaTo (s : State) (c st : Nat) : State :=
  let s := s.put (F.DMA_CH_STAT_STATE c) st
  s.put F.DMA_STAT_ACTIVE (((List.range 32).filter (fun k =>
    let x := s.get (F.DMA_CH_STAT_STATE k)
    x == dmaFetch || x == dmaRun || x == dmaWaitCq)).length)

/-- A channel's STATE. -/
def State.dmaState (s : State) (c : Nat) : Nat := s.get (F.DMA_CH_STAT_STATE c)

/-- Address of descriptor `i` of a channel (R435). -/
def State.descAddr (s : State) (c i : Nat) : Nat := sharedBase + s.get (F.DMA_CH_CFG_BASE c) * 64 + 32 * i

/-- The next index of a channel's ring. -/
def State.dmaNext (s : State) (c : Nat) : Nat :=
  (s.get (F.DMA_CH_STAT_IDX c) + 1) % 2 ^ s.get (F.DMA_CH_CFG_SIZE c)

/-! ## Buffer partitions (R437) -/

/-- The channel that takes a freed partition: PRIO 3 highest, round-robin within one priority. -/
def State.partTurn (s : State) : Option (Nat × Nat) :=
  [3, 2, 1, 0].findSome? (fun p =>
    let last := tgetD s.dma.lastPart p 31
    ((List.range 32).map (fun i => (last + 1 + i) % 32)).findSome? (fun c =>
      if s.dmaState c == dmaRun && !(s.dch c).part && s.get (F.DMA_CH_CFG_PRIO c) == p then some (p, c) else none))

/-- A free partition goes to the channel whose turn it is. -/
def State.givePart (s : State) : State :=
  if 16 ≤ s.get F.DMA_STAT_PARTS then s
  else
    match s.partTurn with
    | some (p, c) =>
      let s := { s with dma := { s.dma with lastPart := tput s.dma.lastPart p (some c) } }
      s.setDch c { s.dch c with part := true }
    | none => s

/-- Free partitions go to waiting channels. -/
def State.giveParts (s : State) : State := iterate State.givePart 16 s

/-! ## The ring (R444) -/

/-- Issue the read of a descriptor, or of its word at 0x08 again. -/
def State.dmaIssue (s : State) (c : Nat) (reread : Bool) : State :=
  let s := if reread then s else s.put (F.DMA_CH_STAT_PEND c) 0
  (s.setDch c { s.dch c with reread := reread, desc := none }).dmaTo c dmaFetch

/-- IDLE: a counted doorbell starts the channel, or causes a re-read when END is pending. -/
def State.dmaWake (s : State) (c : Nat) : State :=
  let n := s.get (F.DMA_CH_STAT_PEND c)
  if s.dmaState c ≠ dmaIdle || n = 0 then s
  else (s.put (F.DMA_CH_STAT_PEND c) (n - 1)).dmaIssue c (s.dch c).endSeen

/-- Stand IDLE, with END pending or not. -/
def State.dmaIdleAt (s : State) (c : Nat) (endSeen : Bool) : State :=
  ((s.setDch c { s.dch c with endSeen := endSeen, reread := false, desc := none, record := none }).dmaTo c dmaIdle).dmaWake c

/-- What follows a descriptor whose record is appended, or that needs none. -/
def State.dmaOnward (s : State) (c : Nat) (a : DmaAfter) : State :=
  let s := s.setDch c { s.dch c with record := none, desc := none }
  match a with
  | .onward false => (s.put (F.DMA_CH_STAT_IDX c) (s.dmaNext c)).dmaIssue c false
  | .onward true => s.dmaIdleAt c true
  | .halt => (s.dmaTo c dmaHalted).latch 15
  | .aborted => (s.put (F.DMA_CH_STAT_IDX c) (s.dmaNext c)).dmaIdleAt c false

/-! ## Completion (R438, R439) -/

/-- Status codes that are BAD (Table 15.4). -/
def dmaBad (st : Nat) : Bool := 1 ≤ st && st ≤ 7

/-- The queue is full. -/
def State.cqFull (s : State) (q : Nat) : Bool :=
  (s.get (F.DMA_CQ_PTR_HEAD q) + 1) % 2 ^ s.get (F.DMA_CQ_CFG_SIZE q) == s.get (F.DMA_CQ_PTR_TAIL q)

/-- One 32-byte record is written at HEAD with the queue's GEN, and HEAD advances. -/
def State.cqWrite (s : State) (q : Nat) (r : List Byte) : State :=
  let head := s.get (F.DMA_CQ_PTR_HEAD q)
  let gen := s.get (F.DMA_CQ_STAT_GEN q)
  let b : List Byte := r.take 27 ++ [(r.getD 27 0) ||| BitVec.ofNat 8 (128 * gen)] ++ r.drop 28
  let a := sharedBase + s.get (F.DMA_CQ_CFG_BASE q) * 64 + 32 * head
  let w := s.sharedPath 2 a 32
  let s := if w.2 then s.winWrite a (b.map some) else w.1
  let head := (head + 1) % 2 ^ s.get (F.DMA_CQ_CFG_SIZE q)
  let s := s.put (F.DMA_CQ_PTR_HEAD q) head
  if head = 0 then s.put (F.DMA_CQ_STAT_GEN q) (1 - gen) else s

/-- Append a channel's record to a queue, or wait for space; a disabled queue loses it. -/
def State.cqAppend (s : State) (c q : Nat) (r : List Byte) (a : DmaAfter) : State :=
  if !s.bit (F.DMA_CQ_CFG_EN q) then (s.bump F.DMA_CNT_LOST).dmaOnward c a
  else if s.cqFull q then
    let s := s.setDch c { s.dch c with record := some (q, r, a) }
    let s := { s with dma := { s.dma with waits := s.dma.waits ++ [c] } }
    (s.dmaTo c dmaWaitCq).bump (F.DMA_CQ_STAT_FULL_WAITS q)
  else (s.cqWrite q r).dmaOnward c a

/-- Waiting records of a queue are appended in the order their descriptors ended, as far as space allows. -/
def State.cqServe (s : State) (q : Nat) : State :=
  s.dma.waits.foldl (fun (s : State) (c : Nat) =>
    match (s.dch c).record with
    | some (q', r, a) =>
      if q' ≠ q || s.cqFull q then s
      else
        let s := { s with dma := { s.dma with waits := s.dma.waits.filter (· != c) } }
        (s.cqWrite q r).dmaOnward c a
    | none => s) s

/-- A queue is disabled: the records that wait for it are discarded (R438). -/
def State.cqOff (s : State) (q : Nat) : State :=
  s.dma.waits.foldl (fun (s : State) (c : Nat) =>
    match (s.dch c).record with
    | some (q', _, a) =>
      if q' ≠ q then s
      else (({ s with dma := { s.dma with waits := s.dma.waits.filter (· != c) } } : State).bump F.DMA_CNT_LOST).dmaOnward c a
    | none => s) (s.putBit (F.DMA_CQ_CFG_EN q) false)

/-- A completion record without GEN (Table 15.3). -/
def State.dmaRecord (s : State) (c st user bytes err : Nat) : List Byte :=
  leBytes 8 user ++ leBytes 4 bytes ++ leBytes 4 err ++ leBytes 8 (s.node.time / 65536)
    ++ leBytes 2 (s.get (F.DMA_CH_STAT_IDX c)) ++ [BitVec.ofNat 8 c, BitVec.ofNat 8 st] ++ leBytes 4 0

/-- A descriptor ends with a status: counters, the record when one is due (Table 15.2), and what follows. -/
def State.dmaEnd (s : State) (c st : Nat) (d : DmaDesc) (bytes err : Nat) (a : DmaAfter) : State :=
  let s := s.put (F.DMA_CH_STAT_LAST c) st
  let s := s.bump (F.DMA_CH_CNT_DONE c)
  let s := if dmaBad st then ((s.bump (F.DMA_CH_CNT_BAD c)).bump F.DMA_CNT_BAD).latch 14 else s
  let r := s.dmaRecord c st d.user bytes err
  let s := (s.setDch c { s.dch c with part := false }).giveParts
  if dmaBad st || d.ctl.testBit 15 || d.ctl.testBit 31 then s.cqAppend c (fieldOf d.ctl 16 4) r a
  else s.dmaOnward c a

/-- What follows a descriptor, by its END (R444). -/
def DmaDesc.after (d : DmaDesc) : DmaAfter := .onward (d.ctl.testBit 31)

/-! ## Execution (R436, R440, R441) -/

/-- A descriptor read from a ring. -/
def State.readDesc (s : State) (a : Nat) : DmaDesc × Nat :=
  let b := s.winBytes 32 a
  (⟨leAt b 0 4, leAt b 4 4, leAt b 8 4, leAt b 12 4, leAt b 16 8⟩, leAt b 24 8)

/-- R436 with the reserved bits of Table 15.2. -/
def descLegal (d : DmaDesc) (spare : Nat) : Bool :=
  d.src % 4 = 0 && d.dst % 4 = 0 && d.len % 4 = 0 && 4 ≤ d.len && d.len ≤ 16777216
    && fieldOf d.ctl 20 11 = 0 && fieldOf d.ctl 0 15 = 0 && spare = 0
    && dmaRange d.src d.len && dmaRange d.dst d.len
    && (d.src + d.len ≤ d.dst || d.dst + d.len ≤ d.src)

/-- R488: in SEALED, channels 16 to 31 may not reach Brick memory. -/
def State.descDenied (s : State) (c : Nat) (d : DmaDesc) : Bool :=
  s.sealed && 16 ≤ c && (within brickBase brickEnd d.src d.len || within brickBase brickEnd d.dst d.len)

/-- Write the bytes of the beats that were written: before a failed read beat, not a failed write beat, and issued.
DEDUCED, log 64: unsafe. -/
def State.dmaMove (s : State) (d : DmaDesc) (b : DmaBeats) : State :=
  let src := beatsOf d.src d.len
  let got := match b.readBad with
    | some k => ((src.getD k (d.len, 0)).1)
    | none => d.len
  let data := s.winBytes got d.src
  let s := (s.windowAsk d.src got).windowAsk d.dst d.len
  let dst := beatsOf d.dst d.len
  (List.range dst.length).foldl (fun (s : State) (k : Nat) =>
    let p := dst.getD k (0, 0)
    if b.writeBad.contains k || b.issued ≤ k then s
    else s.winWrite (d.dst + p.1) (((data.drop p.1).take p.2).map some)) s

/-- The first source beat that meets a row of shared SRAM with an uncorrectable error, before or at the one that failed otherwise
(R461). -/
def State.sourceRow (s : State) (d : DmaDesc) (b : DmaBeats) : Option Nat :=
  match (if s.mortar.badRows.isEmpty then none else (beatsOf d.src d.len).findIdx? (fun p => s.sramFails (d.src + p.1) p.2)) with
  | none => none
  | some k => if b.readBad.all (fun j => decide (k ≤ j)) then some k else none

/-- The beats as far as they exist and were issued: none follows the last one issued after a failed write (R440). -/
def beatsIssued (d : DmaDesc) (b : DmaBeats) : DmaBeats :=
  let n := (beatsOf d.dst d.len).length
  match (List.range n).find? (fun k => b.writeBad.contains k) with
  | none => { b with writeBad := [], issued := n }
  | some k =>
    let i := max b.issued (k + 1)
    { b with writeBad := (List.range n).filter (fun j => b.writeBad.contains j && decide (j < i)), issued := i }

/-- Status, BYTES and ERR_ADDR of a descriptor by the beats that failed. -/
def dmaStatus (d : DmaDesc) (b : DmaBeats) : Nat × Nat × Nat :=
  let src := beatsOf d.src d.len
  let dst := beatsOf d.dst d.len
  let wBad : Option Nat := (List.range dst.length).find? (fun k => b.writeBad.contains k)
  match b.readBad, wBad with
  | none, none => (0, d.len, 0)
  | some k, none =>
    let p := src.getD k (0, 0)
    (if k + 1 = src.length then 3 else 1, p.1, d.src + p.1)
  | none, some j =>
    let p := dst.getD j (0, 0)
    (if j + 1 = dst.length then 3 else 2, p.1, d.dst + p.1)
  | some k, some j =>
    let p := src.getD k (0, 0)
    let q := dst.getD j (0, 0)
    if p.1 < q.1 then (1, p.1, d.src + p.1) else (if j + 1 = dst.length then 3 else 2, q.1, d.dst + q.1)

/-- A parity failure on Mortar (R429). -/
def State.mortarParity (s : State) (master target addr : Nat) : State :=
  let s := (s.putBit F.MORTAR_STAT_PAR_ERR true).bump F.MORTAR_CNT_PAR_ERRS
  (s.setRg MORTAR_ERR (3 * 2 ^ 60 + master * 2 ^ 48 + target * 2 ^ 40 + addr)).latch 12

/-- Target code of a memory address (R424). -/
def memTarget (a : Nat) : Nat :=
  if a < poolBase then 5 + (a - brickBase) / 0x200000 else if a < sharedBase then 1 else 0

/-- A beat of the DMA engines fails (R429, R440): the read engine is master 1, the write engine master 2. -/
def State.beatFails (s : State) (master a : Nat) (parity : Bool) : State :=
  let s := s.bump (F.MORTAR_MST_CNT_ERRS master)
  if parity then s.mortarParity master (memTarget a) a else s

/-- What the failed beats of a transfer leave: the first one read, and each one written. -/
def State.beatsFail (s : State) (d : DmaDesc) (b : DmaBeats) : State :=
  let s := match b.readBad, s.sourceRow d b with
    | _, some k => (s.latch 9).beatFails 1 (d.src + ((beatsOf d.src d.len).getD k (0, 0)).1) false
    | some k, none => s.beatFails 1 (d.src + ((beatsOf d.src d.len).getD k (0, 0)).1) b.parity
    | none, none => s
  b.writeBad.foldl (fun s k => s.beatFails 2 (d.dst + ((beatsOf d.dst d.len).getD k (0, 0)).1) b.parity) s

/-! ## Commands -/

/-- DMA_CHANNEL_ENABLE: enabling leaves the channel IDLE at IDX with no END pending (R444). -/
def effDmaChannelEnable (c : Nat) (s : State) : State :=
  if s.bit (F.DMA_CH_CFG_EN c) then s
  else
    let s := s.putBit (F.DMA_CH_CFG_EN c) true
    if s.bit F.DMA_CFG_EN then s.dmaIdleAt c false else s

/-- A channel goes OFF, with nothing in progress; the next enable finds it at descriptor 0, unless SET_IDX names another before
(R444). DEDUCED, log 64: unsafe. -/
def State.dmaStop (s : State) (c : Nat) : State :=
  let s := { s with dma := { s.dma with waits := s.dma.waits.filter (· != c) } }
  (((s.setDch c DmaCh.rest).put (F.DMA_CH_STAT_PEND c) 0).put (F.DMA_CH_STAT_IDX c) 0).dmaTo c dmaOff

/-- A channel's EN is written 0. -/
def State.dmaChannelOff (s : State) (c : Nat) : State :=
  ((s.putBit (F.DMA_CH_CFG_EN c) false).dmaStop c).giveParts

/-- DMA_CFG.EN is written 1: enabled channels stand IDLE at IDX. DEDUCED, log 64: unsafe. -/
def State.dmaOn (s : State) : State :=
  if s.bit F.DMA_CFG_EN then s
  else (List.range 32).foldl (fun (s : State) (c : Nat) =>
    if s.bit (F.DMA_CH_CFG_EN c) then s.dmaIdleAt c false else s) (s.putBit F.DMA_CFG_EN true)

/-- DMA_DISABLE: both engines reset, and every channel goes OFF (R432). `landed` gives, for a channel in RUN, the write
beats that had landed. -/
def effDmaDisable (landed : List (Fin 32 × Nat)) (s : State) : State :=
  if !s.bit F.DMA_CFG_EN then s
  else
    let s := s.putBit F.DMA_CFG_EN false
    let s := landed.foldl (fun (s : State) (e : Fin 32 × Nat) =>
      let d := s.dch e.1.val
      match d.desc with
      | some x => if s.dmaState e.1.val == dmaRun && d.part then s.dmaMove x ⟨none, [], e.2, false⟩ else s
      | none => s) s
    let s := (List.range 32).foldl (fun (s : State) (c : Nat) => s.dmaStop c) s
    (s.masterReset 1).masterReset 2

/-- DMA_CQ_ENABLE (R439): HEAD and TAIL 0, GEN 1. -/
def effDmaCqEnable (q : Nat) (s : State) : State :=
  if s.bit (F.DMA_CQ_CFG_EN q) then s
  else ((s.putBit (F.DMA_CQ_CFG_EN q) true).setRg (DMA_CQ_PTR q) 0).put (F.DMA_CQ_STAT_GEN q) 1

/-- RING: a doorbell adds one to pend, which holds at 0xFFF (R444). -/
def effRing (c : Nat) (s : State) : State :=
  if s.dmaState c = dmaOff then s else (s.bump (F.DMA_CH_STAT_PEND c)).dmaWake c

/-- SET_IDX: in OFF, IDLE and HALTED (R442). -/
def effSetIdx (c i : Nat) (s : State) : State :=
  let st := s.dmaState c
  let s := s.put (F.DMA_CH_CTL_NEW_IDX c) i
  if st = dmaOff || st = dmaIdle || st = dmaHalted then
    let s := (s.put (F.DMA_CH_STAT_IDX c) i).put (F.DMA_CH_STAT_PEND c) 0
    if st = dmaOff then s else s.dmaIdleAt c false
  else s

/-- DMA_ABORT: the descriptor in progress ends ABORTED; `landed` write beats had been written (R442).
DEDUCED, log 64: unsafe. -/
def effDmaAbort (c landed : Nat) (s : State) : State :=
  let d := s.dch c
  match d.desc with
  | some x =>
    if s.dmaState c ≠ dmaRun then s
    else
      let n := if d.part then min landed (beatsOf x.dst x.len).length else 0
      let s := s.dmaMove x ⟨none, [], n, false⟩
      let off := ((beatsOf x.dst x.len).getD n (x.len, 0)).1
      s.dmaEnd c 7 x off (if off < x.len then x.dst + off else 0) .aborted
  | none => s

/-- DMA_DESCRIPTOR_FETCHED: the descriptor read returns (R442, R444). DEDUCED, log 64: unsafe. -/
def effDmaDescriptorFetched (c : Nat) (how : BeatEnd) (s : State) : State :=
  if s.dmaState c ≠ dmaFetch then s
  else
    let a := s.descAddr c (s.get (F.DMA_CH_STAT_IDX c))
    let r := if (s.dch c).reread then (a + 8, 8) else (a, 32)
    let lost := s.sramFails r.1 r.2
    let w := s.sharedPath 1 r.1 r.2
    let s := if lost then w.1.latch 9 else w.1
    if how ≠ .done || lost || !w.2 then
      let s := if w.2 then s.beatFails 1 r.1 (how = .parity && !lost) else s
      let s := (s.put (F.DMA_CH_STAT_LAST c) 6).bump (F.DMA_CH_CNT_DONE c)
      let s := ((s.bump (F.DMA_CH_CNT_BAD c)).bump F.DMA_CNT_BAD).latch 14
      s.cqAppend c (s.get (F.DMA_CH_CFG_ERR_CQ c)) (s.dmaRecord c 6 0 0 r.1) .halt
    else if (s.dch c).reread then
      if (leAt (s.winBytes 8 (a + 8)) 4 4).testBit 31 then s.dmaIdleAt c true
      else (s.put (F.DMA_CH_STAT_IDX c) (s.dmaNext c)).dmaIssue c false
    else
      let d := s.readDesc a
      if !descLegal d.1 d.2 then s.dmaEnd c 4 d.1 0 0 d.1.after
      else if s.descDenied c d.1 then s.dmaEnd c 5 d.1 0 0 d.1.after
      else ((s.setDch c { s.dch c with desc := some d.1, part := false }).dmaTo c dmaRun).giveParts

/-- DMA_DESCRIPTOR_END: the last write response returns (R440, R441). A channel without a partition has not moved yet.
DEDUCED, log 64: unsafe. -/
def effDmaDescriptorEnd (c : Nat) (b : DmaBeats) (s : State) : State :=
  let d := s.dch c
  match d.desc with
  | some x =>
    if s.dmaState c ≠ dmaRun || !d.part then s
    else
      let b := beatsIssued x b
      let t := s.beatsFail x b
      let b := { b with readBad := (s.sourceRow x b).or b.readBad }
      let st := dmaStatus x b
      (t.dmaMove x b).dmaEnd c st.1 x st.2.1 st.2.2 x.after
  | none => s

/-- DMA_CQ_TAIL: software advances TAIL, and waiting channels go on (R438). -/
def effDmaCqTail (q tail : Nat) (s : State) : State := (s.put (F.DMA_CQ_PTR_TAIL q) tail).cqServe q

/-! ## Meanings of the commands -/

/-- DMA_DISABLE (R432). -/
def execDmaDisable (landed : List (Fin 32 × Nat)) (s : State) : Result :=
  runs s (effDmaDisable landed)

/-- DMA_CHANNEL_ENABLE (R444). -/
def execDmaChannelEnable (c : Fin 32) (s : State) : Result :=
  runs s (effDmaChannelEnable c.val)

/-- DMA_CQ_ENABLE (R439). -/
def execDmaCqEnable (q : Fin 16) (s : State) : Result :=
  runs s (effDmaCqEnable q.val)

/-- RING (R444). -/
def execRing (c : Fin 32) (s : State) : Result :=
  runs s (effRing c.val)

/-- SET_IDX (R442). -/
def execSetIdx (c : Fin 32) (i : BitVec 12) (s : State) : Result :=
  runs s (effSetIdx c.val i.toNat)

/-- DMA_ABORT (R442). -/
def execDmaAbort (c : Fin 32) (landed : Nat) (s : State) : Result :=
  runs s (effDmaAbort c.val landed)

/-- DMA_DESCRIPTOR_FETCHED (R444). -/
def execDmaDescriptorFetched (c : Fin 32) (how : BeatEnd) (s : State) : Result :=
  runs s (effDmaDescriptorFetched c.val how)

/-- DMA_DESCRIPTOR_END (R440). -/
def execDmaDescriptorEnd (c : Fin 32) (b : DmaBeats) (s : State) : Result :=
  runs s (effDmaDescriptorEnd c.val b)

/-- DMA_CQ_TAIL (R438). -/
def execDmaCqTail (q : Fin 16) (tail : BitVec 12) (s : State) : Result :=
  runs s (effDmaCqTail q.val tail.toNat)

end Sys2Proof.Machine
end

