-- ==== Sys2Proof/Machine/Carrier.lean ====
section
/-! DEFINITION. The carrier of a modulator channel: gate signals, dead time, duty words (R345 to R349, R351) and the fast current
estimate (R354). Times within a carrier period are counted in MOD cycles. -/

namespace Sys2Proof.Machine

/-! ## Half-bridges (Table 12.1, R347) -/

/-- MOD cycles of a carrier period (R346). -/
def State.carrierLen (s : State) : Nat := if s.node.fs96 then 400 else 800

/-- Which output of each half-bridge is to conduct: true the high one, false the low one, none neither. -/
abbrev Levels := Option Bool × Option Bool

/-- A half-bridge over `n` cycles in which `want` is to conduct: at a transition the conducting output goes low first, the other one
high `dead` cycles later (R347). -/
def HalfBridge.play (dead : Nat) (h : HalfBridge) (want : Option Bool) (n : Nat) : HalfBridge × List (Nat × Option Bool) :=
  let wait := if h.on.isSome then dead else h.wait
  if n = 0 then (h, [])
  else if h.on = want && want.isSome then (h, [(n, want)])
  else match want with
    | none => (⟨none, wait - n⟩, [(n, none)])
    | some w =>
      if n ≤ wait then (⟨none, wait - n⟩, [(n, none)])
      else (⟨some w, 0⟩, (if wait = 0 then [] else [(wait, none)]) ++ [(n - wait, some w)])

/-- A half-bridge over a sequence of runs. -/
def HalfBridge.wave (dead : Nat) : HalfBridge → List (Nat × Option Bool) → HalfBridge × List (Nat × Option Bool)
  | h, [] => (h, [])
  | h, (n, w) :: rest =>
    let r := h.play dead w n
    let t := HalfBridge.wave dead r.1 rest
    (t.1, r.2 ++ t.2)

/-- The two outputs of a half-bridge over a wave: cycles, high output, low output. -/
def pins (wave : List (Nat × Option Bool)) : List (Nat × Bool × Bool) :=
  wave.map (fun e => (e.1, e.2 == some true, e.2 == some false))

/-! ## Carrier periods (R346, R365) -/

/-- What a period of `p` cycles asks of the half-bridges. Half-bridge A is high for p / 2 + d cycles and B for p / 2 − d, in the
middle of the period (R346). DESIGN CHOICE, log 87: unsafe. -/
def Wanted.runs (p : Nat) : Wanted → List (Nat × Levels)
  | .off => [(p, none, none)]
  | .zero => [(p, some false, some false)]
  | .duty d =>
    let a := ((p / 2 : Nat) + d).toNat
    let b := ((p / 2 : Nat) - d).toNat
    let outer := max a b
    let inner := min a b
    let o := (p - outer) / 2
    let i := (p - inner) / 2
    let lead : Levels := if b ≤ a then (some true, some false) else (some false, some true)
    [(o, some false, some false), (i - o, lead), (inner, some true, some true), (o + outer - (i + inner), lead),
     (p - (o + outer), some false, some false)]

/-- The first `c` cycles of some runs. -/
def firstCycles : Nat → List (Nat × Levels) → List (Nat × Levels)
  | _, [] => []
  | c, (n, l) :: rest => if c ≤ n then [(c, l)] else (n, l) :: firstCycles (c - n) rest

/-- A carrier period: its pulses, or what is left of them when the current limit ends them and the bridge goes on in the zero-low
state, or gates-low after a latch (R365, R366). -/
def Carrier.runs (p : Nat) (c : Carrier) : List (Nat × Levels) :=
  match c.cut with
  | none => c.play.runs p
  | some (x, low) => firstCycles x (c.play.runs p) ++ [(p - x, if low then (none, none) else (some false, some false))]

/-- The Ts goes on in gates-low (R349): from the cycle of the last trip on, or from its first carrier period where none has tripped.
DESIGN CHOICE, log 87: unsafe. -/
def lowFrom (l : List Carrier) : List Carrier :=
  let tail := (l.reverse.takeWhile (fun c => c.cut.isNone)).length
  let kept := l.take (l.length - tail)
  match kept.getLast? with
  | none => []
  | some c => kept.dropLast ++ { c with cut := c.cut.map (fun x => (x.1, true)) } :: List.replicate tail ⟨.off, none⟩

/-- A channel goes gates-low now (R349). -/
def State.gatesLow (s : State) (m : Nat) : State := s.setCh m { s.ch m with plan := lowFrom (s.ch m).plan }

/-- The carrier period leaves the bridge gates-low. -/
def Carrier.endsLow (c : Carrier) : Bool :=
  match c.cut with
  | some (_, low) => low
  | none => c.play = .off

/-- A value within `lo` below and `hi` above zero that a free number gives. -/
def freeDev (lo hi : Nat) (v : Nat) : Int := (v % (lo + hi + 1) : Nat) - (lo : Int)

/-- Weight, in 2^-40, of the sample `j` Ts old in the interpolator's output of carrier period `k`. Whatever the free weights, a
constant comes out within 0.28 %: flat within 0.02 dB, images 90 dB down (R351). DESIGN CHOICE, log 92: unsafe. -/
def State.interpTap (s : State) (k j : Nat) : Int :=
  let w := Config.interp s.node.fs96 k
  if j = 0 then 2 ^ 40 + freeDev 3078632557 3078632557 (Config.interpGain s.node.fs96 k)
    - (List.range 63).foldl (fun (a : Int) i => a + w (i + 1)) 0
  else w j

/-- The interpolator's output of carrier period `k`, Q1.31, from the values it holds. -/
def State.interpolated (s : State) (up : List Int) (k : Nat) : Int :=
  rhe ((List.range 64).foldl (fun (a : Int) j => a + s.interpTap k j * up.getD j 0) 0) (2 ^ 40)

/-- The noise shaper of fifth order takes a value to the duty word d, in MOD cycles of half a period, and keeps its error (R346, R351).
DESIGN CHOICE, log 92: unsafe. -/
def State.dutyWord (s : State) (err : List Int) (u : Int) : Int × List Int :=
  let half : Nat := s.carrierLen / 2
  let w := u * half + rhe ((List.range 5).foldl (fun (a : Int) j => a + Config.shaper s.node.fs96 j * err.getD j 0) 0) (2 ^ 16)
  let d := satTo (-half) half (rhe w (2 ^ 31))
  (d, (w - d * 2 ^ 31) :: err.take 4)

/-- Step 6 of Table 12.2: the duty words of the Ts from the value `x` of step 5, with what interpolator and shaper keep. -/
def State.shaped (s : State) (c : AmpCh) (x : Int) : AmpCh × List Int :=
  let up := (x :: c.up).take 64
  let r := (List.range 16).foldl (fun (acc : List Int × List Int) k =>
    let d := s.dutyWord acc.1 (s.interpolated up k)
    (d.2, acc.2 ++ [d.1])) (c.shaper, [])
  ({ c with up := up, shaper := r.1 }, r.2)

/-- The sixteen carrier periods of the Ts that begins, of a channel that modulates: one that comes out of gates-low passes the
zero-low state for the first of them (R349). -/
def pulsePlan (idle : Bool) (duties : List Int) : List Carrier :=
  duties.mapIdx (fun k d => ⟨if k = 0 && idle then .zero else .duty d, none⟩)

/-! ## Sense inputs (R352, R353, R358) -/

/-- SENSE cycles of a Ts (R352). -/
def State.senseLen (s : State) : Nat := if s.node.fs96 then 256 else 512

/-- Ones less zeros in what a Ts brought of a bitstream. -/
def State.onesLess (s : State) (w : Option (BitVec 512)) : Int :=
  match w with
  | some b => 2 * (((List.range s.senseLen).filter (fun k => b.getLsbD k)).length : Nat) - (s.senseLen : Int)
  | none => 0

/-- Bit `j` SENSE cycles before the tick's last, as +1 or −1, 0 where the Ts brought none. -/
def State.bitAgo (s : State) (h : List (Option (BitVec 512))) (j : Nat) : Int :=
  match h.getD (j / s.senseLen) none with
  | some b => if b.getLsbD (s.senseLen - 1 - j % s.senseLen) then 1 else -1
  | none => 0

/-- Weight, in 2^-40, of the bit `d` SENSE cycles from the middle of the decimator. Whatever the free weights, a constant comes out
within 0.01 dB (R353). DESIGN CHOICE, log 92: unsafe. -/
def State.decimTap (s : State) (d : Nat) : Int :=
  let w := Config.decim s.node.fs96
  if d = 0 then 2 ^ 40 + freeDev 1265131135 1266588530 (Config.decimGain s.node.fs96)
    - 2 * (List.range (2 * s.senseLen - 1)).foldl (fun (a : Int) i => a + w (i + 1)) 0
  else w d

/-- A sense input decimated to fs, Q1.31: the filter is linear-phase with a group delay of exactly 2 Ts, so its weights are symmetric
about the middle of the last 4 Ts (R353). -/
def State.decimated (s : State) (h : List (Option (BitVec 512))) : Int :=
  let c := 2 * s.senseLen - 1
  sat32 (rhe ((List.range (2 * c + 1)).foldl (fun (a : Int) (j : Nat) => a + s.decimTap ((j : Int) - (c : Int)).natAbs * s.bitAgo h j) 0) (2 ^ 9))

/-- Four times the mean s of a bitstream over the last 4 Ts, or over those there have been, Q1.31 (R358). DESIGN CHOICE, log 93: unsafe. -/
def State.meanSum (s : State) (h : List (Option (BitVec 512))) : Int :=
  rhe ((h.foldl (fun (a : Int) w => a + s.onesLess w) 0) * 4 * 2 ^ 31) (max 1 (h.length * s.senseLen))

/-- The gate signals of channel `m` over the Ts that ends: sixteen periods from PHASE / 16 of a period after the tick on (R348); a
channel without a plan is gates-low. -/
def State.playTs (s : State) (m : Nat) : State :=
  let c := s.ch m
  if c.plan.isEmpty && c.idle then s
  else
    let p := s.carrierLen
    let dead := s.get (F.AMP_CH_CFG_DEAD m)
    let runs := if c.plan.isEmpty then [(16 * p, none, none)] else c.plan.flatMap (Carrier.runs p)
    let a := c.halfA.wave dead (runs.map (fun e => (e.1, e.2.1)))
    let b := c.halfB.wave dead (runs.map (fun e => (e.1, e.2.2)))
    let s := s.setCh m { c with
      plan := [], halfA := a.1, halfB := b.1
      idle := match c.plan.getLast? with
        | some x => x.endsLow
        | none => true }
    s.emit (.gates m (s.get (F.AMP_CH_CFG_PHASE m) * p / 16) (pins a.2) (pins b.2))

/-- The Ts that ends, of every channel. -/
def State.playAll (s : State) : State := s.amp.chs.foldl (fun s e => s.playTs e.1) s

/-- Every channel goes gates-low: RESET_N low, a START, MOD gated (R349). -/
def State.gatesStop (s : State) : State :=
  s.amp.chs.foldl (fun s e =>
    let c := s.ch e.1
    if c.plan.isEmpty && c.idle then s
    else (s.setCh e.1 { c with plan := [], halfA := ⟨none, 0⟩, halfB := ⟨none, 0⟩, idle := true }).emit (.gatesLow e.1)) s

/-! ## The fast current estimate (R354) -/

/-- Weight of bit t − j of SNS_I: two boxcars of length 8, one on the other. -/
def sincWeight (j : Nat) : Nat := min (j + 1) (15 - j)

/-- The estimate at cycle t from bits t (bit 0) to t − 14, in steps of I_FS / 32. -/
def fastEstimate (bits : BitVec 15) : Int :=
  ((List.range 15).foldl (fun (n : Nat) j => if bits.getLsbD j then n + sincWeight j else n) 0 : Nat) - 32

end Sys2Proof.Machine
end

