-- ==== Sys2Proof/Machine/Amp.lean ====
section
/-! DEFINITION. Modulators, sense inputs and loudspeaker protection (chapter 12). -/

namespace Sys2Proof.Machine

/-! ## Channel states (Table 12.6) -/

/-- Codes of Table 12.6. -/
def ChState.code : ChState → Nat
  | .off => 0 | .diag => 1 | .playing => 2 | .railHold => 3 | .latched => 4 | .retest => 5 | .locked => 6 | .senseOff => 7

/-- After a change of role to PROCESSING an entry into modulator `m` still plays or fades out (R4, R197). -/
def State.roleFading (s : State) (m : Nat) : Bool :=
  let into (e : Word64) : Bool := e.getLsbD 45 && fieldOf e.toNat 12 12 == 3328 + m
  s.audio.patch.any (fun e => into e.2.cur || (match e.2.shadow with
    | some x => into x.image
    | none => false))

/-- EN, in the AMPLIFIER role. -/
def State.chWanted (s : State) (m : Nat) : Bool :=
  s.bit (F.AMP_CH_CFG_EN m) && (s.node.role = .amplifier || s.roleFading m)

/-- The channel is in use: EN, the AMPLIFIER role, and audio has started. -/
def State.chEnabled (s : State) (m : Nat) : Bool := s.chWanted m && (s.audio.running || s.node.mode = .dormant)

/-- The rail of a channel. -/
def State.railOf (s : State) (m : Nat) : Nat := s.get (F.AMP_CH_CFG_RAIL m)

/-- The current sense is lost, or disabled (R355). -/
def State.iLost (s : State) (m : Nat) : Bool := s.bit (F.AMP_CH_STAT_I_LOST m) || !s.bit (F.AMP_CH_CFG_SENSE_EN m)

/-- The voltage sense is lost, or disabled. -/
def State.vLost (s : State) (m : Nat) : Bool := s.bit (F.AMP_CH_STAT_V_LOST m) || !s.bit (F.AMP_CH_CFG_SENSE_EN m)

/-- What the bridge of a channel does (Table 12.6, R359). -/
inductive Bridge where
  | low | zeroLow | pulses
deriving DecidableEq, Repr

/-- The bridge in the channel's state: an OFF channel plays until its fade out ends, one in RAIL_HOLD until then and stays zero-low;
above OV both are gates-low. -/
def State.bridgeOf (s : State) (m : Nat) : Bridge :=
  let c := s.ch m
  match c.state with
  | .locked | .latched | .senseOff => .low
  | .off => if c.prot.ended || s.bit (F.AMP_RAIL_STAT_OV (s.railOf m)) then .low else .pulses
  | .railHold => if s.bit (F.AMP_RAIL_STAT_OV (s.railOf m)) then .low else if c.prot.ended then .zeroLow else .pulses
  | .playing | .retest | .diag => .pulses

/-- The channel's gates go low where its state asks for it (R349). -/
def State.settleGates (s : State) (m : Nat) : State := if s.bridgeOf m = .low then s.gatesLow m else s

/-- The state the table gives: the highest row whose condition holds. A channel that is LOCKED stays so through an image START with
DIAG_START = 0 (Table 12.7). DEDUCED, log 77: unsafe. -/
def State.chTarget (s : State) (m : Nat) : ChState :=
  let c := s.ch m
  if !s.chEnabled m then (if c.state = .locked && s.chWanted m then .locked else .off)
  else match c.state with
    | .locked => .locked
    | .latched => .latched
    | .retest => .retest
    | _ =>
      if s.iLost m && s.bit (F.AMP_CH_CFG_SENSE_REQ m) then .senseOff
      else if s.railBad (s.railOf m) then .railHold
      else if c.diag.isSome then .diag
      else .playing

/-- Show a channel's state in AMP_CH_STAT and the summary bits of AMP_STAT. -/
def State.showCh (s : State) (m : Nat) : State :=
  let s := s.put (F.AMP_CH_STAT_STATE m) (s.ch m).state.code
  let s := s.putBit (F.AMP_CH_STAT_RAIL m) (s.railBad (s.railOf m))
  let s := s.putBit (F.AMP_CH_STAT_FALLBACK m) (s.chEnabled m && (s.iLost m || s.vLost m))
  let s := s.putBit F.AMP_STAT_ANY_LOCKED (!(s.chsWhere (fun c => c.state = .locked)).isEmpty)
  let s := s.putBit F.AMP_STAT_ANY_LATCHED (!(s.chsWhere (fun c => c.state = .latched || c.state = .retest)).isEmpty)
  s.putBit F.AMP_STAT_DIAG_BUSY (!(s.chsWhere (fun c => c.diag.isSome)).isEmpty)

/-- Milliseconds in samples. -/
def State.ms (s : State) (n : Nat) : Nat := n * s.fs / 1000

/-- The measurements of a run in AMP_CH_SWEEP: index of an address of channel m, point k. -/
def State.clearSweep (s : State) (m : Nat) : State :=
  (List.range 16).foldl (fun s k => s.clearRg (AMP_CH_SWEEP m k)) s

/-- Begin a run (R374, R377). -/
def State.beginDiag (s : State) (m : Nat) (start : Bool) (mode : Nat) : State :=
  let s := s.clearSweep m
  let d : DiagRun := { start := start, mode := mode, step := .fadeOut, k := 0, len := if start then 0 else s.ms5,
                       corr := Corr.zero, rdc := none, lost := s.iLost m || s.vLost m }
  let prot := if start then Mute.silent .gate else (s.ch m).prot.add .gate s.ms5
  (s.setCh m { s.ch m with state := .diag, diag := some d, prot := prot, started := true }).showCh m

/-- End a run for one channel with a result of Table 12.5; a commanded run is done with its last channel. -/
def State.endDiag (s : State) (m result : Nat) : State :=
  match (s.ch m).diag with
  | none => s
  | some d =>
    let s := (s.setCh m { s.ch m with diag := none }).put (F.AMP_CH_STAT_DIAG m) result
    let s := s.putBit F.AMP_STAT_DIAG_BUSY (!(s.chsWhere (fun c => c.diag.isSome)).isEmpty)
    if !d.start && (s.chsWhere (fun c => match c.diag with
        | some e => !e.start
        | none => false)).isEmpty then s.put F.AMP_DIAG_CTL_STATUS 2 else s

/-- Enter the state the table gives, with the protection factor's reaction (R359, R366, R371). A run that is interrupted ends ABORTED,
or NO_SENSE where a sense input of the channel was lost (R375). The first audio after START begins the start diagnostics (R374).
DEDUCED, log 77: unsafe. -/
def State.settleCh (s : State) (m : Nat) : State :=
  let t : ChState := s.chTarget m
  let c := s.ch m
  if t = c.state then s.showCh m
  else
    let s : State := match c.diag with
      | some d => if t == .diag then s else s.endDiag m (if d.lost || t == .senseOff then 6 else 7)
      | none => s
    let c : AmpCh := s.ch m
    if t = .playing && !c.started && s.bit (F.AMP_CH_CFG_DIAG_START m) then ((s.beginDiag m true 0).settleGates m).freeChans else
    let prot := match t with
      | .playing => c.prot.restart (s.rampLen 0) []
      | .off => c.prot.add .gate s.ms5
      | .railHold => if s.bit (F.AMP_RAIL_STAT_OV (s.railOf m)) then Mute.silent .gate else c.prot.add .gate s.ms5
      | .diag => c.prot.add .gate s.ms5
      | _ => Mute.silent .gate
    let s := s.setCh m { c with
      state := t, prot := prot, lockedDc := t = .locked && c.lockedDc, trips := if t = .playing then [] else c.trips
      retest := if t = .retest then c.retest else none, started := c.started || t = .playing
      dcBlocks := if t = .playing then c.dcBlocks else [], dcCur := if t = .playing then c.dcCur else 0 }
    let s := if t = .off then s.put (F.AMP_CH_STAT_RETRIES m) 0 else s
    ((s.showCh m).settleGates m).freeChans

/-- Every channel takes the state its conditions give. -/
def State.settleAmp (s : State) : State := (List.range 64).foldl (fun s m => s.settleCh m) s

/-- A short latch, or SHORT by diagnostics (R366, Table 12.5). -/
def State.latchCh (s : State) (m : Nat) : State :=
  let s := s.endDiag m 7
  let s := s.setCh m { s.ch m with state := .latched, lockedDc := false, prot := Mute.silent .gate, trips := [], retest := none }
  let s := (s.putBit (F.AMP_CH_STAT_LATCH m) true).bump (F.AMP_CH_CNT_LATCHES m)
  ((s.showCh m).gatesLow m).latch 39 [m]

/-- Take a channel to LOCKED (R368, R370). -/
def State.lockCh (s : State) (m : Nat) (dc : Bool) : State :=
  ((s.setCh m { s.ch m with state := .locked, lockedDc := dc, prot := Mute.silent .gate, retest := none }).showCh m).gatesLow m

/-! ## Current limit and retests -/

/-- A failed retest (R367, R368): LATCHED again, or LOCKED by the third. -/
def State.retestFails (s : State) (m : Nat) : State :=
  let n := s.get (F.AMP_CH_STAT_RETRIES m) + 1
  let s := s.put (F.AMP_CH_STAT_RETRIES m) (min 3 n)
  if 3 ≤ n then s.lockCh m false
  else ((s.setCh m { s.ch m with state := .latched, retest := none }).showCh m).gatesLow m

/-- The pulse of carrier period `k` ends at cycle `x`; the bridge goes on in the zero-low state (R365). -/
def AmpCh.endPulse (c : AmpCh) (k x : Nat) : AmpCh :=
  { c with plan := c.plan.mapIdx (fun i (p : Carrier) => if i = k then { p with cut := some (x, false) } else p) }

/-- MOD is gated (R52, Table 17.1). -/
def State.modGated (s : State) : Bool := s.node.mode = .dormant

/-- CURRENT_TRIP (R354, R365, R366): in carrier period `k` of the present Ts the bits of SNS_I[m] up to a SENSE cycle are `bits`; where
their estimate reaches ILIM the pulse ends, at MOD cycle `cycle` of the period. A channel that fades out to OFF is limited too, and
a latch leaves it OFF (Table 12.6). -/
def effCurrentTrip (m k : Nat) (bits : BitVec 15) (cycle : Nat) (s : State) : State :=
  let c := s.ch m
  let period := s.node.n.toNat * 16 + k
  if s.modGated || s.bridgeOf m != .pulses || s.iLost m || c.trips.contains period
      || decide ((fastEstimate bits).natAbs < s.get (F.AMP_CH_PROT_ILIM m)) then s
  else
    let trips := (period :: c.trips).filter (fun t => decide (period < t + 16))
    let s := s.setCh m { c.endPulse k (min cycle s.carrierLen) with trips := trips }
    let s := ((s.putBit (F.AMP_CH_STAT_TRIP m) true).bump (F.AMP_CH_CNT_TRIPS m)).latch 44 [m]
    if c.state = .retest then
      -- R367: the retest fails at once on any trip
      s.retestFails m
    else if 4 ≤ trips.length then (s.latchCh m).settleCh m
    else s

/-- A retest may run: neither rail nor current sense stands in its way (Table 12.7). -/
def State.retestClear (s : State) (m : Nat) : Bool :=
  s.chEnabled m && !s.railBad (s.railOf m) && !s.iLost m && s.node.mode != .dormant

/-- Begin a retest (R367). -/
def State.beginRetest (s : State) (m : Nat) : State :=
  if s.retestClear m then
    (s.setCh m { s.ch m with state := .retest, lockedDc := false, retest := some (0, Corr.zero), trips := [] }).showCh m
  else (s.setCh m { s.ch m with state := .latched, lockedDc := false, retest := none }).showCh m

/-- RETEST_START (R367): the 2 s since a latch or a failed retest have passed. -/
def effRetestStart (m : Nat) (s : State) : State :=
  if (s.ch m).state = .latched && s.retestClear m then s.beginRetest m else s

/-- R369: a write of RETEST sets RETRIES to 0 and retests at once; it has no effect in other states. -/
def State.retestWritten (s : State) (m : Nat) : State :=
  if (s.ch m).state = .latched || (s.ch m).state = .locked then
    (s.put (F.AMP_CH_STAT_RETRIES m) 0).beginRetest m
  else s

/-- The retest window, 10 ms. -/
def State.ms10 (s : State) : Nat := s.fs / 100

/-- Scale of a Z in Q16.16 ohm: V_FS / I_FS with V_FS in 0.1 V and I_FS in 0.01 A (R373). -/
def State.zScale (s : State) (m : Nat) : Nat := s.get (F.AMP_CH_SNS_SCALE_V_FS m) * 10 * 65536
/-- Its divisor. -/
def State.zDiv (s : State) (m : Nat) : Nat := max 1 (s.get (F.AMP_CH_SNS_SCALE_I_FS m))

/-- The square of |SU| and of |SJ|. -/
def Corr.u2 (c : Corr) : Nat := (c.uRe * c.uRe + c.uIm * c.uIm).toNat
def Corr.j2 (c : Corr) : Nat := (c.jRe * c.jRe + c.jIm * c.jIm).toNat

/-- |Z| of a correlator window in Q16.16 ohm, none when no current is seen (R373). DEDUCED, log 78: unsafe. -/
def State.zMag (s : State) (m : Nat) (c : Corr) : Option Nat :=
  if c.j2 = 0 then none
  else some (min (2 ^ 32 - 2) (sqrtRatio (c.u2 * s.zScale m * s.zScale m) (c.j2 * s.zDiv m * s.zDiv m)))

/-- SU × conj(SJ). -/
def Corr.cross (c : Corr) : Int × Int := (c.uRe * c.jRe + c.uIm * c.jIm, c.uIm * c.jRe - c.uRe * c.jIm)

/-- arg Z in Q8.8 degrees. -/
def Corr.zArg (c : Corr) : Int := argQ8 c.cross.1 c.cross.2

/-- Re Z in Q16.16 ohm, rounded half-even. -/
def State.zReal (s : State) (m : Nat) (c : Corr) : Int := rhe (c.cross.1 * s.zScale m) (max 1 (c.j2 * s.zDiv m))

/-- Z_NOM in Q16.16 ohm. -/
def State.zNom (s : State) (m : Nat) : Nat := s.get (F.AMP_CH_SCALE_Z_NOM m) * 256

/-- RETEST_END (R367, R368): the 10 ms window has ended. -/
def effRetestEnd (m : Nat) (s : State) : State :=
  let c := s.ch m
  match c.retest with
  | none => s
  | some (k, corr) =>
    if c.state != .retest || k < s.ms10 then s
    else
      let pass := match s.zMag m corr with
        | some z => decide (s.zNom m ≤ 4 * z)
        | none => false
      if pass then
        let s := s.setCh m { s.ch m with retest := none, state := .off }
        s.settleCh m
      else s.retestFails m

/-- RETRIES_RESET (R368): 60 s in PLAYING without a latch. -/
def effRetriesReset (m : Nat) (s : State) : State :=
  if (s.ch m).state = .playing then s.put (F.AMP_CH_STAT_RETRIES m) 0 else s

/-! ## Sense inputs and rails -/

/-- Abandon retests that rail or sense stops (Table 12.7), then settle. -/
def State.settleSense (s : State) : State :=
  let s := (List.range 64).foldl (fun s m =>
    if (s.ch m).state = .retest && (s.railBad (s.railOf m) || s.iLost m) then
      ((s.setCh m { s.ch m with state := .latched, retest := none }).showCh m).gatesLow m
    else s) s
  s.settleAmp

/-- Summary of rails out of range or lost. -/
def State.showRails (s : State) : State :=
  s.put F.AMP_STAT_RAIL_BAD
    (((List.range 8).map (fun r => if s.railBad r || s.bit (F.AMP_RAIL_STAT_LOST r) then 2 ^ r else 0)).foldl (· + ·) 0)

/-- In the PROCESSING role no sense input is lost, no rail is out of range and none is read (R2). DEDUCED, log 77: unsafe. -/
def State.ignoreSense (s : State) : State :=
  let s := { s with amp := { s.amp with bits := [], sense := [] } }
  let s := (List.range 64).foldl (fun (s : State) m => (s.putBit (F.AMP_CH_STAT_I_LOST m) false).putBit (F.AMP_CH_STAT_V_LOST m) false) s
  ((List.range 8).foldl (fun (s : State) r =>
    ((s.putBit (F.AMP_RAIL_STAT_LOST r) false).putBit (F.AMP_RAIL_STAT_UV r) false).putBit (F.AMP_RAIL_STAT_OV r) false) s).showRails

/-- A run notes a sense input lost during it (R355). -/
def AmpCh.noteLoss (c : AmpCh) : AmpCh := { c with diag := c.diag.map (fun (d : DiagRun) => { d with lost := true }) }

/-- A limit of 0, or a rail that is not enabled, holds no channel (R359). -/
def State.railLimits (s : State) : State :=
  (List.range 8).foldl (fun (s : State) r =>
    let on := s.bit (F.AMP_RAIL_CFG_EN r)
    let s := if on && s.get (F.AMP_RAIL_LIM_UV r) != 0 then s else s.putBit (F.AMP_RAIL_STAT_UV r) false
    if on && s.get (F.AMP_RAIL_LIM_OV r) != 0 then s else s.putBit (F.AMP_RAIL_STAT_OV r) false) s

/-- The channels in use on a rail. -/
def State.railChans (s : State) (r : Nat) : List Nat :=
  (List.range 64).filter (fun m => s.bit (F.AMP_CH_CFG_EN m) && s.railOf m == r)

/-- SENSE_LOST (R355, Table 12.3): input 0 SNS_I, 1 SNS_V, 2 RAIL_SNS, with its index; there are eight rails. The PROCESSING role
ignores the sense inputs (R2). DEDUCED, log 77: unsafe. -/
def effSenseLost (input idx : Nat) (s : State) : State :=
  if (input = 2 && 8 ≤ idx) || s.node.role = .processing then s else
  let s := match input with
    | 0 => (s.setCh idx (s.ch idx).noteLoss).putBit (F.AMP_CH_STAT_I_LOST idx) true
    | 1 => (s.setCh idx (s.ch idx).noteLoss).putBit (F.AMP_CH_STAT_V_LOST idx) true
    | _ => (s.putBit (F.AMP_RAIL_STAT_LOST idx) true).put (F.AMP_RAIL_STAT_UV idx) 0 |>.put (F.AMP_RAIL_STAT_OV idx) 0
  let s := s.showRails
  let s := if input = 2 then
      (if s.bit (F.AMP_RAIL_CFG_EN idx) then s.latch 42 (s.railChans idx) else s)
    else if s.bit (F.AMP_CH_CFG_EN idx) && s.bit (F.AMP_CH_CFG_SENSE_EN idx) then s.latch 42 [idx] else s
  s.settleSense

/-- SENSE_RETURN (R355). DEDUCED, log 77: unsafe. -/
def effSenseReturn (input idx : Nat) (s : State) : State :=
  if (input = 2 && 8 ≤ idx) || s.node.role = .processing then s else
  let s := match input with
    | 0 => s.putBit (F.AMP_CH_STAT_I_LOST idx) false
    | 1 => s.putBit (F.AMP_CH_STAT_V_LOST idx) false
    | _ => s.putBit (F.AMP_RAIL_STAT_LOST idx) false
  (s.showRails.settleSense).freeChans

/-- A rail's limits act: enabled, its input present. -/
def State.railWatched (s : State) (r : Nat) : Bool :=
  s.bit (F.AMP_RAIL_CFG_EN r) && !s.bit (F.AMP_RAIL_STAT_LOST r) && s.node.role = .amplifier

/-- A limit of a rail is crossed: EVENT, AMP_RAIL and the channel states. DEDUCED, log 77: unsafe. -/
def State.railOut (s : State) (r : Nat) (f : Fld) : State :=
  let s := ((s.putBit f true).putBit (F.AMP_RAIL_STAT_EVENT r) true).showRails
  (s.latch 41 (s.railChans r)).settleSense

/-- RAIL_UNDER_VOLTAGE (R359): the reading is below UV. -/
def effRailUnder (r : Nat) (s : State) : State :=
  if s.railWatched r && s.get (F.AMP_RAIL_LIM_UV r) != 0
      && decide (s.get (F.AMP_RAIL_V_V r) < s.get (F.AMP_RAIL_LIM_UV r)) && !s.bit (F.AMP_RAIL_STAT_UV r) then
    s.railOut r (F.AMP_RAIL_STAT_UV r)
  else s

/-- RAIL_OVER_VOLTAGE (R359): the reading is above OV. -/
def effRailOver (r : Nat) (s : State) : State :=
  if s.railWatched r && s.get (F.AMP_RAIL_LIM_OV r) != 0
      && decide (s.get (F.AMP_RAIL_LIM_OV r) < s.get (F.AMP_RAIL_V_V r)) && !s.bit (F.AMP_RAIL_STAT_OV r) then
    let s := s.railOut r (F.AMP_RAIL_STAT_OV r)
    (List.range 64).foldl (fun s m =>
      if s.railOf m = r && ((s.ch m).state = .railHold || (s.ch m).state = .off) then
        (s.setCh m { s.ch m with prot := Mute.silent .gate }).gatesLow m
      else s) s
  else s

/-- RAIL_RECOVER (R359): the rail has been back in range, by its 5 %, for 100 ms. -/
def effRailRecover (r : Nat) (s : State) : State :=
  let v := s.get (F.AMP_RAIL_V_V r)
  let s := if s.bit (F.AMP_RAIL_STAT_UV r) && decide (105 * s.get (F.AMP_RAIL_LIM_UV r) ≤ 100 * v)
    then s.putBit (F.AMP_RAIL_STAT_UV r) false else s
  let s := if s.bit (F.AMP_RAIL_STAT_OV r) && decide (100 * v ≤ 95 * s.get (F.AMP_RAIL_LIM_OV r))
    then s.putBit (F.AMP_RAIL_STAT_OV r) false else s
  (s.showRails.settleSense).freeChans

/-! ## Diagnostics -/

/-- The next enabled sweep point at or after `k`. -/
def State.nextPoint (s : State) : Nat → Nat → Option Nat
  | 0, _ => none
  | n + 1, k => if 16 ≤ k then none else if s.bit (F.AMP_SWEEP_EN k) then some k else s.nextPoint n (k + 1)

/-- The step that begins a run of a mode, or none when the mode has no step left. -/
def State.firstStep (s : State) (mode : Nat) : Option (DiagStep × Nat) :=
  if mode = 1 then (s.nextPoint 16 0).map (fun k => (DiagStep.sweep k, s.ms (s.get (F.AMP_SWEEP_DWELL k))))
  else some (.dcRise, s.ms 20)

/-- The sweep step after point `k`, none after the last. -/
def State.sweepFrom (s : State) (mode k : Nat) : Option (DiagStep × Nat) :=
  if mode = 2 then none
  else (s.nextPoint 16 k).map (fun k => (DiagStep.sweep k, s.ms (s.get (F.AMP_SWEEP_DWELL k))))

/-- An image START meets a channel: OFF, but for one that is LOCKED (Table 12.7). -/
def AmpCh.imageStart (c : AmpCh) : AmpCh :=
  { c with
    state := if c.state = .locked then .locked else .off
    prot := Mute.silent .start, trips := [], retest := none, diag := none, started := false }

/-- An image START meets the channels: a run ends without a result of its own, and AMP_CH_STAT follows (Table 12.7).
DEDUCED, log 77: unsafe. -/
def State.ampImageStart (s : State) : State :=
  let s := { s with amp := { s.amp with waiting := [], parked := [] } }
  s.amp.chs.foldl (fun s e =>
    let s := s.endDiag e.1 7
    let s := s.setCh e.1 (s.ch e.1).imageStart
    (if (s.ch e.1).state = .locked then s else s.put (F.AMP_CH_STAT_RETRIES e.1) 0).showCh e.1) s

/-- The image loaded meets the channels that are LOCKED: those with DIAG_START = 0 stay so, the others are OFF (Table 12.7, R369). -/
def State.ampLoaded (s : State) : State :=
  (List.range 64).foldl (fun s m =>
    if (s.ch m).state = .locked && (s.bit (F.AMP_CH_CFG_DIAG_START m) || !s.chWanted m) then
      ((s.setCh m { s.ch m with state := .off, lockedDc := false }).put (F.AMP_CH_STAT_RETRIES m) 0).showCh m
    else s) s

/-- First audio after a full START or an image START: the channels take their states, and those with DIAG_START = 1 begin the start
diagnostics as they come to play (R371, R374). -/
def State.ampFirstAudio (s : State) : State := s.settleAmp

/-- R377: a run commanded through AMP_DIAG_CTL. -/
def State.diagCommand (s : State) : State :=
  if s.bit F.AMP_STAT_DIAG_BUSY then s.put F.AMP_DIAG_CTL_STATUS 3
  else
    let mask := s.rg AMP_DIAG_MASK
    let chans := (List.range 64).filter (fun m => mask.testBit m && (s.ch m).state = .playing)
    if chans.isEmpty then s.put F.AMP_DIAG_CTL_STATUS 2
    else chans.foldl (fun s m => s.beginDiag m false (s.get F.AMP_DIAG_CTL_MODE)) (s.put F.AMP_DIAG_CTL_STATUS 1)

/-- The |Z| readings of the run. -/
def State.sweepMags (s : State) (m : Nat) : List Nat :=
  ((List.range 16).filter (fun k => s.bit (F.AMP_CH_SWEEP_VALID m k))).map (fun k => s.get (F.AMP_CH_SWEEP_ZMAG m k))

/-- R376: the high-frequency point was measured and fails. -/
def State.hfFails (s : State) (m : Nat) : Bool :=
  (List.range 16).any (fun k => s.bit (F.AMP_SWEEP_HF k) && s.bit (F.AMP_CH_SWEEP_VALID m k)
    && !(decide (s.get (F.AMP_CH_SWEEP_ZMAG m k) ≤ s.get (F.AMP_CH_HF_HF_ZMAX m) * 256)
      && decide (s.getS (F.AMP_CH_SWEEP_PHASE m k) ≤ s.getS (F.AMP_CH_COIL_HF_PHMAX m) * 256)))

/-- The result of a run (Table 12.5). DEDUCED, log 77: unsafe. -/
def State.classify (s : State) (m : Nat) (d : DiagRun) : Nat :=
  let z := s.zNom m
  let isOpen : Bool := match d.rdc with
    | some r => decide (16 * z < r)
    | none => false
  let outside : Bool := match d.rdc with
    | some r => decide (10 * r < 4 * z) || decide (12 * z < 10 * r)
    | none => false
  let isShort : Bool := match d.rdc with
    | some r => decide (4 * r < z)
    | none => false
  if d.lost || s.iLost m || s.vLost m then 6
  else if isShort then 3
  else if isOpen && (s.sweepMags m).all (fun v => decide (16 * z < v)) then 2
  else if s.bit (F.AMP_CH_CFG_HF_CHECK m) && s.hfFails m then 4
  else if outside then 5
  else 1

/-- DIAG_RESULT (R375): the run ends with its classification and what follows it. DEDUCED, log 77: unsafe. -/
def State.diagResult (s : State) (m : Nat) (d : DiagRun) : State :=
  let r := s.classify m d
  let s := s.endDiag m r
  let s := s.setCh m { s.ch m with state := .off }
  match r with
  | 3 => (s.latchCh m).put (F.AMP_CH_STAT_DIAG m) 3
  | 6 => if s.bit (F.AMP_CH_CFG_SENSE_EN m) then (s.settleCh m).latch 42 [m] else s.settleCh m
  | 1 => s.settleCh m
  | _ => (s.settleCh m).latch 43 [m]

/-- Go on to a step, or to the result. -/
def State.diagGo (s : State) (m : Nat) (d : DiagRun) (next : Option (DiagStep × Nat)) : State :=
  match next with
  | some (st, len) => s.setCh m { s.ch m with diag := some { d with step := st, k := 0, len := len, corr := Corr.zero } }
  | none => s.diagResult m d

/-- R_dc of a hold (R374): all ones when the mean current is below 2^-16 of full scale. DEDUCED, log 78: unsafe. -/
def State.rdcOf (s : State) (m : Nat) (c : Corr) : Nat :=
  if (c.jRe.natAbs : Nat) < c.n * 2 ^ 77 then 2 ^ 32 - 1
  else
    let num := c.uRe * s.zScale m * c.jRe.sign
    (satTo 0 (2 ^ 32 - 2) (rhe num (c.jRe.natAbs * s.zDiv m))).toNat

/-- DIAG_STEP_END (R374): a DC hold or a sweep dwell of channel `m` has ended. -/
def effDiagStepEnd (m : Nat) (s : State) : State :=
  match (s.ch m).diag with
  | none => s
  | some d =>
    if d.k < d.len then s
    else match d.step with
      | .dcHold =>
        let r := s.rdcOf m d.corr
        let s := s.put (F.AMP_CH_RDC_V m) r
        let c := s.ch m
        -- R378: the baseline is set once, by the first completed start DC step
        let s := if d.start && c.rdcBase.isNone && r != 2 ^ 32 - 1 then s.setCh m { c with rdcBase := some r } else s
        s.diagGo m { d with rdc := some r } (some (.dcFall, s.ms 20))
      | .sweep k =>
        let z := s.zMag m d.corr
        let zv := z.getD ((Config.freeWord s.free).toNat % 2 ^ 32)
        let s := if z.isNone then s.nextFree else s
        let s := ((s.put (F.AMP_CH_SWEEP_ZMAG m k) zv).put (F.AMP_CH_SWEEP_PHASE m k) (unsigned 16 d.corr.zArg)).put
          (F.AMP_CH_SWEEP_VALID m k) 1
        s.diagGo m d (s.sweepFrom d.mode (k + 1))
      | _ => s

/-! ## Pilot and coil temperature -/

/-- The pilot window, 0.2 × fs samples (R379). -/
def State.pilotLen (s : State) : Nat := s.fs / 5

/-- The sum of two windows. -/
def Corr.add (a b : Corr) : Corr := ⟨a.n + b.n, a.uRe + b.uRe, a.uIm + b.uIm, a.jRe + b.jRe, a.jIm + b.jIm⟩

/-- P_eff for a coil temperature (R364), in 0.1 W, rounded half-even. DEDUCED, log 78: unsafe. -/
def State.pEffAt (s : State) (m : Nat) (t : Int) : Nat :=
  let lim := s.get (F.AMP_CH_PROT_P_LIM m)
  let knee : Int := s.get (F.AMP_CH_COIL_T_KNEE m) * 256
  let tmax : Int := s.get (F.AMP_CH_COIL_T_MAX m) * 256
  let minf := s.get (F.AMP_CH_COIL_P_MINF m)
  if t ≤ knee then lim
  else if tmax ≤ t then (rhe (lim * minf) 256).toNat
  else (rhe (lim * (256 * (tmax - knee) - (256 - minf) * (t - knee))) (256 * (tmax - knee)).toNat).toNat

/-- The limit in force is that of a coil temperature (R364). -/
def State.limitFor (s : State) (m : Nat) (t : Int) : State :=
  ((s.setCh m { s.ch m with tLim := t }).put (F.AMP_CH_POWER_P_EFF m) (s.pEffAt m t)).putBit (F.AMP_CH_STAT_COIL_PEND m) false

/-- A relaxation of the channel's limit waits for the client. -/
def State.relaxOpen (s : State) (m : Nat) : Bool :=
  s.kmp.proposals.any (fun p => match p.act with
    | .relax c _ _ => c == m
    | _ => false)

/-- Bring P_eff to the coil temperature: lower at once, higher by Table 2.8, one proposal of a channel at a time (R364).
DEDUCED, log 78: unsafe. -/
def State.adaptLimit (s : State) (m : Nat) : State :=
  let t := s.getS (F.AMP_CH_ZPH_TCOIL m)
  let p := s.pEffAt m t
  if p ≤ s.get (F.AMP_CH_POWER_P_EFF m) || s.policyActs then s.limitFor m t
  else if s.relaxOpen m then s
  else
    let s := s.propose (.relax m p t)
    s.putBit (F.AMP_CH_STAT_COIL_PEND m) (s.relaxOpen m)

/-- The channel's settings have changed: the limit in force follows them in either direction, for the coil temperature it stands for
(R364). DEDUCED, log 78: unsafe. -/
def State.limitChanged (s : State) (m : Nat) : State := s.put (F.AMP_CH_POWER_P_EFF m) (s.pEffAt m (s.ch m).tLim)

/-- The two half-windows agree within 2 % and 2 degrees, and the current is seen (R379). DEDUCED, log 78: unsafe. -/
def State.pilotValid (s : State) (m : Nat) (a b : Corr) : Bool :=
  let w := a.add b
  let floor := s.pilotLen * 2 ^ 73
  match s.zMag m a, s.zMag m b, s.zMag m w with
  | some za, some zb, some z =>
    let d := ((za : Int) - zb).natAbs
    let t := (a.zArg - b.zArg) % 92160
    decide (floor * floor ≤ w.j2) && decide (50 * d ≤ z) && (decide (t ≤ 512) || decide (91648 ≤ t))
  | _, _, _ => false

/-- PILOT_WINDOW_END (R379): a window of channel `m` has ended. -/
def effPilotWindowEnd (m : Nat) (s : State) : State :=
  match (s.ch m).pilotDone with
  | none => s
  | some (a, b) =>
    let s := s.setCh m { s.ch m with pilotDone := none }
    if !s.pilotValid m a b then s.bump (F.AMP_CH_CNT_DISCARDS m)
    else
      let w := a.add b
      let re := s.zReal m w
      let s := (s.put (F.AMP_CH_ZMAG_V m) ((s.zMag m w).getD 0)).put (F.AMP_CH_ZPH_PHASE m) (unsigned 16 w.zArg)
      let c := s.ch m
      match c.zRef with
      | none =>
        let z := (satTo 0 (2 ^ 32 - 1) re).toNat
        let s := s.setCh m { c with zRef := some z }
        s.put (F.AMP_CH_ZBASE_V m) z
      | some z0 =>
        let alpha := s.get (F.AMP_CH_HF_ALPHA m)
        let t : Int := if z0 = 0 || alpha = 0 then signed 16 ((Config.freeWord s.free).toNat % 65536)
          else satTo (-32768) 32767 (c.tRef + rhe ((re - z0) * 256000000) (z0 * alpha))
        let s := if z0 = 0 || alpha = 0 then s.nextFree else s
        let s := s.put (F.AMP_CH_ZPH_TCOIL m) (unsigned 16 t)
        (if s.coilHot m then s.latch 45 [m] else s).freeChans

/-! ## The output stage at one tick (Table 12.2) -/

/-- One sample into a correlator, with the phase word of R373. -/
def Corr.acc (c : Corr) (phase : Nat) (v i : Int) : Corr :=
  let sn := rhe (sinTurn phase) (2 ^ 66)
  let cs := rhe (sinTurn (phase + 2 ^ 30)) (2 ^ 66)
  ⟨c.n + 1, c.uRe + v * cs, c.uIm - v * sn, c.jRe + i * cs, c.jIm - i * sn⟩

/-- A tone's sample: a sine at a phase word scaled by a gain code, the product rounded once (R200, Table 6.3). -/
def toneSample (phase : Nat) (code : Int) : Int :=
  if code = -32768 then 0
  else
    let me := gainMul code
    sat32 (rhe (sinTurn phase * me.1) (2 ^ (127 - me.2).toNat))

/-- F of a sweep point: round(FREQ_HZ × 2^32 / fs). -/
def State.freqWord (s : State) (hz : Nat) : Nat := (2 * hz * 2 ^ 32 + s.fs) / (2 * s.fs)

/-- The retest tone's frequency word (R367): the pilot's, or 20.5 kHz. -/
def State.retestFreq (s : State) (m : Nat) : Nat :=
  if s.bit (F.AMP_CH_CFG_PILOT_EN m) then s.rg (PATCH_GEN_FREQ (s.get (F.AMP_CH_CFG_PILOT_GEN m))) else s.freqWord 20500

/-- The DC level of a diagnostic run: 0.01 × V_OUT_FS, with the fade law of R189 over its edges. -/
def State.diagLevel (s : State) (d : DiagRun) : Int × Nat :=
  let dc : Int := 21474836
  match d.step with
  | .fadeOut => (0, 0)
  | .dcRise => (rhe (dc * sinQ30 d.k d.len) (2 ^ 30), 0)
  | .dcHold => (dc, 0)
  | .dcFall => (rhe (dc * sinQ30 (d.len - d.k) d.len) (2 ^ 30), 0)
  | .sweep k =>
    let ph := s.freqWord (s.get (F.AMP_SWEEP_FREQ_HZ k)) * d.k % 2 ^ 32
    (if d.k < d.len then toneSample ph (s.getS (F.AMP_SWEEP_LEVEL k)) else 0, ph)

/-- One tick of a diagnostic run: the correlator over its part of the step, and the steps that end by themselves. -/
def State.diagTick (s : State) (m : Nat) (d : DiagRun) (v i : Int) : State :=
  let ph := (s.diagLevel d).2
  let skip := match d.step with
    | .dcHold => s.ms 20
    | .sweep _ => s.ms 10
    | _ => d.len
  let corr := if skip ≤ d.k && d.k < d.len then d.corr.acc ph v i else d.corr
  let d := { d with corr := corr, k := min d.len (d.k + 1) }
  let s := s.setCh m { s.ch m with diag := some d }
  if d.k < d.len then s
  else match d.step with
    | .fadeOut => s.diagGo m d (s.firstStep d.mode)
    | .dcRise => s.diagGo m d (some (.dcHold, s.ms 100))
    | .dcFall => s.diagGo m d (s.sweepFrom d.mode 0)
    | _ => s

/-- Four times the mean of a rail's bitstream over the last 4 Ts, in 2^-31 × 0.1 V × 4 (R358). -/
def State.railSum (s : State) (r : Nat) : Int := s.meanSum (tgetD s.amp.bits (128 + r) [])

/-- Rail-sag target (R360), and whether it is left open (a ceiling of zero or below has no logarithm). -/
def State.sagTarget (s : State) (m : Nat) (x : Int) : Int × Bool :=
  let r := s.railOf m
  if !s.bit (F.AMP_RAIL_CFG_EN r) || s.bit (F.AMP_RAIL_STAT_LOST r) then (0, false)
  else
    -- V_ceil in units of 0.1 V × 2^-49
    let ceil : Int := s.railSum r * s.get (F.AMP_RAIL_CFG_RAIL_FS r) * s.get (F.AMP_CH_RAILSAG_RAIL_K m)
      - s.get (F.AMP_CH_RAILSAG_DROP m) * 2 ^ 49
    let level := levelQ16 x.natAbs 31
    if ceil ≤ 0 then (min 0 (-((Config.freeWord s.free).toNat % 8388608 : Nat) - level), true)
    else
      let t := min 0 (satTo (-8388608) 8388607
        (rhe ((fxLnNat ceil.toNat - fxLnNat (max 1 (s.get (F.AMP_CH_SCALE_V_OUT_FS m)) * 2 ^ 49)) * (20 * 65536)) fxLn10))
      (satTo (-8388608) 0 (min 0 (t - level)), false)

/-- Smoothing coefficient for a time of num / den seconds (R216). -/
def State.alphaOf (s : State) (num den : Nat) : Nat := alphaQ24 (num * s.fs) den

/-- Step 2, rail-sag part. -/
def State.sagTick (s : State) (m : Nat) (x : Int) : State :=
  let (g, free) := s.sagTarget m x
  let c := s.ch m
  let rel := s.alphaOf (s.get (F.AMP_CH_TIME_RS_RELEASE m)) 100
  let att := s.get (F.AMP_CH_TIME_RS_ATTACK m)
  let lost := s.bit (F.AMP_RAIL_STAT_LOST (s.railOf m))
  let rs := if lost then 0 else smooth c.rs g (if att = 0 then 0 else s.alphaOf att 100000) rel
  let s := s.setCh m { c with rs := rs }
  if free then s.nextFree else s

/-- Step 2, power-limit part (R361 to R364): at each block the limit is brought to the coil temperature.
DEDUCED, log 78: unsafe. -/
def State.powerTick (s : State) (m : Nat) (x v i : Int) : State :=
  let s := if s.node.n.toNat % 8 = 0 then s.adaptLimit m else s
  let c := s.ch m
  let fallback := s.iLost m || s.vLost m
  let g3 := (c.plHist.drop 2).headD 0
  let meas : Int := v * i * s.get (F.AMP_CH_SNS_SCALE_V_FS m) * s.get (F.AMP_CH_SNS_SCALE_I_FS m)
  let vo : Int := s.get (F.AMP_CH_SCALE_V_OUT_FS m)
  let zb := match c.rdcBase with
    | some r => max 1 r
    | none => max 1 (s.zNom m)
  let est : Int := rhe (x * x * vo * vo * 10 * 65536) zb
  let sample := if fallback then (est, est) else (byPowerDb meas (-g3), meas)
  let w := 8 * 2 ^ s.get (F.AMP_CH_PROT_PWIN m)
  let win := (sample :: c.win).take w
  let sumU : Int := win.foldl (fun a e => a + e.1) 0
  let sumP : Int := win.foldl (fun a e => a + e.2) 0
  let target : Int := if s.node.n.toNat % 8 = 0 then
      (if sumU ≤ 0 then 0
       else if s.get (F.AMP_CH_POWER_P_EFF m) = 0 then -8388608
       else min 0 (powerDbQ16 (s.get (F.AMP_CH_POWER_P_EFF m) * 100 * 2 ^ 62 * w) sumU.toNat))
    else c.plTarget
  let pl := smooth c.pl target (s.alphaOf (s.get (F.AMP_CH_TIME_PL_ATTACK m)) 1000)
    (s.alphaOf (s.get (F.AMP_CH_TIME_PL_RELEASE m)) 10)
  let s := s.setCh m { c with win := win, plTarget := target, pl := pl, plHist := (pl :: c.plHist).take 3 }
  let s := s.put (F.AMP_CH_POWER_P m) (satTo 0 65535 (rhe sumP (100 * 2 ^ 62 * w))).toNat
  let s := s.put (F.AMP_CH_GR_RS_GR m) (satTo 0 65535 (rhe (-(s.ch m).rs) 256)).toNat
  s.put (F.AMP_CH_GR_PL_GR m) (satTo 0 65535 (rhe (-pl) 256)).toNat

/-- R370: the mean of v over the last second, formed at each block while PLAYING with the voltage sense present.
DEDUCED, log 78: unsafe. -/
def State.dcTick (s : State) (m : Nat) (v : Int) : State :=
  let c := s.ch m
  if c.state != .playing || s.vLost m then s.setCh m { c with dcBlocks := [], dcCur := 0 }
  else
    let cur := c.dcCur + v
    if s.node.n.toNat % 8 != 7 then s.setCh m { c with dcCur := cur }
    else
      let bl := (cur :: c.dcBlocks).take (s.fs / 8)
      let sum : Int := bl.foldl (· + ·) 0
      let s := s.setCh m { c with dcCur := 0, dcBlocks := bl }
      if s.get (F.AMP_CH_SCALE_V_OUT_FS m) * s.fs * 2 ^ 31 < 20 * sum.natAbs * s.get (F.AMP_CH_SNS_SCALE_V_FS m) then
        ((s.putBit (F.AMP_CH_STAT_DC m) true).lockCh m true).latch 40 [m]
      else s

/-- Pilot tracking at one tick (R379). -/
def State.pilotTick (s : State) (m : Nat) (v i : Int) : State :=
  let c := s.ch m
  if !s.bit (F.AMP_CH_CFG_PILOT_EN m) || c.state != .playing then s
  else
    let g := s.get (F.AMP_CH_CFG_PILOT_GEN m)
    let ph := (s.rg (PATCH_GEN_FREQ g) * s.node.n.toNat + s.rg (PATCH_GEN_PHASE g)) % 2 ^ 32
    let w := s.pilotLen
    let pos := s.node.n.toNat % w
    let c := if pos != 0 then c
      else { c with pilotDone := if c.pilotA.n + c.pilotB.n = w then some (c.pilotA, c.pilotB) else c.pilotDone,
                    pilotA := Corr.zero, pilotB := Corr.zero }
    s.setCh m (if pos < w / 2 then { c with pilotA := c.pilotA.acc ph v i } else { c with pilotB := c.pilotB.acc ph v i })

/-- Every channel's limit after START, by its settings and the starting temperature (R79, R364). -/
def State.startLimits (s : State) : State :=
  (List.range 64).foldl (fun (s : State) m => s.limitFor m (s.getS (F.AMP_CH_ZPH_TCOIL m))) s

/-- The output stage of one channel at a tick: `x` is the destination's value, `gen` the pilot generator's sample. -/
def State.ampChTick (s : State) (m : Nat) (x gen : Int) : State :=
  let v := tgetD s.amp.sense (2 * m + 1) 0
  let i := tgetD s.amp.sense (2 * m) 0
  let s := ((s.sagTick m x).powerTick m x v i)
  let c := s.ch m
  let y := sat32 (applyGain x (gainCode (rhe (c.rs + c.pl) 256)))
  let y := sat32 (rhe (y * c.prot.factor) (2 ^ 30))
  let tone : Int := match c.state with
    | .playing | .railHold => if s.bit (F.AMP_CH_CFG_PILOT_EN m) then gen else 0
    | .diag => (match c.diag with
      | some d => (s.diagLevel d).1
      | none => 0)
    | .retest => (match c.retest with
      | some (k, _) => if k < s.ms10 then toneSample (s.retestFreq m * k % 2 ^ 32) (-10240) else 0
      | none => 0)
    | _ => 0
  let z := if c.state = .retest then tone else y + tone
  let s := match s.bridgeOf m with
    | .pulses =>
      let s := if sat32 z != z then (s.bump (F.AMP_CH_CNT_SAT m)).latch 46 [m] else s
      let s := { s with amp := { s.amp with mod := cins s.amp.mod m (sat32 z) } }
      let r := s.shaped (s.ch m) (sat32 z)
      s.setCh m { r.1 with plan := pulsePlan r.1.idle r.2 }
    | .zeroLow => s.setCh m { s.ch m with plan := List.replicate 16 ⟨.zero, none⟩, up := [], shaper := [] }
    | .low => s.setCh m { s.ch m with up := [], shaper := [] }
  let s := s.setCh m { s.ch m with prot := (s.ch m).prot.tick }
  let s := match (s.ch m).retest with
    | some (k, corr) =>
      let ph := s.retestFreq m * k % 2 ^ 32
      s.setCh m { s.ch m with retest := some (min s.ms10 (k + 1), if k < s.ms10 then corr.acc ph v i else corr) }
    | none => s
  let s := match (s.ch m).diag with
    | some d => s.diagTick m d v i
    | none => s
  (s.dcTick m v).pilotTick m v i

/-- What the sense inputs brought in the Ts that ends: bitstreams, decimated samples and rail readings (R352, R353, R358); the
PROCESSING role ignores them (R2). -/
def State.senseTick (s : State) (words : Tbl (BitVec 512)) : State :=
  if s.node.role = .processing then { s with amp := { s.amp with bits := [], sense := [] } }
  else
    let keys := words.foldl (fun (m : Tbl (List (Option (BitVec 512)))) e => if (tget m e.1).isSome then m else cins m e.1 []) s.amp.bits
    let bits := keys.map (fun e => (e.1, (tget words e.1 :: e.2).take 4))
    let bits := bits.filter (fun e => e.2.any (fun w => w.isSome))
    let s := { s with amp := { s.amp with bits := bits, sense := bits.map (fun e => (e.1, s.decimated e.2)) } }
    (List.range 8).foldl (fun s r =>
      if !s.bit (F.AMP_RAIL_CFG_EN r) then s
      else
        let v := (satTo 0 65535 (rhe (s.railSum r * s.get (F.AMP_RAIL_CFG_RAIL_FS r)) (2 ^ 33))).toNat
        let lo := min v ((tget s.amp.vMin r).getD v)
        let s := { s with amp := { s.amp with vMin := cins s.amp.vMin r lo } }
        (s.put (F.AMP_RAIL_V_V r) v).put (F.AMP_RAIL_V_V_MIN r) lo) s

/-- What source 3,328 + m reads at a tick (R356). -/
def State.senseSource (s : State) (m : Nat) : Int :=
  if s.node.role != .amplifier then 0
  else
    let i := tgetD s.amp.sense (2 * m) 0
    let v := tgetD s.amp.sense (2 * m + 1) 0
    match s.get (F.AMP_CH_CFG_SRC m) with
    | 0 => i
    | 1 => v
    | 2 => sat32 (rhe (v * i) (2 ^ 31))
    | _ => tgetD s.amp.sense (128 + s.railOf m) 0

/-! ## Register writes -/

/-- The registers of the AMP block that configure channels, rails and the sweep. -/
def ampConfig (a : Nat) : Bool :=
  (decide (AMP_SWEEP 0 ≤ a) && decide (a < AMP_RAIL_CFG 0))
    || (decide (AMP_RAIL_CFG 0 ≤ a) && decide (a < AMP_RAIL_CFG 8) && decide ((a - AMP_RAIL_CFG 0) % 0x10 < 8))
    || (decide (AMP_CH_CFG 0 ≤ a) && decide (a < AMP_CH_CFG 64) && decide ((a - AMP_CH_CFG 0) % 0x80 < 0x24))

/-- What a write to AMP register `a` does beyond the register; `cmd` holds its command bits. -/
def State.ampAct (s : State) (a cmd : Nat) : State :=
  if a = AMP_DIAG_CTL then (if cmd.testBit 0 then s.diagCommand else s)
  else if AMP_RAIL_CFG 0 ≤ a && a < AMP_CH_CFG 0 then (s.railLimits.showRails.settleSense).freeChans
  else if AMP_CH_CFG 0 ≤ a && a < AMP_CH_CFG 64 then
    let m := (a - AMP_CH_CFG 0) / 0x80
    if a = AMP_CH_CTL m then (if cmd.testBit 0 then s.retestWritten m else s)
    else if a = AMP_CH_STAT m then s
    else ((s.settleSense).limitChanged m).freeChans
  else s

/-- A write to the AMP block acts at the next tick, with the others that arrive before it; while MOD is gated, at the first tick
after it runs again (R34, R52, R381). -/
def State.ampTouched (s : State) (a cmd : Nat) : State :=
  { s with amp := { s.amp with waiting := s.amp.waiting ++ [(a, cmd)] } }

/-- A configuration register takes a value at that tick; it reads back the value at once. -/
def State.park (s : State) (a v : Nat) : State := { s with amp := { s.amp with parked := cins s.amp.parked a v } }

/-- The registers take the values that wait, and no write waits any more. -/
def State.settleParked (s : State) : State :=
  s.amp.parked.foldl (fun (s : State) e => s.setRg e.1 e.2) { s with amp := { s.amp with waiting := [], parked := [] } }

/-- The tick at which the writes act: the registers take their values, then each write acts in order. -/
def State.settleAmpWrites (s : State) : State := s.amp.waiting.foldl (fun s e => s.ampAct e.1 e.2) s.settleParked

/-! ## Meanings of the commands -/

/-- CURRENT_TRIP (R365). -/
def execCurrentTrip (m : Fin 64) (k : TripIn) (s : State) : Result :=
  runs s (effCurrentTrip m.val k.period.val k.bits k.cycle)

/-- RETEST_START (R367). -/
def execRetestStart (m : Fin 64) (s : State) : Result :=
  runs s (effRetestStart m.val)

/-- RETEST_END (R367). -/
def execRetestEnd (m : Fin 64) (s : State) : Result :=
  runs s (effRetestEnd m.val)

/-- RETRIES_RESET (R368). -/
def execRetriesReset (m : Fin 64) (s : State) : Result :=
  runs s (effRetriesReset m.val)

/-- SENSE_LOST (R355). -/
def execSenseLost (input : Fin 3) (k : Fin 64) (s : State) : Result :=
  runs s (effSenseLost input.val k.val)

/-- SENSE_RETURN (R355). -/
def execSenseReturn (input : Fin 3) (k : Fin 64) (s : State) : Result :=
  runs s (effSenseReturn input.val k.val)

/-- RAIL_UNDER_VOLTAGE (R359). -/
def execRailUnderVoltage (r : Fin 8) (s : State) : Result :=
  runs s (effRailUnder r.val)

/-- RAIL_OVER_VOLTAGE (R359). -/
def execRailOverVoltage (r : Fin 8) (s : State) : Result :=
  runs s (effRailOver r.val)

/-- RAIL_RECOVER (R359). -/
def execRailRecover (r : Fin 8) (s : State) : Result :=
  runs s (effRailRecover r.val)

/-- DIAG_STEP_END (R374). -/
def execDiagStepEnd (m : Fin 64) (s : State) : Result :=
  runs s (effDiagStepEnd m.val)

/-- PILOT_WINDOW_END (R379). -/
def execPilotWindowEnd (m : Fin 64) (s : State) : Result :=
  runs s (effPilotWindowEnd m.val)

end Sys2Proof.Machine
end

