-- ==== Sys2Proof/Machine/Cbus.lean ====
section
/-! DEFINITION. The control-bus MACs (chapter 13). -/

namespace Sys2Proof.Machine

/-- A MAC that holds nothing; its generator before any enable is 0. DESIGN CHOICE, log 96: safe. -/
def CbusMac.rest : CbusMac :=
  { fill := none, queue := [], phase := .defer, flush := none, results := [], rx := [], mdio := none, stuck := false,
    jabber := false, txLost := false, rxLost := false, gen := 0, enabling := false }

/-- A MAC's typed state. -/
def State.mac (s : State) (m : Nat) : CbusMac := tgetD s.cbus.macs m CbusMac.rest

/-- The slots a MAC's transmit side uses. -/
def CbusMac.txLevel (c : CbusMac) : Nat := c.queue.length + (if c.fill.isSome then 1 else 0)

/-- CBUS_TX_RES image of a result entry. -/
def CbusRes.image (r : CbusRes) : Nat := 2 ^ 31 + r.result * 2 ^ 28 + r.attempts * 2 ^ 16 + r.tag

/-- Set a MAC's typed state, its status registers with it. -/
def State.setMac (s : State) (m : Nat) (c : CbusMac) : State :=
  let s := { s with cbus := { s.cbus with macs := tput s.cbus.macs m (if c = CbusMac.rest then none else some c) } }
  let s := (s.put (F.CBUS_STAT_TX_LEVEL m) c.txLevel).put (F.CBUS_STAT_RX_LEVEL m) c.rx.length
  let s := s.putBit (F.CBUS_STAT_RES_FULL m) (decide (8 ≤ c.results.length))
  let s := s.putBit (F.CBUS_STAT_TX_BUSY m) (decide (c.phase ≠ .defer))
  let s := match c.rx with
    | r :: _ => (s.setRg (CBUS_RX_STAT m) r.stat).setRg (CBUS_RX_TS m) r.ts
    | [] => (s.setRg (CBUS_RX_STAT m) 0).setRg (CBUS_RX_TS m) 0
  match c.results with
  | r :: _ => s.setRg (CBUS_TX_RES m) r.image
  | [] => s.setRg (CBUS_TX_RES m) 0

/-- One count in a counter of Table 13.4. -/
def State.cbusCount (s : State) (m k : Nat) (n : Nat := 1) : State :=
  s.setRg (CBUS_CNT m k) (min 0xFFFFFFFF (s.rg (CBUS_CNT m k) + n))

/-- The MAC acts as enabled: EN is 1, and the engine is not in DORMANT (R384, R385). -/
def State.macOn (s : State) (m : Nat) : Bool := s.bit (F.CBUS_CFG_EN m) && s.node.mode != .dormant

/-- LOOP takes effect only in SERVICE. -/
def State.macLoop (s : State) (m : Nat) : Bool := s.bit (F.CBUS_CFG_LOOP m) && s.node.mode == .service

/-! ## Results -/

/-- The frame at the head of the queue ends with a result of CBUS_TX_RES; the next starts with a fresh count.
DEDUCED, log 61: unsafe. -/
def State.cbusEnd (s : State) (m result : Nat) : State :=
  let c := s.mac m
  match c.queue with
  | [] => s
  | f :: fs => s.setMac m { c with
      queue := fs
      phase := .defer
      results := c.results ++ [(⟨f.tag, result, f.attempts, f.owner⟩ : CbusRes)] }

/-- The counter of a result that discards a frame (Table 13.4). -/
def discardCounter (result : Nat) : Option Nat :=
  match result with
  | 1 => some 21
  | 2 => some 23
  | 3 => some 24
  | 4 => some 25
  | _ => none

/-- The head frame is discarded with a result, and counted. -/
def State.cbusDiscard (s : State) (m result : Nat) : State :=
  if (s.mac m).queue.isEmpty then s
  else
    let s := s.cbusEnd m result
    match discardCounter result with
    | some k => s.cbusCount m k
    | none => s

/-- The first `n` frames of the queue end with a result, and no flush waits. -/
def State.cbusDrop (s : State) (m result n : Nat) : State :=
  iterate (fun s => s.cbusDiscard m result) n (s.setMac m { s.mac m with flush := none })

/-- Every queued frame ends with FLUSHED, after the attempt in progress (CBUS_TX_CMD.FLUSH, R384). -/
def State.cbusFlush (s : State) (m : Nat) : State :=
  let c := s.mac m
  if c.phase = .attempt then s.setMac m { c with flush := some (c.queue.length - 1) }
  else s.cbusDrop m 4 c.queue.length

/-- The attempt in progress has ended with its frame: the frames that a flush left waiting for it end. -/
def State.flushRest (s : State) (m : Nat) : State :=
  match (s.mac m).flush with
  | some n => s.cbusDrop m 4 n
  | none => s

/-! ## Enabling and disabling (R384 to R387) -/

/-- What a MAC that acts as EN = 0 loses (R384); MDC is low, so an MDIO frame in progress is cut short. DEDUCED, log 61: unsafe. -/
def State.macStop (s : State) (m : Nat) : State :=
  let s := (s.cbusFlush m).putBit (F.CBUS_MDIO_BUSY m) false
  s.setMac m { s.mac m with fill := none, rx := [], jabber := false, mdio := none }

/-- CBUS_DISABLE (R384). -/
def effCbusDisable (m : Nat) (s : State) : State :=
  if s.bit (F.CBUS_CFG_EN m) then
    let s := (s.putBit (F.CBUS_CFG_EN m) false).macStop m
    s.setMac m { s.mac m with enabling := false }
  else s

/-- The PLCA control register of a 10BASE-T1S PHY: MMD 31, register 0xCA01. PRESUMED, log 60: unsafe. -/
def plcaMmd : Nat := 31
/-- Its register number. PRESUMED, log 60: unsafe. -/
def plcaReg : Nat := 0xCA01

/-- MMD indirect access through clause 22 registers 13 and 14 (R386): the frames that write 0 to the control register's
enable bit, and those that read it back. PRESUMED, log 60: unsafe. -/
def State.plcaFrames (s : State) (m : Nat) : State :=
  let phy := s.get (F.CBUS_MDIO_PHYAD m)
  let w (r d : Nat) (s : State) : State := s.emit (.mdio m true phy r d)
  let s := w 14 0 (w 13 (0x4000 + plcaMmd) (w 14 plcaReg (w 13 plcaMmd s)))
  (w 13 (0x4000 + plcaMmd) (w 14 plcaReg (w 13 plcaMmd s))).emit (.mdio m false phy 14 0)

/-- What CBUS_MDIO shows after the read-back: the enable bit is bit 15, the other bits are the PHY's, free values (R387).
PRESUMED, log 60: unsafe. -/
def State.plcaRead (s : State) (m : Nat) (plca : Option Bool) : State :=
  let s := s.put (F.CBUS_MDIO_REGAD m) 14
  match plca with
  | some b =>
    let v := (Config.freeWord s.free).toNat % 2 ^ 15 + (if b then 2 ^ 15 else 0)
    ((s.put (F.CBUS_MDIO_DATA m) v).putBit (F.CBUS_MDIO_NO_ACK m) false).nextFree
  | none => ((s.put (F.CBUS_MDIO_DATA m) 0xFFFF).putBit (F.CBUS_MDIO_NO_ACK m) true).cbusCount m 27

/-- A MAC is enabled: EN is 1, and its generator is reseeded from the time counter (R391). DESIGN CHOICE, log 96: safe. -/
def State.macEnabled (s : State) (m : Nat) : State :=
  (s.setMac m { s.mac m with gen := Config.backoffSeed s.node.time, enabling := false }).putBit (F.CBUS_CFG_EN m) true

/-- CBUS_ENABLE: the Keeper enables a MAC; `plca` is the enable bit read back, none when the PHY does not answer (R386). In DORMANT MDC
is low: the PHY is reached when the MAC takes up its configured state (R385). DEDUCED, log 61: unsafe. -/
def effCbusEnable (m : Nat) (plca : Option Bool) (s : State) : State :=
  if s.bit (F.CBUS_CFG_EN m) then s
  else if !s.bit (F.CBUS_CFG_PLCA_OFF m) then s.macEnabled m
  else if s.node.mode = .dormant then s.setMac m { s.mac m with enabling := true }
  else
    let s := (s.plcaFrames m).plcaRead m plca
    if plca = some false then s.macEnabled m
    else (s.setMac m { s.mac m with enabling := false }).putBit (F.CBUS_STAT_PHY_ERR m) true

/-- What the PHY answers to the PLCA frames when no command tells it: a free value. -/
def State.freePlca (s : State) : Option Bool :=
  match (Config.freeWord s.free).toNat % 3 with
  | 0 => some false
  | 1 => some true
  | _ => none

/-- The engine has left DORMANT: a MAC enabled there is enabled now (R385). DEDUCED, log 61: unsafe. -/
def State.macsWake (s : State) : State :=
  (List.range 4).foldl (fun s m => if (s.mac m).enabling then effCbusEnable m s.freePlca s.nextFree else s) s

/-- A write to CBUS_MDIO: the fields take their values, and a frame starts where the MAC drives MDC; none has an effect while a frame
runs (R384, R385, R387). -/
def State.mdioStart (s : State) (m : Nat) (write : Bool) (phy reg data : Nat) : State :=
  let set (s : State) : State :=
    ((s.put (F.CBUS_MDIO_PHYAD m) phy).put (F.CBUS_MDIO_REGAD m) reg).put (F.CBUS_MDIO_DATA m) data
  if (s.mac m).mdio.isSome then s
  else if !s.macOn m then set s
  else
    let s := (set s).putBit (F.CBUS_MDIO_BUSY m) true
    (s.setMac m { s.mac m with mdio := some (write, data) }).emit (.mdio m write phy reg (if write then data else 0))

/-- MDIO_WRITE (R387). -/
def effMdioWrite (m phy reg data : Nat) (s : State) : State := s.mdioStart m true phy reg data

/-- MDIO_READ (R387). -/
def effMdioRead (m phy reg : Nat) (s : State) : State := s.mdioStart m false phy reg (s.get (F.CBUS_MDIO_DATA m))

/-- MDIO_DONE: the frame ends; `ack` tells whether the PHY drove the turnaround low, `data` what it sent. -/
def effMdioDone (m : Nat) (ack : Bool) (data : Nat) (s : State) : State :=
  match (s.mac m).mdio with
  | none => s
  | some (write, _) =>
    let s := (s.setMac m { s.mac m with mdio := none }).putBit (F.CBUS_MDIO_BUSY m) false
    if write then s
    else
      let s := (s.put (F.CBUS_MDIO_DATA m) (if ack then data else 0xFFFF)).putBit (F.CBUS_MDIO_NO_ACK m) (!ack)
      if ack then s else s.cbusCount m 27

/-! ## Receive (R392 to R395) -/

/-- The broadcast address. -/
def broadcastMac : Nat := 0xFFFFFFFFFFFF

/-- A group address other than broadcast. -/
def multicastMac (a : Nat) : Bool := a != broadcastMac && a / 2 ^ 40 % 2 == 1

/-- Row 2 of Table 13.3: the filter entry that takes a destination, 0 for broadcast. -/
def State.cbusFilter (s : State) (m dst : Nat) : Option Nat :=
  if dst = broadcastMac && s.bit (F.CBUS_CFG_BC_EN m) then some 0
  else
    match (List.range 8).find? (fun k => s.bit (F.CBUS_FILT_EN m k) && s.get (F.CBUS_FILT_ADDR m k) == dst) with
    | some k => some (if dst = broadcastMac then 0 else k)
    | none => none

/-- The last four bytes are the FCS of those before them. -/
def fcsGood (bytes : List Byte) : Bool :=
  let n := bytes.length - 4
  4 ≤ bytes.length && bytes.drop n == leBytes 4 (crc32 (bytes.take n))

/-- Rows 4 to 8 of Table 13.3 that a frame meets: counter and flag bit of CBUS_RX_STAT, in order. -/
def State.cbusFlaws (s : State) (m : Nat) (f : CbusRx) : List (Nat × Nat) :=
  let max := s.get (F.CBUS_CFG_MAX_LEN m)
  (if f.rxErr then [(8, 25)] else []) ++ (if f.odd then [(5, 29)] else [])
    ++ (if max < f.bytes.length then [(7, 27)] else []) ++ (if fcsGood f.bytes then [] else [(4, 30)])
    ++ (if f.bytes.length < 64 then [(6, 28)] else [])

/-- The partners configured at a MAC with an address, by their keys (R399). DESIGN CHOICE, log 62: safe. -/
def State.partnersAt (s : State) (m addr : Nat) : List Nat :=
  ((Cfg.items s.st.cfg secPeripherals).filter (fun e =>
    partnerKey e.1 && (e.1 - 0x01000000) / 0x100 == m && Config.partnerAddr e.2 == addr)).map (fun e => e.1)

/-- The same change of each of some partners. -/
def State.mapPartners (s : State) (keys : List Nat) (f : Partner → Partner) : State :=
  { s with cbus := { s.cbus with partners := keys.foldl (fun t k => tput t k (some (f (tgetD t k ⟨0, false, none⟩)))) s.cbus.partners } }

/-- A frame of the Keeper's own services has gone out to an address: a request to the partners there (R398).
DESIGN CHOICE, log 62: safe. -/
def State.partnerAsked (s : State) (m dst : Nat) : State := s.mapPartners (s.partnersAt m dst) (fun p => { p with asked := true })

/-- A frame of row 9 from a partner's address answers its request, if one waits (R398). DESIGN CHOICE, log 62: safe. -/
def State.partnerAnswers (s : State) (m src : Nat) (bytes : List Byte) : State :=
  s.mapPartners (s.partnersAt m src) (fun p => if p.asked then ⟨0, false, some bytes⟩ else p)

/-- A frame takes the oldest free slot and is delivered. -/
def State.cbusDeliver (s : State) (f : CbusRx) (dst filt flags : Nat) : State :=
  let m := f.mac.val
  let bytes := f.bytes.take (s.get (F.CBUS_CFG_MAX_LEN m))
  let stat := 2 ^ 31 + flags + (if dst = broadcastMac then 2 ^ 24 else 0) + filt * 2 ^ 21 + bytes.length
  let s := if dst = broadcastMac then s.cbusCount m 2 else if multicastMac dst then s.cbusCount m 28 else s
  let c := s.mac m
  s.setMac m { c with rx := c.rx ++ [(⟨stat, f.ts, bytes, 0⟩ : CbusSlot)] }

/-- A reception is classified in the order of Table 13.3. -/
def State.cbusReceive (s : State) (f : CbusRx) : State :=
  let m := f.mac.val
  if f.bytes.length < 6 then s.cbusCount m 9
  else
    let dst := beNat (f.bytes.take 6)
    match s.cbusFilter m dst with
    | none => s.cbusCount m 3
    | some filt =>
      if 8 ≤ (s.mac m).rx.length then s.cbusCount m 10
      else
        match s.cbusFlaws m f with
        | [] =>
          let s := (s.cbusCount m 0).cbusCount m 1 f.bytes.length
          (s.partnerAnswers m (beNat ((f.bytes.drop 6).take 6)) f.bytes).cbusDeliver f dst filt 0
        | flaws@((k, _) :: _) =>
          let s := s.cbusCount m k
          if s.bit (F.CBUS_CFG_ACCEPT_BAD m) then
            let flags := flaws.foldl (fun (n : Nat) (e : Nat × Nat) => n + 2 ^ e.2 + (if e.1 = 7 then 2 ^ 26 else 0)) 0
            (s.cbusCount m 11).cbusDeliver f dst filt flags
          else s

/-- The MAC looks at its receive inputs: not while its own TX_EN is high (R392), nor after a jabber until RX_DV has been low for
9.6 µs, which `quiet` tells (R394), nor without RX_CLK (R397). -/
def State.listens (s : State) (m : Nat) (quiet : Bool) : Bool :=
  let c := s.mac m
  s.macOn m && !c.rxLost && c.phase != .attempt && (quiet || !c.jabber)

/-- CBUS_FRAME_RX: a reception ends (R392). -/
def effCbusFrameRx (f : CbusRx) (s : State) : State :=
  let m := f.mac.val
  if s.listens m f.quiet then (s.setMac m { s.mac m with jabber := false }).cbusReceive f else s

/-- CBUS_FALSE_CARRIER (R394). -/
def effCbusFalseCarrier (f : FalseCarrier) (s : State) : State :=
  let m := f.mac.val
  if s.listens m f.quiet then (s.setMac m { s.mac m with jabber := false }).cbusCount m 30 else s

/-- CBUS_JABBER: RX_DV, and CRS with it, has been high for 5 ms; the frame in progress, as far as it came, counts once (R394). -/
def effCbusJabber (f : CbusRx) (s : State) : State :=
  let m := f.mac.val
  if !s.listens m f.quiet then s
  else
    let s := (s.cbusReceive f).cbusCount m 12
    let s := (s.setMac m { s.mac m with jabber := true }).putBit (F.CBUS_STAT_CRS m) true
    (s.putBit (F.CBUS_STAT_JABBER m) true).latch 48

/-- CBUS_RX_DATA: the Keeper reads the next four bytes of the oldest frame (R400). -/
def effCbusRxData (m : Nat) (s : State) : State :=
  let c := s.mac m
  match c.rx with
  | [] => s.emit (.data 0)
  | r :: rs =>
    (s.setMac m { c with rx := { r with pos := min r.bytes.length (r.pos + 4) } :: rs }).emit
      (.data (leAt r.bytes r.pos 4))

/-- RX_POP: the oldest receive slot is freed; the Keeper delivers its frame to the sessions that subscribe (R400).
DEDUCED, log 61: unsafe. -/
def effRxPop (m : Nat) (s : State) : State :=
  let c := s.mac m
  match c.rx with
  | [] => s
  | r :: rs =>
    (s.setMac m { c with rx := rs }).notify 7
      ([BitVec.ofNat 8 m, 0, 0, 0] ++ beBytes 4 r.stat ++ beBytes 8 r.ts ++ r.bytes)

/-- POLL_TIMEOUT: the request that waits at a partner, by its PERIPHERALS key, is missed (R398). -/
def effPollTimeout (key : Nat) (s : State) : State :=
  if partnerKey key && (s.cfgItem secPeripherals key).isSome && (s.partner key).asked then
    s.mapPartners [key] (fun p => { p with misses := min 3 (p.misses + 1), asked := false })
  else s

/-! ## Transmit (R388 to R391, R396) -/

/-- CBUS_TX_DATA: four bytes are appended to the slot being filled (R396). -/
def effCbusTxData (m : Nat) (w : Word32) (s : State) : State :=
  let c := s.mac m
  if !s.macOn m then s
  else
    match c.fill with
    | some b => if 2048 < b.length + 4 then s else s.setMac m { c with fill := some (b ++ leBytes 4 w.toNat) }
    | none => if 4 ≤ c.queue.length then s else s.setMac m { c with fill := some (leBytes 4 w.toNat) }

/-- A slot's frame is queued, or its GO is refused (R396, R397); `none`: there is no slot. -/
def State.cbusQueue (s : State) (m len tag : Nat) (slot : Option (List Byte)) (owner : Option (Nat × Nat)) : State :=
  let c := s.mac m
  let b := slot.getD []
  if len < 14 || s.get (F.CBUS_CFG_MAX_LEN m) - 4 < len || b.length < len || slot.isNone || c.txLost then
    s.setMac m { c with results := c.results ++ [(⟨tag, 5, 0, owner⟩ : CbusRes)] }
  else s.setMac m { c with queue := c.queue ++ [(⟨tag, b.take len, 0, 0, owner⟩ : CbusFrame)] }

/-- CBUS_GO: the slot being filled ends with its GO, queued or refused; without effect while 8 results are unpopped (R396).
DEDUCED, log 61: unsafe. -/
def effCbusGo (m len tag : Nat) (s : State) : State :=
  let c := s.mac m
  if 8 ≤ c.results.length then s else (s.setMac m { c with fill := none }).cbusQueue m len tag c.fill none

/-- CBUS_FLUSH: every queued frame ends with FLUSHED, after the attempt in progress. -/
def effCbusFlush (m : Nat) (s : State) : State := s.cbusFlush m

/-- The bytes on the wire: padded to 60 with zeros, FCS appended (R396). -/
def cbusWire (bytes : List Byte) : List Byte :=
  let p := bytes ++ List.replicate (60 - bytes.length) 0
  p ++ leBytes 4 (crc32 p)

/-- CBUS_ATTEMPT_START: after deferral and the interframe gap an attempt starts (R389); `deferred` tells whether carrier
held it back before its first attempt. -/
def effCbusAttemptStart (m : Nat) (deferred : Bool) (s : State) : State :=
  let c := s.mac m
  match c.queue with
  | [] => s
  | f :: fs =>
    if !s.macOn m || c.phase ≠ .defer || s.bit (F.CBUS_STAT_CRS m) || c.txLost then s
    else
      let s := if f.attempts = 0 && deferred then s.cbusCount m 22 else s
      (s.setMac m { c with phase := .attempt, queue := { f with attempts := f.attempts + 1 } :: fs }).putBit (F.CBUS_STAT_COL m) false

/-- The back-off of the n-th collision in slot times: r in 0 to 2^min(n, 10) − 1, as the MAC's generator draws it (R391); the
generator's law is not given. DESIGN CHOICE, log 96: safe. -/
def CbusMac.backoffSlots (c : CbusMac) (n : Nat) : Nat := Config.backoffDraw c.gen % 2 ^ min n 10

/-- CBUS_COLLISION: jam, then back-off, or the end of the frame (R389, R390). `late`: after the first 512 bits;
`noCrs`: CRS never rose in the attempt. COL, and CRS where it rose, show high. DEDUCED, log 61: unsafe. -/
def effCbusCollision (m : Nat) (late noCrs : Bool) (s : State) : State :=
  let c := s.mac m
  match c.queue with
  | [] => s
  | f :: fs =>
    if c.phase ≠ .attempt || s.macLoop m then s
    else
      let s := (s.cbusCount m 19).cbusCount m 31
      let s := if late then s.cbusCount m 20 else s
      let s := if noCrs then s.cbusCount m 26 else s
      let s := ((s.emit (.jam m)).putBit (F.CBUS_STAT_COL m) true).putBit (F.CBUS_STAT_CRS m) (!noCrs)
      let s := s.setMac m { c with
        phase := .backoff (c.backoffSlots (f.collisions + 1)), gen := Config.backoffNext c.gen
        queue := { f with collisions := f.collisions + 1 } :: fs }
      if 16 ≤ f.attempts then (s.cbusDiscard m 1).flushRest m
      else if c.flush.isSome then (s.cbusDiscard m 4).flushRest m
      else s

/-- CBUS_BACKOFF_END: the back-off ends, and the MAC defers again (R389). -/
def effCbusBackoffEnd (m : Nat) (s : State) : State :=
  let c := s.mac m
  match c.phase with
  | .backoff _ => (s.setMac m { c with phase := .defer }).putBit (F.CBUS_STAT_COL m) false
  | _ => s

/-- CBUS_TX_END: the frame in its attempt is sent, and its result entry written (R396). -/
def effCbusTxEnd (m : Nat) (noCrs : Bool) (s : State) : State :=
  let c := s.mac m
  match c.queue with
  | [] => s
  | f :: _ =>
    if c.phase ≠ .attempt then s
    else
      let loop := s.macLoop m
      let wire := cbusWire f.bytes
      let dst := beNat (f.bytes.take 6)
      let s := (s.cbusCount m 14).cbusCount m 15 wire.length
      let s := if dst = broadcastMac then s.cbusCount m 16 else if multicastMac dst then s.cbusCount m 29 else s
      let s := if f.collisions = 1 then s.cbusCount m 17 else if 1 < f.collisions then s.cbusCount m 18 else s
      let s := if noCrs then s.cbusCount m 26 else s
      let s := if f.owner.isNone then s.partnerAsked m dst else s
      let s := (s.cbusEnd m 0).flushRest m
      if loop then
        if h : m < 4 then
          if s.macOn m && !(s.mac m).rxLost then s.cbusReceive ⟨⟨m, h⟩, wire, false, false, true, s.node.time / 65536⟩ else s
        else s
      else s.emit (.cbus m wire)

/-- CBUS_DEFER_TIMEOUT: DEFER_MAX has passed at the head of the queue, under a carrier held without a break, or both (R390). -/
def effCbusDeferTimeout (m : Nat) (d : Deferral) (s : State) : State :=
  if !s.macOn m then s
  else
    let s := if d = .carrier then s else (s.cbusDiscard m 2).flushRest m
    if d = .head then s
    else
      let s := s.setMac m { s.mac m with stuck := true }
      ((s.putBit (F.CBUS_STAT_CRS m) true).putBit (F.CBUS_STAT_CRS_STUCK m) true).latch 48

/-- CARRIER_FALL: CRS falls, COL with it; the cause of CRS_STUCK ends (R390). -/
def effCarrierFall (m : Nat) (s : State) : State :=
  ((s.setMac m { s.mac m with stuck := false }).putBit (F.CBUS_STAT_CRS m) false).putBit (F.CBUS_STAT_COL m) false

/-- CBUS_CLK_LOST: TX_CLK or RX_CLK shows no edge (R397). -/
def effCbusClkLost (m : Nat) (tx : Bool) (s : State) : State :=
  if !s.macOn m || (if tx then (s.mac m).txLost else (s.mac m).rxLost) then s
  else
    let s :=
      if tx then
        let s := s.cbusDrop m 3 (s.mac m).queue.length
        s.setMac m { s.mac m with txLost := true }
      else (s.setMac m { s.mac m with rxLost := true }).cbusCount m 13
    (s.putBit (F.CBUS_STAT_CLK_LOST m) true).latch 48

/-- CBUS_CLK_RETURN: the clock has run for 1 ms (R397). -/
def effCbusClkReturn (m : Nat) (tx : Bool) (s : State) : State :=
  s.setMac m (if tx then { s.mac m with txLost := false } else { s.mac m with rxLost := false })

/-- RES_POP: the oldest result entry is removed; the session that submitted its frame has its reply (R400). -/
def effResPop (m : Nat) (s : State) : State :=
  let c := s.mac m
  match c.results with
  | [] => s
  | r :: rs => (s.setMac m { c with results := rs }).finish r.owner 0x60 0 (beBytes 4 r.image)

/-- CBUS_SEND of a session: the Keeper fills a slot of its own for the frame, when there is one, and gives GO, which has no effect while
8 results are unpopped (R396, R400). Answers whether GO took effect. -/
def State.cbusSubmit (s : State) (m tag : Nat) (bytes : List Byte) (owner : Option (Nat × Nat)) : Option State :=
  let c := s.mac m
  if 8 ≤ c.results.length then none
  else some (s.cbusQueue m bytes.length tag (if s.macOn m && c.txLevel < 4 then some (bytes.take 2048) else none) owner)

/-! ## Meanings of the commands -/

/-- CBUS_ENABLE (R386). -/
def execCbusEnable (m : Fin 4) (plca : Option Bool) (s : State) : Result :=
  runs s (effCbusEnable m.val plca)

/-- CBUS_DISABLE (R384). -/
def execCbusDisable (m : Fin 4) (s : State) : Result :=
  runs s (effCbusDisable m.val)

/-- CBUS_FRAME_RX (R392). -/
def execCbusFrameRx (f : CbusRx) (s : State) : Result :=
  runs s (effCbusFrameRx f)

/-- CBUS_FALSE_CARRIER (R394). -/
def execCbusFalseCarrier (f : FalseCarrier) (s : State) : Result :=
  runs s (effCbusFalseCarrier f)

/-- CBUS_JABBER (R394). -/
def execCbusJabber (f : CbusRx) (s : State) : Result :=
  runs s (effCbusJabber f)

/-- CBUS_TX_DATA (R396). -/
def execCbusTxData (m : Fin 4) (w : Word32) (s : State) : Result :=
  runs s (effCbusTxData m.val w)

/-- CBUS_GO (R396). -/
def execCbusGo (m : Fin 4) (len : BitVec 12) (tag : BitVec 8) (s : State) : Result :=
  runs s (effCbusGo m.val len.toNat tag.toNat)

/-- CBUS_FLUSH (R396). -/
def execCbusFlush (m : Fin 4) (s : State) : Result :=
  runs s (effCbusFlush m.val)

/-- CBUS_ATTEMPT_START (R389). -/
def execCbusAttemptStart (m : Fin 4) (deferred : Bool) (s : State) : Result :=
  runs s (effCbusAttemptStart m.val deferred)

/-- CBUS_COLLISION (R389). -/
def execCbusCollision (m : Fin 4) (late : Bool) (noCrs : Bool) (s : State) : Result :=
  runs s (effCbusCollision m.val late noCrs)

/-- CBUS_BACKOFF_END (R389). -/
def execCbusBackoffEnd (m : Fin 4) (s : State) : Result :=
  runs s (effCbusBackoffEnd m.val)

/-- CBUS_TX_END (R396). -/
def execCbusTxEnd (m : Fin 4) (noCrs : Bool) (s : State) : Result :=
  runs s (effCbusTxEnd m.val noCrs)

/-- CBUS_DEFER_TIMEOUT (R390). -/
def execCbusDeferTimeout (m : Fin 4) (d : Deferral) (s : State) : Result :=
  runs s (effCbusDeferTimeout m.val d)

/-- CBUS_CLK_LOST (R397). -/
def execCbusClkLost (m : Fin 4) (tx : Bool) (s : State) : Result :=
  runs s (effCbusClkLost m.val tx)

/-- CBUS_CLK_RETURN (R397). -/
def execCbusClkReturn (m : Fin 4) (tx : Bool) (s : State) : Result :=
  runs s (effCbusClkReturn m.val tx)

/-- RES_POP (R396). -/
def execResPop (m : Fin 4) (s : State) : Result :=
  runs s (effResPop m.val)

/-- RX_POP (R393). -/
def execRxPop (m : Fin 4) (s : State) : Result :=
  runs s (effRxPop m.val)

/-- CBUS_RX_DATA (R400). -/
def execCbusRxData (m : Fin 4) (s : State) : Result :=
  runs s (effCbusRxData m.val)

/-- MDIO_WRITE (R387). -/
def execMdioWrite (m : Fin 4) (phy : Fin 32) (reg : Fin 32) (data : BitVec 16) (s : State) : Result :=
  runs s (effMdioWrite m.val phy.val reg.val data.toNat)

/-- MDIO_READ (R387). -/
def execMdioRead (m : Fin 4) (phy : Fin 32) (reg : Fin 32) (s : State) : Result :=
  runs s (effMdioRead m.val phy.val reg.val)

/-- MDIO_DONE (R387). -/
def execMdioDone (m : Fin 4) (ack : Bool) (data : BitVec 16) (s : State) : Result :=
  runs s (effMdioDone m.val ack data.toNat)

/-- POLL_TIMEOUT (R398). -/
def execPollTimeout (key : Nat) (s : State) : Result :=
  runs s (effPollTimeout key)

/-- CARRIER_FALL (R390). -/
def execCarrierFall (m : Fin 4) (s : State) : Result :=
  runs s (effCarrierFall m.val)

end Sys2Proof.Machine
end

