-- ==== Sys2Proof/Machine/Pair.lean ====
section
/-! DEFINITION. Pairs: Flash, claims, digests, loss of the partner, hand-overs (R303 to R318, R331 to R334). -/

namespace Sys2Proof.Machine

/-! ## Flash (Table 11.3) -/

/-- A bit of a Flash's FLAGS. -/
def FlashInfo.flag (f : FlashInfo) (i : Nat) : Bool := f.flags.testBit i

/-- FLAGS bits by name. -/
def flLocked : Nat := 0
def flMatched : Nat := 1
def flPreferred : Nat := 2
def flWarmReq : Nat := 3
def flWarmSrc : Nat := 4
def flHandOver : Nat := 5
def flHot : Nat := 6
def flDigValid : Nat := 7
def flEcho : Nat := 8

/-- Bits in order, lowest first. -/
def bitsNat (bs : List Bool) : Nat := bs.foldr (fun b n => 2 * n + (if b then 1 else 0)) 0

/-- This node's FLAGS. -/
def State.flashFlags (s : State) (digValid : Bool) : Nat :=
  bitsNat [s.node.lockedOnce, s.matched, s.bit F.PAIR_CFG_PREFERRED, s.pair.wc.isSome, s.pair.src.isSome,
    (match s.pair.ho with
      | some h => h.mine
      | none => false),
    s.sends, digValid, s.pair.echo.isSome]

/-- HO_BLK of this node's Flash. -/
def State.flashHo (s : State) : Nat :=
  match s.pair.ho with
  | some h => h.blk
  | none => 0

/-- The Flash of a block, as the pair unit keeps it. -/
def State.ownFlash (s : State) (blk gvalid : Nat) (digests : List Nat) (digValid : Bool) : FlashInfo :=
  { mode := s.node.mode.code, claim := s.claim, blk := blk, epoch := s.rg PAIR_EPOCH, dtag := s.dtag,
    flags := s.flashFlags digValid, gvalid := gvalid, hoBlk := s.flashHo, digests := digests }

/-- A Flash's bytes. -/
def State.flashBytes (s : State) (f : FlashInfo) : List Byte :=
  let body := beBytes 4 0x4B464C48 ++ [1, BitVec.ofNat 8 f.mode] ++ beBytes 2 f.claim ++ beBytes 8 f.blk ++ beBytes 4 f.epoch
    ++ beBytes 4 f.dtag ++ beBytes 2 f.flags ++ beBytes 2 (s.get F.GLB_FW_VER_PATCH_VER) ++ beBytes 4 f.gvalid
    ++ beBytes 8 f.hoBlk ++ (List.range 32).flatMap (fun g => beBytes 4 (f.digests.getD g 0))
  body ++ s.authField body

/-- Send a Flash in every domain with a partner address where the engine holds an address and a link, with DSCP 48 (R308). -/
def State.sendFlash (s : State) (f : FlashInfo) : State :=
  let bytes := s.flashBytes f
  (List.range 2).foldl (fun s d =>
    let port := s.get F.PAIR_FLASH_PORT_UDP_PORT
    if s.pairDomain d then (s.emit (.flash d (s.rg (PAIR_PARTNER_ADDR d)) port bytes)).toPartner d port 48 bytes
    else s) s

/-- FLASH_DORMANT_SEND (R308): one Flash every 10 s in DORMANT, DIG_VALID 0. -/
def effFlashDormantSend (s : State) : State :=
  if s.node.mode = .dormant && s.paired && s.get F.PWR_STAT_STATE < 4 then
    ({ s with pwr := { s.pwr with flashAt := s.node.uptime } }).sendFlash (s.ownFlash s.blk 0 [] false)
  else s

/-- Read a Flash. -/
def parseFlash (b : List Byte) : Option FlashInfo :=
  if b.length = 0xB0 && beAt b 0 4 = 0x4B464C48 && beAt b 4 1 = 1 then
    some { mode := beAt b 5 1 % 16, claim := beAt b 6 2, blk := beAt b 8 8, epoch := beAt b 16 4, dtag := beAt b 20 4,
           flags := beAt b 24 2, gvalid := beAt b 28 4, hoBlk := beAt b 32 8,
           digests := (List.range 32).map (fun g => beAt b (40 + 4 * g) 4) }
  else none

/-! ## Output digests (R314 to R316) -/

/-- d(c, B) of one channel: CRC-32C of its eight values (R314). -/
def channelDigest (vals : List Int) : Nat :=
  crc32c (vals.flatMap (fun v => leBytes 4 (unsigned 32 v)))

/-- The channels of group g in the mask. -/
def State.digestChans (s : State) (g : Nat) : List Nat :=
  if s.node.fs96 && 16 ≤ g then []
  else (List.range 32).filterMap (fun i => if (s.rg (PAIR_DIG_MASK g)).testBit i then some (32 * g + i) else none)

/-- G[g] for the running block; 0 for a group without a channel. -/
def State.groupDigest (s : State) (g : Nat) : Nat :=
  let cs := s.digestChans g
  if cs.isEmpty then 0
  else crc32c (cs.flatMap (fun c => leBytes 4 (channelDigest (tgetD s.pair.block c []).reverse)))

/-- GVALID. -/
def State.gvalid (s : State) : Nat := bitsNat ((List.range 32).map (fun g => !(s.digestChans g).isEmpty))

/-- A warm copy starts again counting matches (R316). -/
def State.clearMatch (s : State) : State := (s.put F.PAIR_DIG_STAT_MATCH_RUN 0).put F.PAIR_DIG_STAT_MISMATCH_ACC 0

/-- Compare one block (R315, R316). -/
def State.compareBlock (s : State) (own theirs : FlashInfo) : State :=
  let ok := own.flag flDigValid && theirs.flag flDigValid && own.flag flLocked && theirs.flag flLocked
    && own.dtag = theirs.dtag && own.gvalid = theirs.gvalid && s.get F.PAIR_STAT_WC_PHASE != 1 && s.pair.src.isNone
    && decide (s.pair.countFrom ≤ own.blk)
  if !ok then s.bump F.PAIR_DIG_CNT_UNCOMPARED
  else
    let diff := (List.range 32).filter (fun g => own.gvalid.testBit g && own.digests.getD g 0 != theirs.digests.getD g 0)
    if diff.isEmpty then
      let s := s.bump F.PAIR_DIG_STAT_MATCH_RUN
      if s.get F.PAIR_DIG_STAT_MATCH_RUN = 4096 then s.put F.PAIR_DIG_STAT_MISMATCH_ACC 0 else s
    else
      let s := (s.put F.PAIR_DIG_STAT_MATCH_RUN 0).bump F.PAIR_DIG_CNT_MISMATCH
      let s := s.setRg PAIR_DIG_GRP (bitsNat ((List.range 32).map (fun g => diff.contains g)))
      let s := (s.setRg PAIR_DIG_BLK own.blk).bump F.PAIR_DIG_STAT_MISMATCH_ACC
      let s := s.latch 36
      if s.node.mode = .shadow && s.get F.PAIR_TIMING_RESYNC_BLK ≤ s.get F.PAIR_DIG_STAT_MISMATCH_ACC
          && s.get F.PAIR_STAT_WC_PHASE != 1 then
        { s with pair := { s.pair with wcAsked := true } }
      else s

/-- Compare what both sides now hold. Own digests are kept for 64 blocks; a block that leaves them without a comparison counts
as uncompared (R315). DEDUCED, log 76: unsafe. -/
def State.compareAll (s : State) : State :=
  let both := s.pair.theirs.filter (fun t => s.pair.own.any (fun o => o.blk == t.blk))
  let s := both.foldl (fun s t =>
    match s.pair.own.find? (fun o => o.blk == t.blk) with
    | some o => s.compareBlock o t
    | none => s) s
  let rest := s.pair.own.filter (fun o => !(both.any (fun t => t.blk == o.blk)))
  let kept := (rest.filter (fun o => decide (o.blk ≤ s.blk) && decide (s.blk ≤ o.blk + 64))).take 65
  let s := s.bump F.PAIR_DIG_CNT_UNCOMPARED (rest.length - kept.length)
  { s with pair := { s.pair with
    own := kept
    theirs := (s.pair.theirs.filter (fun t => decide (s.blk ≤ t.blk + 64) && !(both.any (fun b => b.blk == t.blk)))).take 64 } }

/-! ## Hand-over, loss and yielding -/

/-- Announce a hand-over or SWAP for the block BLK + 4 (R331, R333). -/
def State.announce (s : State) (swap : Bool) : State :=
  let b := s.blk + 4
  let s := { s with pair := { s.pair with ho := some ⟨swap, b, true, false, false⟩ } }
  (s.putBit F.PAIR_STAT_HANDOVER true).put F.PAIR_HO_HO_BLK b

/-- No hand-over is announced any more. -/
def State.endHandover (s : State) : State :=
  let s := { s with pair := { s.pair with ho := none, echo := none } }
  (s.putBit F.PAIR_STAT_HANDOVER false).put F.PAIR_HO_HO_BLK 0

/-- The conditions for a revert but the client's (Table 11.8). -/
def State.revertDue (s : State) : Bool :=
  s.bit F.PAIR_CFG_PREFERRED && !s.bit F.PAIR_STAT_CFG_ERR && s.node.mode = .shadow && s.get F.PAIR_STAT_PARTNER_MODE = 3
    && s.matched && s.health = 3 && s.pair.ho.isNone && !s.otherTransition

/-- Announce the revert, or propose it to a present client (R331, R81). -/
def State.tryRevert (s : State) : State :=
  if !s.revertDue then s
  else if s.policyActs then s.announce false
  else s.propose .pairRevert

/-- A promoted SHADOW: what entering LEAD takes with it. An exchange of roles that was announced ends with it. -/
def State.promote (s : State) : State :=
  if s.node.mode = .shadow && !s.otherTransition then s.endHandover.setMode .lead else s

/-- A Flash shows claim class 0. -/
def FlashInfo.classless (f : FlashInfo) : Bool := f.claim / 2 ^ 14 = 0

/-- The partner is lost, or was last seen at class 0 (Table 2.2). -/
def State.promoteDue (s : State) : Bool :=
  s.paired && (s.pair.lostNow || (match s.pair.last with
    | some f => f.classless
    | none => false))

/-- Flashes have stayed away for FLASH_LOSS block periods, or for 30 s after one that showed DORMANT (R310). -/
def State.lossDue (s : State) : Bool :=
  match s.pair.last with
  | none => false
  | some f => decide ((if f.mode = Mode.dormant.code then 30 * s.fs else 8 * s.get F.PAIR_TIMING_FLASH_LOSS) ≤ s.pair.quiet)

/-- A LEAD that loses its partner or sees it at class 0 does not leave LEAD at an announced block (R332). -/
def State.voidHandover (s : State) : State :=
  match s.pair.ho with
  | some h => if s.node.mode = .lead then { s with pair := { s.pair with ho := some { h with void := true } } } else s
  | none => s

/-- PARTNER_LOST (R310). A warm copy on either side is aborted (Table 11.7); a SHADOW enters LEAD at the next tick. -/
def effPartnerLost (s : State) : State :=
  if !s.paired || s.pair.lostNow || !s.lossDue then s
  else
    let s := s.voidHandover.dropCopy
    let s := ({ s with pair := { s.pair with lostNow := true } }).forgetBlk
    let s := ((s.putBit F.PAIR_STAT_LOST true).bump F.PAIR_CNT_LOSSES).putBit F.PAIR_STAT_SEEN false
    let s := s.latch 35
    s.notify 9 (beBytes 4 s.pairImage)

/-- HANDOVER_EFFECTIVE (R331 to R333): at tick 8 × HO_BLK the announced roles take effect. -/
def effHandoverEffective (s : State) : State :=
  match s.pair.ho with
  | none => s
  | some h =>
    if s.node.n.toNat + 1 < 8 * h.blk then s
    else if h.mine && h.swap && !h.echoed then s
    else
      let mode := s.node.mode
      let s := s.endHandover
      let s := if mode = .shadow then s.setMode .lead
        else if mode = .lead then
          -- R332: not after the partner is lost or has been seen at class 0
          (if s.promoteDue || h.void then s else s.setMode .shadow)
        else s
      if h.mine && h.swap && s.get F.GLB_MODE_REQ_STATUS = 1 then s.put F.GLB_MODE_REQ_STATUS 2 else s

/-- SWAP_ABANDON (R333): no echo has come by block HO_BLK − 1. -/
def effSwapAbandon (s : State) : State :=
  match s.pair.ho with
  | none => s
  | some h =>
    if h.mine && h.swap && !h.echoed && decide (h.blk ≤ s.blk + 1) then
      let s := s.endHandover
      if s.get F.GLB_MODE_REQ_STATUS = 1 then s.put F.GLB_MODE_REQ_STATUS 3 else s
    else s

/-! ## A received Flash -/

/-- R304 is broken, as a Flash shows it. -/
def State.cfgBroken (s : State) (f : FlashInfo) : Bool :=
  let own := s.get F.PAIR_CFG_PRIORITY
  let theirs := f.claim / 64 % 256
  let pref := s.bit F.PAIR_CFG_PREFERRED
  own = theirs || (pref && f.flag flPreferred) || (pref && decide (own < theirs)) || (f.flag flPreferred && decide (theirs < own))

/-- The partner's claim outranks this node's (R307, R304). -/
def State.outranked (s : State) (f : FlashInfo) (mac : Nat) : Bool :=
  decide (s.claim < f.claim) || (s.claim = f.claim && s.bit F.PAIR_STAT_CFG_ERR && decide (mac < s.fuses.mac))

/-- The fields an accepted Flash updates. DEDUCED, log 76: unsafe. -/
def State.adoptFlash (s : State) (f : FlashInfo) : State :=
  let s := { s with
    pair := { s.pair with last := some f, lastBlk := some f.blk, lostNow := false, quiet := 0, theirs := f :: s.pair.theirs }
    node := { s.node with heard := true } }
  let s := ((s.bump F.PAIR_CNT_FLASH_RX).putBit F.PAIR_STAT_SEEN true).put F.PAIR_STAT_PARTNER_MODE f.mode
  let s := (s.put F.PAIR_CLAIM_PARTNER f.claim).setRg PAIR_PARTNER_DTAG f.dtag
  let s := s.putBit F.PAIR_STAT_CFG_ERR (s.cfgBroken f)
  let s := if s.bit F.PAIR_STAT_CFG_ERR then s.latch 38 else s
  if s.tagsDiffer then s.latch 34 else s

/-- The announcements and echoes an accepted Flash carries (R331, R333). DEDUCED, log 76: unsafe. -/
def State.flashHandover (s : State) (f : FlashInfo) : State :=
  let s := match s.pair.ho with
    | some h =>
      if h.mine && f.flag flEcho && f.hoBlk = h.blk then { s with pair := { s.pair with ho := some { h with echoed := true } } }
      else s
    | none =>
      if f.flag flHandOver && decide (s.blk < f.hoBlk) && (s.node.mode = .lead || s.node.mode = .shadow) then
        let s := { s with pair := { s.pair with ho := some ⟨true, f.hoBlk, false, true, false⟩, echo := some f.hoBlk } }
        (s.putBit F.PAIR_STAT_HANDOVER true).put F.PAIR_HO_HO_BLK f.hoBlk
      else s
  s

/-- Both sides stand as R324 asks for a warm copy. -/
def State.copyPossible (s : State) (f : FlashInfo) : Bool :=
  s.node.mode = .shadow && f.mode = 3 && s.node.lockedOnce && f.flag flLocked && f.dtag = s.dtag
    && decide (f.blk ≤ s.blk + 1) && decide (s.blk ≤ f.blk + 1)

/-- This node's tag in the block of a Flash: that of its own Flash for the block while it is held, else the present one. -/
def State.tagAt (s : State) (blk : Nat) : Nat :=
  match s.pair.own.find? (fun o => o.blk == blk) with
  | some o => o.dtag
  | none => s.dtag

/-- A's part in a copy ends; digests count from the next block (R329). -/
def State.endSrc (s : State) : State := { s with pair := { s.pair with src := none, countFrom := s.blk + 1 } }

/-- What Flash says of a warm copy under way (R330): R's aborts when the partner leaves LEAD or the Daymark tags of one block
differ, A's when the partner leaves SHADOW or asks no more. DEDUCED, log 75: unsafe. -/
def State.flashCopy (s : State) (f : FlashInfo) : State :=
  if s.pair.wc.isSome && (f.mode != 3 || f.dtag != s.tagAt f.blk) then s.restartCopy
  else if s.pair.src.isSome && (f.mode != 4 || !f.flag flWarmReq) then s.endSrc
  else s

/-- FLASH_RECEIVED (R309): a Flash from `addr` with source MAC `mac` in domain `d`. The start of warm copies follows in
the meaning that calls this. DEDUCED, log 76: unsafe. -/
def State.flashIn (s : State) (d addr mac : Nat) (bytes : List Byte) : State × Option FlashInfo :=
  if !s.paired then (s, none)
  else
    let auth := !s.pairAuth || bytes.drop 0xA8 == (hmac s.pairKey (bytes.take 0xA8)).take 8
    match parseFlash bytes with
    | none => (s.bump F.PAIR_CNT_FLASH_BAD, none)
    | some f =>
      if addr = 0 || s.rg (PAIR_PARTNER_ADDR d) != addr || !auth then (s.bump F.PAIR_CNT_FLASH_BAD, none)
      else if s.pair.lastBlk = some f.blk then (s, none)
      else if (match s.pair.lastBlk with
          | some b => decide (f.blk < b)
          | none => false) then (s.bump F.PAIR_CNT_FLASH_BAD, none)
      else
        let before := s.pairImage
        let s := s.adoptFlash f
        let s := (s.flashHandover f).flashCopy f
        let s := if f.classless then s.voidHandover else s
        let s := if s.node.mode = .lead && f.mode = 3 && s.outranked f mac
          then { s with pair := { s.pair with yield := true } } else s
        let s := s.compareAll.tryRevert
        let s := if s.pairImage != before then s.notify 9 (beBytes 4 s.pairImage) else s
        (s, some f)

/-! ## The pair unit at a tick -/

/-- Collect the values of digested transmit channels after step 5 (R314). -/
def State.collectDigest (s : State) (vals : Tbl Int) : State :=
  if !s.paired then s
  else
    { s with pair := { s.pair with block :=
        ((List.range 32).flatMap s.digestChans).foldl (fun b c =>
          cins b c ((tgetD vals c 0 :: (if s.node.n.toNat % 8 = 0 then [] else tgetD b c [])).take 8)) s.pair.block } }

/-- One more sample tick without a Flash (R310). -/
def State.quietTick (s : State) : State := { s with pair := { s.pair with quiet := s.pair.quiet + 1 } }

/-- Flash is sent once per block: from step 12 of Table 2.4 on, in every mode but DORMANT (R308). -/
def State.flashes (s : State) : Bool :=
  s.paired && (s.node.mode.live || (s.node.mode != .dormant && (match s.node.phase with
    | .listen _ _ => true
    | _ => false)))

/-- The Flash of the block that ends with this tick (R308). -/
def State.flashTick (s : State) : State :=
  if !s.flashes || s.node.n.toNat % 8 != 7 then s
  else
    let f := s.ownFlash s.blk s.gvalid ((List.range 32).map s.groupDigest) (s.audio.running)
    let s := { s with pair := { s.pair with own := f :: s.pair.own, block := [] } }
    (s.sendFlash f).compareAll

/-- At a block boundary a LEAD that has seen the higher claim enters SHADOW (R307). -/
def State.yieldTick (s : State) : State :=
  if s.pair.yield && s.node.n.toNat % 8 = 0 && !s.otherTransition then
    let s := { s with pair := { s.pair with yield := false } }
    if s.node.mode = .lead then s.endHandover.setMode .shadow else s
  else s

/-! ## Meanings of the commands -/

/-- PARTNER_LOST (R310). -/
def execPartnerLost (s : State) : Result :=
  runs s effPartnerLost

/-- FLASH_DORMANT_SEND (R308). -/
def execFlashDormantSend (s : State) : Result :=
  runs s effFlashDormantSend

end Sys2Proof.Machine
end

