-- ==== Sys2Proof/Machine/Patch.lean ====
section
/-! DEFINITION. The patch engine: entries, changes under running audio, ramps, fades and waits (R179 to R199), generators
(R200), crosspoint products and mix sums (R184, R185). -/

namespace Sys2Proof.Machine

/-! ## Entries (Table 6.1) -/

def peSrc (e : Word64) : Nat := fieldOf e.toNat 0 12
def peDst (e : Word64) : Nat := fieldOf e.toNat 12 12
def peGain (e : Word64) : Int := signed 16 (fieldOf e.toNat 24 16)
def peRamp (e : Word64) : Nat := fieldOf e.toNat 40 4
def peLow (e : Word64) : Bool := e.getLsbD 44
def peEn (e : Word64) : Bool := e.getLsbD 45
def peInv (e : Word64) : Bool := e.getLsbD 46
def peMute (e : Word64) : Bool := e.getLsbD 47

/-- EN = 1, GAIN not off and MUTE = 0 (R187). -/
def sounding (e : Word64) : Bool := peEn e && peGain e != -32768 && !peMute e

/-- The entry with its RAMP field cleared, and with GAIN and RAMP cleared: to compare what differs (Table 6.2). -/
def peNoRamp (e : Word64) : Nat := withField e.toNat 40 4 0
def peNoGain (e : Word64) : Nat := withField (peNoRamp e) 24 16 0

/-- A table entry's image. -/
def State.entry (s : State) (i : Nat) : Word64 := BitVec.ofNat 64 (s.rg (PATCH_ENTRY i))

/-- The value an entry plays at rest: its table value; in the PROCESSING role one into a modulator destination is as if it were
disabled, so that a change of role is a route change there (R2, R4, R197). -/
def State.playImage (s : State) (i : Nat) : Word64 :=
  let e := s.entry i
  if s.node.role = .processing && isModDst (peDst e) then BitVec.ofNat 64 (withField e.toNat 45 1 0) else e

/-- The running state of an entry; at rest it plays its table value. -/
def State.pe (s : State) (i : Nat) : PEntry :=
  (tget s.audio.patch i).getD ⟨s.playImage i, none, none, none, none, false, none⟩

/-- Nothing runs at this entry and it plays its table value. -/
def State.peRest (s : State) (i : Nat) (p : PEntry) : Bool :=
  p.cur = s.playImage i && p.ramp.isNone && p.fade.isNone && p.shadow.isNone && p.waiting.isNone && !p.damaged && p.old.isNone

/-- Set the running state of an entry. -/
def State.setPe (s : State) (i : Nat) (p : PEntry) : State :=
  { s with audio := { s.audio with patch := tput s.audio.patch i (if s.peRest i p then none else some p) } }

/-- Shadow entries in use (R192). -/
def State.shadowsUsed (s : State) : Nat :=
  (s.audio.patch.filter (fun e => e.2.shadow.isSome)).length

/-- A change waits for a shadow entry. -/
def PEntry.deferred (p : PEntry) : Bool :=
  match p.waiting with
  | some (.shadow _ _, _) => true
  | _ => false

/-- The program wait that holds the entry (R196). -/
def PEntry.waitsFor (p : PEntry) : Option WaitId :=
  match p.waiting with
  | some (.program w, _) => some w
  | _ => none

/-- The wait of the changes that a waiting value was made with. -/
def WaitKind.wait : WaitKind → Option WaitId
  | .shadow _ w => w
  | .fade w => w
  | .program w => some w

/-- The value with which an entry takes part in wait `w`, held by it already or behind a running fade. -/
def PEntry.inWait (p : PEntry) (w : WaitId) : Option Word64 :=
  match p.waiting with
  | some (k, v) => if k.wait = some w then some v else none
  | none => none

/-- PATCH_STAT shows shadow entries, deferred changes and waits. -/
def State.showPatch (s : State) : State :=
  let s := s.put F.PATCH_STAT_SHADOW_USED s.shadowsUsed
  let s := s.putBit F.PATCH_STAT_DEFERRED (s.audio.patch.any (fun e => e.2.deferred))
  s.putBit F.PATCH_STAT_WAITING (s.audio.patch.any (fun e => e.2.waitsFor.isSome))

/-! ## Ramps and fades -/

/-- g(k) of a gain ramp (R188), in 1/256 dB. DEDUCED, log 81: unsafe. -/
def Ramp.gain (r : Ramp) : Int :=
  if r.len ≤ r.k then r.g1 else r.g0 + rhe ((r.g1 - r.g0) * r.k) r.len

/-- g at the last sample before now (R192). -/
def Ramp.lastGain (r : Ramp) : Int := ({ r with k := r.k - 1 } : Ramp).gain

/-- f(k) of a fade in Q2.30 (R189). -/
def Fade.factor (f : Fade) : Nat := if f.out then sinQ30 (f.len - f.k) f.len else sinQ30 f.k f.len

/-- One sample later. -/
def Ramp.tick (r : Ramp) : Ramp := { r with k := min r.len (r.k + 1) }
def Fade.tick (f : Fade) : Fade := { f with k := min f.len (f.k + 1) }

/-- The gain an entry last played at. DEDUCED, log 81: unsafe. -/
def PEntry.lastGain (p : PEntry) : Int :=
  match p.ramp with
  | some r => if r.k = 0 then r.g0 else r.lastGain
  | none => peGain p.cur

/-- A new fade of an entry counts in PATCH_EVT_CNT.FADES. -/
def State.countFades (s : State) (n : Nat) : State := s.bump F.PATCH_EVT_CNT_FADES n

/-- Start the handling of Table 6.2 for a change that may start now: the old value goes to a shadow entry where it fades,
the new one fades in where it sounds. -/
def State.startFades (s : State) (i : Nat) (p : PEntry) (new : Word64) : State :=
  let a := sounding p.cur
  let b := sounding new
  let kNew := s.rampLen (peRamp new)
  let kOut := if b then kNew else s.rampLen (peRamp p.cur)
  let sh : Option Shadow := if a then some ⟨p.cur, p.lastGain, some ⟨true, 0, kOut⟩, p.old⟩ else p.shadow
  let fd : Option Fade := if b then some ⟨false, 0, kNew⟩ else none
  ((s.countFades ((if a then 1 else 0) + (if b then 1 else 0))).setPe i
    { p with cur := new, ramp := none, fade := fd, shadow := sh, waiting := none, old := none })

/-- Two sounding values that differ in GAIN or RAMP alone (Table 6.2). -/
def gainOnly (a b : Word64) : Bool := sounding a && sounding b && peNoGain a = peNoGain b

/-- The present value takes the GAIN and RAMP of `new` by a ramp, which runs alongside any fade; where only RAMP differs nothing
ramps (Table 6.2, R188, R193). -/
def State.rampEntry (s : State) (p : PEntry) (new : Word64) : PEntry :=
  let cur := BitVec.ofNat 64 (withField (withField p.cur.toNat 24 16 (fieldOf new.toNat 24 16)) 40 4 (peRamp new))
  if peGain p.cur = peGain new then { p with cur := cur }
  else
    let g0 := match p.ramp with
      | some r => r.gain
      | none => peGain p.cur
    { p with cur := cur, ramp := some ⟨g0, peGain new, 0, s.rampLen (peRamp new)⟩ }

/-- A change that must wait on `k`: only the latest one waits, and a change of gain alone acts on the present value at once
(R193). -/
def State.parkChange (s : State) (i : Nat) (p : PEntry) (k : WaitKind) (new : Word64) : State :=
  let latest := match p.waiting with
    | some (_, w) => w
    | none => p.cur
  let p := if sounding p.cur && gainOnly latest new then s.rampEntry p new else p
  s.setPe i { p with waiting := some (k, new) }

/-- One entry changes to `new` at this tick, with no wait for programs (Table 6.2, R192, R193). DEDUCED, log 81: unsafe. -/
def State.changeEntry (s : State) (i : Nat) (new : Word64) : State :=
  let p := s.pe i
  let a := sounding p.cur
  let b := sounding new
  if gainOnly p.cur new && p.old.isNone then s.setPe i { s.rampEntry p new with waiting := none }
  else match p.waiting with
  | some (k, _) => s.parkChange i p k new
  | none =>
    if !a && !b then s.setPe i { p with cur := new }
    else if p.fade.isSome || p.shadow.isSome then s.parkChange i p (.fade none) new
    else if a && 2048 ≤ s.shadowsUsed then s.parkChange i p (.shadow s.node.n.toNat none) new
    else s.startFades i p new

/-! ## Readiness and program waits (R195, R196) -/

/-- Enabled BRK_IO entries: physical Brick, output direction, number, ring address in words. -/
def State.ioBindings (s : State) : List (Nat × Bool × Nat × Nat) :=
  s.regs.filterMap (fun e =>
    if 0x2000000 ≤ e.1 && e.1 < 0x2600000 && 0x400 ≤ e.1 % 0x10000 && e.1 % 0x10000 < 0x800 && e.2.getLsbD 31 then
      some ((e.1 - 0x2000000) / 0x10000, e.2.getLsbD 30, fieldOf e.2.toNat 16 11, fieldOf e.2.toNat 4 12 * 16)
    else none)

/-- The Brick dispatched every enabled entry at its present ENTRY long enough (R195); an entry whose new ENTRY is still being
written has not. -/
def State.brickReady (s : State) (b : Nat) : Bool :=
  s.bit (F.BRK_CTL_RUN b) && !s.outOfService b && s.st.trigWaits.all (fun w => s.physOf w.l != b) && (s.triggers b).all (fun t =>
    match tget (s.brick b).ready t.1 with
    | some (e, n) => e = fieldOf t.2 0 15 && decide ((if t.2.testBit 30 then 2 else 16) ≤ n)
    | none => false)

/-- Brick output number `k` is ready (R195). -/
def State.outputReady (s : State) (k : Nat) : Bool :=
  s.ioBindings.any (fun b => b.2.1 && b.2.2.1 = k && s.brickReady b.1)

/-- A source that keeps a route waiting: a Brick output that is not ready. -/
def State.srcWaits (s : State) (src : Nat) : Bool :=
  1280 ≤ src && src < 3328 && !s.outputReady (src - 1280)

/-- A value that keeps a wait going (R196). -/
def State.valueWaits (s : State) (v : Word64) : Bool := sounding v && s.srcWaits (peSrc v)

/-- The destination a change fades into, when its handling is a fade (R196). -/
def State.fadeDst (s : State) (i : Nat) (new : Word64) : Option Nat :=
  let p := s.pe i
  let a := sounding p.cur || p.waitsFor.isSome
  let b := sounding new
  if !a && !b then none
  else if a && b && p.waitsFor.isNone && p.old.isNone && peNoGain p.cur = peNoGain new then none
  else some (if b then peDst new else match p.waitsFor with
    | some w => w.1
    | none => peDst p.cur)

/-- Hold a change back until the programs of wait `w` are ready: the old value plays at full level from a shadow entry,
the new one contributes nothing (R196). A later change of a waiting entry replaces its value, and its wait goes on. -/
def State.holdForProgram (s : State) (i : Nat) (w : WaitId) (new : Word64) : State :=
  let p := s.pe i
  match p.waitsFor with
  | some u => s.setPe i { p with waiting := some (.program u, new) }
  | none =>
    if p.fade.isSome || p.shadow.isSome then s.parkChange i p (.fade (some w)) new
    else if sounding p.cur && 2048 ≤ s.shadowsUsed then s.parkChange i p (.shadow s.node.n.toNat (some w)) new
    else
      let sh : Option Shadow := if sounding p.cur then some ⟨p.cur, p.lastGain, none, p.old⟩ else none
      s.setPe i { p with cur := 0, ramp := none, fade := none, shadow := sh, waiting := some (.program w, new), old := none }

/-- An index among others in ascending order, once. -/
def addIndex (i : Nat) : List Nat → List Nat
  | [] => [i]
  | x :: xs => if i < x then i :: x :: xs else if i = x then x :: xs else x :: addIndex i xs

/-- The table is written, every changed entry going on as it plays until the next tick (R34). -/
def State.noteEntries (s : State) (changes : List (Nat × Word64)) : State :=
  changes.foldl (fun s c =>
    let p := s.pe c.1
    let s := (s.setRg (PATCH_ENTRY c.1) c.2.toNat).setPe c.1 p
    { s with audio := { s.audio with touchedEntries := addIndex c.1 s.audio.touchedEntries } }) s

/-- The wait that the changes into destination `d` made at this tick form: that of an entry among them which waits already, so that
they start with it, else their own (R196). DEDUCED, log 81: unsafe. -/
def State.waitOf (s : State) (mine : List (Nat × Word64)) (d : Nat) : WaitId :=
  (mine.findSome? (fun c => (s.pe c.1).waitsFor)).getD (d, s.node.n.toNat)

/-- The waits that the changes of one tick form, by destination: those into a destination one of which names a Brick output that is
not ready, or is of an entry that waits already (R196). -/
def State.waitsFormed (s : State) (changes : List (Nat × Word64)) : Tbl WaitId :=
  (changes.filterMap (fun c => s.fadeDst c.1 c.2)).eraseDups.filterMap (fun d =>
    let mine := changes.filter (fun c => s.fadeDst c.1 c.2 = some d)
    if mine.any (fun c => s.valueWaits c.2 || (s.pe c.1).waitsFor.isSome) then some (d, s.waitOf mine d) else none)

/-- The changes of one tick: those that fade into one destination start together, and wait together while a Brick output they
name is not ready (R187, R196). Groups and debug writes of one Ts count as one. DEDUCED, log 81: unsafe. -/
def State.changeEntries (s : State) (changes : List (Nat × Word64)) : State :=
  let dsts := changes.map (fun c => (c, s.fadeDst c.1 c.2))
  let waits := s.waitsFormed changes
  let fresh := waits.filter (fun w => !(s.audio.patch.any (fun e => (e.2.inWait w.2).isSome)))
  let s := s.bump F.PATCH_EVT_CNT_WAITS fresh.length
  let s := dsts.foldl (fun s e =>
    match e.2.bind (tget waits) with
    | some w => s.holdForProgram e.1.1 w e.1.2
    | none => s.changeEntry e.1.1 e.1.2) s
  s.showPatch

/-- Wait `w` goes on: an entry is held by it, or a value of it names a Brick output that is not ready. -/
def State.waitGoes (s : State) (w : WaitId) : Bool :=
  s.audio.patch.any (fun e => e.2.waitsFor = some w || (match e.2.inWait w with
    | some v => s.valueWaits v
    | none => false))

/-- A change that was made with those of wait `w` may go on at entry `i`: into that wait while it goes on, so that it starts with
them, else by itself (R193, R196). -/
def State.resumeChange (s : State) (i : Nat) (k : WaitKind) (new : Word64) : State :=
  match k.wait with
  | some w =>
    if s.waitGoes w then (s.setPe i { s.pe i with waiting := none }).holdForProgram i w new
    else (s.setPe i { s.pe i with waiting := none }).changeEntries [(i, new)]
  | none => (s.setPe i { s.pe i with waiting := none }).changeEntries [(i, new)]

/-- The entries written since the last tick take effect (R34). -/
def State.settleEntries (s : State) : State :=
  let is := s.audio.touchedEntries
  if is.isEmpty then s
  else
    let s := { s with audio := { s.audio with touchedEntries := [] } }
    let changes := is.filterMap (fun i =>
      let p := s.pe i
      let v := s.playImage i
      let latest := match p.waiting with
        | some (_, w) => w
        | none => p.cur
      if latest = v then none else some (i, v))
    s.changeEntries changes

/-- The entries that wait `w` holds. -/
def State.waiters (s : State) (w : WaitId) : List (Nat × PEntry) := s.audio.patch.filter (fun e => e.2.waitsFor = some w)

/-- The program waits into destination `d`. -/
def State.waitsInto (s : State) (d : Nat) : List WaitId :=
  ((s.audio.patch.filterMap (fun e => e.2.waitsFor)).filter (fun w => w.1 = d)).eraseDups

/-- Every Brick output that the values of wait `w` name is ready (R196). -/
def State.waitReady (s : State) (w : WaitId) : Bool :=
  s.audio.patch.all (fun e => match e.2.inWait w with
    | some v => !s.valueWaits v
    | none => true)

/-- Release one waiting entry: both fades start (R196). -/
def State.releaseWait (s : State) (i : Nat) (p : PEntry) : State :=
  match p.waiting with
  | some (_, new) =>
    let b := sounding new
    let kNew := s.rampLen (peRamp new)
    let sh := p.shadow.map (fun x => { x with fade := some ⟨true, 0, if b then kNew else s.rampLen (peRamp x.image)⟩ })
    (s.countFades ((if p.shadow.isSome then 1 else 0) + (if b then 1 else 0))).setPe i
      { p with cur := new, fade := if b then some ⟨false, 0, kNew⟩ else none, shadow := sh, waiting := none }
  | none => s

/-- PROGRAM_WAIT_END (R196): at the block boundary that comes next, the fades start of each wait into destination `d` all of whose
sources are ready. -/
def effProgramWaitEnd (d : Nat) (s : State) : State :=
  if (s.node.n.toNat + 1) % 8 != 0 then s
  else (((s.waitsInto d).filter s.waitReady).foldl (fun s w =>
    (s.waiters w).foldl (fun s e => s.releaseWait e.1 e.2) s) s).showPatch

/-- Deferred changes take free shadow entries in ascending entry index (R192). -/
def State.takeShadows (s : State) : State :=
  s.audio.patch.foldl (fun s e =>
    match e.2.waiting with
    | some (.shadow n w, new) => if 2048 ≤ s.shadowsUsed then s else s.resumeChange e.1 (.shadow n w) new
    | _ => s) s

/-- A fade has run its course. -/
def Fade.done (f : Fade) : Bool := decide (f.len ≤ f.k)

/-- FADE_END (R189, R192, R193): the fade of entry `i` ends, its shadow entry is freed, and a change that waited for it
takes effect. -/
def effFadeEnd (i : Nat) (s : State) : State :=
  let p := s.pe i
  let inDone := match p.fade with
    | some f => f.done
    | none => true
  let outDone := match p.shadow with
    | some x => (match x.fade with
      | some f => f.done
      | none => false)
    | none => true
  if (p.fade.isNone && p.shadow.isNone) || !inDone || !outDone then s
  else
    let s := s.setPe i { p with fade := none, shadow := none }
    let s := match p.waiting with
      | some (.fade w, new) => s.resumeChange i (.fade w) new
      | _ => s
    s.takeShadows.showPatch

/-- GAIN_RAMP_END (R188): from sample K on the gain is g1. -/
def effGainRampEnd (i : Nat) (s : State) : State :=
  let p := s.pe i
  match p.ramp with
  | some r => if r.len ≤ r.k then s.setPe i { p with ramp := none } else s
  | none => s

/-- R70: every ramp and fade ends at its target, freed shadow entries with them; waits carry over. -/
def State.finishFades (s : State) : State :=
  let s := s.audio.patch.foldl (fun s e =>
    let p := e.2
    let sh := match p.shadow with
      | some x => if x.fade.isSome then none else some x
      | none => none
    let q : PEntry := { p with ramp := none, fade := none, shadow := sh }
    s.setPe e.1 (match p.waiting with
      | some (.fade _, v) => if sh.isNone then { q with cur := v, waiting := none, old := none } else q
      | _ => q)) s
  s.takeShadows.showPatch

/-! ## Uncorrectable entries (R199) -/

/-- An uncorrectable error in entry `i`: it and its shadow entry contribute nothing from this tick. DEDUCED, log 80: unsafe. -/
def State.damageEntry (s : State) (i : Nat) : State :=
  let s := s.setPe i { s.pe i with damaged := true }
  let s := (s.putBit F.PATCH_STAT_ECC_UE true).put F.PATCH_ECC_ADDR_ENTRY i
  s.latch 5

/-- PATCH_ENTRY_REWRITE (R199): the Keeper rewrites a damaged entry from its copy of the PATCH section; it fades in. -/
def effPatchEntryRewrite (i : Nat) (s : State) : State :=
  let p := s.pe i
  if !p.damaged then s
  else
    let v := match s.cfgItem secPatch i with
      | some b => BitVec.ofNat 64 (leAt b 0 8)
      | none => 0
    let s := s.setRg (PATCH_ENTRY i) v.toNat
    let v := s.playImage i
    let f : Option Fade := if sounding v then some ⟨false, 0, s.rampLen (peRamp v)⟩ else none
    let s := if f.isSome then s.countFades 1 else s
    (s.setPe i ⟨v, none, f, none, none, false, none⟩).takeShadows.showPatch

/-! ## Generators (R200) -/

/-- The sample of generator `g` at media sample count `n` (Table 6.3). -/
def State.generator (s : State) (g n : Nat) : Int :=
  let level := s.getS (F.PATCH_GEN_CFG_LEVEL g)
  let freq := s.rg (PATCH_GEN_FREQ g)
  let ph := s.rg (PATCH_GEN_PHASE g)
  match s.get (F.PATCH_GEN_CFG_TYPE g) with
  | 0 => 0
  | 1 => toneSample ((freq * n + ph) % 2 ^ 32) level
  | 2 => sat32 (applyGain (signed 32 (crc32c (leBytes 4 ph ++ leBytes 8 n))) level)
  | _ => if freq != 0 && ((n : Int) - ph) % (freq : Int) = 0 then sat32 (applyGain (2 ^ 31 - 1) level) else 0

/-! ## Sources -/

/-- The physical Brick and ring of an output number; the Brick is in service. -/
def State.outputRing (s : State) (binds : List (Nat × Bool × Nat × Nat)) (k : Nat) (old : Option Nat) : Option (Nat × Nat) :=
  let cand := binds.filter (fun b => b.2.1 && b.2.2.1 = k && !s.outOfService b.1)
  let keep (c : Nat × Bool × Nat × Nat) : Bool := match old with
    | some b => c.1 = b
    | none => s.pair.takeovers.all (fun t =>
        !(t.commanded && t.failed = c.1 && t.ready) && !(t.commanded && t.relief = c.1 && !t.ready))
  (cand.find? keep).map (fun c => (c.1, c.2.2.2))

/-- A logical Brick whose takeover has not made its outputs ready reads zero, unless it was commanded (R338, R340). -/
def State.brickSilent (s : State) (b : Nat) : Bool :=
  s.pair.takeovers.any (fun t => !t.commanded && (t.failed = b || (t.relief = b && !t.ready)))
    || s.flt.reliefNone.any (fun l => s.physOf l = b)

/-- The output sample read at tick `t` for an output number (R41, R148). -/
def State.brickOutput (s : State) (binds : List (Nat × Bool × Nat × Nat)) (t k : Nat) (old : Option Nat) : Int :=
  match s.outputRing binds k old with
  | some (b, ring) => if s.brickSilent b then 0 else signed 32 (s.brickWord b (ring + (t + 2 ^ 64 - 10) % 16)).toNat
  | none => 0

/-- The sample of a source as a crosspoint meets it at tick `t` (Table 1.3): by class, and for Brick inputs. -/
def State.sourceAt (s : State) (binds : List (Nat × Bool × Nat × Nat)) (t src : Nat) (low toBrick : Bool)
    (old : Option Nat) : Int :=
  let age := if low then (if src < 1024 then 3 else 1) else if toBrick then 3 else 14
  if 1280 ≤ src && src < 3328 then (if low then 0 else s.brickOutput binds t (src - 1280) old)
  else tgetD (s.audio.history.getD age []) src 0

/-! ## Crosspoint products and mix sums -/

/-- One contribution (R184) with whether it saturated or stands at the 48-bit bound. -/
def product (x gain : Int) (inv : Bool) (fade : Option Fade) : Int × Bool :=
  let p := applyGain x gain
  let q := sat48 p
  let r := if inv then sat48 (-q) else q
  let y := match fade with
    | some f => rhe (r * f.factor) (2 ^ 30)
    | none => r
  (y, p != q || (inv && r != -q) || y = 2 ^ 47 - 1 || y = -(2 ^ 47))

/-- What one entry and its shadow add at this tick: destination, low class, contribution. -/
def PEntry.parts (p : PEntry) : List (Word64 × Int × Option Fade × Option Nat) × List (Word64 × Int × Option Fade × Option Nat) :=
  if p.damaged then ([], [])
  else
    let g := match p.ramp with
      | some r => r.gain
      | none => peGain p.cur
    (if sounding p.cur then [(p.cur, g, p.fade, p.old)] else [],
     match p.shadow with
     | some x => [(x.image, x.gain, x.fade, x.oldBrick)]
     | none => [])

/-- The entries that may sound: those enabled in the table and those with a running state, in ascending index. -/
def State.liveEntries (s : State) : List (Nat × PEntry) :=
  let table := s.regs.filterMap (fun e =>
    if 0x1000000 ≤ e.1 && e.1 < 0x1020000 && e.2.getLsbD 45 then
      some ((e.1 - 0x1000000) / 8, s.pe ((e.1 - 0x1000000) / 8))
    else none)
  s.audio.patch.foldl (fun m e => cins m e.1 e.2) table

/-- The 48-bit sums of a tick by destination: full class and low-latency class, and how many saturations counted. -/
structure Sums where
  full : Tbl Int
  low : Tbl Int
  sats : Nat
deriving DecidableEq, Repr

/-- Add one contribution to a sum (R185). -/
def Sums.add (m : Sums) (d : Nat) (low : Bool) (v : Int) (sat : Bool) : Sums :=
  let t := if low then m.low else m.full
  let a := tgetD t d 0 + v
  let b := sat48 a
  let t' := cins t d b
  let n := m.sats + (if sat then 1 else 0) + (if a != b then 1 else 0)
  if low then { m with low := t', sats := n } else { m with full := t', sats := n }

/-- The mix sums at tick `t` (R184, R185). -/
def State.mixSums (s : State) (t : Nat) : Sums :=
  let binds := s.ioBindings
  let live := s.liveEntries.map (fun e => e.2.parts)
  let all := live.flatMap (fun e => e.1) ++ live.flatMap (fun e => e.2)
  all.foldl (fun m e =>
    let d := peDst e.1
    let x := s.sourceAt binds t (peSrc e.1) (peLow e.1) (isBrickDst d) e.2.2.2
    let (v, sat) := product x e.2.1 (peInv e.1) e.2.2.1
    m.add d (peLow e.1) v sat) ⟨[], [], 0⟩

/-- Ramps and fades one sample on. -/
def State.patchTick (s : State) : State :=
  { s with audio := { s.audio with patch := tmap (fun _ p =>
      { p with ramp := p.ramp.map Ramp.tick, fade := p.fade.map Fade.tick,
               shadow := p.shadow.map (fun x => { x with fade := x.fade.map Fade.tick }) }) s.audio.patch } }

/-! ## Meanings of the commands -/

/-- GAIN_RAMP_END (R188). -/
def execGainRampEnd (i : Fin 16384) (s : State) : Result :=
  runs s (effGainRampEnd i.val)

/-- PROGRAM_WAIT_END (R196). -/
def execProgramWaitEnd (d : Fin 3648) (s : State) : Result :=
  runs s (effProgramWaitEnd d.val)

/-- PATCH_ENTRY_REWRITE (R199). -/
def execPatchEntryRewrite (i : Fin 16384) (s : State) : Result :=
  runs s (effPatchEntryRewrite i.val)

end Sys2Proof.Machine
end

