-- ==== Sys2Proof/Machine/Delay.lean ====
section
/-! DEFINITION. The delay pool and its lines (R206 to R212). -/

namespace Sys2Proof.Machine

/-- Granules in the pool. -/
def poolGranules : Nat := 32768

/-- Samples in a granule of a format (R206). -/
def perGranule (narrow : Bool) : Nat := if narrow then 256 else 128

/-- Granules of a line with delay D (R206). -/
def granulesFor (narrow : Bool) (d : Nat) : Nat := (d + perGranule narrow - 1) / perGranule narrow

/-- The granules of every buffer in use. -/
def State.usedGranules (s : State) : List Nat :=
  s.audio.lines.flatMap (fun e => e.2.cur.grans ++ (match e.2.next with
    | some (b, _) => b.grans
    | none => []))

/-- The lowest `n` granules of `k` candidates from `g` on that are free. -/
def pickGranules (used : List Nat) : Nat → Nat → Nat → List Nat
  | 0, _, _ => []
  | _, 0, _ => []
  | k + 1, n + 1, g =>
    if used.contains g then pickGranules used k (n + 1) (g + 1) else g :: pickGranules used k n (g + 1)

/-- No line: D = 0 (R210). -/
def DelayBuf.none : DelayBuf := ⟨false, 0, 0, [], 0⟩

/-- A new buffer for a DYN_DLY_CFG image; no line acts as D = 0. Which free granules it takes the spec leaves open (R208); the
lowest-numbered ones. DESIGN CHOICE, log 86: unsafe. -/
def State.newBuf (s : State) (img : Nat) : DelayBuf :=
  if img.testBit 31 then
    let narrow := img.testBit 30
    let d := fieldOf img 0 23
    ⟨narrow, d, fieldOf img 23 4, pickGranules s.usedGranules poolGranules (granulesFor narrow d) 0, 0⟩
  else { DelayBuf.none with ramp := fieldOf img 23 4 }

/-- A line's state. -/
def State.line (s : State) (d : Nat) : DelayLine := (tget s.audio.lines d).getD ⟨DelayBuf.none, none, none⟩

/-- Show a line in DYN_DLY_STAT, and the pool in DYN_POOL and DYN_STAT. -/
def State.showLine (s : State) (d : Nat) : State :=
  let l := s.line d
  let s := s.putBit (F.DYN_DLY_STAT_CHANGING d) l.next.isSome
  let s := s.putBit (F.DYN_DLY_STAT_WAIT d) (match l.next with
    | some (_, none) => true
    | _ => false)
  let s := s.put (F.DYN_DLY_STAT_GRAN d) (l.cur.grans.length + (match l.next with
    | some (b, _) => b.grans.length
    | none => 0))
  let s := s.put F.DYN_POOL_FREE (poolGranules - s.usedGranules.length)
  let s := s.put F.DYN_POOL_OLD ((s.audio.lines.map (fun e => if e.2.next.isSome then e.2.cur.grans.length else 0)).foldl (· + ·) 0)
  s.putBit F.DYN_STAT_CHANGING (s.audio.lines.any (fun e => e.2.next.isSome))

/-- Set a line's state; one with no buffer at all needs no entry. -/
def State.setLine (s : State) (d : Nat) (l : DelayLine) : State :=
  let none' := l.next.isNone && l.pend.isNone && l.cur.delay = 0 && !s.bit (F.DYN_DLY_CFG_EN d)
  ({ s with audio := { s.audio with lines := tput s.audio.lines d (if none' then none else some l) } }).showLine d

/-- FMT and D of a DYN_DLY_CFG image; no line has D = 0 (R210). -/
def lineShape (img : Nat) : Bool × Nat := if img.testBit 31 then (img.testBit 30, fieldOf img 0 23) else (false, 0)

/-- Granules of the buffer of an image. -/
def imageGranules (img : Nat) : Nat := let h := lineShape img; granulesFor h.1 h.2

/-- FMT and D that a line has or is changing to. -/
def DelayLine.shape (l : DelayLine) : Bool × Nat :=
  match l.pend, l.next with
  | some img, _ => lineShape img.toNat
  | none, some (b, _) => (b.narrow, b.delay)
  | none, none => (l.cur.narrow, l.cur.delay)

/-- DYN_DLY_CFG[d] is written; the change is made at the next tick (R34). -/
def State.noteLine (s : State) (d img : Nat) : State :=
  let s := s.setRg (DYN_DLY_CFG d) img
  { s with audio := { s.audio with touchedLines := addIndex d s.audio.touchedLines } }

/-- A change of RAMP alone: the next fade takes its time from it (R210). -/
def DelayLine.ramped (l : DelayLine) (img : Nat) : DelayLine :=
  match l.pend, l.next with
  | some _, _ => { l with pend := some (BitVec.ofNat 32 img) }
  | none, some (b, none) => { l with next := some ({ b with ramp := fieldOf img 23 4 }, none) }
  | none, _ => l

/-! ## The count of R209 -/

/-- A buffer for an image with as many granules as it takes, wherever they lie. -/
def plannedBuf (img : Nat) : DelayBuf :=
  ⟨(lineShape img).1, (lineShape img).2, fieldOf img 23 4, List.replicate (imageGranules img) 0, 0⟩

/-- A line once it has been asked for an image (R210, R211). -/
def DelayLine.asked (l : DelayLine) (img : Nat) : DelayLine :=
  if l.shape = lineShape img then l.ramped img
  else match l.next with
  | some (_, some _) => { l with pend := some (BitVec.ofNat 32 img) }
  | _ => { l with next := some (plannedBuf img, none), pend := none }

/-- A line `dt` ticks later, its waits and fades run as R210 and R211 time them; `k` gives the samples of a ramp profile. The first
operand bounds the changes in a row, of which there are two at most. -/
def DelayLine.later (k : Nat → Nat) : Nat → Nat → DelayLine → DelayLine
  | 0, _, l => l
  | n + 1, dt, l =>
    match l.next with
    | none => l
    | some (b, fade) =>
      let left := match fade with
        | none => b.delay - b.cnt
        | some _ => 0
      let f : Fade := fade.getD ⟨false, 0, k b.ramp⟩
      if dt < left then { l with next := some ({ b with cnt := b.cnt + dt }, none) }
      else if dt - left < f.len - f.k then { l with next := some (b, some { f with k := f.k + (dt - left) }) }
      else match l.pend with
      | none => ⟨b, none, none⟩
      | some img => DelayLine.later k n (dt - left - (f.len - f.k)) ⟨b, some (plannedBuf img.toNat, none), none⟩

/-- Granules that a line holds and has asked for. -/
def DelayLine.held (l : DelayLine) : Nat :=
  l.cur.grans.length + (match l.next with
    | some (b, _) => b.grans.length
    | none => 0) + (match l.pend with
    | some img => imageGranules img.toNat
    | none => 0)

/-- The lines once images are asked for at the ticks of a plan, as many ticks ahead as it says, in order. -/
def State.linesAfter (s : State) (plan : List (Nat × List (Nat × Nat))) : Tbl DelayLine :=
  (plan.foldl (fun (acc : Nat × Tbl DelayLine) e =>
    let m := acc.2.map (fun l => (l.1, l.2.later s.rampLen 3 (e.1 - acc.1)))
    (e.1, e.2.foldl (fun m c => cins m c.1 (DelayLine.asked ((tget m c.1).getD ⟨DelayBuf.none, none, none⟩) c.2)) m))
    (1, s.audio.lines)).2

/-- The granules held at the last tick of a plan (R209); what is written already takes effect at the next tick. -/
def State.poolWith (s : State) (plan : List (Nat × List (Nat × Nat))) : Nat :=
  ((s.linesAfter ((1, s.audio.touchedLines.map (fun d => (d, s.rg (DYN_DLY_CFG d)))) :: plan)).map
    (fun e => e.2.held)).foldl (· + ·) 0

/-- A line that starts with a value, as at START: no buffer beside it (R208). -/
def State.placeLine (s : State) (d img : Nat) : State :=
  let s := s.setRg (DYN_DLY_CFG d) img
  s.setLine d ⟨s.newBuf img, none, none⟩

/-- The pending new buffer of a line is freed (R211). -/
def State.freeNew (s : State) (d : Nat) : State := s.setLine d { s.line d with next := none }

/-- A line takes a new buffer for an image beside the old one (R210). -/
def State.giveLine (s : State) (d img : Nat) : State :=
  s.setLine d { s.line d with next := some (s.newBuf img, none), pend := none }

/-- An image takes a new buffer at once: it changes D or FMT, and no fade of the line runs (R210, R211). -/
def DelayLine.moves (l : DelayLine) (img : Nat) : Bool :=
  decide (l.shape ≠ lineShape img) && (match l.next with
    | some (_, some _) => false
    | _ => true)

/-- A change of DYN_DLY_CFG[d] under running audio, at its tick (R210, R211): a change of D or FMT takes a new buffer, or waits for
the end of the fade that runs. -/
def State.changeLine (s : State) (d img : Nat) : State :=
  let l := s.line d
  if l.shape = lineShape img then s.setLine d (l.ramped img)
  else match l.next with
  | some (_, some _) => s.setLine d { l with pend := some (BitVec.ofNat 32 img) }
  | _ => (s.freeNew d).giveLine d img

/-- DELAY_FADE_START (R210): the new buffer has been written for D_new ticks. -/
def effDelayFadeStart (d : Nat) (s : State) : State :=
  let l := s.line d
  match l.next with
  | some (b, none) =>
    if b.delay ≤ b.cnt then s.setLine d { l with next := some (b, some ⟨false, 0, s.rampLen b.ramp⟩) } else s
  | _ => s

/-- DELAY_FADE_END (R210, R211): the old buffer is freed; a change that waited starts. -/
def effDelayFadeEnd (d : Nat) (s : State) : State :=
  let l := s.line d
  match l.next with
  | some (b, some f) =>
    if f.len ≤ f.k then
      let s := s.setLine d ⟨b, none, none⟩
      match l.pend with
      | some img => s.changeLine d img.toNat
      | none => s
    else s
  | _ => s

/-- R70: a change completes; the line keeps only its newest buffer, zeroed. -/
def State.finishLine (s : State) (d : Nat) : State :=
  let l := s.line d
  let s := match l.pend, l.next with
    | some img, _ => let s := s.setLine d ⟨DelayBuf.none, none, none⟩
      s.setLine d ⟨s.newBuf img.toNat, none, none⟩
    | none, some (b, _) => s.setLine d ⟨b, none, none⟩
    | none, none => s
  let b := (s.line d).cur
  (s.zeroGranules b).setLine d ⟨b.fresh, none, none⟩

/-- The samples a buffer holds; D is not above it. -/
def DelayBuf.size (b : DelayBuf) : Nat := perGranule b.narrow * max 1 b.grans.length

/-- The pool address of the sample with index `n` of a buffer. -/
def DelayBuf.addr (b : DelayBuf) (n : Nat) : Option Nat :=
  let p := perGranule b.narrow
  let i := n % b.size
  (b.grans[i / p]?).map (fun g => 0x20000000 + 1024 * g + i % p * (1024 / p))

/-- Read the sample written `D` samples before sample `n`; a sample never written reads zero (R207). -/
def State.readBuf (s : State) (b : DelayBuf) (n : Nat) : Int :=
  if b.cnt < b.delay then 0
  else match b.addr (n + b.size - b.delay) with
    | some a => if b.narrow then signed 32 (s.rdNat 4 a) else signed 64 (s.rdNat 8 a)
    | none => 0

/-- Write the destination's value for sample `n`; a NARROW line saturates it to Q1.31 (R206). -/
def State.writeBuf (s : State) (b : DelayBuf) (n : Nat) (v : Int) : State :=
  match b.addr n with
  | some a =>
    if b.narrow then
      let w := sat32 v
      let s := (s.wrNat 4 a (unsigned 32 w)).noteRow a
      if w = v then s else s.bump F.DYN_CNT_NARROW_SAT
    else (s.wrNat 8 a (unsigned 64 v)).noteRow a
  | none => s

/-- A buffer's output for a value, and the buffer after it: read before write, D = 0 passes through (R207). -/
def State.passBuf (s : State) (b : DelayBuf) (n : Nat) (v : Int) : State × DelayBuf × Int :=
  let out := if b.delay = 0 then v else s.readBuf b n
  let s := s.writeBuf b n v
  (s, { b with cnt := min (b.cnt + 1) (max b.delay 1) }, out)

/-- A line at one tick (R207, R210): the value goes to both buffers, the taps cross-fade. -/
def State.lineTick (s : State) (d n : Nat) (v : Int) : State × Int :=
  match tget s.audio.lines d with
  | none => (s, v)
  | some l =>
    let (s, c, old) := s.passBuf l.cur n v
    match l.next with
    | none => ({ s with audio := { s.audio with lines := cins s.audio.lines d { l with cur := c } } }, old)
    | some (b, fade) =>
      let (s, b, new) := s.passBuf b n v
      let (out, fade) := match fade with
        | none => (old, none)
        | some f =>
          let fi : Int := if f.len ≤ f.k then 2 ^ 30 else rhe (2 ^ 30 * f.k) f.len
          (sat48 (rhe (new * fi) (2 ^ 30) + rhe (old * (2 ^ 30 - fi)) (2 ^ 30)), some f.tick)
      ({ s with audio := { s.audio with lines := cins s.audio.lines d { l with cur := c, next := some (b, fade) } } }, out)

/-- An uncorrectable error in the pool row at byte offset `o` (R212): its samples read as zero until written again.
DEDUCED, log 80: unsafe. -/
def State.damageRow (s : State) (o : Nat) : State :=
  let s := s.zeroMem (0x20000000 + o / 8 * 8) 8
  ((s.putBit F.DYN_STAT_ECC_UE true).put F.DYN_ECC_ADDR_OFFSET (o / 8 * 8)).latch 7

/-! ## Meanings of the commands -/

/-- DELAY_FADE_START (R210). -/
def execDelayFadeStart (d : Fin 3392) (s : State) : Result :=
  runs s (effDelayFadeStart d.val)

/-- DELAY_FADE_END (R210). -/
def execDelayFadeEnd (d : Fin 3392) (s : State) : Result :=
  runs s (effDelayFadeEnd d.val)

end Sys2Proof.Machine
end

