-- ==== Sys2Proof/Machine/Records.lean ====
section
/-! DEFINITION. The store's layout, records and markers (R86 to R97): reading them from the device and building the bytes the
engine writes. -/

namespace Sys2Proof.Machine

/-- The regions of Table 3.1 for a density code: slot A, slot B, journal, end. -/
def storeLayout : Nat → Nat × Nat × Nat × Nat
  | 1 => (0x10000, 0x310000, 0x610000, 0x800000)
  | 2 => (0x10000, 0x610000, 0xC10000, 0x1000000)
  | _ => (0x10000, 0xC10000, 0x1810000, 0x2000000)

/-- Device address of a slot. -/
def slotBase (density slot : Nat) : Nat :=
  let l := storeLayout density
  if slot = 0 then l.1 else l.2.1

/-- Size of a slot. -/
def slotSize (density : Nat) : Nat := (storeLayout density).2.1 - (storeLayout density).1

/-- Device address of the journal. -/
def jrnBase (density : Nat) : Nat := (storeLayout density).2.2.1

/-- Size of the journal. -/
def jrnSize (density : Nat) : Nat := (storeLayout density).2.2.2 - (storeLayout density).2.2.1

/-- The MAGIC of a record (Table 3.2). -/
def recMagic : Nat := 0x524A5341

/-- A length padded to a multiple of 32. -/
def pad32 (n : Nat) : Nat := (n + 31) / 32 * 32

/-- Whether a record's space holds a payload: JRN_PAD states its filled length in LEN and holds none (Table 3.3). -/
def hasPayload (type : Nat) : Bool := type != 0x2F

/-- Bytes a record takes (R89). -/
def Rec.size (r : Rec) : Nat := 32 + pad32 r.len + (if r.flags / 4 % 2 = 1 then 64 else 0)

/-- Header bytes 0x00 to 0x17. -/
def Rec.head (r : Rec) : List Byte :=
  leBytes 4 recMagic ++ leBytes 2 r.type ++ leBytes 2 r.flags ++ leBytes 8 r.seq ++ leBytes 4 r.len ++ leBytes 4 r.prevCrc

/-- The payload padded with zeros (R89). -/
def Rec.padded (r : Rec) : List Byte :=
  if hasPayload r.type then r.payload ++ List.replicate (pad32 r.len - r.payload.length) 0 else []

/-- The CRC a record's CRC field must hold (Table 3.2). -/
def Rec.crcOf (r : Rec) : Nat := crc32c (r.head ++ r.padded ++ (if r.flags / 4 % 2 = 1 then r.sig else []))

/-- COMMIT of a record. -/
def commitWord (seq : Nat) : Nat := (seq % 2 ^ 32) ^^^ 0xA55AC33C

/-- A record with its CRC filled in. -/
def Rec.sealed (r : Rec) : Rec := { r with crc := r.crcOf }

/-- The writes of a record at a device address, all but COMMIT: header up to CRC, padded payload, signature (R90). -/
def Rec.writes (r : Rec) (a : Nat) : List (Nat × List Byte) :=
  [(a, r.head ++ leBytes 4 r.crc), (a + 32, r.padded ++ (if r.flags / 4 % 2 = 1 then r.sig else []))]

/-- The COMMIT write of a record at a device address. -/
def Rec.commitWrite (r : Rec) (a : Nat) : Nat × List Byte := (a + 28, leBytes 4 (commitWord r.seq))

/-- What stands at a device address, read as a record: its fields when MAGIC is right, and whether it is committed. -/
def State.recAt (s : State) (a : Nat) : Option (Rec × Bool) :=
  let h := s.rdStore 32 a
  let f (o n : Nat) : Nat := leNat ((h.drop o).take n)
  if f 0 4 ≠ recMagic then none else
  let len := f 16 4
  let type := f 4 2
  let flags := f 6 2
  if 65504 < len then some (⟨type, flags, f 8 8, len, f 20 4, f 24 4, [], []⟩, false) else
  let pay := if hasPayload type then s.rdStore len (a + 32) else []
  let sig := if flags / 4 % 2 = 1 then s.rdStore 64 (a + 32 + pad32 len) else []
  let r : Rec := ⟨type, flags, f 8 8, len, f 20 4, f 24 4, pay, sig⟩
  -- the CRC covers the padding as it stands on the device
  let body := (if hasPayload type then s.rdStore (pad32 len) (a + 32) else []) ++ sig
  let ok := crc32c (h.take 24 ++ body) == r.crc && f 28 4 == commitWord r.seq
  some (r, ok)

/-- The store is NOR flash. -/
def State.nor (s : State) : Bool := s.fuses.medium = 2

/-- A device program: NOR can only clear bits; MRAM takes the byte (R86, R87). -/
def State.progStore (s : State) (nor : Bool) (a : Nat) : List Byte → State
  | [] => s
  | b :: bs =>
    let old := cget storeDefault s.store a
    ({ s with store := cset storeDefault s.store a (if nor then old &&& b else b) } : State).progStore nor (a + 1) bs

/-- Erase the 4 KiB sector at a device address (R87). -/
def State.eraseSector (s : State) (a : Nat) : State :=
  { s with store := s.store.filter (fun c => !(decide (a / 4096 * 4096 ≤ c.1 ∧ c.1 < a / 4096 * 4096 + 4096))) }

/-- The device reads back what a program wrote (R90). -/
def State.holds (s : State) (w : Nat × List Byte) : Bool := s.rdStore w.2.length w.1 == w.2

/-- A list of programs in order. -/
def State.progAll (s : State) (nor : Bool) : List (Nat × List Byte) → State
  | [] => s
  | w :: ws => (s.progStore nor w.1 w.2).progAll nor ws

/-- Records written one after the other in the order of R90: each is programmed and read back, and only then is its COMMIT
written; that of the last one only with `commitLast`. With the address of the first that does not read back; `ok` tells whether
the device answers what was sent. -/
def State.writeRecs (ok commitLast : Bool) : List (Nat × Rec) → State → State × Option Nat
  | [], s => (s, none)
  | (a, r) :: rs, s =>
    let t := s.progAll s.nor (r.writes a)
    if !(ok && (r.writes a).all t.holds) then (t, some a)
    else if rs.isEmpty && !commitLast then (t, none)
    else State.writeRecs ok commitLast rs (t.progAll t.nor [r.commitWrite a])

/-- The first `n` bytes of a list of programs (a write cut by a power loss, Table 3.12). -/
def State.progSome (s : State) (nor : Bool) : Nat → List (Nat × List Byte) → State
  | _, [] => s
  | n, w :: ws =>
    if w.2.length ≤ n then (s.progStore nor w.1 w.2).progSome nor (n - w.2.length) ws
    else s.progStore nor w.1 (w.2.take n)

/-- Write zeros over a record's MAGIC (R102, R106). -/
def State.zeroMagic (s : State) (a : Nat) : State := s.progStore false a [0, 0, 0, 0]

/-! ## Slot markers (R96, R97) -/

/-- A committed marker: generation, device address, payload fields (Table 3.6). -/
structure Marker where
  gen : Nat
  addr : Nat
  slot : Nat
  imageLen : Nat
  startSeq : Nat
  startOfs : Nat
  imageCrc : Nat
  wraps : Nat
deriving DecidableEq, Repr

/-- The bounds of R530 on a marker, for a journal of `size` bytes. -/
def Marker.bounded (m : Marker) (size : Nat) : Bool :=
  1 ≤ m.gen && 1 ≤ m.startSeq && m.startOfs % 32 == 0 && decide (m.startOfs < size)

/-- The committed marker at a device address, if one stands there. -/
def State.markerAt (s : State) (a : Nat) : Option Marker :=
  match s.recAt a with
  | some (r, true) =>
    if r.type = 0x10 ∧ r.len = 32 ∧ r.flags = 3 then
      let f (o n : Nat) : Nat := leNat ((r.payload.drop o).take n)
      some ⟨r.seq, a, f 0 1, f 4 4, f 8 8, f 16 4, f 20 4, f 24 4⟩
    else none
  | _ => none

/-- Device addresses, 32-byte aligned and in a range, where the first byte of MAGIC stands. -/
def State.magicAddrs (s : State) (lo hi step : Nat) : List Nat :=
  (s.store.filter (fun c => decide (lo ≤ c.1 ∧ c.1 < hi) && c.1 % step == 0 && c.2 == 0x41)).map Prod.fst

/-- Every committed marker of both anchor halves. -/
def State.markers (s : State) : List Marker :=
  (s.magicAddrs 0 0x10000 64).filterMap s.markerAt

/-- Write zeros over MAGIC of every record that stands where a marker can, committed or not (R75). -/
def State.zeroMarkers (s : State) : State :=
  (s.magicAddrs 0 0x10000 64).foldl (fun s a => if leNat (s.rdStore 4 a) = recMagic then s.zeroMagic a else s) s

/-- The marker of highest generation below a bound (none: no bound). -/
def topMarker (below : Option Nat) (ms : List Marker) : Option Marker :=
  ms.foldl (fun best m =>
    if (match below with | some g => decide (m.gen < g) | none => true) then
      match best with
      | some b => if b.gen < m.gen then some m else some b
      | none => some m
    else best) none

/-- The position of the next marker (R97). -/
def nextMarkerPos (m : Marker) : Nat :=
  let half := m.addr / 0x8000
  if m.addr + 64 < (half + 1) * 0x8000 then m.addr + 64 else (1 - half) * 0x8000

/-- The payload of a marker (Table 3.6). DEDUCED, log 52: unsafe. -/
def markerPayload (slot imageLen startSeq startOfs imageCrc wraps : Nat) : List Byte :=
  leBytes 4 slot ++ leBytes 4 imageLen ++ leBytes 8 startSeq ++ leBytes 4 startOfs ++ leBytes 4 imageCrc ++
    leBytes 4 wraps ++ leBytes 4 0

/-- A marker record. -/
def markerRec (gen slot imageLen startSeq startOfs imageCrc wraps : Nat) : Rec :=
  Rec.sealed ⟨0x10, 3, gen, 32, 0, 0, markerPayload slot imageLen startSeq startOfs imageCrc wraps, []⟩

end Sys2Proof.Machine
end

