-- ==== Sys2Proof/Machine/Items.lean ====
section
/-! DEFINITION. The items of the configuration sections (Tables 3.5, 5.10, 8.12, 8.13, 10.7, 11.1): the registers they hold,
what makes one malformed (R531), what a configuration may not contain, and the changes of a journal group (R528). -/

namespace Sys2Proof.Machine

/-! ## Register images -/

/-- A value a field may hold (R23). -/
def FieldDef.allows (f : FieldDef) (x : Nat) : Bool :=
  f.allowed.isEmpty || f.allowed.any (fun r => r.1 ≤ x && x ≤ r.2)

/-- The field takes a value from a section: it is writable. -/
def FieldDef.writable (f : FieldDef) : Bool := f.ty == .rw || f.ty == .rwl

/-- A register image holds no reserved bit, no reserved encoding and no value out of range (R531).
DEDUCED, log 59: unsafe. -/
def imageLegal (a v : Nat) : Bool :=
  match findReg a with
  | none => false
  | some (d, _, _) =>
    let used := d.fields.foldl (fun n f => if f.writable then n ||| ((2 ^ f.width - 1) * 2 ^ f.lo) else n) 0
    v &&& used == v && d.fields.all (fun f => !f.writable || f.allows (fieldOf v f.lo f.width))

/-- The registers an item holds, address and bytes of each, and the zero bytes after them. -/
structure ItemRegs where
  regs : List (Nat × Nat)
  pad : Nat
deriving DecidableEq, Repr

/-- One 4-byte image. -/
def oneReg (a : Nat) : Option ItemRegs := some ⟨[(a, 4)], 0⟩

/-- Elements of an array section (Table 3.5); none for a keyed section. -/
def arrayCount (sec : Nat) : Option Nat :=
  if sec = secPatch then some 16384 else if sec = secGenerators then some 79 else if sec = secTdm then some 8
  else if sec = secDynamics then some 1280 else if sec = secLimiters then some 1344 else if sec = secAmp then some 64
  else if sec = secFaults then some 68 else none

/-- The registers of an array section's element. -/
def arrayRegs (sec k : Nat) : Option ItemRegs :=
  if sec = secPatch then some ⟨[(PATCH_ENTRY k, 8)], 0⟩
  else if sec = secGenerators then
    (if k < 63 then some ⟨[(PATCH_GEN_CFG k, 4), (PATCH_GEN_FREQ k, 4), (PATCH_GEN_PHASE k, 4)], 4⟩
     else some ⟨[(PATCH_RAMP (k - 63), 4)], 12⟩)
  else if sec = secTdm then some ⟨[(GLB_TDM_CFG k, 4), (GLB_TDM_RXEN k, 4), (GLB_TDM_TXEN k, 4)], 4⟩
  else if sec = secDynamics then
    some ⟨[(DYN_INST_CFG0 k, 4), (DYN_INST_CFG1 k, 4), (DYN_INST_CFG2 k, 4), (DYN_INST_CFG3 k, 4)], 0⟩
  else if sec = secLimiters then some ⟨[(DYN_LIM_CFG k, 4), (DYN_LIM_TIME k, 4)], 0⟩
  else if sec = secAmp then
    some ⟨[(AMP_CH_CFG k, 4), (AMP_CH_SCALE k, 4), (AMP_CH_SNS_SCALE k, 4), (AMP_CH_PROT k, 4), (AMP_CH_TIME k, 4),
      (AMP_CH_RAILSAG k, 4), (AMP_CH_COIL k, 4), (AMP_CH_HF k, 4), (AMP_CH_TAP k, 4)], 0⟩
  else if sec = secFaults then
    (if k < 64 then oneReg (FLT_CFG k) else if k = 64 then oneReg FLT_PIN_CTL else if k = 65 then oneReg FLT_PULSE_MIN
     else if k = 66 then oneReg FLT_SCRUB_CFG else oneReg FLT_TJ)
  else none

/-- The registers of a STREAMS item (Table 8.12 and chapter 11). -/
def streamRegs (k : Nat) : Option ItemRegs :=
  let kind := k / 2 ^ 24
  let mid := k / 2 ^ 16 % 256
  let i := k % 2 ^ 16
  match kind with
  | 1 => if mid = 0 && i < 256 then
      some ⟨[(STR_TX_CFG i, 4), (STR_TX_DST i, 4), (STR_TX_UDP i, 4), (STR_TX_TAG i, 4), (STR_TX_SSRC i, 4), (STR_TX_TSOFS i, 4)], 0⟩
    else none
  | 2 => if mid = 0 && i < 256 then some ⟨[(STR_RX_CFG i, 4), (STR_RX_TSOFS i, 4), (STR_RX_MISC i, 4)], 0⟩ else none
  | 3 => if mid < 4 && i < 256 then
      some ⟨[(STR_RX_LEG_CFG i mid, 4), (STR_RX_LEG_GRP i mid, 4), (STR_RX_LEG_SRC i mid, 4)], 0⟩
    else none
  | 4 => if mid = 0 && i = 0 then some ⟨(List.range 32).map (fun g => (PAIR_DIG_MASK g, 4)), 0⟩ else none
  | 5 => if mid = 0 && i < 64 then oneReg (PAIR_CHSEL i) else none
  | _ => none

/-- The registers of a PERIPHERALS item (R399, R423). -/
def peripheralRegs (k : Nat) : Option ItemRegs :=
  if 0x01000000 ≤ k && k < 0x01000400 then
    let m := (k - 0x01000000) / 0x100
    let o := k % 0x100
    if o = 0 then oneReg (CBUS_CFG m)
    else if o ≤ 8 then some ⟨[(CBUS_FILT m (o - 1), 8)], 0⟩
    else none
  else if k = 0x02000000 then oneReg TW0_CFG
  else if k = 0x02000001 then oneReg TW0_TIM0
  else if k = 0x02000002 then oneReg TW0_TIM1
  else if k = 0x02000003 then oneReg TW0_TIM2
  else if k = 0x02000004 then oneReg TW0_TIM3
  else if k = 0x02000010 then oneReg TW1_CFG
  else none

/-- The registers of a NODE item (Tables 8.13, 11.1, R380, R503). -/
def nodeRegs (k : Nat) : Option ItemRegs :=
  if 0x100 ≤ k && k < 0x104 then oneReg (NET_PORT_CFG (k - 0x100))
  else if 0x110 ≤ k && k < 0x114 then oneReg (NET_CBS (k - 0x110))
  else if 0x120 ≤ k && k < 0x124 then oneReg (NET_PCP_MAP (k - 0x120))
  else if 0x130 ≤ k && k < 0x134 then some ⟨(List.range 4).map (fun m => (NET_DSCP_MAP (k - 0x130) m, 4)), 0⟩
  else if k = 0x140 then oneReg NET_SW_CFG
  else if 0x158 ≤ k && k < 0x15A then oneReg (TMS_PTP_QUAL (k - 0x158))
  else if k = 0x200 then oneReg PAIR_CFG
  else if k = 0x201 then oneReg PAIR_TIMING
  else if k = 0x202 then oneReg PAIR_FLASH_PORT
  else if 0x210 ≤ k && k < 0x212 then oneReg (PAIR_PARTNER_ADDR (k - 0x210))
  else if k = 0x220 then oneReg PAIR_WC_CFG
  else if k = 0x221 then oneReg PAIR_CKPT_CFG
  else if 0x300 ≤ k && k < 0x308 then some ⟨[(AMP_RAIL_CFG (k - 0x300), 4), (AMP_RAIL_LIM (k - 0x300), 4)], 0⟩
  else if k = 0x400 then oneReg PWR_CFG
  else if k = 0x401 then oneReg PWR_WAKE_CFG
  else none

/-- The registers of an item whose VALUE is register images alone. -/
def itemRegs (sec k : Nat) : Option ItemRegs :=
  match arrayCount sec with
  | some n => if k < n then arrayRegs sec k else none
  | none =>
    if sec = secDelay then (if k < 3392 then oneReg (DYN_DLY_CFG k) else none)
    else if sec = secStreams then streamRegs k
    else if sec = secPolicy then (if k = 1 then oneReg GLB_POLICY_CTL else none)
    else if sec = secReferences then
      (if k = 1 then oneReg TMS_CTL else if 0x100 ≤ k && k < 0x106 then oneReg (REF_CFG (k - 0x100))
       else if k = 0x200 then oneReg REF_SEL_CTL else none)
    else if sec = secPeripherals then peripheralRegs k
    else if sec = secNode then nodeRegs k
    else none

/-- Bytes of an item's VALUE. -/
def ItemRegs.size (r : ItemRegs) : Nat := r.regs.foldl (fun n e => n + e.2) 0 + r.pad

/-- The images of an item's VALUE, register by register. -/
def imagesOf : List (Nat × Nat) → List Byte → List (Nat × Nat)
  | [], _ => []
  | (a, n) :: rs, v => (a, leNat (v.take n)) :: imagesOf rs (v.drop n)

/-- The reset image of an element (R95). -/
def ItemRegs.resetImage (r : ItemRegs) : List Byte :=
  r.regs.flatMap (fun e => leBytes e.2 (resetValue e.1).toNat) ++ List.replicate r.pad 0

/-! ## Malformed items (R531) -/

/-- A 4-byte image at an offset of a VALUE. -/
def word (v : List Byte) (o : Nat) : Nat := leAt v o 4

/-- A source index in a defined range (Table 1.6). -/
def srcDefined (n : Nat) : Bool := n < 3456
/-- A destination index in a defined range (Table 1.7). -/
def dstDefined (n : Nat) : Bool := n < 3648

/-- The checks of one patch entry (R39, R46, R180). -/
def entryLegal (e : Nat) : Bool :=
  let w : Word64 := BitVec.ofNat 64 e
  let src := fieldOf e 0 12
  let dst := fieldOf e 12 12
  fieldOf e 48 16 = 0 && srcDefined src && dstDefined dst
    && !(peLow w && ((1280 ≤ src && src < 3328) || (1280 ≤ dst && dst < 3328)))

/-- Samples per packet by PTIME (Table 8.5). -/
def packetSamples (fs96 : Bool) (ptime : Nat) : Nat :=
  (if ptime = 0 then 6 else if ptime = 1 then 12 else 48) * (if fs96 && ptime < 2 then 2 else if fs96 then 2 else 1)

/-- Table 8.5 and the last point of R242 for a stream's CFG image. -/
def streamLegal (fs96 : Bool) (cfg : Nat) : Bool :=
  let n := packetSamples fs96 (fieldOf cfg 28 2)
  let nch := fieldOf cfg 22 6 + 1
  let po := fieldOf cfg 15 7
  let first := fieldOf cfg 0 10
  let size := if cfg.testBit 30 then 4 else 3
  n * nch * size ≤ 1440 && (if fs96 then 4 ≤ po && po ≤ 96 else 2 ≤ po && po ≤ 48) && n ≤ po
    && first + nch ≤ (if fs96 then 512 else 1024)

/-- Combinations within one item that its chapter forbids. -/
def itemRules (fs96 : Bool) (sec k : Nat) (v : List Byte) : Bool :=
  if sec = secPatch then entryLegal (leAt v 0 8)
  else if sec = secGenerators then !(k < 63 && fieldOf (word v 0) 0 2 = 3 && word v 4 = 0)
  else if sec = secDynamics then srcDefined (fieldOf (word v 0) 12 12)
  else if sec = secDelay then
    let w := word v 0
    w.testBit 31 && (w.testBit 30 || fieldOf w 0 23 ≤ 4194304)
  else if sec = secStreams then
    (match k / 2 ^ 24 with
     | 1 => streamLegal fs96 (word v 0)
     | 2 => streamLegal fs96 (word v 0) && fieldOf (word v 8) 8 7 < packetSamples fs96 (fieldOf (word v 0) 28 2)
     | _ => true)
  else if sec = secAmp then
    fieldOf (word v 24) 24 8 < fieldOf (word v 24) 16 8
  else if sec = secFaults then
    (if k = 53 then fieldOf (word v 0) 0 3 = 3 else if k = 64 then !(word v 0).testBit 31 else true)
  else if sec = secReferences then (if k = 0x200 then !(word v 0).testBit 31 else true)
  else true

/-- The GLOBAL items: fs in Hz, role, start gate, gate timeout in seconds, each 4 bytes. DEDUCED, log 59: unsafe. -/
def globalLegal (k : Nat) (v : List Byte) : Bool :=
  v.length = 4 && (match k with
    | 1 => word v 0 = 48000 || word v 0 = 96000
    | 2 => word v 0 ≤ 1
    | 3 => word v 0 ≤ 1
    | 4 => word v 0 ≤ 60
    | _ => false)

/-- Every bundle of a CODE run passes the checks of R160 that it can pass by itself. -/
def codeLegal : Nat → List Byte → Bool
  | 0, _ => true
  | n + 1, v =>
    (match decodeBundle (leAt v 0 8) with
     | some b => bundleOk b
     | none => false) && codeLegal n (v.drop 8)

/-- A PROGRAMS item (Table 5.10). A CODE or DATA item with an empty VALUE is malformed. DESIGN CHOICE, log 85: unsafe. -/
def programLegal (k : Nat) (v : List Byte) : Bool :=
  let l := k / 2 ^ 16 % 256
  let i := k % 2 ^ 16
  l < nLogical && (match k / 2 ^ 24 with
    | 1 => v.length % 8 = 0 && v.length ≠ 0 && i + v.length / 8 ≤ 32768 && codeLegal (v.length / 8) v
    | 2 => v.length % 4 = 0 && v.length ≠ 0 && i + v.length / 4 ≤ 65536
    | 3 => i < 16 && v.length = 8 && imageLegal (BRK_TRIG 0 0) (word v 0)
    | 4 => i < 256 && v.length = 4 && imageLegal (BRK_IO 0 0) (word v 0)
    | 5 => i = 0 && v.length = 8 && leAt v 5 3 = 0 && leAt v 0 2 + leAt v 2 2 ≤ 65536
    | 6 => i < 16 && v.length = 8 && leAt v 2 2 + leAt v 6 2 ≤ 65536 && leAt v 4 2 + leAt v 6 2 ≤ 65536
    | _ => false)

/-- A SCHEDULE item (R469). DEDUCED, log 59: unsafe. -/
def scheduleLegal (k : Nat) (v : List Byte) : Bool :=
  k < 256 && v.length = 16 && leAt v 8 1 ≤ 1 && leAt v 9 1 ≤ 3 && leAt v 10 6 = 0
    && (!(leAt v 9 1).testBit 0 || leAt v 0 8 < 86400 * 1000000000)

/-- UTF-8 text: no overlong form, no surrogate, nothing above U+10FFFF. -/
def isUtf8 : Nat → List Byte → Bool
  | _, [] => true
  | 0, _ => false
  | n + 1, b :: bs =>
    let b := b.toNat
    let tail (i : Nat) : Option Nat := (bs[i]?).bind (fun c => if c.toNat / 64 = 2 then some (c.toNat % 64) else none)
    if b < 128 then isUtf8 n bs
    else if b / 32 = 6 then match tail 0 with
      | some _ => 2 ≤ b % 32 && isUtf8 n (bs.drop 1)
      | none => false
    else if b / 16 = 14 then match tail 0, tail 1 with
      | some c, some _ =>
        let v := b % 16 * 64 + c
        0x20 ≤ v && (v < 0x360 || 0x380 ≤ v) && isUtf8 n (bs.drop 2)
      | _, _ => false
    else if b / 8 = 30 then match tail 0, tail 1, tail 2 with
      | some c, some _, some _ =>
        let v := b % 8 * 64 + c
        0x10 ≤ v && v < 0x110 && isUtf8 n (bs.drop 3)
      | _, _, _ => false
    else false

/-- A NODE item that is not register images alone (Table 8.13). DEDUCED, log 59: unsafe. -/
def nodeLegal (k : Nat) (v : List Byte) : Bool :=
  if k = 1 then v.length ≤ 32 && isUtf8 v.length v
  else if k = 0x10 || k = 0x11 then v.length = 12 && 8 ≤ leAt v 4 1 && leAt v 4 1 ≤ 30 && leAt v 5 3 = 0
  else if k = 0x150 || k = 0x151 then
    v.length = 4 && imageLegal (TMS_PTP_CFG (k - 0x150)) (word v 0) && !(word v 0).testBit 31 && fieldOf (word v 0) 16 8 = 0
  else false

/-- An ACCESS item (R484, R486). -/
def accessLegal (k : Nat) (v : List Byte) : Bool :=
  if k = 1 then v.length = 32
  else if 0x100 ≤ k && k < 0x140 then v.length = 20 && leAt v 16 1 ≤ 1 && leAt v 17 3 = 0
  else false

/-- A REFERENCES item 0x10 + d: DOMAIN_NUM and the interval image (Table 10.7). -/
def ptpItemLegal (d : Nat) (v : List Byte) : Bool :=
  v.length = 8 && leAt v 0 1 ≤ 127 && leAt v 1 3 = 0 && imageLegal (TMS_PTP_INTV d) (word v 4)

/-- A defined section (Table 3.5). -/
def secDefined (sec : Nat) : Bool := (1 ≤ sec && sec ≤ 15) || (0x100 ≤ sec && sec ≤ 0x102)

/-- An item that is not malformed by itself (R531). DEDUCED, log 59: unsafe. -/
def itemLegal (fs96 : Bool) (sec k : Nat) (v : List Byte) : Bool :=
  match itemRegs sec k with
  | some r =>
    v.length = r.size && (imagesOf r.regs v).all (fun e => imageLegal e.1 e.2)
      && (v.drop (r.size - r.pad)).all (· == 0) && itemRules fs96 sec k v
  | none =>
    if sec = secGlobal then globalLegal k v
    else if sec = secPrograms then programLegal k v
    else if sec = secSchedule then scheduleLegal k v
    else if sec = secNode then nodeLegal k v
    else if sec = secAccess then accessLegal k v
    else if sec = secReferences then (k = 0x10 || k = 0x11) && ptpItemLegal (k - 0x10) v
    else if sec = secPeripherals then partnerItem k
    else sec = secPolicy || sec = secKeeper
where
  /-- A control-bus partner's entry; its layout is not given (R399). -/
  partnerItem (k : Nat) : Bool := 0x01000010 ≤ k && k < 0x01000400 && 0x10 ≤ k % 0x100

/-- A key that its section's table defines. A PROGRAMS key whose INDEX Table 5.10 does not define passes here; a deletion of one deletes
nothing. DESIGN CHOICE, log 95: unsafe. -/
def keyLegal (sec k : Nat) : Bool :=
  (itemRegs sec k).isSome
    || (sec = secGlobal && 1 ≤ k && k ≤ 4)
    || (sec = secPrograms && k / 2 ^ 16 % 256 < nLogical && 1 ≤ k / 2 ^ 24 && k / 2 ^ 24 ≤ 6)
    || (sec = secSchedule && k < 256)
    || (sec = secNode && (k = 1 || k = 0x10 || k = 0x11 || k = 0x150 || k = 0x151))
    || (sec = secAccess && (k = 1 || (0x100 ≤ k && k < 0x140)))
    || (sec = secReferences && (k = 0x10 || k = 0x11))
    || (sec = secPeripherals && itemLegal.partnerItem k)
    || sec = secPolicy || sec = secKeeper

/-! ## What a configuration may not contain -/

/-- A configuration runs at 96 kHz. -/
def Cfg.fs96 (c : Cfg) : Bool :=
  match c.item secGlobal 1 with
  | some v => word v 0 = 96000
  | none => false

/-- Images of a keyed item, or of an element, or what it resets to. -/
def Cfg.image (c : Cfg) (sec k o d : Nat) : Nat :=
  match c.item sec k with
  | some v => word v o
  | none => d

/-- The enabled entries of the PATCH section: low-latency, source, destination. -/
def Cfg.entries (c : Cfg) : List (Bool × Nat × Nat) :=
  (c.items secPatch).filterMap (fun e =>
    let w := leAt e.2 0 8
    if w.testBit 45 then some (w.testBit 44, fieldOf w 0 12, fieldOf w 12 12) else none)

/-- Destinations of enabled delay lines. -/
def Cfg.lineDsts (c : Cfg) : List Nat := (c.items secDelay).map (fun e => e.1)

/-- Destinations of enabled dynamics instances. -/
def Cfg.instDsts (c : Cfg) : List Nat :=
  (c.items secDynamics).filterMap (fun e => if (word e.2 0).testBit 31 then some (fieldOf (word e.2 0) 0 12) else none)

/-- No value twice. -/
def distinct : List Nat → Bool
  | [] => true
  | x :: xs => !xs.contains x && distinct xs

/-- R39, R205: one path class into a destination, and no low-latency class where a line or an instance stands. -/
def Cfg.classesLegal (c : Cfg) : Bool :=
  let es := c.entries
  let low := es.filterMap (fun e => if e.1 then some e.2.2 else none)
  let full := es.filterMap (fun e => if e.1 then none else some e.2.2)
  low.all (fun d => !full.contains d && !c.lineDsts.contains d && !c.instDsts.contains d) && distinct c.instDsts

/-- Granules that the DELAY section needs (R209). DEDUCED, log 59: unsafe. -/
def Cfg.granules (c : Cfg) : Nat :=
  (c.items secDelay).foldl (fun n e => n + granulesFor ((word e.2 0).testBit 30) (fieldOf (word e.2 0) 0 23)) 0

/-- First channel and number of channels of the enabled streams of a kind (1 transmit, 2 receive). -/
def Cfg.streams (c : Cfg) (kind : Nat) : List (Nat × Nat × Nat) :=
  (c.items secStreams).filterMap (fun e =>
    let w := word e.2 0
    if e.1 / 2 ^ 24 = kind && w.testBit 31 then some (fieldOf w 0 10, fieldOf w 22 6 + 1, fieldOf w 15 7) else none)

/-- Two ranges share a number. -/
def overlaps (a n b m : Nat) : Bool := a < b + m && b < a + n && n != 0 && m != 0

/-- No two ranges of a list overlap. -/
def disjoint : List (Nat × Nat) → Bool
  | [] => true
  | r :: rs => rs.all (fun q => !overlaps r.1 r.2 q.1 q.2) && disjoint rs

/-- R242. -/
def Cfg.streamsLegal (c : Cfg) : Bool :=
  disjoint ((c.streams 2).map (fun s => (s.1, s.2.1)))
    && (c.streams 1).foldl (fun n s => n + s.2.1) 0 ≤ (if c.fs96 then 512 else 1024)

/-- The enabled channel selectors: first primary, first alternate, channels. -/
def Cfg.selectors (c : Cfg) : List (Nat × Nat × Nat) :=
  (c.items secStreams).filterMap (fun e =>
    let w := word e.2 0
    if e.1 / 2 ^ 24 = 5 && w.testBit 31 then some (fieldOf w 20 10, fieldOf w 10 10, fieldOf w 0 6 + 1) else none)

/-- R322. -/
def Cfg.selectorsLegal (c : Cfg) : Bool :=
  let rx := c.streams 2
  let poOf (ch : Nat) : Option Nat := (rx.find? (fun s => s.1 ≤ ch && ch < s.1 + s.2.1)).map (fun s => s.2.2)
  let sels := c.selectors
  let prim := sels.flatMap (fun s => (List.range s.2.2).map (fun i => s.1 + i))
  let alt := sels.flatMap (fun s => (List.range s.2.2).map (fun i => s.2.1 + i))
  sels.all (fun s => (List.range s.2.2).all (fun i =>
      (poOf (s.1 + i)).isSome && (poOf (s.2.1 + i)).isSome && poOf (s.1 + i) == poOf (s.2.1 + i)))
    && distinct prim && prim.all (fun ch => !alt.contains ch)

/-- The BRK_IO images of a logical Brick, enabled or not: output, number, first word of the ring, enabled. -/
def Cfg.ioItems (c : Cfg) (l : Nat) : List (Bool × Nat × Nat × Bool) :=
  (c.progItems 4 l).map (fun e =>
    let w := word e.2 0
    (w.testBit 30, fieldOf w 16 11, fieldOf w 4 12 * 16, w.testBit 31))

/-- The enabled bindings of a logical Brick: output, number. -/
def Cfg.ios (c : Cfg) (l : Nat) : List (Bool × Nat) :=
  (c.ioItems l).filterMap (fun e => if e.2.2.2 then some (e.1, e.2.1) else none)

/-- The enabled trigger entries of a logical Brick: block program, ENTRY, declared cycles. The sums of R150 count these; of a trigger
item with EN = 0 the spec does not say. DESIGN CHOICE, log 95: unsafe. -/
def Cfg.trigs (c : Cfg) (l : Nat) : List (Bool × Nat × Nat) :=
  (c.progItems 3 l).filterMap (fun e =>
    let w := word e.2 0
    if w.testBit 31 then some (w.testBit 30, fieldOf w 0 15, word e.2 4) else none)

/-- Word ranges of the CODE runs, DATA runs, rings and banks of a logical Brick. -/
def Cfg.codeRuns (c : Cfg) (l : Nat) : List (Nat × Nat) := (c.progItems 1 l).map (fun e => (2 * e.1, e.2.length / 4))
/-- DATA runs. -/
def Cfg.dataRuns (c : Cfg) (l : Nat) : List (Nat × Nat) := (c.progItems 2 l).map (fun e => (e.1, e.2.length / 4))
/-- Rings, of enabled bindings or not (R531). -/
def Cfg.rings (c : Cfg) (l : Nat) : List (Nat × Nat) := (c.ioItems l).map (fun e => (e.2.2.1, 16))
/-- Banks: selector word, range A, range B, length. -/
def Cfg.banks (c : Cfg) (l : Nat) : List (Nat × Nat × Nat × Nat) :=
  (c.progItems 6 l).map (fun e => (leAt e.2 0 2, leAt e.2 2 2, leAt e.2 4 2, leAt e.2 6 2))

/-- R171. -/
def Cfg.rangesLegal (c : Cfg) (l : Nat) : Bool :=
  let banks := (c.banks l).flatMap (fun b => [(b.2.1, b.2.2.2), (b.2.2.1, b.2.2.2)])
  let fixed := c.codeRuns l ++ c.rings l
  disjoint (fixed ++ c.dataRuns l) && disjoint (fixed ++ banks)
    && (c.banks l).all (fun b => banks.all (fun r => !overlaps b.1 1 r.1 r.2))

/-- R150: the declared cycles of a logical Brick fit its budget. -/
def Cfg.budgetLegal (c : Cfg) (l : Nat) : Bool :=
  let ts := c.trigs l
  let sum (bg : Bool) : Nat := ts.foldl (fun n t => if t.1 == bg then n + t.2.2 else n) 0
  let ck := match c.item secPrograms (progKey 5 l 0) with
    | some v => leAt v 4 1
    | none => 0
  let cp := (c.ios l).length + ck + 8
  let ct := if c.fs96 then 12800 else 25600
  ts.isEmpty || (sum false + cp + 16 ≤ ct && sum true + 15 ≤ 2 * (ct - sum false - cp - 16))

/-- Branch targets of a CODE run lie inside the CODE items of the same logical Brick (R160). -/
def branchesLegal (runs : List (Nat × Nat)) : Nat → Nat → List Byte → Bool
  | 0, _, _ => true
  | n + 1, q, v =>
    let inside (rel : BitVec 12) : Bool :=
      let t := (((q : Int) + rel.toInt) % 32768).toNat
      runs.any (fun r => r.1 ≤ 2 * t && 2 * t < r.1 + r.2)
    (match decodeBundle (leAt v 0 8) with
     | some b => (match b.op with
       | .br _ rel => inside rel
       | .call _ rel => inside rel
       | _ => true)
     | none => true) && branchesLegal runs n (q + 1) (v.drop 8)

/-- The PROGRAMS section holds together (R150, R154, R160, R171). -/
def Cfg.programsLegal (c : Cfg) : Bool :=
  (c.items secPrograms).isEmpty || (
  (List.range nLogical).all (fun l =>
    c.rangesLegal l && c.budgetLegal l
      && (c.progItems 1 l).all (fun e => branchesLegal (c.codeRuns l) (e.2.length / 8) e.1 e.2))
    && (let ios := (List.range nLogical).flatMap (fun l => c.ios l)
        distinct (ios.filterMap (fun e => if e.1 then some e.2 else none))
          && distinct (ios.filterMap (fun e => if e.1 then none else some e.2))))

/-- Brick input numbers fed by a sense tap (R357). -/
def Cfg.taps (c : Cfg) : List Nat :=
  (c.items secAmp).flatMap (fun e =>
    let w := word e.2 32
    (if w.testBit 31 then [fieldOf w 16 11] else []) ++ (if w.testBit 15 then [fieldOf w 0 11] else []))

/-- R357. -/
def Cfg.tapsLegal (c : Cfg) : Bool :=
  let taps := c.taps
  taps.isEmpty || (
    let inputs := (List.range nLogical).flatMap (fun l => (c.ios l).filterMap (fun e => if e.1 then none else some e.2))
    distinct taps && taps.all (fun n => inputs.contains n && !(c.entries.any (fun e => e.2.2 == 1280 + n))))

/-- R342. -/
def Cfg.checkpointsLegal (c : Cfg) : Bool :=
  let states := (c.items secPrograms).filter (fun e => e.1 / 2 ^ 24 == 5)
  let area := 4096 * fieldOf (c.image secNode 0x221 0 0) 0 11
  states.all (fun e => (leAt e.2 2 2 + 1023) / 1024 ≤ leAt e.2 4 1)
    && 8 * states.foldl (fun n e => n + leAt e.2 2 2) 0 ≤ area

/-- HD_DAT is below LOW (chapter 14). -/
def Cfg.timingLegal (c : Cfg) : Bool :=
  fieldOf (c.image secPeripherals 0x02000004 0 62) 0 10 < fieldOf (c.image secPeripherals 0x02000001 0 139) 0 12

/-- Every item is well formed by itself. -/
def Cfg.itemsLegal (c : Cfg) : Bool :=
  c.all (fun s => secDefined s.1 && s.2.all (fun e => itemLegal c.fs96 s.1 e.1 e.2))

/-- A configuration that an image or a group may leave. -/
def Cfg.legal (c : Cfg) : Bool :=
  c.itemsLegal && c.classesLegal && c.granules ≤ 32768 && c.streamsLegal && c.selectorsLegal && c.programsLegal
    && c.tapsLegal && c.checkpointsLegal && c.timingLegal

/-! ## Changes (R95, R528) -/

/-- One change: section, key, new value, or none for a deletion. -/
abbrev Change := Nat × Nat × Option (List Byte)

/-- Apply one change to a configuration; an element at its reset image is not listed. -/
def Cfg.apply1 (c : Cfg) (ch : Change) : Cfg :=
  let items := c.items ch.1
  let v := match arrayCount ch.1, itemRegs ch.1 ch.2.1, ch.2.2 with
    | some _, some r, some x => if x = r.resetImage then none else some x
    | _, _, x => x
  match ch.2.2, tget c ch.1 with
  | none, none => c
  | _, _ => tput c ch.1 (some (tput items ch.2.1 v))

/-- Apply changes in order. -/
def Cfg.apply (c : Cfg) (chs : List Change) : Cfg := chs.foldl Cfg.apply1 c

/-- Items of a JRN_SET payload. -/
def setItems : Nat → List Byte → Option (List (Nat × List Byte))
  | 0, b => if b.all (· == 0) then some [] else none
  | n + 1, b =>
    let len := leAt b 4 2
    if b.length < 8 + len || leAt b 6 2 ≠ 0 then none
    else (setItems n (b.drop (8 + (len + 3) / 4 * 4))).map (fun r => (leAt b 0 4, (b.drop 8).take len) :: r)

/-- Keys of a JRN_DELETE payload. -/
def delKeys : Nat → List Byte → List Nat
  | 0, _ => []
  | n + 1, b => leAt b 0 4 :: delKeys n (b.drop 4)

/-- An item being built from chunks: section, key, TOTAL, pieces by offset. -/
abbrev Chunks := List (Nat × Nat × Nat × Tbl (List Byte))

/-- The bytes of a whole item, when its pieces cover it. -/
def joinPieces (total : Nat) (ps : Tbl (List Byte)) : Option (List Byte) :=
  let r := ps.foldl (fun (acc : Option (List Byte)) p =>
    match acc with
    | some b => if p.1 = b.length then some (b ++ p.2) else none
    | none => none) (some [])
  match r with
  | some b => if b.length = total then some b else none
  | none => none

/-- One record's changes, with the chunks still open. -/
def recChanges (r : Rec) (open_ : Chunks) : Option (List Change × Chunks) :=
  match r.type with
  | 0x20 => some ([], open_)
  | 0x21 =>
    let sec := leAt r.payload 0 2
    (setItems (leAt r.payload 2 2) (r.payload.drop 4)).map (fun is => (is.map (fun e => (sec, e.1, some e.2)), open_))
  | 0x22 =>
    let sec := leAt r.payload 0 2
    let key := leAt r.payload 4 4
    let ofs := leAt r.payload 8 4
    let total := leAt r.payload 12 4
    let bytes := r.payload.drop 16
    if r.payload.length < 16 || leAt r.payload 2 2 ≠ 0 || total < ofs + bytes.length then none
    else
      let old := (open_.find? (fun o => o.1 == sec && o.2.1 == key))
      let pieces := match old with
        | some o => o.2.2.2
        | none => []
      let same := match old with
        | some o => o.2.2.1 == total
        | none => true
      if !same || pieces.any (fun p => overlaps p.1 p.2.length ofs bytes.length) || (tget pieces ofs).isSome then none
      else
        let pieces := cins pieces ofs bytes
        -- the entry stays, so that a later chunk of the item overlaps
        let rest := open_.filter (fun o => !(o.1 == sec && o.2.1 == key)) ++ [(sec, key, total, pieces)]
        match joinPieces total pieces with
        | some v => some ([(sec, key, some v)], rest)
        | none => some ([], rest)
  | 0x23 =>
    let n := leAt r.payload 2 2
    let sec := leAt r.payload 0 2
    if r.payload.length < 4 + 4 * n then none
    else some ((delKeys n (r.payload.drop 4)).map (fun k => (sec, k, none)), open_)
  | _ => none

/-- The changes of a group's records in order, none when the group is malformed (R528, R531). -/
def groupChanges : List Rec → Chunks → Option (List Change)
  | [], open_ => if open_.all (fun o => (joinPieces o.2.2.1 o.2.2.2).isSome) then some [] else none
  | r :: rs, open_ =>
    match recChanges r open_ with
    | none => none
    | some (chs, open_) => (groupChanges rs open_).map (fun more => chs ++ more)

/-- Changes name defined sections and keys, and no change is malformed by itself. -/
def changesLegal (fs96 : Bool) (chs : List Change) : Bool :=
  chs.all (fun c => secDefined c.1 && keyLegal c.1 c.2.1 && (match c.2.2 with
    | some v => itemLegal fs96 c.1 c.2.1 v
    | none => true))

/-- The N of a JRN_APPLY_AT record at the head of a group. -/
def applyAtOf (recs : List Rec) : Option Nat :=
  match recs with
  | r :: _ => if r.type = 0x20 then some (leAt r.payload 0 8) else none
  | [] => none

/-! ## The canonical form (R95) -/

/-- The canonical bytes of one section. -/
def Cfg.canonical (c : Cfg) (sec : Nat) : List Byte :=
  match tget c sec with
  | none => []
  | some items =>
    match arrayCount sec with
    | some n => (List.range n).flatMap (fun k => (tget items k).getD (match itemRegs sec k with
        | some r => r.resetImage
        | none => []))
    | none => items.flatMap (fun e =>
        leBytes 4 e.1 ++ leBytes 4 e.2.length ++ e.2 ++ List.replicate ((4 - e.2.length % 4) % 4) 0)

/-- Elements of an array section's bytes. -/
def readArray (sec : Nat) : Nat → Nat → List Byte → Option (Tbl (List Byte))
  | 0, _, b => if b.isEmpty then some [] else none
  | n + 1, k, b =>
    match itemRegs sec k with
    | none => none
    | some r =>
      if b.length < r.size then none
      else (readArray sec n (k + 1) (b.drop r.size)).map (fun t =>
        if b.take r.size = r.resetImage then t else (k, b.take r.size) :: t)

/-- Items of a keyed section's bytes, keys strictly ascending, padding zero; `fuel` bounds their number. -/
def readKeyed : Nat → Option Nat → List Byte → Option (Tbl (List Byte))
  | 0, _, b => if b.isEmpty then some [] else none
  | n + 1, last, b =>
    if b.isEmpty then some []
    else
      let key := leAt b 0 4
      let len := leAt b 4 4
      let full := 8 + (len + 3) / 4 * 4
      let up := match last with
        | some l => decide (l < key)
        | none => true
      if b.length < full || !up || !(((b.drop (8 + len)).take ((4 - len % 4) % 4)).all (· == 0)) then none
      else (readKeyed n (some key) (b.drop full)).map (fun t => (key, (b.drop 8).take len) :: t)

/-- A section's items from its canonical bytes; none when they are not canonical. -/
def readSection (sec : Nat) (b : List Byte) : Option (Tbl (List Byte)) :=
  match arrayCount sec with
  | some n => readArray sec n 0 b
  | none => readKeyed (b.length / 8 + 1) none b

/-- The Daymark of a configuration (R120), 32 bytes. -/
def Cfg.daymark (c : Cfg) : List Byte :=
  sha256 (ascii "KAMYAN-DAYMARK-1" ++ ((List.range 15).map (· + 1)).flatMap (fun s =>
    let b := c.canonical s
    leBytes 2 s ++ leBytes 4 b.length ++ sha256 b))

end Sys2Proof.Machine
end

