-- ==== Sys2Proof/Machine/Dynamics.lean ====
section
/-! DEFINITION. The dynamics engine (R213 to R220) and the final limiters (R222). -/

namespace Sys2Proof.Machine

/-! ## Instance images -/

def DynInst.dst (d : DynInst) : Nat := fieldOf d.cfg0.toNat 0 12
def DynInst.sc (d : DynInst) : Nat := fieldOf d.cfg0.toNat 12 12
def DynInst.self (d : DynInst) : Bool := d.cfg0.getLsbD 30
def DynInst.lookahead (d : DynInst) : Nat := fieldOf d.cfg0.toNat 28 2
def DynInst.rms (d : DynInst) : Bool := d.cfg0.getLsbD 27
def DynInst.thr (d : DynInst) : Int := signed 16 (fieldOf d.cfg1.toNat 16 16)
def DynInst.knee (d : DynInst) : Nat := fieldOf d.cfg1.toNat 8 8
def DynInst.slope (d : DynInst) : Nat := fieldOf d.cfg1.toNat 0 8
def DynInst.attack (d : DynInst) : Nat := fieldOf d.cfg2.toNat 16 16
def DynInst.release (d : DynInst) : Nat := fieldOf d.cfg2.toNat 0 16
def DynInst.makeupCode (d : DynInst) : Int := signed 16 (fieldOf d.cfg3.toNat 16 16)
def DynInst.link (d : DynInst) : Nat := fieldOf d.cfg3.toNat 8 8
def DynInst.rmsMs (d : DynInst) : Nat := fieldOf d.cfg3.toNat 0 8

/-- The four images of an instance. -/
abbrev DynCfg := Word32 × Word32 × Word32 × Word32

/-- EN of an image. -/
def DynCfg.en (c : DynCfg) : Bool := c.1.getLsbD 31

/-- The images the registers hold. -/
def State.dynCfg (s : State) (i : Nat) : DynCfg :=
  (BitVec.ofNat 32 (s.rg (DYN_INST_CFG0 i)), BitVec.ofNat 32 (s.rg (DYN_INST_CFG1 i)),
   BitVec.ofNat 32 (s.rg (DYN_INST_CFG2 i)), BitVec.ofNat 32 (s.rg (DYN_INST_CFG3 i)))

/-- An instance attached at unity gain with a detector level of −128 dB (R219). -/
def State.newInst (s : State) (c : DynCfg) : DynInst :=
  let d : DynInst := ⟨c.1, c.2.1, c.2.2.1, c.2.2.2, 0, 0, ⟨0, 0, 0, 0⟩, [], 0⟩
  { d with makeup := ⟨0, d.makeupCode, 0, s.rampLen 0⟩ }

/-- Put an instance among the detaching ones of a table, in ascending index. -/
def insertDet (i : Nat) (d : DynInst) : List (Nat × DynInst) → List (Nat × DynInst)
  | [] => [(i, d)]
  | e :: es => if i < e.1 then (i, d) :: e :: es else e :: insertDet i d es

/-- A destination whose latency change goes through its mute factor (R220). -/
def hasMute (d : Nat) : Bool := isNetDst d || isTdmDst d || isModDst d

/-- The private delay cleared; and, for a detaching instance, gone. -/
def DynInst.clearLook (d : DynInst) : DynInst := { d with look := [] }
def DynInst.noLook (d : DynInst) : DynInst :=
  { d with look := [], cfg0 := BitVec.ofNat 32 (withField d.cfg0.toNat 28 2 0) }

/-- An instance leaves its destination: it goes on releasing there (R219). At a Brick input its look-ahead ends at the change (R220);
elsewhere with the mute. -/
def State.detachInst (s : State) (i : Nat) (d : DynInst) : State :=
  let d := if hasMute d.dst then d else d.noLook
  let d := { d with makeup := ⟨d.makeup.gain, 0, 0, s.rampLen 0⟩ }
  { s with audio := { s.audio with dyn := cdel s.audio.dyn i, detaching := insertDet i d s.audio.detaching } }

/-- Attach an instance. -/
def State.attachInst (s : State) (i : Nat) (c : DynCfg) : State :=
  { s with audio := { s.audio with dyn := cins s.audio.dyn i (s.newInst c) } }

/-- New images for an instance that stays attached: g stays, MAKEUP ramps (R219). -/
def State.updateInst (s : State) (i : Nat) (d : DynInst) (c : DynCfg) : State :=
  let n : DynInst := { d with cfg0 := c.1, cfg1 := c.2.1, cfg2 := c.2.2.1, cfg3 := c.2.2.2 }
  let n := if n.makeupCode = d.makeupCode then n
    else { n with makeup := ⟨d.makeup.gain, n.makeupCode, 0, s.rampLen 0⟩ }
  let n := if n.lookahead = d.lookahead then n else { n with look := [] }
  { s with audio := { s.audio with dyn := cins s.audio.dyn i n } }

/-- Make a change of an instance's images. -/
def State.makeInstChange (s : State) (i : Nat) (c : DynCfg) : State :=
  match tget s.audio.dyn i with
  | none => if DynCfg.en c then s.attachInst i c else s
  | some d =>
    if !DynCfg.en c then s.detachInst i d
    else if fieldOf c.1.toNat 0 12 != d.dst then (s.detachInst i d).attachInst i c
    else s.updateInst i d c

/-- The destinations whose latency the change of an instance alters (R220). -/
def State.latencyDsts (s : State) (i : Nat) (c : DynCfg) : List Nat :=
  let newDst := fieldOf c.1.toNat 0 12
  let newLook := fieldOf c.1.toNat 28 2
  match tget s.audio.dyn i with
  | none => if DynCfg.en c && newLook != 0 then [newDst] else []
  | some d =>
    if !DynCfg.en c then (if d.lookahead != 0 then [d.dst] else [])
    else if newDst != d.dst then
      (if d.lookahead != 0 then [d.dst] else []) ++ (if newLook != 0 then [newDst] else [])
    else if newLook != d.lookahead then [newDst] else []

/-- A change of the four images of instance `i` at its tick (R219, R220). One that comes while the mute of an earlier one fades out
replaces it, and the mute goes on. DESIGN CHOICE, log 95: unsafe. -/
def State.changeInst (s : State) (i : Nat) (c : DynCfg) : State :=
  let muted := (s.latencyDsts i c).filter hasMute
  if muted.isEmpty && (tget s.audio.lookWait i).isNone then s.makeInstChange i c
  else
    let s := muted.foldl (fun s d => s.mapMute d (Mute.add (.lookahead i) s.ms5)) s
    { s with audio := { s.audio with lookWait := cins s.audio.lookWait i c } }

/-- An instance's registers are written; the change is made at the next tick (R34). -/
def State.noteInst (s : State) (i : Nat) (c : DynCfg) : State :=
  let s := ((s.setRg (DYN_INST_CFG0 i) c.1.toNat).setRg (DYN_INST_CFG1 i) c.2.1.toNat).setRg (DYN_INST_CFG2 i) c.2.2.1.toNat
    |>.setRg (DYN_INST_CFG3 i) c.2.2.2.toNat
  { s with audio := { s.audio with touchedInsts := addIndex i s.audio.touchedInsts } }

/-- An instance has these images, or is changing to them; one that is not attached counts as disabled. -/
def State.instTarget (s : State) (i : Nat) (c : DynCfg) : Bool :=
  match tget s.audio.lookWait i, tget s.audio.dyn i with
  | some w, _ => w == c
  | none, some d => (d.cfg0, d.cfg1, d.cfg2, d.cfg3) == c
  | none, none => !DynCfg.en c

/-- The destinations muted for instance `i`. -/
def State.lookMuted (s : State) (i : Nat) : List Nat :=
  (s.audio.mutes.filter (fun e => e.2.reasons.contains (.lookahead i))).map (fun e => e.1)

/-- LOOKAHEAD_CHANGE (R220): the mute of instance `i`'s destination is complete; the change is made whole, the private
delay cleared, and the mute fades in. -/
def effLookaheadChange (i : Nat) (s : State) : State :=
  match tget s.audio.lookWait i with
  | none => s
  | some c =>
    if !((s.lookMuted i).all (fun d => (s.muteOf d).ended)) then s
    else
      let s := { s with audio := { s.audio with lookWait := cdel s.audio.lookWait i } }
      let s := s.makeInstChange i c
      let s := { s with audio := { s.audio with
        detaching := s.audio.detaching.map (fun (e : Nat × DynInst) => if e.1 = i then (e.1, e.2.noLook) else e)
        dyn := s.audio.dyn.map (fun (e : Nat × DynInst) => if e.1 = i then (e.1, e.2.clearLook) else e) } }
      (s.lookMuted i).foldl (fun s d => s.mapMute d (Mute.remove (.lookahead i) (s.rampLen 0))) s

/-- A detaching instance stands at 0 dB with its make-up (R219). -/
def DynInst.gone (d : DynInst) : Bool := d.g = 0 && d.makeup.len ≤ d.makeup.k

/-- DYN_DETACH (R219): instance `i` detaches once g and the make-up stand at 0 dB. -/
def effDynDetach (i : Nat) (s : State) : State :=
  { s with audio := { s.audio with detaching := s.audio.detaching.filter (fun e => !(e.1 = i && e.2.gone)) } }

/-- R70: detachments end at their target, make-up ramps too. -/
def State.finishDyn (s : State) : State :=
  { s with audio := { s.audio with detaching := [], dyn := tmap (fun _ d => { d with makeup := d.makeup.atEnd }) s.audio.dyn } }

/-! ## Detector and gain -/

/-- The detector at one tick (R214): the level in Q8.16 dBFS and the mean square kept. -/
def State.detect (s : State) (d : DynInst) (x : Int) : Int × Nat :=
  let ms := max 1 d.rmsMs
  if d.rms then
    let beta : Int := 2 ^ 64 - expNegQ64 1000 (ms * s.fs)
    let m := (d.mean + rhe (beta * (4 * x * x - d.mean)) (2 ^ 64)).toNat
    (if m = 0 then -8388608 else powerDbQ16 m (2 ^ 64), m)
  else (levelQ16 x.natAbs 31, d.mean)

/-- The static curve (R215): G in Q8.16 dB. KNEE is W in 0.25 dB, SLOPE 255 codes S = 1. -/
def DynInst.curve (d : DynInst) (l : Int) : Int :=
  let sn : Int := if d.slope = 255 then 256 else d.slope
  let t : Int := d.thr * 256
  let w : Int := d.knee * 16384
  let g : Int :=
    if 2 * l < 2 * t - w then 0
    else if w != 0 && 2 * l ≤ 2 * t + w then
      let a := 2 * l - 2 * t + w
      rhe (-(sn * a * a)) (256 * 8 * w).toNat
    else rhe (-(sn * (l - t))) 256
  satTo (-8388608) 0 g

/-- One tick of an instance's own gain: detector, curve, smoothing (R214 to R216). -/
def State.instTick (s : State) (d : DynInst) (x : Int) (detached : Bool) : DynInst :=
  let (l, m) := s.detect d x
  let target := if detached then 0 else d.curve l
  let g := smooth d.g target (alphaQ24 (d.attack * s.fs) 100000) (alphaQ24 (d.release * s.fs) 10000)
  { d with g := satTo (-8388608) 8388607 g, mean := m }

/-- The gain every enabled member of a LINK group applies (R217). -/
def linkedGain (all : List (Nat × DynInst)) (d : DynInst) : Int :=
  if d.link = 0 then d.g
  else (all.filter (fun e => e.2.link = d.link)).foldl (fun g e => min g e.2.g) d.g

/-- Apply an instance to a value: its look-ahead delay, then g + MAKEUP (R218, R220). Answers the saturation too. -/
def DynInst.apply (d : DynInst) (g x : Int) : DynInst × Int × Bool :=
  let la := d.lookahead
  let x1 := if la = 0 then x else d.look.getD (la - 1) 0
  let y := applyGain x1 (gainCode (rhe (g + d.makeup.gain * 256) 256))
  ({ d with look := (x :: d.look).take la, applied := g, makeup := d.makeup.tick }, sat48 y, y != sat48 y)

/-! ## Final limiters (R222) -/

/-- The limiter of a destination (Table 7.1). -/
def limiterOf (d : Nat) : Option Nat :=
  if d < 1280 then some d else if isModDst d then some (d - 2048) else none

/-- C of step 5: 2^31 × 10^(T_L / 5120), rounded half-even once, saturated. DEDUCED, log 18: unsafe. -/
def clampAt (thr : Int) : Int :=
  let y : Int := thr * fxLn10 / 5120
  let e := y / (fxLn2 : Int)
  let v : Int := fxExp (y - e * fxLn2).toNat
  min (2 ^ 31 - 1) (if 97 ≤ e then v * 2 ^ (e - 97).toNat else rhe v (2 ^ (97 - e).toNat))

/-- An enabled limiter at one tick. -/
def State.limiterTick (s : State) (i : Nat) (x : Int) : State × Int :=
  if !s.bit (F.DYN_LIM_CFG_EN i) then
    (if (tget s.audio.lim i).isSome then
      { s with audio := { s.audio with lim := cdel s.audio.lim i, limApplied := cdel s.audio.limApplied i } } else s, x)
  else
    let thr := s.getS (F.DYN_LIM_CFG_THR i)
    let g0 := tgetD s.audio.lim i 0
    let target := min 0 (satTo (-33554432) 33554431 (thr * 256 - (if x = 0 then -8388608 else dbOf 65536 x.natAbs 31)))
    let att := s.get (F.DYN_LIM_TIME_ATTACK i)
    let g := satTo (-8388608) 8388607 (smooth g0 target (if att = 0 then 0 else alphaQ24 (att * s.fs) 100000)
      (alphaQ24 (s.get (F.DYN_LIM_TIME_RELEASE i) * s.fs) 10000))
    let code := gainCode (g / 256)
    let y := sat48 (applyGain x code)
    let c := clampAt thr
    let z := satTo (-c) c y
    let s := { s with audio := { s.audio with lim := cins s.audio.lim i g, limApplied := cins s.audio.limApplied i code } }
    (if z = y then s else s.bump F.DYN_CNT_CLIP, z)

/-! ## Meanings of the commands -/

/-- DYN_DETACH (R219). -/
def execDynDetach (i : Fin 1280) (s : State) : Result :=
  runs s (effDynDetach i.val)

/-- LOOKAHEAD_CHANGE (R220). -/
def execLookaheadChange (i : Fin 1280) (s : State) : Result :=
  runs s (effLookaheadChange i.val)

end Sys2Proof.Machine
end

