-- ==== Sys2Proof/Machine/Audio.lean ====
section
/-! DEFINITION. The audio engine at a tick: TDM ports (R201), Brick rings and triggers (R146 to R151), destination
processing (Table 1.5), the output stage (Table 1.3), meters (R202). -/

namespace Sys2Proof.Machine

/-! ## TDM ports (R201) -/

/-- Slot `s` of port `p` carries audio in a direction. -/
def State.tdmSlot (s : State) (mask p slot : Nat) : Bool :=
  s.bit (F.GLB_TDM_CFG_EN p) && mask.testBit slot && (!s.node.fs96 || slot < 16)

/-- The samples of a frame: `words` holds the received slot words by port × 32 + slot. -/
def State.tdmIn (s : State) (words : Tbl Nat) : Tbl Int :=
  words.filterMap (fun e =>
    let p := e.1 / 32
    if p < 8 && s.tdmSlot (s.rg (GLB_TDM_RXEN p)) p (e.1 % 32) then
      some (1024 + e.1, signed 32 (if s.bit (F.GLB_TDM_CFG_FMT p) then e.2 % 2 ^ 32 else e.2 % 2 ^ 32 / 256 * 256))
    else none)

/-- A transmitted slot word (R20). -/
def slotWord (l32 : Bool) (v : Int) : Nat :=
  if l32 then unsigned 32 v else unsigned 24 (satTo (-(2 ^ 23)) (2 ^ 23 - 1) (rhe v 256)) * 256

/-- The slots of a frame from the values at the boundary. -/
def State.tdmFrame (s : State) (vals : Tbl Int) : Tbl (Option Nat) :=
  (List.range 256).filterMap (fun i =>
    let p := i / 32
    if !s.bit (F.GLB_TDM_CFG_EN p) || (s.node.fs96 && 16 ≤ i % 32) then none
    else if s.tdmSlot (s.rg (GLB_TDM_TXEN p)) p (i % 32) then
      some (1024 + i, some (slotWord (s.bit (F.GLB_TDM_CFG_FMT p)) (tgetD vals (1024 + i) 0)))
    else some (1024 + i, if s.bit (F.GLB_TDM_CFG_TXHIZ p) then none else some 0))

/-! ## Bricks at a tick (R146 to R151) -/

/-- C_T, the cycles of a Ts (R150). -/
def State.cyclesPerTs (s : State) : Nat := if s.node.fs96 then 12800 else 25600

/-- BRK_STAT and BRK_TN, BRK_PC show a Brick. -/
def State.showBrick (s : State) (b : Nat) : State :=
  let br := s.brick b
  let s := s.putBit (F.BRK_STAT_FG_RUN b) br.fgWork.isSome
  let s := s.putBit (F.BRK_STAT_BG_RUN b) br.bgWork.isSome
  let s := s.putBit (F.BRK_STAT_IDLE b) (br.fgWork.isNone && br.bgWork.isNone)
  let s := (s.put (F.BRK_PC_PC_FG b) br.fg.pc.toNat).put (F.BRK_PC_PC_BG b) br.bg.pc.toNat
  s.setRg (BRK_TN b) br.fg.tn.toNat

/-- R151: work of a context that has not ended in its time is stopped, and both stacks of the context are cleared (Table 5.9).
Entries it
did not reach were not dispatched (R195). The cycles it used go to LAST and MAX of its BRK_CYC register, of which the spec says only that LAST is of the last completed
tick or block. DEDUCED, log 14: unsafe. DESIGN CHOICE, log 13: unsafe. -/
def State.stopOverrun (s : State) (b : Nat) (sel : CtxSel) : State :=
  match (s.brick b).work sel with
  | none => s
  | some w =>
    let br := (((s.brick b).setWork none sel).clearStacks sel)
    let s := (s.setBrick b { br with ready := br.ready.filter (fun e => !w.rest.contains e.1) }).recordCycles b sel w.cycles
    let s := match sel with
      | .fg => (s.putBit (F.BRK_STAT_OVR_FG b) true).bump (F.BRK_OVR_CNT_FG b)
      | .bg => (s.putBit (F.BRK_STAT_OVR_BG b) true).bump (F.BRK_OVR_CNT_BG b)
    (s.showBrick b).latch 2

/-- BRICK_OVERRUN (R151): the work of a context has not ended by its tick. DEDUCED, log 14: unsafe. -/
def effBrickOverrun (b : Nat) (sel : CtxSel) (s : State) : State :=
  match (s.brick b).work sel, sel with
  | some _, .fg => s.stopOverrun b .fg
  | some w, .bg => if 2 ≤ w.age then s.stopOverrun b .bg else s
  | none, _ => s

/-- Start the enabled entries of a kind, in index order (R146), in work that has used `used` cycles and whose cycle 0 stands at
cycle `base` of the Ts. -/
def State.startEntries (s : State) (b : Nat) (sel : CtxSel) (entries : List (Nat × Nat)) (tn used base : Nat) : State :=
  match entries with
  | [] => s
  | (k, img) :: rest =>
    s.enterEntry b sel k (fieldOf img 0 15) (BitVec.ofNat 32 tn)
      { rest := rest.map (fun r => r.1), cycles := used, recent := [], age := 0, base := base }

/-- Logical Bricks with a STATE area. -/
def State.stateBricks (s : State) : List Nat := (List.range nLogical).filter (fun l => (s.stateArea l).isSome)

/-- The words the checkpoint engine reads of logical Brick `l` at the present tick: CK_WORDS while its round runs (R341). -/
def State.ckptWords (s : State) (l : Nat) : Nat :=
  let c := tgetD s.pair.ckpt l ⟨0, 0, false, 0, none⟩
  match s.stateArea l with
  | none => 0
  | some (_, len, _) =>
    let ck := s.get (F.BRK_PORT_CK_WORDS (s.physOf l))
    if s.node.n.toNat % 1024 = 0 then min ck len else if c.running then min ck (len - c.pos) else 0

/-- The Course-port requests of a Brick's samples and checkpoint reads in one Ts: at most I + O + CK (R142). -/
def State.portWords (s : State) (b : Nat) : Nat :=
  ((s.stateBricks.filter (fun l => s.physOf l == b)).map (fun l => s.ckptWords l)).foldl (· + ·)
    (s.ioBindings.filter (fun e => e.1 == b)).length

/-- `n` cycles after cycle `c` of the Ts in which Brick `b` runs no bundle: its port serves. -/
def State.portIdle (s : State) (b c n : Nat) : State :=
  s.setBrick b { s.brick b with port := CPort.idle (c + 1) n (s.brick b).port }

/-- A Ts begins for Brick `b`'s port, and dispatch takes 16 cycles of it (R149). -/
def State.portStart (s : State) (b : Nat) : State :=
  let br := s.brick b
  (s.setBrick b { br with port := ⟨s.portWords b, br.port.mgmt, br.port.old, 0, 0, []⟩ }).portIdle b 0 16

/-- The rest of the Ts after cycle `c`, and BRK_PORT.STEAL_MAX. -/
def State.portEnd (s : State) (b c : Nat) : State :=
  let s := s.portIdle b c (s.cyclesPerTs - c)
  let br := s.brick b
  -- what is left has waited longer than what arrives in the next Ts
  let s := s.setBrick b { br with port := { br.port with old := br.port.old + br.port.mgmt, mgmt := 0 } }
  s.put (F.BRK_PORT_STEAL_MAX b) (max (min 65535 (s.brick b).port.steals) (s.get (F.BRK_PORT_STEAL_MAX b)))

/-- The background of Brick `b` in what the foreground leaves of the Ts, which has used `used` cycles of it: 5 cycles to switch to
a block's first program, 10 for a suspension and the resumption after it (R149). The cycle of the Ts at which it ends.
DEDUCED, log 14: unsafe. -/
def State.backTick (s : State) (b used : Nat) (entries : List (Nat × Nat)) (tn : Nat) : State × Nat :=
  let ct := s.cyclesPerTs
  let s := if entries.isEmpty then s else (s.portIdle b used (min 5 (ct - used))).startEntries b .bg entries tn 5 used
  match (s.brick b).bgWork with
  | none => (s, used)
  | some w =>
    let s := if w.age = 0 then s else s.portIdle b used (min 10 (ct - used))
    let base : Int := if w.age = 0 then used else (used : Int) - w.cycles
    let w := { w with cycles := if w.age = 0 then w.cycles else w.cycles + 10, age := w.age + 1, base := base }
    let s := runWork b .bg (ct - base).toNat ct (s.setBrick b { s.brick b with bgWork := some w })
    match (s.brick b).bgWork with
    | some w => (s, (base + w.cycles).toNat)
    | none => (s, (base + s.get (F.BRK_CYC_BG_LAST b)).toNat)

/-- The counts of R195 at the end of a tick's foreground: an entry keeps its count when it was dispatched at this tick, or when it
is a block entry that a run can still dispatch. -/
def Brick.keepReady (br : Brick) (fore back : List Nat) : Brick :=
  let rest := match br.fgWork with
    | some w => w.rest
    | none => []
  { br with ready := br.ready.filter (fun e => (fore.contains e.1 && !rest.contains e.1) || back.contains e.1) }

/-- The trigger entries that act at tick `t`, per-sample and block: a per-sample entry once an input has been written, a block
entry at a block boundary once a whole block has been (R41, R274). -/
def State.dueTriggers (s : State) (b t : Nat) : List (Nat × Nat) × List (Nat × Nat) :=
  let trig := s.triggers b
  let age := (t + 2 ^ 64 - s.audio.startN) % 2 ^ 64
  (if 1 ≤ age then trig.filter (fun e => !e.2.testBit 30) else [],
   if t % 8 = 0 && 8 ≤ age then trig.filter (fun e => e.2.testBit 30) else [])

/-- One Brick at tick `t`: foreground first, then the background in what is left of the Ts. With RUN 0 a program that is running
ends its run and no further entry starts. At a tick without a per-sample program BRK_CYC_FG.LAST stays as it was.
DEDUCED, log 14: unsafe. DESIGN CHOICE, log 13: unsafe. -/
def State.brickTick (s : State) (b t : Nat) (held : Bool) : State :=
  let s := s.stopOverrun b .fg
  let late := match (s.brick b).bgWork with
    | some w => decide (2 ≤ w.age)
    | none => false
  let s := if late then s.stopOverrun b .bg else s
  let ct := s.cyclesPerTs
  let run := s.bit (F.BRK_CTL_RUN b) && !s.outOfService b && !held
    && s.pair.takeovers.all (fun k => k.commanded || k.failed != b) && s.flt.reliefNone.all (fun l => s.physOf l != b)
  let (fore, back) := if run then s.dueTriggers b t else ([], [])
  let s := if s.bit (F.BRK_CTL_RUN b) then s
    else s.setBrick b { s.brick b with bgWork := (s.brick b).bgWork.map (fun w => { w with rest := [] }) }
  let s := (s.portStart b).startEntries b .fg fore (t + 2 ^ 64 - 1) 16 0
  let s := runWork b .fg ct ct s
  let blocks := if run then ((s.triggers b).filter (fun e => e.2.testBit 30)).map (fun e => e.1) else []
  let s := s.setBrick b ((s.brick b).keepReady (fore.map (fun e => e.1)) blocks)
  let (s, used) := match (s.brick b).fgWork with
    | some w => (s.portIdle b w.cycles (ct - w.cycles), ct)
    | none => (s, if fore.isEmpty then 16 else s.get (F.BRK_CYC_FG_LAST b))
  let (s, pos) := s.backTick b used back (t + 2 ^ 64 - 8)
  (s.portEnd b pos).showBrick b

/-- The Bricks that have a trigger entry, work or a count of dispatches. -/
def State.liveBricks (s : State) : List Nat :=
  (List.range 96).filter (fun b =>
    s.regs.any (fun e => 0x2000100 + 0x10000 * b ≤ e.1 && e.1 < 0x2000140 + 0x10000 * b && e.2.getLsbD 31)
      || (s.brick b).fgWork.isSome || (s.brick b).bgWork.isSome || !(s.brick b).ready.isEmpty)

/-- The input samples of tick `t` enter the rings (R41, R148). -/
def State.writeRings (s : State) (t : Nat) (held : Nat → Bool) : State :=
  s.ioBindings.foldl (fun s e =>
    if e.2.1 || s.outOfService e.1 || held e.1 then s
    else s.setBrickWord e.1 (e.2.2.2 + t % 16) (BitVec.ofInt 32 (tgetD s.audio.brickIn (1280 + e.2.2.1) 0))) s

/-! ## Destination processing (Table 1.5) -/

/-- Step 2 for every destination with a line: values after the delay line. -/
def State.delayAll (s : State) (t : Nat) (full : Tbl Int) : State × Tbl Int :=
  s.audio.lines.foldl (fun acc e =>
    let (s', y) := State.lineTick acc.1 e.1 t (tgetD full e.1 0)
    (s', cins acc.2 e.1 y)) (s, full)

/-- The detector input of an instance (R213). -/
def State.detectorInput (s : State) (binds : List (Nat × Bool × Nat × Nat)) (t : Nat) (vals : Tbl Int) (d : DynInst) : Int :=
  if d.self then tgetD vals d.dst 0 else s.sourceAt binds t d.sc false (isBrickDst d.dst) none

/-- Step 3 for every destination with an instance (R213 to R219). -/
def State.dynAll (s : State) (t : Nat) (vals : Tbl Int) : State × Tbl Int × Nat :=
  let binds := s.ioBindings
  let on := tmap (fun _ d => s.instTick d (s.detectorInput binds t vals d) false) s.audio.dyn
  let det := s.audio.detaching.map (fun e => (e.1, s.instTick e.2 (s.detectorInput binds t vals e.2) true))
  let applyOne (acc : List (Nat × DynInst) × Tbl Int × Nat) (e : Nat × DynInst) (g : Int) :=
    let (d, y, sat) := e.2.apply g (tgetD acc.2.1 e.2.dst 0)
    (acc.1 ++ [(e.1, d)], cins acc.2.1 e.2.dst y, acc.2.2 + (if sat then 1 else 0))
  let r1 := det.foldl (fun acc e => applyOne acc e e.2.g) ([], vals, 0)
  let r2 := on.foldl (fun acc e => applyOne acc e (linkedGain on e.2)) ([], r1.2.1, r1.2.2)
  ({ s with audio := { s.audio with dyn := r2.1, detaching := r1.1 } }, r2.2.1, r2.2.2)

/-- Show the applied reductions (DYN_INST_GR, DYN_LIM_GR): of every instance that acts, one that detaches among them, and of every
limiter; what does not act shows 0. One that detaches while it acts on a new destination shows what it applies there.
DESIGN CHOICE, log 95: unsafe. -/
def State.showGains (s : State) : State :=
  let red (g : Int) : Nat := (satTo 0 65535 (-g)).toNat
  let s := { s with regs := s.regs.filter (fun e =>
    !((DYN_INST_GR 0 ≤ e.1 && e.1 < DYN_INST_GR 640) || (DYN_LIM_GR 0 ≤ e.1 && e.1 < DYN_LIM_GR 672))) }
  let insts := s.audio.dyn.foldl (fun (m : Tbl DynInst) e => cins m e.1 e.2) s.audio.detaching
  let s := insts.foldl (fun s e =>
    s.put (if e.1 % 2 = 0 then F.DYN_INST_GR_GR_EVEN (e.1 / 2) else F.DYN_INST_GR_GR_ODD (e.1 / 2)) (red (rhe e.2.applied 256))) s
  s.audio.limApplied.foldl (fun s e =>
    s.put (if e.1 % 2 = 0 then F.DYN_LIM_GR_GR_EVEN (e.1 / 2) else F.DYN_LIM_GR_GR_ODD (e.1 / 2)) (red e.2)) s

/-- Mute, limiter and saturation of one destination (R191, R222, step 5). -/
def State.finishDst (s : State) (d : Nat) (v : Int) : State × Int :=
  let m := if hasMute d then sat48 (rhe (v * (s.muteOf d).factor) (2 ^ 30)) else v
  let (s, x) := match limiterOf d with
    | some i => s.limiterTick i m
    | none => (s, m)
  let y := sat32 x
  (if y = x then s else (s.bump F.PATCH_SAT_CNT_OUT_SAT).latch 47, y)

/-- The destinations with something to process. -/
def State.busyDsts (s : State) (full low : Tbl Int) : List Nat :=
  let lims : Tbl Int := s.audio.lim.map (fun e => (if e.1 < 1280 then e.1 else e.1 + 2048, (0 : Int)))
  (((full ++ low).foldl (fun m e => cins m e.1 e.2) lims).map (fun e => e.1)).filter (fun d => d < 3392)

/-- The destinations of enabled sense taps: Brick input number's destination and history key (R357). -/
def State.taps (s : State) : List (Nat × Nat) :=
  (List.range 64).flatMap (fun m =>
    (if s.bit (F.AMP_CH_TAP_U_EN m) then [(1280 + s.get (F.AMP_CH_TAP_U_NUM m), 8192 + 2 * m + 1)] else []) ++
    (if s.bit (F.AMP_CH_TAP_J_EN m) then [(1280 + s.get (F.AMP_CH_TAP_J_NUM m), 8192 + 2 * m)] else []))

/-- The sums of the two classes of a destination add (R197), and whether the addition saturated (R185). -/
def joinSums (a b : Int) : Int × Nat := (sat48 (a + b), if sat48 (a + b) = a + b then 0 else 1)

/-- What every meter reads after step 1 of Table 1.5, and the saturations of joining its classes. -/
def Sums.meters (m : Sums) : Tbl Int × Nat :=
  let full := m.full.filter (fun e => decide (3392 ≤ e.1))
  (m.low.filter (fun e => decide (3392 ≤ e.1))).foldl (fun acc e =>
    let r := joinSums (tgetD m.full e.1 0) e.2
    (cins acc.1 e.1 r.1, acc.2 + r.2)) (full, 0)

/-- The patch engine, delay lines, dynamics and limiters at tick `t` (Table 1.5). -/
def State.processDsts (s : State) (t : Nat) : State :=
  let sums := s.mixSums t
  let meters := sums.meters
  let (s, v2) := s.delayAll t sums.full
  let (s, v3, sats) := s.dynAll t v2
  let dsts := (s.busyDsts v3 sums.low).map (fun d => (d, joinSums (tgetD v3 d 0) (tgetD sums.low d 0)))
  let total := sums.sats + meters.2 + sats + (dsts.map (fun e => e.2.2)).foldl (· + ·) 0
  let s := s.bump F.PATCH_SAT_CNT_SUM_SAT total
  let s := if total = 0 then s else s.latch 47
  let r := dsts.foldl (fun acc d =>
    let (s', y) := State.finishDst acc.1 d.1 d.2.1
    (s', cins acc.2 d.1 y)) (s, ([] : Tbl Int))
  let s := r.1
  let tapped : Tbl Int := s.taps.foldl (fun m e => cins m e.1 (tgetD (s.audio.history.getD 3 []) e.2 0)) r.2
  let ins : Tbl Int := tapped.filter (fun e => isBrickDst e.1)
  let outs : Tbl Int := tapped.filter (fun e => !isBrickDst e.1)
  { s with audio := { s.audio with
    sums := meters.1
    brickIn := ins
    pipe := (outs ++ meters.1) :: s.audio.pipe.take 2 } }.showGains

/-! ## Meters (R202) -/

/-- Code a level as PEAK_DB codes it: `num` / 2^frac is the amplitude. -/
def meterCode (num frac : Nat) : Nat :=
  if num = 0 then 0x8000 else unsigned 16 (satTo (-32767) 32767 (dbOf 256 num frac))

/-- Window of meter `j` in samples. -/
def State.meterWin (s : State) (j : Nat) : Nat := 8 * 2 ^ s.get (F.METER_CFG_WIN j)

/-- One sample of meter `j` at sample count `n`. A meter that nothing has fed since audio started has read zeros. -/
def State.meterTick (s : State) (j n : Nat) (v : Int) : State :=
  let code := meterCode v.natAbs 31
  let s := if signed 16 (s.get (F.METER_PEAK_PEAK_DB j)) < signed 16 code then s.put (F.METER_PEAK_PEAK_DB j) code else s
  let s := if 2 ^ 31 - 1 < v.natAbs then s.bump (F.METER_PEAK_OVER j) else s
  let w := s.meterWin j
  let m := (tget s.audio.meters j).getD ⟨0, n % w, decide (n % w ≤ (n + 2 ^ 64 - s.audio.startN) % 2 ^ 64), none⟩
  let m := if n % w = 0 then { m with sumSq := 0, cnt := 0, running := true } else m
  let m := if m.running then { m with sumSq := m.sumSq + v.natAbs * v.natAbs, cnt := m.cnt + 1 } else m
  let m := if m.running && m.cnt = w then { m with running := false, done := some (m.sumSq, w) } else m
  { s with audio := { s.audio with meters := cins s.audio.meters j m } }

/-- METER_WINDOW_END (R202): the reading of the window that has ended. -/
def effMeterWindowEnd (j : Nat) (s : State) : State :=
  match (tget s.audio.meters j).bind (fun m => m.done) with
  | none => s
  | some (sum, w) =>
    -- 10 log10 of the mean of s^2: half of 20 log10 of sum / (w × 2^62)
    let code := if sum = 0 then 0x8000
      else unsigned 16 (satTo (-32767) 32767 (rhe ((fxLnNat sum - fxLnNat (w * 2 ^ 62)) * 2560) fxLn10))
    let s := s.put (F.METER_RMS_RMS_DB j) code
    { s with audio := { s.audio with meters := tmap (fun i m => if i = j then { m with done := none } else m) s.audio.meters } }

/-- The meters that have been fed. -/
def State.metersTick (s : State) (n : Nat) (vals : Tbl Int) : State :=
  let live := (vals.filter (fun e => 3392 ≤ e.1 && e.1 < 3648)).foldl (fun m e => cins m (e.1 - 3392) e.2)
    (s.audio.meters.map (fun e => (e.1, (0 : Int))))
  live.foldl (fun s e => s.meterTick e.1 n e.2) s

/-! ## The tick of the audio engine -/

/-- Boundary samples of tick `t`: network receive, TDM inputs, sense signals, generators (Table 1.2). -/
def State.boundary (s : State) (t : Nat) (net tdm : Tbl Int) : Tbl Int :=
  let sense := (List.range 64).map (fun m => (3328 + m, s.senseSource m))
  let gens := (List.range 63).map (fun g => (3393 + g, s.generator g t))
  let raw := s.amp.sense.map (fun e => (8192 + e.1, e.2))
  (net ++ tdm ++ sense ++ gens ++ raw).foldl (fun m e => if e.2 = 0 then m else cins m e.1 e.2) []

/-- Bricks, patch engine, dynamics and limiters at tick `t`, with the boundary samples of the tick. -/
def State.engineTick (s : State) (t : Nat) (net tdm : Tbl Int) (held : Nat → Bool) : State :=
  let s := s.writeRings t held
  let s := s.liveBricks.foldl (fun s b => s.brickTick b t (held b)) s
  let s := { s with audio := { s.audio with history := s.boundary t net tdm :: s.audio.history.take 14 } }
  s.processDsts t

/-- The values at the output boundary of this tick (Table 1.3). -/
def State.outValues (s : State) : Tbl Int := s.audio.pipe.getD 2 []

/-- TDM frames, modulators and meters take the values at their boundary; ramps move one sample on.
DESIGN CHOICE, log 19: safe. -/
def State.outputTick (s : State) (t : Nat) : State :=
  let vals := s.outValues
  let s := { s with
    audio := { s.audio with tdmOut := s.tdmFrame vals, modIn := vals.filter (fun e => isModDst e.1) }
    amp := { s.amp with mod := [] } }
  let s := (List.range 64).foldl (fun s m =>
    if s.chEnabled m || (s.ch m).prot.pos.1 != 0 then
      s.ampChTick m (tgetD vals (3328 + m) 0) (s.generator (s.get (F.AMP_CH_CFG_PILOT_GEN m)) t)
    else s) s
  let s := (s.metersTick t vals).patchTick
  (s.mapMuteAll Mute.tick).freeChans

/-! ## Meanings of the commands -/

/-- BRICK_OVERRUN (R151). -/
def execBrickOverrun (b : Fin 96) (c : CtxSel) (s : State) : Result :=
  runs s (effBrickOverrun b.val c)

/-- METER_WINDOW_END (R202). -/
def execMeterWindowEnd (j : Fin 256) (s : State) : Result :=
  runs s (effMeterWindowEnd j.val)

end Sys2Proof.Machine
end

