-- ==== Sys2Proof/Machine/Switch.lean ====
section
/-! DEFINITION. Ports and switch (R225 to R240), the rings to the Keeper (R259, R260). -/

namespace Sys2Proof.Machine

/-! ## Reading a frame -/

/-- A frame's headers: addresses, PCP of a tag, EtherType, offset of what follows it. -/
structure FrameView where
  dst : Nat
  src : Nat
  pcp : Option Nat
  etype : Nat
  l3 : Nat
deriving DecidableEq, Repr

/-- Read the Ethernet header. -/
def viewFrame (b : List Byte) : FrameView :=
  if beAt b 12 2 = 0x8100 then ⟨beAt b 0 6, beAt b 6 6, some (beAt b 14 2 / 2 ^ 13), beAt b 16 2, 18⟩
  else ⟨beAt b 0 6, beAt b 6 6, none, beAt b 12 2, 14⟩

/-- An IPv4 header's fields, and where its payload starts. -/
structure IpView where
  src : Nat
  dst : Nat
  dscp : Nat
  proto : Nat
  l4 : Nat
deriving DecidableEq, Repr

/-- Read the IPv4 header. -/
def FrameView.ip (v : FrameView) (b : List Byte) : Option IpView :=
  if v.etype = 0x0800 && beAt b v.l3 1 / 16 = 4 then
    some ⟨beAt b (v.l3 + 12) 4, beAt b (v.l3 + 16) 4, beAt b (v.l3 + 1) 1 / 4, beAt b (v.l3 + 9) 1,
      v.l3 + 4 * (beAt b v.l3 1 % 16)⟩
  else none

/-- UDP destination port. -/
def IpView.udpDst (v : IpView) (b : List Byte) : Option Nat := if v.proto = 17 then some (beAt b (v.l4 + 2) 2) else none

/-- The payload of a UDP datagram. -/
def IpView.udpData (v : IpView) (b : List Byte) : List Byte := (b.drop (v.l4 + 8)).take (beAt b (v.l4 + 4) 2 - 8)

/-- A PTP version 2 message over UDP/IPv4 (R235). -/
def IpView.isPtp (v : IpView) (b : List Byte) : Bool :=
  (v.udpDst b = some 319 || v.udpDst b = some 320) && beAt b (v.l4 + 9) 1 % 16 = 2

/-- Replace bytes from offset `o` on. -/
def patchBytes (b : List Byte) (o : Nat) (v : List Byte) : List Byte := b.take o ++ v ++ b.drop (o + v.length)

/-- RFC 1624 over the words that differ. -/
def fixSum : Nat → List Byte → List Byte → Nat → Nat
  | 0, _, _, c => c
  | n + 1, old, new, c =>
    let m := beAt old 0 2
    let m' := beAt new 0 2
    fixSum n (old.drop 2) (new.drop 2) (if m = m' then c else 65535 - ones16 (ones16 (65535 - c + (65535 - m)) + m'))

/-- Change bytes of a PTP message, its UDP checksum with them unless that is zero (R235). DESIGN CHOICE, log 67: safe. -/
def patchPtp (b : List Byte) (l4 o : Nat) (v : List Byte) : List Byte :=
  let at_ := l4 + 8 + o
  let new := patchBytes b at_ v
  let c := beAt b (l4 + 6) 2
  if c = 0 then new
  else patchBytes new (l4 + 6) (beBytes 2 (fixSum ((v.length + 1) / 2) ((b.drop at_).take v.length) v c))

/-- Add to a message's correctionField, in 2^-16 ns (R235). -/
def addCorrection (b : List Byte) (l4 : Nat) (r : Nat) : List Byte :=
  let cf := signed 64 (beAt b (l4 + 16) 8) + r
  patchPtp b l4 8 (beBytes 8 (unsigned 64 (if 2 ^ 63 - 1 < cf then 2 ^ 63 - 1 else cf)))

/-! ## Ports -/

/-- An external port's state. -/
def State.port (s : State) (p : Nat) : Port := s.net.ports.toList.getD p ⟨0, Vector.replicate 4 [], none, 0, 0, []⟩

/-- Set an external port's state. -/
def State.setPort (s : State) (p : Nat) (v : Port) : State :=
  match finOf 4 p with
  | some i => { s with net := { s.net with ports := s.net.ports.set i v } }
  | none => s

/-- A port's queue. -/
def Port.queue (v : Port) (q : Nat) : List EgressFrame := v.queues.toList.getD q []

/-- Set a port's queue. -/
def Port.setQueue (v : Port) (q : Nat) (l : List EgressFrame) : Port :=
  match finOf 4 q with
  | some i => { v with queues := v.queues.set i l }
  | none => v

/-- A counter of a port. PRESUMED, log 66: unsafe. DESIGN CHOICE, log 70: unsafe. -/
def State.cnt (s : State) (p k : Nat) : State := s.bump (F.NET_CNT_COUNT p k)

/-- Port `p` is enabled with link. -/
def State.portUp (s : State) (p : Nat) : Bool := s.bit (F.NET_PORT_CFG_EN p) && s.bit (F.NET_PORT_STAT_LINK p)

/-- A port's domain. -/
def State.portDomain (s : State) (p : Nat) : Nat := s.get (F.NET_PORT_CFG_DOMAIN p)

/-- A port's rate in Gb/s. -/
def State.portRate (s : State) (p : Nat) : Nat := if s.get (F.NET_PORT_STAT_RATE_NOW p) = 2 then 10 else 25

/-- The attempts of Table 8.1: rate code and RS-FEC. -/
def State.attempts (s : State) (p : Nat) : List (Nat × Bool) :=
  match s.get (F.NET_PORT_CFG_RATE p), s.get (F.NET_PORT_CFG_FEC p) with
  | 0, _ => [(1, true), (1, false), (2, false)]
  | 1, 0 => [(1, true), (1, false)]
  | 1, 1 => [(1, true)]
  | 1, 2 => [(1, false)]
  | 2, _ => [(2, false)]
  | _, _ => []

/-- The attempt under way. -/
def State.attempt (s : State) (p : Nat) : Option (Nat × Bool) :=
  let l := s.attempts p
  l[(s.port p).attempt % max 1 l.length]?

/-- The switch forwards between ports in P0 to P2 (R237), not in SCRAPPED and not before step 11 of START (R227): steps 1 to 11
are one command, so a state between commands stands before step 11 only where START has halted. -/
def State.forwards (s : State) : Bool := s.get F.PWR_STAT_STATE < 3 && s.node.phase != .halted

/-! ## Egress (R238 to R240) -/

/-- hiCredit and loCredit of IEEE 802.1Q for an idle slope of `pm` per mille (R239): the largest frame of any queue, 1,542 bytes
on the wire, at the idle slope and at the send slope. PRESUMED, log 66: unsafe. -/
def hiCredit (pm : Nat) : Int := (12336 * pm * 65536 : Nat)
def loCredit (pm : Nat) : Int := -(12336 * (1000 - pm) * 65536 : Nat)

/-- The shaper's slopes change a port's credit up to time `t` (R239), between loCredit and hiCredit: units of bits × 1000 × 2^-16.
PRESUMED, log 66: unsafe. -/
def State.creditTo (s : State) (p t : Nat) : State :=
  let v := s.port p
  let dt : Int := (t - v.creditAt : Nat)
  let pm := s.get (F.NET_CBS_IDLE_PM p)
  let rate := s.portRate p
  let c := match v.sending with
    | some (_, 2, _) => max (loCredit pm) (v.credit - ((1000 - pm) * rate : Nat) * dt)
    | _ =>
      if !(v.queue 2).isEmpty then min (hiCredit pm) (v.credit + (pm * rate : Nat) * dt)
      else if 0 ≤ v.credit then 0 else min 0 (v.credit + (pm * rate : Nat) * dt)
  s.setPort p { v with credit := c, creditAt := max t v.creditAt }

/-- What leaves at the start of a frame: the residence time of R235 and the egress timestamp of R272. -/
def State.atEgress (s : State) (f : EgressFrame) (oneStep : Bool) (t : Nat) : List Byte :=
  let v := viewFrame f.bytes
  match v.ip f.bytes with
  | none => f.bytes
  | some ip =>
    if !ip.isPtp f.bytes then f.bytes
    else
      let kind := beAt f.bytes (ip.l4 + 8) 1 % 16
      match f.ingress with
      | some ti => if s.bit F.NET_SW_CFG_TC_EN && kind ≤ 1 then addCorrection f.bytes ip.l4 (t - ti) else f.bytes
      | none =>
        if oneStep then
          let sec := t / (1000000000 * 65536)
          let ns := t / 65536 % 1000000000
          addCorrection (patchPtp f.bytes ip.l4 34 (beBytes 6 sec ++ beBytes 4 ns)) ip.l4 (t % 65536)
        else f.bytes

/-- Offset in shared SRAM of descriptor `i` of a ring whose CFG image is `cfg` (R260). -/
def ringDesc (cfg i : Nat) : Nat := 64 * fieldOf cfg 16 16 + 32 * i

/-- Master `m` writes shared SRAM at a byte offset, as far as its path goes (R425). -/
def State.wrShared (s : State) (m o : Nat) (b : List Byte) : State :=
  let a := 0x30000000 + o
  let own := b.take (0x3F8000 - o)
  ((s.sharedPath m a b.length).1.wrBytes a own).healRows a own.length

/-- A number of `n` bytes of shared SRAM. -/
def State.rdShared (s : State) (n o : Nat) : Nat := s.rdNat n (0x30000000 + o)

/-- Offset in shared SRAM of descriptor `i` of transmit ring `r` (R260). -/
def State.txDesc (s : State) (r i : Nat) : Nat := ringDesc (s.rg (NET_TXR_CFG r)) i

/-- A frame starts to leave port `p` from queue `q` at time `t`. -/
def State.startSend (s : State) (p q : Nat) (f : EgressFrame) (t : Nat) : State :=
  let one := match f.desc with
    | some (r, i) => (s.rdShared 1 (s.txDesc r i + 7)).testBit 0
    | none => false
  let s := if f.ingress.isSome && (match (viewFrame f.bytes).ip f.bytes with
      | some ip => ip.isPtp f.bytes && beAt f.bytes (ip.l4 + 8) 1 % 16 ≤ 1 && s.bit F.NET_SW_CFG_TC_EN
      | none => false) then s.cnt p 8 else s
  s.setPort p { s.port p with sending := some ({ f with bytes := s.atEgress f one t }, q, t) }

/-- The next frame of an idle port, by strict priority and the shaper. -/
def State.startNext (s : State) (p t : Nat) : State :=
  let v := s.port p
  if v.sending.isSome then s
  else
    match [3, 2, 1, 0].find? (fun q => !(v.queue q).isEmpty && (q != 2 || decide (0 ≤ v.credit))) with
    | none => s
    | some q =>
      match v.queue q with
      | f :: rest => (s.setPort p (v.setQueue q rest)).startSend p q f t
      | [] => s

/-- A frame takes its place at port `p` (R240); the port starts it at once when it is free. PRESUMED, log 66: unsafe. -/
def State.enqueue (s : State) (p q : Nat) (f : EgressFrame) (t : Nat) : State :=
  if !s.portUp p then s
  else
    let s := s.creditTo p t
    let v := s.port p
    let used := (v.queue q).foldl (fun n g => n + g.bytes.length + 4) 0
    let free := v.sending.isNone && [3, 2, 1, 0].all (fun r => (v.queue r).isEmpty)
    if !free && 32768 < used + f.bytes.length + 4 then s.cnt p 7
    else (s.setPort p (v.setQueue q (v.queue q ++ [f]))).startNext p t

/-- A transmit ring's TAIL passes the descriptors that no port still holds (R260). DESIGN CHOICE, log 69: safe. -/
def State.settleTail (s : State) (r : Nat) : State :=
  let size := 2 ^ s.get (F.NET_TXR_CFG_SIZE r)
  let held (i : Nat) : Bool := (List.range 4).any (fun p =>
    (match (s.port p).sending with
      | some (f, _, _) => f.desc = some (r, i)
      | none => false) || (List.range 4).any (fun q => ((s.port p).queue q).any (fun f => f.desc = some (r, i))))
  iterate (fun s =>
    let t := s.get (F.NET_TXR_PTR_TAIL r)
    if t = s.get (F.NET_TXR_PTR_HEAD r) || held t then s else s.put (F.NET_TXR_PTR_TAIL r) ((t + 1) % size)) size s

/-- EGRESS_FRAME_SENT: port `p` has finished its frame, or the shaper lets the next one go, at time `t`. The descriptor of a
finished frame gets its egress timestamp, and the ring's TAIL moves (R260). -/
def effEgressFrameSent (p t : Nat) (s : State) : State :=
  let s := s.creditTo p t
  match (s.port p).sending with
  | some (f, _, start) =>
    let s := ((s.setPort p { s.port p with sending := none }).cnt p 5).emit (.frame p f.bytes)
    let s := match f.desc with
      | some (r, i) => (s.wrShared 4 (s.txDesc r i + 8) (leBytes 8 (start / 65536) ++ leBytes 2 start)).settleTail r
      | none => s
    s.startNext p t
  | none => s.startNext p t

/-! ## Forwarding (R228 to R235) -/

/-- A key of the group table. -/
def groupKey (e : Nat × Nat) : Nat := e.1 * 2 ^ 32 + e.2

/-- Ports of a group's entry as a mask, none when the group is not in the table. -/
def State.groupPorts (s : State) (d g : Nat) : Option Nat := tget s.net.groups (groupKey (d, g))

/-- NET_SW_STAT shows the tables' use. -/
def State.showSwitch (s : State) : State :=
  (s.put F.NET_SW_STAT_UC_USED s.net.addrs.length).put F.NET_SW_STAT_MC_USED s.net.groups.length

/-- The groups, by domain, that enabled receive legs name. -/
def State.legGroups (s : State) : List (Nat × Nat) :=
  s.regs.filterMap (fun e =>
    let o := e.1 - STR_RX_LEG_CFG 0 0
    if STR_RX_LEG_CFG 0 0 ≤ e.1 && e.1 < STR_RX_LEG_CFG 256 0 && o % 0x80 < 0x40 && o % 0x10 = 0 && e.2.getLsbD 31
        && isGroupIp (s.rg (e.1 + 4)) then
      some ((e.2.toNat / 2 ^ 30) % 2, s.rg (e.1 + 4))
    else none)

/-- The destination group of the watched transmit stream, by domain, which a STANDBY SHADOW joins (R318). -/
def State.watchGroups (s : State) : List (Nat × Nat) :=
  let w := s.get F.PAIR_CFG_WATCH
  let g := s.rg (STR_TX_DST w)
  if s.bit F.PAIR_CFG_STANDBY && s.node.mode == .shadow && isGroupIp g then
    ((List.range 2).filter (fun d => (s.get (F.STR_TX_CFG_PATHS w)).testBit d)).map (fun d => (d, g))
  else []

/-- Set the ports of a group's entry; one without a port leaves the table, and a full table takes no new one (R231). -/
def State.setGroup (s : State) (k m : Nat) : State :=
  if (tget s.net.groups k).isNone && 1024 ≤ s.net.groups.length then s
  else ({ s with net := { s.net with groups := tput s.net.groups k (if m = 0 then none else some m) } }).showSwitch

/-- The internal port is in the entry of every group that an enabled leg or the watch names, and in no other (R231, R318); the Keeper
joins and leaves the watch's group (R318). -/
def State.groupsTick (s : State) : State :=
  let watch := s.watchGroups
  let want := ((s.legGroups ++ watch).map groupKey).eraseDups
  let s := s.net.groups.foldl (fun s e =>
    if e.2.testBit 4 && !want.contains e.1 then s.setGroup e.1 (e.2 % 16) else s) s
  let s := want.foldl (fun s k =>
    let m := tgetD s.net.groups k 0
    if m.testBit 4 then s else s.setGroup k (m ||| 16)) s
  let gone := s.net.watching.filter (fun e => !watch.contains e)
  let new := watch.filter (fun e => !s.net.watching.contains e)
  let s := gone.foldl (fun s e => s.emit (.igmp e.1 e.2 0 false)) s
  let s := new.foldl (fun s e => s.emit (.igmp e.1 e.2 0 true)) s
  { s with net := { s.net with watching := watch } }

/-- Learn a source address (R230). -/
def State.learn (s : State) (d p mac : Nat) : State :=
  let k := d * 2 ^ 48 + mac
  if isGroupMac mac then s
  else if (tget s.net.addrs k).isSome || s.net.addrs.length < 4096 then
    ({ s with net := { s.net with addrs := tput s.net.addrs k (some p) } }).showSwitch
  else s

/-- One reported group (R231). DEDUCED, log 68: unsafe. -/
def State.joinGroup (s : State) (d p g : Nat) : State :=
  let k := groupKey (d, g)
  s.setGroup k (tgetD s.net.groups k 0 ||| 2 ^ p)

/-- Groups of an IGMPv3 report's records that report a membership. DEDUCED, log 68: unsafe. -/
def igmpRecords : Nat → List Byte → List Nat
  | 0, _ => []
  | n + 1, b =>
    let kind := beAt b 0 1
    let aux := beAt b 1 1
    let srcs := beAt b 2 2
    let rest := igmpRecords n (b.drop (8 + 4 * srcs + 4 * aux))
    if kind = 6 || ((kind = 1 || kind = 3) && srcs = 0) then rest else beAt b 4 4 :: rest

/-- Snoop IGMPv2 and IGMPv3 reports (R231). DEDUCED, log 68: unsafe. -/
def State.snoop (s : State) (d p : Nat) (b : List Byte) (ip : IpView) : State :=
  if !(s.bit F.NET_SW_CFG_IGMP_SNOOP) || ip.proto != 2 then s
  else
    let m := b.drop ip.l4
    let groups := if beAt m 0 1 = 0x16 then [beAt m 4 4]
      else if beAt m 0 1 = 0x22 then igmpRecords (beAt m 6 2) (m.drop 8) else []
    groups.foldl (fun s g => s.joinGroup d p g) s

/-- Where a frame goes: external ports, the internal port, and whether BC_LIMIT counts it. -/
structure Route where
  ext : List Nat
  int : Bool
  limited : Bool
deriving DecidableEq, Repr

/-- Table 8.2 for a frame of domain `d` that arrived on `ingress` (none: the internal port). It has no row for an IPv4 frame to a group
MAC address whose IP destination is no group: it goes to every port of the domain and the internal port, with no limit.
DESIGN CHOICE, log 95: unsafe. -/
def State.route (s : State) (d : Nat) (ingress : Option Nat) (b : List Byte) : Route :=
  let v := viewFrame b
  let ports := (List.range 4).filter (fun p => s.portDomain p = d && ingress != some p)
  let int := ingress.isSome
  match v.ip b with
  | some ip =>
    if v.dst = s.fuses.mac then ⟨[], int, false⟩
    else if !isGroupMac v.dst then
      match tget s.net.addrs (d * 2 ^ 48 + v.dst) with
      | some p => ⟨ports.filter (fun q => q = p), false, false⟩
      | none => ⟨ports, false, true⟩
    else if v.dst = 2 ^ 48 - 1 then ⟨ports, int, true⟩
    else if ip.dst / 256 = 0xE00000 || ip.proto = 2 || ip.isPtp b then ⟨ports, int, false⟩
    else if isGroupIp ip.dst then
      match s.groupPorts d ip.dst with
      | some m => ⟨ports.filter (fun p => m.testBit p), int && m.testBit 4, false⟩
      | none => ⟨if s.bit F.NET_SW_CFG_UNK_MC then ports else [], false, true⟩
    else ⟨ports, int, false⟩
  | none =>
    if v.dst = s.fuses.mac then ⟨[], int, false⟩
    else if !isGroupMac v.dst then
      match tget s.net.addrs (d * 2 ^ 48 + v.dst) with
      | some p => ⟨ports.filter (fun q => q = p), false, false⟩
      | none => ⟨ports, false, true⟩
    else ⟨ports, int, v.dst = 2 ^ 48 - 1⟩

/-- The egress queue of a frame (R238); `p` is the port whose maps apply. -/
def State.queueOf (s : State) (p : Nat) (b : List Byte) : Nat :=
  let v := viewFrame b
  let ip := v.ip b
  let ptp := match ip with
    | some i => i.isPtp b
    | none => v.etype = 0x88F7
  if ptp then 3
  else match v.pcp, ip with
    | some c, _ => fieldOf (s.rg (NET_PCP_MAP p)) (2 * c) 2
    | none, some i => fieldOf (s.rg (NET_DSCP_MAP p (i.dscp / 16))) (2 * (i.dscp % 16)) 2
    | none, none => 0

/-- A frame of the engine goes out at time `t` by Table 8.2 in a domain, or by a port mask. -/
def State.sendFrame (s : State) (d mask : Nat) (b : List Byte) (desc : Option (Nat × Nat)) (t : Nat) : State :=
  if !s.forwards && s.get F.PWR_STAT_STATE = 4 then s
  else
    let ports := if mask % 16 = 0 then (s.route d none b).ext else (List.range 4).filter (fun p => mask.testBit p)
    ports.foldl (fun s p => s.enqueue p (s.queueOf p b) ⟨b, none, desc⟩ t) s

/-! ## Receive rings (R259, R260) -/

/-- Put a frame into receive ring `r`. DESIGN CHOICE, log 69: safe. DEDUCED, log 80: unsafe. -/
def State.toRing (s : State) (r p : Nat) (b : List Byte) (ts : Nat) : State :=
  if !s.bit (F.NET_RXR_CFG_EN r) then s
  else
    let size := 2 ^ s.get (F.NET_RXR_CFG_SIZE r)
    let h := s.get (F.NET_RXR_PTR_HEAD r)
    if (h + 1) % size = s.get (F.NET_RXR_PTR_TAIL r) % size then (s.bump (F.NET_RXR_DROP_COUNT r)).latch 26
    else
      let da := ringDesc (s.rg (NET_RXR_CFG r)) h
      let room := Config.ringBuffer r
      let q := s.sharedPath 3 (0x30000000 + da) 32
      if !q.2 then q.1
      else if s.sramFails (0x30000000 + da) 4 then s.latch 9
      else
      let s := s.wrShared 3 (s.rdShared 4 da) (b.take room)
      let s := s.wrShared 3 (da + 4) (leBytes 2 b.length ++ [BitVec.ofNat 8 p, if room < b.length then 1 else 0]
        ++ leBytes 8 (ts / 65536) ++ leBytes 2 ts ++ List.replicate 14 0)
      s.put (F.NET_RXR_PTR_HEAD r) ((h + 1) % size)

/-- The ring of a frame (Table 8.10). -/
def State.ringOf (s : State) (b : List Byte) : Option Nat :=
  let v := viewFrame b
  let own := v.dst = s.fuses.mac || v.dst = 2 ^ 48 - 1
  match v.ip b with
  | some ip =>
    let port := ip.udpDst b
    if port = some 319 then some 0
    else if port = some 320 then some 1
    else if port = some (s.get F.PAIR_FLASH_PORT_UDP_PORT) then some 2
    else if port = some 47100 then some 3
    else if ip.proto = 1 || ip.proto = 2 || port = some 5353 then some 4
    else if ip.dst = s.nodeAddr 0 || ip.dst = s.nodeAddr 1 then some 5
    else if own then some 6 else none
  | none => if v.etype = 0x0806 then some 4 else if own then some 6 else none

/-- TX_RING_HEAD (R260): software sets HEAD, and the engine sends the descriptors up to it. -/
def effTxRingHead (r head : Nat) (s : State) : State :=
  let size := 2 ^ s.get (F.NET_TXR_CFG_SIZE r)
  let old := s.get (F.NET_TXR_PTR_HEAD r)
  let s := s.put (F.NET_TXR_PTR_HEAD r) head
  if !s.bit (F.NET_TXR_CFG_EN r) || s.get F.PWR_STAT_STATE = 4 then s
  else
    let n := (head + size - old % size) % size
    let s := (List.range n).foldl (fun s k =>
      let i := (old + k) % size
      let da := ringDesc (s.rg (NET_TXR_CFG r)) i
      let n := s.rdShared 2 (da + 4)
      let a := 0x30000000 + s.rdShared 4 da
      let q := s.sharedPath 4 (0x30000000 + da) 32
      let w := s.sharedPath 4 a n
      if !q.2 then q.1
      else if !w.2 then w.1
      else if s.sramFails (0x30000000 + da) 8 || s.sramFails a n then s.latch 9
      else
      let b := s.rdBytes n a
      s.sendFrame (if (s.rdShared 1 (da + 7)).testBit 1 then 1 else 0) (s.rdShared 1 (da + 6)) b (some (r, i)) s.node.time) s
    s.settleTail r

/-! ## Links (R225, R226) -/

/-- LINK_UP: the PCS of port `p` reports link at the attempt under way. -/
def effLinkUp (p : Nat) (s : State) : State :=
  match s.attempt p with
  | some (rate, fec) =>
    if !s.bit (F.NET_PORT_CFG_EN p) || 4 ≤ s.get F.PWR_STAT_STATE
        || (s.get F.PWR_STAT_STATE = 3 && p != s.pwr.p3port) then s
    else
      let s := (s.putBit (F.NET_PORT_STAT_LINK p) true).put (F.NET_PORT_STAT_RATE_NOW p) rate
      s.putBit (F.NET_PORT_STAT_FEC_ON p) fec
  | none => s

/-- LINK_DOWN: queued frames go, the frame being sent ends stomped. -/
def effLinkDown (p : Nat) (s : State) : State :=
  if !s.bit (F.NET_PORT_STAT_LINK p) then s
  else
    let v := s.port p
    let s := if v.sending.isSome then (s.cnt p 6).emit (.stomped p) else s
    let s := s.setPort p { v with queues := Vector.replicate 4 [], sending := none, attempt := 0 }
    let s := (s.put (F.NET_PORT_STAT_RATE_NOW p) 0).putBit (F.NET_PORT_STAT_FEC_ON p) false
    let s := (s.putBit (F.NET_PORT_STAT_LINK p) false).putBit (F.NET_PORT_STAT_LINK_LOST p) true
    let s := (List.range 8).foldl (fun s r => s.settleTail r) (s.cnt p 9)
    s.latch (21 + p)

/-- RATE_ATTEMPT_TIMEOUT: the next attempt of Table 8.1. -/
def effRateAttemptTimeout (p : Nat) (s : State) : State :=
  if s.bit (F.NET_PORT_CFG_EN p) && !s.bit (F.NET_PORT_STAT_LINK p) then
    s.setPort p { s.port p with attempt := ((s.port p).attempt + 1) % max 1 (s.attempts p).length }
  else s

/-- ADDRESS_AGE_OUT (R230): no traffic from an address for AGE × 10 s. -/
def effAddressAgeOut (d mac : Nat) (s : State) : State :=
  ({ s with net := { s.net with addrs := tput s.net.addrs (d * 2 ^ 48 + mac) none } }).showSwitch

/-- GROUP_AGE_OUT (R231): no report of a group for 260 s; the internal port stays in it. -/
def effGroupAgeOut (d g : Nat) (s : State) : State :=
  let k := groupKey (d, g)
  s.setGroup k (tgetD s.net.groups k 0 &&& 16)

/-! ## Meanings of the commands -/

/-- LINK_UP (R226). -/
def execLinkUp (p : Fin 4) (s : State) : Result :=
  runs s (effLinkUp p.val)

/-- LINK_DOWN (R226). -/
def execLinkDown (p : Fin 4) (s : State) : Result :=
  runs s (effLinkDown p.val)

/-- RATE_ATTEMPT_TIMEOUT (R225). -/
def execRateAttemptTimeout (p : Fin 4) (s : State) : Result :=
  runs s (effRateAttemptTimeout p.val)

/-- ADDRESS_AGE_OUT (R230). -/
def execAddressAgeOut (d : Fin 2) (mac : Nat) (s : State) : Result :=
  runs s (effAddressAgeOut d.val mac)

/-- GROUP_AGE_OUT (R231). -/
def execGroupAgeOut (d : Fin 2) (g : Nat) (s : State) : Result :=
  runs s (effGroupAgeOut d.val g)

/-- TX_RING_HEAD (R260). -/
def execTxRingHead (r : Fin 8) (head : Nat) (s : State) : Result :=
  runs s (effTxRingHead r.val head)

/-- EGRESS_FRAME_SENT (R239). -/
def execEgressFrameSent (p : Fin 4) (t : Nat) (s : State) : Result :=
  runs s (effEgressFrameSent p.val t)

end Sys2Proof.Machine
end

