-- ==== Sys2Proof/Machine/Streams.lean ====
section
/-! DEFINITION. Audio streams: legs, checks, deadlines and selection (R250 to R258), channel selectors (R320, R321),
transmit packets (R244 to R249), the arrival of a frame (R229 to R235). -/

namespace Sys2Proof.Machine

/-- T(N) in the units of node.time (R268). -/
def State.tickTime (s : State) (n : Nat) : Nat := (s.node.t0 + (n * (1000000000 * 65536) / s.fs : Nat)).toNat

/-- Samples per packet of a CFG image (Table 8.5); 0 for the reserved packet time. -/
def State.packetLen (s : State) (cfg : Nat) : Nat :=
  (match fieldOf cfg 28 2 with
    | 0 => 6 | 1 => 12 | 2 => 48 | _ => 0) * (if s.node.fs96 then 2 else 1)

/-- Channels of a stream, bytes per sample, first channel. -/
def cfgNch (cfg : Nat) : Nat := fieldOf cfg 22 6 + 1
def cfgBytes (cfg : Nat) : Nat := if cfg.testBit 30 then 4 else 3
def cfgPo (cfg : Nat) : Nat := fieldOf cfg 15 7
def cfgFirst (cfg : Nat) : Nat := fieldOf cfg 0 10

/-- The membership reports and leaves of the Keeper for a leg of a state (R251). -/
def State.reportLeg (s from_ : State) (k j : Nat) (join : Bool) : State :=
  s.emit (.igmp (from_.get (F.STR_RX_LEG_CFG_PATH k j)) (from_.rg (STR_RX_LEG_GRP k j)) (from_.rg (STR_RX_LEG_SRC k j)) join)

/-- The enabled legs: stream and leg. -/
def State.legsOn (s : State) : List (Nat × Nat) :=
  ((List.range 1024).map (fun i => (i / 4, i % 4))).filter (fun e => s.bit (F.STR_RX_LEG_CFG_EN e.1 e.2))

/-- What an enabled leg reports. -/
def State.legKey (s : State) (e : Nat × Nat) : Nat × Nat × Nat :=
  (s.get (F.STR_RX_LEG_CFG_PATH e.1 e.2), s.rg (STR_RX_LEG_GRP e.1 e.2), s.rg (STR_RX_LEG_SRC e.1 e.2))

/-- The groups of legs that `old` had enabled and no enabled leg names any more are left (R251). -/
def State.leaveGone (s old : State) : State :=
  let now := s.legsOn.map s.legKey
  (old.legsOn.filter (fun e => !now.contains (old.legKey e))).foldl (fun s e => s.reportLeg old e.1 e.2 false) s

/-- The watched groups that meet a test are reported again (R318). -/
def State.reportWatch (s : State) (f : Nat × Nat → Bool) : State :=
  (s.net.watching.filter f).foldl (fun s e => s.emit (.igmp e.1 e.2 0 true)) s

/-- An IGMP query in domain `d` for group `g`, 0 for all: the enabled legs report again. PRESUMED, log 91: unsafe. -/
def State.answerQuery (s : State) (d g : Nat) : State :=
  (s.legsOn.filter (fun e => (s.legKey e).1 = d && (g = 0 || (s.legKey e).2.1 = g))).foldl (fun s e =>
    s.reportLeg s e.1 e.2 true) (s.reportWatch (fun e => e.1 = d && (g = 0 || e.2 = g)))

/-- A receive stream's typed state. -/
def State.rxs (s : State) (k : Nat) : RxStream := (tget s.str.rx k).getD ⟨[], none, []⟩

/-- Set a receive stream's typed state. -/
def State.setRxs (s : State) (k : Nat) (v : RxStream) : State :=
  { s with str := { s.str with rx := tput s.str.rx k (if v = ⟨[], none, []⟩ then none else some v) } }

/-- Enabled receive streams. -/
def State.rxOn (s : State) : List Nat := (List.range 256).filter (fun k => s.bit (F.STR_RX_CFG_EN k))

/-! ## RTP -/

/-- What an RTP packet holds: version, payload type, timestamp, claim header, payload. -/
structure RtpView where
  version : Nat
  pt : Nat
  seq : Nat
  ts : Nat
  hdr : Bool
  claim : Nat
  ver : Nat
  sofs : Nat
  bseq : Nat
  pcrc : Nat
  dtag : Nat
  payload : List Byte
deriving DecidableEq, Repr

/-- Read an RTP packet (R244, R245). -/
def viewRtp (b : List Byte) : RtpView :=
  let b0 := beAt b 0 1
  let e := 12 + 4 * (b0 % 16)
  let x := b0.testBit 4
  let words := beAt b (e + 2) 2
  let hdr := x && beAt b e 2 = 0x4B4D && words = 4
  let start := if x then e + 4 + 4 * words else e
  let body := b.drop start
  let pad := if b0.testBit 5 then (body.getLastD 0).toNat else 0
  { version := b0 / 64, pt := beAt b 1 1 % 128, seq := beAt b 2 2, ts := beAt b 4 4, hdr := hdr,
    claim := if hdr then beAt b (e + 4) 2 else 0x4000, ver := if hdr then beAt b (e + 6) 1 / 16 else 1,
    sofs := beAt b (e + 7) 1 % 8, bseq := beAt b (e + 8) 4, pcrc := beAt b (e + 12) 4,
    dtag := if hdr then beAt b (e + 16) 4 else 0, payload := body.take (body.length - pad) }

/-- N0 of a timestamp against a count N (R252). -/
def mapAt (n ts tsofs : Nat) : Int := n + signed 32 (((ts : Int) - tsofs - n) % 2 ^ 32).toNat

/-- N0 of a timestamp against the present N (R252). -/
def State.mapTs (s : State) (ts tsofs : Nat) : Int := mapAt s.node.n.toNat ts tsofs

/-- N0 of a copy of stream `k`, by N at its arrival and TSOFS as it stands (R252, R254). -/
def State.copyN0 (s : State) (k : Nat) (c : RxCopy) : Int := mapAt c.n (viewRtp c.rtp).ts (s.rg (STR_RX_TSOFS k))

/-- The format check of Table 8.8. -/
def State.formatOk (s : State) (k : Nat) (v : RtpView) (n0 : Int) : Bool :=
  let cfg := s.rg (STR_RX_CFG k)
  let n := s.packetLen cfg
  v.version = 2 && (s.bit (F.STR_RX_MISC_PT_ANY k) || v.pt = s.get (F.STR_RX_MISC_PT k))
    && v.payload.length = n * cfgNch cfg * cfgBytes cfg && v.ver = 1
    && 0 < n && (n0 - s.get (F.STR_RX_MISC_PHASE k)) % (n : Int) = 0

/-- The map check of Table 8.8. -/
def RtpView.mapOk (v : RtpView) (n0 : Int) : Bool := !v.hdr || ((v.bseq * 8 + v.sofs : Nat) : Int) = n0 % 2 ^ 35

/-- The source in use for a leg (R250); 0 before the first copy latches one. -/
def State.legSource (s : State) (k j : Nat) : Nat := s.rg (STR_RX_LEG_LATCH k j)

/-- The checks Leg and Format of Table 8.8. -/
def State.copyOk (s : State) (k : Nat) (c : RxCopy) : Option (Fld × Bool) :=
  let own := s.legSource k c.leg
  if !s.bit (F.STR_RX_LEG_CFG_EN k c.leg) || (own != 0 && own != c.src) then some (F.STR_RX_CNT2_FOREIGN k, false)
  else if !s.formatOk k (viewRtp c.rtp) (s.copyN0 k c) then some (F.STR_RX_CNT1_FORMAT k, false)
  else none

/-- The checks of Table 8.8 under the settings in force (R254), but Early, `before` being the leg's copies that arrived earlier
and are held. None when the copy is eligible, else the counter and the fault it raises. DEDUCED, log 65: unsafe. -/
def State.finalCheck (s : State) (k : Nat) (c : RxCopy) (before : List RxCopy) : Option (Fld × Bool) :=
  let v := viewRtp c.rtp
  let n0 := s.copyN0 k c
  let due := n0 + cfgPo (s.rg (STR_RX_CFG k))
  match s.copyOk k c with
  | some f => some f
  | none =>
  if before.any (fun b => b.leg = c.leg && s.copyN0 k b = n0 && (s.copyOk k b).isNone) then some (F.STR_RX_CNT2_DUP k, false)
  else if v.hdr && v.pcrc != crc32c v.payload then some (F.STR_RX_CNT1_CRC_ERR k, true)
  else if !v.mapOk n0 then some (F.STR_RX_CNT1_MAP_ERR k, true)
  else if v.claim / 2 ^ 14 = 0 then some (F.STR_RX_CNT2_CLASS0 k, false)
  else if due < 0 || s.tickTime due.toNat < c.endT + 1000 * 65536 then some (F.STR_RX_CNT0_LATE k, false)
  else none

/-- Count a copy that has failed a check. -/
def State.countCopy (s : State) (f : Fld × Bool) : State :=
  let s := s.bump f.1
  if f.2 then s.latch 28 else s

/-! ## The deadline (R255, R257) -/

/-- Of the eligible copies, the one of the highest claim, on the lowest leg among equals (Table 8.9).
DEDUCED, log 65: unsafe. -/
def bestCopy (cs : List RxCopy) : Option RxCopy :=
  cs.foldl (fun (best : Option RxCopy) c =>
    match best with
    | none => some c
    | some b =>
      let cb := (viewRtp b.rtp).claim
      let cc := (viewRtp c.rtp).claim
      if cb < cc || (cb = cc && decide (c.leg < b.leg)) then some c else some b) none

/-- Copies in the order of their arrival, each with what it fails. -/
def State.checkCopies (s : State) (k : Nat) : List RxCopy → List RxCopy → List (RxCopy × Option (Fld × Bool))
  | _, [] => []
  | before, c :: rest => (c, s.finalCheck k c before) :: s.checkCopies k (before ++ [c]) rest

/-- Close the packet of stream `k` whose deadline is tick `t`: every copy whose deadline has come is checked under the settings
now in force (R254, R258), then merge, select, record. A packet that has been closed is not closed again.
DEDUCED, log 65: unsafe. -/
def State.closePacket (s : State) (k t : Nat) : State :=
  let cfg := s.rg (STR_RX_CFG k)
  let po := cfgPo cfg
  let n := s.packetLen cfg
  let st := s.rxs k
  if !s.bit (F.STR_RX_CFG_EN k) || n = 0 || t < po || !s.audio.running || st.closed.any (fun c => decide (t ≤ c)) then s
  else
    let n0 := t - po
    let checks := s.checkCopies k [] (st.held.filter (fun c => decide (s.copyN0 k c + po ≤ t)))
    let good := checks.filterMap (fun e => if e.2.isNone && s.copyN0 k e.1 = n0 then some e.1 else none)
    let st := { st with held := st.held.filter (fun c => decide ((t : Int) < s.copyN0 k c + po)), closed := some t }
    let s := (checks.foldl (fun s e =>
      match e.2 with
      | some f => s.countCopy f
      | none => s) s).setRxs k st
    if ((n0 : Int) - s.get (F.STR_RX_MISC_PHASE k)) % (n : Int) != 0 || st.packets.any (fun p => p.n0 = n0) then s
    else
      let best := bestCopy good
      let pk : Packet := ⟨n0, best.map (fun c => let v := viewRtp c.rtp; (v.claim, v.payload))⟩
      let s := s.setRxs k { st with packets := pk :: st.packets.take 2 }
      let s := s.put (F.STR_RX_STAT_LEGS_OK k) (bitsNat ((List.range 4).map (fun j => good.any (fun c => c.leg = j))))
      match best with
      | none => ((s.putBit (F.STR_RX_STAT_LOST_LAST k) true).bump (F.STR_RX_CNT0_LOST k)).latch 27
      | some c =>
        let v := viewRtp c.rtp
        let slack := min 0xFFFF ((s.tickTime t - 1000 * 65536 - c.endT) / (16 * 65536))
        let s := (s.putBit (F.STR_RX_STAT_LOST_LAST k) false).put (F.STR_RX_STAT_CLAIM k) v.claim
        let s := (s.put (F.STR_RX_STAT_LEG k) c.leg).setRg (STR_RX_DAYMARK k) v.dtag
        let s := s.put (F.STR_RX_SLACK_LAST k) slack
        s.put (F.STR_RX_SLACK_MIN k) (min (s.get (F.STR_RX_SLACK_MIN k)) slack)

/-- STREAM_DEADLINE: the deadline of stream `k` at the coming tick. -/
def effStreamDeadline (k : Nat) (s : State) : State := s.closePacket k (s.node.n.toNat + 1)

/-! ## A copy arrives -/

/-- The legs a frame is a copy for: every leg that names it and whose source it has, or that has latched none; leg 4 for a
frame that legs name and none of them takes (R250). DEDUCED, log 65: unsafe. -/
def State.legsFor (s : State) (k d dst port src : Nat) : List Nat :=
  let legs := (List.range 4).filter (fun j => s.bit (F.STR_RX_LEG_CFG_EN k j) && s.get (F.STR_RX_LEG_CFG_PATH k j) = d
    && s.get (F.STR_RX_LEG_CFG_UDP_PORT k j) = port && s.rg (STR_RX_LEG_GRP k j) = dst)
  let mine := legs.filter (fun j => s.legSource k j = src || s.legSource k j = 0)
  if legs.isEmpty then [] else if mine.isEmpty then [4] else mine

/-- A copy for stream `k`, leg `j` (4: a foreign source). It is held until its deadline, where it is checked (R254); one that is
early is discarded, and one whose deadline has passed is checked at once. DEDUCED, log 65: unsafe. -/
def State.copyIn (s : State) (k j src : Nat) (rtp : List Byte) (endT : Nat) : State :=
  if 4 ≤ j then s.countCopy (F.STR_RX_CNT2_FOREIGN k, false)
  else
    let s := s.setRg (STR_RX_LEG_LATCH k j) src
    let n := s.node.n.toNat
    let c : RxCopy := ⟨j, n, src, rtp, endT⟩
    let due := s.copyN0 k c + cfgPo (s.rg (STR_RX_CFG k))
    let st := s.rxs k
    if (n : Int) + (if s.node.fs96 then 192 else 96) < due then
      s.countCopy ((s.copyOk k c).getD (F.STR_RX_CNT1_EARLY k, false))
    else if due ≤ n || st.closed.any (fun t => decide (due ≤ t)) then
      match s.finalCheck k c st.held with
      | some f => s.countCopy f
      | none => s
    else s.setRxs k { st with held := st.held ++ [c] }

/-- The STANDBY watch (R318): a partner's copy of the watched stream, with a correct PCRC and a class other than 0. -/
def State.watchIn (s : State) (d dst port src : Nat) (rtp : List Byte) : State :=
  let w := s.get F.PAIR_CFG_WATCH
  let v := viewRtp rtp
  if s.node.mode = .shadow && s.bit F.PAIR_CFG_STANDBY && dst = s.rg (STR_TX_DST w) && port = s.get (F.STR_TX_UDP_DST_PORT w)
      && src = s.rg (PAIR_PARTNER_ADDR d) && v.hdr && v.pcrc = crc32c v.payload && v.claim / 2 ^ 14 != 0 then
    { s with str := { s.str with watched :=
        (s.mapTs v.ts (s.rg (STR_TX_TSOFS w))).toNat :: s.str.watched.take 15 } }
  else s

/-- A frame at the internal port: a copy for receive legs, else for a ring (R250, R259). The legs of a stream that is not enabled take
no copy. DESIGN CHOICE, log 95: unsafe. -/
def State.deliver (s : State) (d p : Nat) (b : List Byte) (ts endT : Nat) : State :=
  let copy := match (viewFrame b).ip b with
    | none => none
    | some ip => (ip.udpDst b).map (fun port => (ip, port))
  let s := match (viewFrame b).ip b with
    | some ip => if ip.proto = 2 && beAt b ip.l4 1 = 0x11 then s.answerQuery d (beAt b (ip.l4 + 4) 4) else s
    | none => s
  match copy with
  | none => (match s.ringOf b with
      | some r => s.toRing r p b ts
      | none => s)
  | some (ip, port) =>
    let rtp := ip.udpData b
    let hits := s.rxOn.flatMap (fun k => (s.legsFor k d ip.dst port ip.src).map (fun j => (k, j)))
    let watch := s.watchIn d ip.dst port ip.src rtp
    if hits.isEmpty then (match s.ringOf b with
      | some r => watch.toRing r p b ts
      | none => watch)
    else
      let s := if s.audio.running then hits.foldl (fun s e => s.copyIn e.1 e.2 ip.src rtp endT) watch else watch
      if s.bit F.STR_MON_EN && hits.any (fun e => e.1 = s.get F.STR_MON_STREAM) then s.toRing 7 p b ts else s

/-! ## A frame arrives (R229 to R235) -/

/-- A runt, an oversized frame or an alignment error. PRESUMED, log 66: unsafe. -/
def misshapen (f : FrameIn) : Bool :=
  !f.alignOk || f.bytes.length < 60 || (if beAt f.bytes 12 2 = 0x8100 then 1518 else 1514) < f.bytes.length

/-- A frame that is not forwarded whole: a bad FCS, a bad shape, or its link lost before its end. -/
def frameBad (f : FrameIn) : Bool := !f.fcsOk || f.cut || misshapen f

/-- BC_LIMIT (R232): whether one more broadcast or unknown frame is admitted at time `t`. PRESUMED, log 66: unsafe. -/
def State.admits (s : State) (p t : Nat) : Bool × State :=
  let lim := s.get (F.NET_PORT_CFG_BC_LIMIT p)
  let v := s.port p
  let recent := v.bcTimes.filter (fun u => decide (t < u + 100000 * 65536))
  if lim = 0 then (true, s)
  else if lim ≤ recent.length then (false, s.cnt p 4)
  else (true, s.setPort p { v with bcTimes := t :: recent })

/-- Whether frames from port `p` cut through to port `q` (Table 8.3). -/
def State.cutsThrough (s : State) (p q : Nat) : Bool :=
  s.portRate q ≤ s.portRate p && !s.bit (F.NET_PORT_CFG_SF q)

/-- The most a frame from port `p` to an idle port `q` spends in the switch, in ns, when it cuts through (Table 8.4); of 25G to
10G the table says nothing. DESIGN CHOICE, log 67: safe. -/
def State.latencyMax (s : State) (p q : Nat) : Nat :=
  if s.portRate p = 10 && s.portRate q = 10 then 480
  else if s.portRate p = 25 && s.portRate q = 25 && !s.bit (F.NET_PORT_STAT_FEC_ON p) && !s.bit (F.NET_PORT_STAT_FEC_ON q) then 320
  else 560

/-- The time a forwarded frame spends in the switch when its egress port is idle: not above Table 8.4, and not before its first 64
bytes have arrived (R233). DESIGN CHOICE, log 67: safe. -/
def State.residence (s : State) (p q : Nat) (dur : Nat) : Nat :=
  let least := 512 * 65536 / s.portRate p
  least + (Config.freeWord s.free).toNat % (s.latencyMax p q * 65536 - least + 1) + (if s.cutsThrough p q then 0 else dur)

/-- A frame for queue `k` of port `q` starts at once at time `t`: the port is free, the queue is empty, the shaper lets it go, and no
higher queue has a frame that may go (R239). -/
def State.startsNow (s : State) (q k t : Nat) : Bool :=
  let v := (s.creditTo q t).port q
  let goes (r : Nat) : Bool := r != 2 || decide (0 ≤ v.credit)
  v.sending.isNone && (v.queue k).isEmpty && goes k && [3, 2, 1].all (fun r => r ≤ k || (v.queue r).isEmpty || !goes r)

/-- The egress ports where a cut-through frame has started to leave before it was found bad end it stomped (R234); its time counts for
the shaper. -/
def State.stompAt (s : State) (f : FrameIn) (ext : List Nat) : State :=
  let p := f.port.val
  let k := s.queueOf p f.bytes
  (ext.foldl (fun s q =>
    let t := f.ts + s.residence p q f.dur
    if s.portUp q && s.cutsThrough p q && s.startsNow q k t then
      let s := s.creditTo q t
      let s := (s.setPort q { s.port q with sending := some (⟨f.bytes, some f.ts, none⟩, k, t) }).creditTo q (t + f.dur)
      ((s.setPort q { s.port q with sending := none }).cnt q 6).emit (.stomped q)
    else s) s).nextFree

/-- FRAME_RECEIVED. -/
def effFrameReceived (f : FrameIn) (s : State) : State :=
  let p := f.port.val
  if !s.portUp p || s.get F.PWR_STAT_STATE = 4 then s
  else
    let s := s.cnt p 0
    let d := s.portDomain p
    let rt := s.route d (some p) f.bytes
    if frameBad f then
      let s := if misshapen f then s.cnt p 2 else if f.fcsOk then s else s.cnt p 1
      if !s.forwards || !f.alignOk || f.bytes.length < 60 then s
      else
        let leaves := rt.ext.any (fun q => s.portUp q && s.cutsThrough p q)
        let (ok, s) := if rt.limited && leaves then s.admits p f.ts else (true, s)
        if ok then s.stompAt f rt.ext else s
    else
      let v := viewFrame f.bytes
      let (ok, s) := if rt.limited then s.admits p f.ts else (true, s)
      let s := s.learn d p v.src
      let s := match v.ip f.bytes with
        | some ip => s.snoop d p f.bytes ip
        | none => s
      if !ok then s
      else
        let q := s.queueOf p f.bytes
        let s := if s.forwards then
            (rt.ext.foldl (fun s e =>
              s.enqueue e q ⟨f.bytes, some f.ts, none⟩ (f.ts + s.residence p e f.dur)) s).nextFree
          else s
        if rt.int then s.deliver d p f.bytes f.ts (f.ts + f.dur) else s

/-! ## Settings of a leg change (R250, R251, R258) -/

/-- What follows from a write to the settings of leg `j` of stream `k`, `old` being the state before it and
`filterWritten` whether its filter was written. -/
def State.legWritten (s : State) (old : State) (k j : Nat) (filterWritten : Bool) : State :=
  let same := old.rg (STR_RX_LEG_CFG k j) = s.rg (STR_RX_LEG_CFG k j) && old.rg (STR_RX_LEG_GRP k j) = s.rg (STR_RX_LEG_GRP k j)
    && old.rg (STR_RX_LEG_SRC k j) = s.rg (STR_RX_LEG_SRC k j)
  let on := s.bit (F.STR_RX_LEG_CFG_EN k j)
  let was := old.bit (F.STR_RX_LEG_CFG_EN k j)
  let s := if same then s else s.setRxs k { s.rxs k with held := (s.rxs k).held.filter (fun c => c.leg != j) }
  let s := if !on then s.setRg (STR_RX_LEG_LATCH k j) 0
    else if filterWritten || !was then s.setRg (STR_RX_LEG_LATCH k j) (s.rg (STR_RX_LEG_SRC k j)) else s
  let s := if was && !same then s.reportLeg old k j false else s
  if on && !same then s.reportLeg s k j true else s

/-- A receive stream that is disabled reads zero from the tick on (R34, R258). -/
def State.rxSettle (s : State) : State :=
  { s with str := { s.str with rx := s.str.rx.filter (fun e => s.bit (F.STR_RX_CFG_EN e.1)) } }

/-! ## Samples presented at a tick (R253, R320, R321) -/

/-- Sample `i` (by sample and channel) of a payload. -/
def decodeSample (bytes : Nat) (b : List Byte) (i : Nat) : Int :=
  let v := beAt b (i * bytes) bytes
  if bytes = 3 then signed 24 v * 256 else signed 32 v

/-- The network channels that carry audio: 1,024, at 96 kHz the lower 512 (R43 to R45). -/
def State.netChans (s : State) : Nat := if s.node.fs96 then 512 else 1024

/-- What the receive channels hold at tick `t`: value and claim, for the samples that are present. -/
def State.presented (s : State) (t : Nat) : Tbl (Int × Nat) :=
  s.rxOn.foldl (fun m k =>
    let cfg := s.rg (STR_RX_CFG k)
    let n := s.packetLen cfg
    let po := cfgPo cfg
    if t < po then m
    else
      match (s.rxs k).packets.find? (fun p => decide (p.n0 ≤ t - po) && decide (t - po < p.n0 + n)) with
      | some ⟨n0, some (claim, pay)⟩ =>
        if pay.length != n * cfgNch cfg * cfgBytes cfg then m
        else (List.range (cfgNch cfg)).foldl (fun m i =>
          if s.netChans ≤ cfgFirst cfg + i then m
          else cins m (cfgFirst cfg + i) (decodeSample (cfgBytes cfg) pay ((t - po - n0) * cfgNch cfg + i), claim)) m
      | _ => m) []

/-- v_k of R321 from the old and the new candidate's samples. -/
def mixStep (old new : Option Int) (k : Nat) : Int :=
  match old, new with
  | some a, some b => rhe (a * (4 - (k : Int)) + b * k) 4
  | some a, none => a
  | none, some b => b
  | none, none => 0

/-- One channel of a selector: its state after this sample, the value, and whether the candidate changed. -/
def ChSel.step (c : ChSel) (p a : Option (Int × Nat)) : ChSel × Int × Bool :=
  let val (alt : Bool) : Option Int := (if alt then a else p).map (fun e => e.1)
  match c.fade with
  | some k => (⟨c.alt, if 4 ≤ k then none else some (k + 1)⟩, mixStep (val (!c.alt)) (val c.alt) k, false)
  | none =>
    let want := match a, p with
      | some (_, ca), some (_, cp) => decide (cp < ca)
      | some _, none => true
      | none, _ => false
    if want = c.alt then (c, (val c.alt).getD 0, false)
    else if (val c.alt).isNone then (⟨want, none⟩, (val want).getD 0, true)
    else (⟨want, some 2⟩, mixStep (val c.alt) (val want) 1, true)

/-- Set or clear the candidate bit a selector shows. -/
def State.showSel (s : State) (q i : Nat) (alt : Bool) : State := s.setRegBit (PAIR_CHSEL_ALT q) i alt

/-- The network receive samples of tick `t` after the channel selectors. -/
def State.selectTick (s : State) (t : Nat) : State × Tbl Int :=
  let pres := s.presented t
  let base : Tbl Int := pres.map (fun e => (e.1, e.2.1))
  (List.range 64).foldl (fun (acc : State × Tbl Int) q =>
    if !acc.1.bit (F.PAIR_CHSEL_EN q) then
      if acc.1.rg (PAIR_CHSEL_ALT q) = 0 && !acc.1.str.sel.any (fun e => e.1 / 64 = q) then acc
      else ({ acc.1.clearRg (PAIR_CHSEL_ALT q) with
        str := { acc.1.str with sel := acc.1.str.sel.filter (fun e => e.1 / 64 != q) } }, acc.2)
    else
      (List.range (acc.1.get (F.PAIR_CHSEL_COUNT_M1 q) + 1)).foldl (fun (acc : State × Tbl Int) i =>
        let p := acc.1.get (F.PAIR_CHSEL_FIRST_P q) + i
        let a := acc.1.get (F.PAIR_CHSEL_FIRST_A q) + i
        let c := (tget acc.1.str.sel (64 * q + i)).getD ⟨false, none⟩
        let (c', v, changed) := c.step (tget pres p) (tget pres a)
        let s := { acc.1 with str := { acc.1.str with
          sel := tput acc.1.str.sel (64 * q + i) (if c' = ⟨false, none⟩ then none else some c') } }
        let s := if changed then (s.bump (F.PAIR_CHSEL_CNT_SWITCHES q)).showSel q i c'.alt else s
        (s, if s.netChans ≤ p then acc.2 else cins acc.2 p v)) acc) (s, base)

/-- Deadlines of the tick, then its network receive samples. -/
def State.rxTick (s : State) (t : Nat) : State × Tbl Int :=
  let s := s.rxSettle
  let s := s.rxOn.foldl (fun s k => s.closePacket k t) s
  s.selectTick t

/-! ## Transmit (R246 to R249) -/

/-- The images of a transmit stream: CFG, DST, UDP, TAG, SSRC, TSOFS. -/
def State.txImages (s : State) (k : Nat) : List Nat :=
  [s.rg (STR_TX_CFG k), s.rg (STR_TX_DST k), s.rg (STR_TX_UDP k), s.rg (STR_TX_TAG k), s.rg (STR_TX_SSRC k), s.rg (STR_TX_TSOFS k)]

/-- A transmit stream's typed state. -/
def State.txs (s : State) (k : Nat) : TxStream := (tget s.str.tx k).getD ⟨[], []⟩

/-- Set a transmit stream's typed state. -/
def State.setTxs (s : State) (k : Nat) (v : TxStream) : State :=
  { s with str := { s.str with tx := tput s.str.tx k (if v = ⟨[], []⟩ then none else some v) } }

/-- One coded sample (R20, Table 8.5). -/
def encodeSample (bytes : Nat) (v : Int) : List Byte :=
  if bytes = 3 then beBytes 3 (unsigned 24 (satTo (-(2 ^ 23)) (2 ^ 23 - 1) (rhe v 256))) else beBytes 4 (unsigned 32 v)

/-- The audio payload of the packet whose last sample is the newest of txHist. -/
def State.txPayload (s : State) (cfg n : Nat) : List Byte :=
  (List.range n).flatMap (fun i =>
    let vals := s.str.txHist.getD (n - 1 - i) []
    (List.range (cfgNch cfg)).flatMap (fun c => encodeSample (cfgBytes cfg) (tgetD vals (cfgFirst cfg + c) 0)))

/-- The RTP packet of stream `k` with first sample `n0` (R244, R246). -/
def State.rtpPacket (s : State) (k n0 : Nat) (imgs : List Nat) (payload : List Byte) : List Byte :=
  let tag := imgs.getD 3 0
  [0x90, BitVec.ofNat 8 (fieldOf tag 0 7)] ++ beBytes 2 (s.get (F.STR_TX_CNT_SEQ k)) ++ beBytes 4 (n0 + imgs.getD 5 0)
    ++ beBytes 4 (imgs.getD 4 0) ++ beBytes 2 0x4B4D ++ beBytes 2 4 ++ beBytes 2 s.claim ++ [0x10, BitVec.ofNat 8 (n0 % 8)]
    ++ beBytes 4 (n0 / 8) ++ beBytes 4 (crc32c payload) ++ beBytes 4 s.dtag ++ payload

/-- The frame of a packet in domain `d` (R246). -/
def State.packetFrame (s : State) (d : Nat) (imgs : List Nat) (rtp : List Byte) (w : Nat) : List Byte :=
  let tag := imgs.getD 3 0
  s.udpFrame d (imgs.getD 1 0) (imgs.getD 2 0) (fieldOf tag 8 6)
    (if tag.testBit 31 then beBytes 2 0x8100 ++ beBytes 2 (fieldOf tag 28 3 * 2 ^ 13 + fieldOf tag 16 12) else []) rtp w

/-- Hand a packet's frames to the internal port (R247), at most 1,500 ns after the tick (Table 8.4).
DESIGN CHOICE, log 67: safe. -/
def State.sendPacket (s : State) (frames : List (Nat × List Byte)) : State :=
  let t := s.node.time + (Config.freeWord s.free).toNat % (1500 * 65536 + 1)
  frames.foldl (fun s e => s.sendFrame e.1 0 e.2 none t) s.nextFree

/-- The packet of stream `k` with first sample `n0` and images `imgs` is complete: it is built, and sent in the modes that send. -/
def State.endPacket (s : State) (k n0 : Nat) (imgs : List Nat) : State :=
  let c := imgs.getD 0 0
  let rtp := s.rtpPacket k n0 imgs (s.txPayload c (s.packetLen c))
  let frames := ((List.range 2).filter (fun d => (fieldOf c 13 2).testBit d)).map (fun d =>
    (d, s.packetFrame d imgs rtp (Config.freeWord s.free).toNat))
  let s := (s.nextFree.bumpWrap (F.STR_TX_CNT_SEQ k)).setTxs k { s.txs k with last := frames }
  if s.sends then (s.emit (.packet k rtp)).sendPacket frames else s

/-- Transmit stream `k` at tick `t`: a packet that begins takes the settings in force, and runs under them to its end (R249). -/
def State.txStream (s : State) (t k : Nat) : State :=
  let cfg := s.rg (STR_TX_CFG k)
  let n := s.packetLen cfg
  let st := s.txs k
  let runs := if cfg.testBit 31 && n != 0 && t % n = 0 then st.runs ++ [(t, s.txImages k)] else st.runs
  let last (r : Nat × List Nat) : Nat := r.1 + s.packetLen (r.2.getD 0 0)
  let s := s.setTxs k { st with runs := runs.filter (fun r => decide (r.1 ≤ t) && decide (t + 1 < last r)) }
  (runs.filter (fun r => t + 1 = last r)).foldl (fun s r => s.endPacket k r.1 r.2) s

/-- The stream engine's transmit side at tick `t`, with the values of R246. -/
def State.txTick (s : State) (t : Nat) (vals : Tbl Int) : State :=
  let s := { s with str := { s.str with
    txHist := (vals.filter (fun e => e.1 < s.netChans && e.2 != 0)) :: s.str.txHist.take 95 } }
  ((List.range 256).filter (fun k => s.bit (F.STR_TX_CFG_EN k) || !(s.txs k).runs.isEmpty)).foldl (fun s k => s.txStream t k) s

/-- A STANDBY SHADOW turns HOT: the last packet of every stream is sent at once (R318). -/
def State.turnHot (s : State) : State :=
  let s := s.putBit F.PAIR_STAT_HOT true
  let s := { s with pair := { s.pair with hot := true } }
  s.str.tx.foldl (fun s e => s.sendPacket e.2.last) s

/-- A SHADOW that watches and has not turned HOT. -/
def State.standsBy (s : State) : Bool := s.node.mode == .shadow && s.bit F.PAIR_CFG_STANDBY && !s.bit F.PAIR_STAT_HOT

/-- The SHADOW's promotion at the tick after its partner is lost or has fallen to class 0 (Table 2.2, R310); on a loss a STANDBY
SHADOW turns HOT first (R318). -/
def State.promoteTick (s : State) : State :=
  let s := if s.standsBy && s.paired && s.pair.lostNow then s.turnHot else s
  if s.promoteDue then s.promote else s

/-- The pair unit's frames enter the switch. -/
def State.outboxTick (s : State) : State :=
  if s.net.outbox.isEmpty then s
  else (State.sendPacket { s with net := { s.net with outbox := [] } } s.net.outbox)

/-- STANDBY_TURN_HOT (R318): the watched copy of the packet due at the coming tick is missing, or the partner is lost;
the last packet of every stream is sent at once. -/
def effStandbyTurnHot (s : State) : State :=
  let n := s.packetLen (s.rg (STR_TX_CFG (s.get F.PAIR_CFG_WATCH)))
  let due := (s.node.n.toNat + 1) / max 1 n * n
  let missing := n != 0 && n ≤ due && !s.str.watched.contains (due - n)
  if s.standsBy && (missing || s.pair.lostNow) then s.turnHot else s

/-! ## Meanings of the commands -/

/-- FRAME_RECEIVED (R229). -/
def execFrameReceived (f : FrameIn) (s : State) : Result :=
  runs s (effFrameReceived f)

/-- STREAM_DEADLINE (R255). -/
def execStreamDeadline (k : Fin 256) (s : State) : Result :=
  runs s (effStreamDeadline k.val)

/-- STANDBY_TURN_HOT (R318). -/
def execStandbyTurnHot (s : State) : Result :=
  runs s effStandbyTurnHot

end Sys2Proof.Machine
end

