-- ==== Sys2Proof/Machine/Refs.lean ====
section
/-! DEFINITION. The reference selector (chapter 10): measurement, qualification, switching, disagreement, re-alignment. -/

namespace Sys2Proof.Machine

/-! ## State of a reference -/

/-- A reference not measured yet. -/
def RefSt.rest : RefSt := ⟨none, 0, [], 0, 0, 0, 0, false, 0, 0⟩

/-- A reference's typed state. -/
def State.rf (s : State) (r : Nat) : RefSt := tgetD s.tu.sel.refs r RefSt.rest

/-- Change the selector. -/
def State.mapSel (s : State) (f : Selector → Selector) : State := { s with tu := { s.tu with sel := f s.tu.sel } }

/-- Set a reference's typed state. -/
def State.setRf (s : State) (r : Nat) (v : RefSt) : State :=
  s.mapSel (fun c => { c with refs := tput c.refs r (if v = RefSt.rest then none else some v) })

/-- Rank of a reference (R284). -/
def State.rank (s : State) (r : Nat) : Nat := s.get (F.REF_CFG_RANK r)

/-- Qualified and SUSPECT bits. -/
def State.qualified (s : State) (r : Nat) : Bool := s.bit (F.REF_STAT_QUALIFIED r)
def State.suspect (s : State) (r : Nat) : Bool := s.bit (F.REF_STAT_SUSPECT r)

/-- Set a bit of a mask field. -/
def State.putMask (s : State) (f : Fld) (i : Nat) (b : Bool) : State :=
  let v := s.get f
  s.put f (if b then (if v.testBit i then v else v + 2 ^ i) else if v.testBit i then v - 2 ^ i else v)

/-- Set a reference's QUALIFIED bit in both registers. -/
def State.setQualified (s : State) (r : Nat) (b : Bool) : State :=
  (s.putBit (F.REF_STAT_QUALIFIED r) b).putMask F.REF_SEL_STAT_QUALIFIED r b

/-- Set a reference's SUSPECT bit in both registers. -/
def State.setSuspect (s : State) (r : Nat) (b : Bool) : State :=
  (s.putBit (F.REF_STAT_SUSPECT r) b).putMask F.REF_SEL_STAT_SUSPECT r b

/-- The underlying state of the selector (Table 10.2 without DISAGREE). -/
def State.selBase (s : State) : Nat := s.tu.sel.base

/-- The selected reference; 7 for none. -/
def State.selRef (s : State) : Nat := s.get F.REF_SEL_STAT_SEL

/-- ROOT follows a selected reference: ACQUIRING or LOCKED. -/
def State.following (s : State) : Bool := s.selBase = 2 || s.selBase = 3

/-- The selector runs (R288, R300). -/
def State.selRuns (s : State) : Bool := s.selBase != 7 && s.get F.PWR_STAT_STATE < 4

/-- A signed bias in 2^-16 ns. -/
def State.bias (s : State) (r : Nat) : Int := s.getS (F.REF_BIAS_BIAS r)

/-- |v| in 2^-32 is above p / 10 ppm. -/
def ppmAbove (v : Int) (p : Nat) : Bool := decide (p * 2 ^ 32 < v.natAbs * 10000000)

/-- Remainder of least magnitude. -/
def wrapNear (v : Int) (g : Nat) : Int :=
  let m := v % (g : Int)
  if (g : Int) < 2 * m then m - g else m

/-! ## What the registers show -/

/-- The reference ROOT follows, none for the model (Table 10.2): in a switch the old reference until the commit point, unless it is
lost, and the target from then on. -/
def State.steering (s : State) : Option Nat :=
  if s.following then some s.selRef
  else if s.selBase != 4 then none
  else if s.bit F.REF_SEL_STAT_COMMITTED then some (s.get F.REF_SEL_STAT_TARGET)
  else if (s.tu.sel.fromState = 2 || s.tu.sel.fromState = 3) && !s.tu.sel.fromLost then some s.tu.sel.fromRef
  else none

/-- A SUSPECT mark affects the choice (Table 10.5). -/
def State.disagree (s : State) : Bool :=
  let live := (List.range 6).filter (fun r => s.rank r != 0 && s.qualified r)
  let sus := live.filter s.suspect
  match s.steering with
  | some c => s.suspect c || sus.any (fun r => decide (s.rank r ≤ s.rank c))
  | none => sus.any (fun r => (live.filter (fun q => !s.suspect q)).all (fun q => decide (s.rank r < s.rank q)))

/-- The forced reference, if FORCE_EN is 1 (R297). -/
def State.forced (s : State) : Option Nat :=
  if s.bit F.REF_SEL_CTL_FORCE_EN then some (s.get F.REF_SEL_CTL_FORCE_REF) else none

/-- SEL in NO_HISTORY and FREE_RUN: REF5, unless it is disabled or another reference is forced. -/
def State.restRef (s : State) : Nat :=
  if s.rank 5 != 0 && (s.forced.isNone || s.forced = some 5) then 5 else 7

/-- STATE with the balls REF_STAT[2:0] (R290), SEL, HOLDING, REALIGN_DUE follow from the selector's state (Tables 10.2, 10.5, R292).
DEDUCED, log 73: unsafe. -/
def State.showSelector (s : State) : State :=
  let old := s.get F.REF_SEL_STAT_STATE
  let b := s.selBase
  let s := if b = 0 || b = 1 then s.put F.REF_SEL_STAT_SEL s.restRef else s
  let code := if b = 7 then 7 else if s.disagree then 6 else b
  let s := s.put F.REF_SEL_STAT_STATE code
  let s := if code = old then s else s.emit (.refStat code)
  let s := s.putBit F.REF_SEL_STAT_HOLDING (b != 7 && s.steering.isNone)
  s.putBit F.CLK_STAT_REALIGN_DUE (s.selRef < 5 && decide (1000 * 65536 < (s.bias s.selRef).natAbs))

/-- A change of the selector that is to be shown and notified (Table 17.15, event 8). -/
def State.selStep (s : State) (f : State → State) : State :=
  let t := f s
  let t := if s.following && !(t.following && t.selRef = s.selRef) then
      t.mapSel (fun c => { c with left := some (s.selRef, s.node.uptime) }) else t
  let s' := t.showSelector
  if s'.rg REF_SEL_STAT = s.rg REF_SEL_STAT then s' else s'.notify 8 (beBytes 4 (s'.rg REF_SEL_STAT))

/-! ## Choosing and switching (R284, R289, R291) -/

/-- The reference R284 and R297 select. DEDUCED, log 73: unsafe. -/
def State.bestRef (s : State) : Option Nat :=
  let cand := (List.range 6).filter (fun r => s.rank r != 0 && s.qualified r && !s.suspect r
    && (match s.forced with
      | some f => r = f
      | none => true))
  cand.foldl (fun (best : Option Nat) r =>
    match best with
    | none => some r
    | some b => if s.rank r < s.rank b || (s.rank r = s.rank b && r = s.selRef) then some r else some b) none

/-- Stop every wait-to-restore. -/
def State.stopWtr (s : State) : State :=
  (List.range 6).foldl (fun s r =>
    if s.bit (F.REF_STAT_WTR_RUN r) then (s.putBit (F.REF_STAT_WTR_RUN r) false).put (F.REF_STAT_TIMER r) 0 else s) s

/-- Start a wait-to-restore for a better reference (R296). -/
def State.startWtr (s : State) (r : Nat) : State :=
  if s.following && s.selRef < 6 && s.rank r < s.rank s.selRef && s.qualified r && !s.suspect r && s.forced.isNone
      && s.rank r != 0 && !s.bit (F.REF_STAT_WTR_RUN r) then
    ((s.setRf r { s.rf r with wtrFor := 0 }).putBit (F.REF_STAT_WTR_RUN r) true).put (F.REF_STAT_TIMER r)
      (10 * s.get F.REF_SEL_CTL_WTR)
  else s

/-- Every better reference has its wait-to-restore running (R296). -/
def State.startWtrs (s : State) : State := (List.range 6).foldl (fun s r => s.startWtr r) s

/-- The selector enters a state of Table 10.2; entering HOLDOVER or FREE_RUN raises REF_HOLD (Table 16.1). -/
def State.enterBase (s : State) (b : Nat) : State :=
  let enters := (b == 5 || b == 1) && s.selBase != b
  let s := s.mapSel (fun c => { c with base := b })
  if enters then s.latch 30 else s

/-- Start a switch to reference `r` (Table 10.3 step 1); REF5 needs none: the model steers (Table 10.2). -/
def State.startSwitch (s : State) (r : Nat) : State :=
  let s := s.stopWtr
  if r = 5 then
    ((((s.enterBase (if s.bit F.CLK_STAT_HIST then 1 else 0)).put F.REF_SEL_STAT_SEL 5).put F.REF_SEL_STAT_TARGET 7).bump (F.REF_CNT_SELECTED 5))
  else
    let s := s.mapSel (fun c => { c with base := 4, fromState := c.base, fromRef := s.selRef, fromLost := false, updated := false })
    let s := s.setRf r { s.rf r with winN := 0, winSum := 0 }
    (s.put F.REF_SEL_STAT_TARGET r).putBit F.REF_SEL_STAT_COMMITTED false

/-- Switch at once, or propose it to a present client (R289, Table 2.8). -/
def State.goSwitch (s : State) (r : Nat) : State :=
  if s.forced.isSome || s.policyActs then s.startSwitch r else s.propose (.refSelect r)

/-- With no client present, a better reference whose wait-to-restore has run out while one was, its switch refused or lapsed, becomes
the target (R289, R296). -/
def State.resumeRevert (s : State) : State :=
  if s.following && s.forced.isNone then
    let due := (List.range 6).filter (fun r => s.rank r != 0 && decide (s.rank r < s.rank s.selRef) && s.qualified r && !s.suspect r
      && !s.bit (F.REF_STAT_WTR_RUN r))
    match due.foldl (fun (b : Option Nat) r => match b with
      | some q => if s.rank r < s.rank q then some r else some q
      | none => some r) none with
    | some r => s.goSwitch r
    | none => s
  else s

/-- On the model, the reference of R284 becomes the target (R289). -/
def State.choose (s : State) : State :=
  if s.selBase = 0 || s.selBase = 1 || s.selBase = 5 then
    match s.bestRef with
    | some r => if r = 5 then s else s.goSwitch r
    | none => s
  else s

/-- Leave the reference in use for the model: HOLDOVER, or where R294 says so NO_HISTORY. -/
def State.toModel (s : State) (noHistory : Bool) : State :=
  let s := s.stopWtr
  let s := (s.put F.REF_SEL_STAT_TARGET 7).putBit F.REF_SEL_STAT_COMMITTED false
  let s := s.put F.CLK_HOLD_TIME_SECONDS 0
  if noHistory then
    (s.mapSel (fun c => { c with base := 0 })).put F.REF_SEL_STAT_SEL s.restRef
  else
    ((s.enterBase 5).put F.REF_SEL_STAT_SEL 7).bump F.REF_EVT_CNT_HOLDOVERS

/-- The switch in progress aborts before its commit point (Table 10.4); back on a reference, better ones wait again (R296). -/
def State.abortSwitch (s : State) : State :=
  let c := s.tu.sel
  let s := (s.bump F.REF_EVT_CNT_ABORTS).put F.REF_SEL_STAT_TARGET 7
  if (c.fromState = 2 || c.fromState = 3) && c.fromLost then s.toModel false
  else (s.enterBase c.fromState).startWtrs

/-- A reference ceases to be usable: disqualified, or marked SUSPECT as a target (R289, Table 10.4). -/
def State.unusable (s : State) (r : Nat) : State :=
  if s.following && s.selRef = r then (s.toModel false).choose
  else if s.selBase = 4 then
    if s.get F.REF_SEL_STAT_TARGET = r then
      (if s.bit F.REF_SEL_STAT_COMMITTED then s.toModel false else s.abortSwitch).choose
    else if s.tu.sel.fromRef = r && !s.bit F.REF_SEL_STAT_COMMITTED then
      s.mapSel (fun c => { c with fromLost := true })
    else s
  else s

/-- Disqualification (R287). -/
def State.disqualify (s : State) (r : Nat) : State :=
  let s := s.setRf r { s.rf r with ok := false, okFor := 0, wtrFor := 0 }
  let s := (s.putBit (F.REF_STAT_WTR_RUN r) false).put (F.REF_STAT_TIMER r) 0
  if !s.qualified r then s
  else ((s.setQualified r false).bump (F.REF_CNT_LOSSES r)).unusable r

/-! ## Conditions (R286, R287) -/

/-- The servo state of a PTP instance. -/
def State.servo (s : State) (d : Nat) : Nat := s.get (F.TMS_PTP_STAT_SERVO d)

/-- The conditions of R287 hold now. -/
def State.refOk (s : State) (r : Nat) : Bool :=
  if r = 5 then s.rank 5 != 0
  else
    s.rank r != 0 && s.bit (F.REF_STAT_PRESENT r) && !ppmAbove (s.getS (F.REF_FREQ_D r)) (10 * s.get (F.REF_CFG_QUAL_PPM r))
      && !ppmAbove (s.rf r).y 500
      && (2 ≤ r || ((s.servo r = 3 || s.servo r = 4) && s.get (F.TMS_PTP_STAT_GM_CLASS r) ≤ s.get (F.REF_CFG_CLASS_MAX r)))

/-- A reference becomes qualified: a switch in progress to a worse one aborts, a reference in use is waited on, the model is left
(R289, R295 to R297). -/
def State.qualify (s : State) (r : Nat) : State :=
  let s := (s.setQualified r true).put (F.REF_STAT_TIMER r) 0
  let s := s.unbar (.refSelect r)
  if s.selBase = 4 then
    if !s.bit F.REF_SEL_STAT_COMMITTED && s.rank r < s.rank (s.get F.REF_SEL_STAT_TARGET) && !s.suspect r && s.forced.isNone then
      let s := s.abortSwitch
      match s.bestRef with
      | some b => s.goSwitch b
      | none => s
    else s
  else if s.following then (if s.forced = some r && s.selRef != r then s.startSwitch r else s.startWtr r)
  else s.choose

/-- Follow the conditions of a reference: QUAL_TIME starts when they come to hold, disqualification when one fails. REF5 is always
present. After a wake from P3 or P4 the reference recorded on entry qualifies at once (R300). -/
def State.checkRef (s : State) (r : Nat) : State :=
  let ok := s.refOk r
  if r = 5 then (s.putBit (F.REF_STAT_PRESENT 5) true).setQualified 5 ok
  else if !ok then (if s.qualified r || (s.rf r).ok then s.disqualify r else s)
  else if s.tu.sel.requal = some r then
    let s := (s.mapSel (fun c => { c with requal := none })).setRf r { s.rf r with ok := true, okFor := 0 }
    if s.qualified r then s else s.qualify r
  else if (s.rf r).ok then s
  else (s.setRf r { s.rf r with ok := true, okFor := 0 }).put (F.REF_STAT_TIMER r) (10 * s.get (F.REF_CFG_QUAL_TIME r))

/-- Act on a forced selection (R297). -/
def State.forceAct (s : State) : State :=
  if s.selBase = 4 || s.selBase = 7 then s
  else
    match s.forced with
    | some f =>
      let s := s.stopWtr
      if s.selRef = f && (s.following || f = 5) && !s.suspect f then s
      else if s.rank f != 0 && s.qualified f && !s.suspect f then s.startSwitch f
      else if s.following then s.toModel false else s
    | none => if s.following then s.startWtrs else s.choose

/-! ## Events -/

/-- REF_QUALIFIED (R287): a reference has held its conditions for QUAL_TIME. -/
def effRefQualified (r : Nat) (s : State) : State :=
  if !s.selRuns || r = 5 || s.qualified r || !(s.rf r).ok then s
  else s.selStep (fun s => s.qualify r)

/-- REF_LOSS (Table 10.1): the loss condition of a reference is met. -/
def effRefLoss (r : Nat) (s : State) : State :=
  if !s.selRuns || r = 5 || !s.bit (F.REF_STAT_PRESENT r) then s
  else s.selStep (fun s =>
    let s := (s.putBit (F.REF_STAT_PRESENT r) false).putBit (F.REF_STAT_LOST r) true
    let s := s.setRf r { s.rf r with last := none, snaps := [], run := 0 }
    let s := if s.rank r != 0 then s.latch 32 else s
    let s := if s.qualified r then s else s.bump (F.REF_CNT_LOSSES r)
    s.disqualify r)

/-- The lock window of a reference (R288), 2^-16 ns. -/
def State.lockWindow (s : State) (r : Nat) : Nat :=
  if r < 2 then s.get F.TMS_CTL_LOCK_WIN * 10 * 65536 else 100 * 65536

/-- An update of reference `r` with its phase less the bias. The update that completes a switch is the first of those
that LOCKED counts (R296, worked example). -/
def State.refUpdate (s : State) (r : Nat) (err : Int) : State :=
  let s := s.put (F.REF_PHASE_ERR r) (unsigned 32 (rhe err 256))
  let inside := decide (err.natAbs ≤ s.lockWindow r)
  let completes := s.selBase = 4 && s.bit F.REF_SEL_STAT_COMMITTED && s.get F.REF_SEL_STAT_TARGET = r
  let before := if completes && !s.tu.sel.updated then 0 else (s.rf r).run
  let run := if inside then before + 1 else 0
  let s := s.setRf r { s.rf r with run := run }
  if completes then s.mapSel (fun c => { c with updated := true })
  else if s.selBase = 2 && s.selRef = r && 16 ≤ run then s.mapSel (fun c => { c with base := 3 })
  else s

/-- A phase measurement within the phase window of a switch (Table 10.3 step 2). -/
def State.windowAdd (s : State) (r : Nat) (phase : Int) (grid : Option Nat) : State :=
  if s.selBase = 4 && !s.bit F.REF_SEL_STAT_COMMITTED && s.get F.REF_SEL_STAT_TARGET = r then
    let v := s.rf r
    let x := match grid with
      | some g =>
        if v.winN = 0 then phase else
          let m := v.winSum / (v.winN : Int)
          m + wrapNear (phase - m) g
      | none => phase
    s.setRf r { v with winN := v.winN + 1, winSum := v.winSum + x }
  else s

/-- The grid period of an edge reference and the phase of an edge at counter value `t` (Table 10.1).
DEDUCED, log 73: unsafe. -/
def State.edgePhase (s : State) (r t : Nat) : Nat × Int :=
  if r = 3 then (100 * 65536, wrapNear t (100 * 65536))
  else
    let k := 1000000000 * 65536
    let n := (rhe (((t : Int) - s.node.t0) * s.fs) k).toNat
    (k / s.fs, (t : Int) - s.tickTime n)

/-- The correction of ROOT summed over time until counter value `t` (R286). -/
def State.ySumAt (s : State) (t : Nat) : Int := s.tu.sel.ySum + s.getS F.CLK_RATE_Y * ((t : Int) - s.tu.sel.yAt)

/-- An edge of REF4 more than 1 ms from its expected time, 1 s after the one before (Table 10.1). -/
def RefSt.offTime (v : RefSt) (t : Nat) : Bool :=
  match v.last with
  | some (t0, _, _) => decide (1000000 * 65536 < ((t : Int) - t0 - 1000000000 * 65536).natAbs)
  | none => false

/-- REF_EVENT (R283): an edge of REF2, REF3 or REF4 at counter value `t`. Those of a reference with rank 0 are not measured, and its
PRESENT bit stays. DESIGN CHOICE, log 95: unsafe. -/
def effRefEvent (r t : Nat) (s : State) : State :=
  if !s.selRuns || r < 2 || 4 < r || s.rank r = 0 then s
  else if r = 4 && (s.rf 4).offTime t then
    let s := effRefLoss 4 s
    s.setRf 4 { s.rf 4 with last := some (t, (s.edgePhase 4 t).2, s.ySumAt t) }
  else s.selStep (fun s =>
    let (g, phase) := s.edgePhase r t
    let v := s.rf r
    let acc := match v.last with
      | some (_, a, _) => a + wrapNear (phase - a) g
      | none => phase
    let s := (s.setRf r { v with last := some (t, acc, s.ySumAt t) }).putBit (F.REF_STAT_PRESENT r) true
    let s := s.windowAdd r phase (some g)
    let upd := t / (1000000 * 65536)
    let s := if r = 4 || upd != v.upd then
        (s.setRf r { s.rf r with upd := upd }).refUpdate r (wrapNear (phase - s.bias r) g)
      else s
    s.checkRef r)

/-- An offset of a PTP instance as its reference's phase. -/
def State.refPtp (s : State) (d : Nat) (ofs : Int) : State :=
  if !s.selRuns then s
  else s.selStep (fun s => (((s.putBit (F.REF_STAT_PRESENT d) true).windowAdd d ofs none).refUpdate d (ofs - s.bias d)).checkRef d)

/-- REF0 and REF1 are present while their instance is in SLEW or LOCKED (Table 10.1). -/
def State.refServo (s : State) (d : Nat) : State :=
  if !s.selRuns then s
  else if s.servo d = 3 || s.servo d = 4 then
    s.selStep (fun s => (s.putBit (F.REF_STAT_PRESENT d) true).checkRef d)
  else effRefLoss d s

/-- The measurements of a switch's phase window (Table 10.1). -/
def windowLen (r : Nat) : Nat :=
  match r with
  | 0 | 1 => 8
  | 2 => 64
  | 3 => 65536
  | _ => 4

/-- SWITCH_COMMIT (Table 10.3 step 3): the phase window has ended; the mean phase becomes the bias. -/
def effSwitchCommit (s : State) : State :=
  let r := s.get F.REF_SEL_STAT_TARGET
  if !s.selRuns || s.selBase != 4 || s.bit F.REF_SEL_STAT_COMMITTED || (s.rf r).winN < windowLen r then s
  else s.selStep (fun s =>
    let m := rhe (s.rf r).winSum (s.rf r).winN
    -- the phase error is zero at the commit point (R292)
    ((s.put (F.REF_BIAS_BIAS r) (unsigned 64 m)).put (F.REF_PHASE_ERR r) 0).putBit F.REF_SEL_STAT_COMMITTED true)

/-- SWITCH_COMPLETE (Table 10.3 step 4): the first update of the target after the commit point. -/
def effSwitchComplete (s : State) : State :=
  if !s.selRuns || s.selBase != 4 || !s.tu.sel.updated then s
  else s.selStep (fun s =>
    let r := s.get F.REF_SEL_STAT_TARGET
    let s := s.mapSel (fun c => { c with base := 2, updated := false })
    let s := ((s.put F.REF_SEL_STAT_SEL r).put F.REF_SEL_STAT_TARGET 7).putBit F.REF_SEL_STAT_COMMITTED false
    let s := (s.bump F.REF_EVT_CNT_SWITCHES).bump (F.REF_CNT_SELECTED r)
    (if s.forced.isSome then s.forceAct else s).startWtrs)

/-- WTR_EXPIRY (R296). -/
def effWtrExpiry (r : Nat) (s : State) : State :=
  if !s.selRuns || !s.bit (F.REF_STAT_WTR_RUN r) || !s.following || s.forced.isSome then s
  else s.selStep (fun s =>
    let s := (s.putBit (F.REF_STAT_WTR_RUN r) false).put (F.REF_STAT_TIMER r) 0
    if s.qualified r && !s.suspect r && s.rank r < s.rank s.selRef then s.goSwitch r else s)

/-- HOLDOVER_TIMEOUT: HOLD_MAX hours in HOLDOVER have passed. -/
def effHoldoverTimeout (s : State) : State :=
  if s.selRuns && s.selBase = 5 then s.selStep (fun s =>
    (s.enterBase 1).put F.REF_SEL_STAT_SEL s.restRef)
  else s

/-- FORCE_EN is written (R295, R297): a switch before its commit point aborts, then the force acts. -/
def State.forceWritten (s : State) : State :=
  if !s.selRuns then s
  else s.selStep (fun s =>
    let s := if s.selBase = 4 && !s.bit F.REF_SEL_STAT_COMMITTED then s.abortSwitch else s
    s.forceAct)

/-- FORCE_SELECT: the Keeper writes FORCE_EN and FORCE_REF for the CONTROLLER session. -/
def effForceSelect (en : Bool) (r : Nat) (s : State) : State :=
  ((s.put F.REF_SEL_CTL_FORCE_REF r).putBit F.REF_SEL_CTL_FORCE_EN en).forceWritten

/-- A client becomes present during a switch before its commit point: it aborts and is proposed (Table 10.4). -/
def State.switchProposed (s : State) : State :=
  if s.selRuns && s.selBase = 4 && !s.bit F.REF_SEL_STAT_COMMITTED then s.selStep (fun s =>
    let t := s.get F.REF_SEL_STAT_TARGET
    s.abortSwitch.propose (.refSelect t))
  else s

/-! ## Once per second (R285, R286, R294) -/

/-- y_r (R286): for edge references the mean correction of ROOT over the span less the drift of the phase over it. -/
def State.refRate (s : State) (r : Nat) : Int :=
  let y := s.getS F.CLK_RATE_Y
  let v := s.rf r
  if r = 5 then s.getS F.CLK_MODEL_Y_H
  else if r < 2 then y + s.getS (F.TMS_PTP_RATE_RATE r)
  else
    let old := if r = 4 then (v.snaps.take 16).getLast? else v.snaps.head?
    match v.last, old with
    | some (t, a, c), some (t0, a0, c0) => if t ≤ t0 then v.y else rhe (c - c0 - (a - a0) * 2 ^ 32) (t - t0)
    | _, _ => v.y

/-- One reference's frequency (R286), timers and snapshot. -/
def State.freqOf (s : State) (r : Nat) : State :=
  if s.rank r = 0 then s
  else
    let y := s.refRate r
    let yh := s.getS F.CLK_MODEL_Y_H
    let d := if s.bit F.CLK_STAT_HIST then y - yh else y
    let v := s.rf r
    let s := s.put (F.REF_FREQ_D r) (if r = 5 then 0 else unsigned 32 d)
    let snaps := match v.last with
      | some p => p :: v.snaps.take 16
      | none => v.snaps
    let s := s.setRf r { v with y := y, snaps := snaps, okFor := v.okFor + 1, wtrFor := v.wtrFor + 1 }
    let s := s.put (F.REF_STAT_TIMER r) (s.get (F.REF_STAT_TIMER r) - 10)
    s.checkRef r

/-- Pairs of qualified references of equal rank. -/
def State.equalPairs (s : State) : List (Nat × Nat) :=
  (List.range 6).flatMap (fun a => (List.range 6).filterMap (fun b =>
    if a < b && s.rank a != 0 && s.rank a = s.rank b && s.qualified a && s.qualified b then some (a, b) else none))

/-- Measurements in a row at which equal-rank references disagree (above 2 ppm) or agree (within 1 ppm). -/
def State.pairCounts (s : State) : State :=
  let ps := s.equalPairs
  let diff (e : Nat × Nat) : Int := s.getS (F.REF_FREQ_D e.1) - s.getS (F.REF_FREQ_D e.2)
  let dis := ps.filterMap (fun e => if ppmAbove (diff e) 20 then some (8 * e.1 + e.2, tgetD s.tu.sel.dis (8 * e.1 + e.2) 0 + 1) else none)
  let agr := ps.filterMap (fun e => if ppmAbove (diff e) 10 then none else some (8 * e.1 + e.2, tgetD s.tu.sel.agr (8 * e.1 + e.2) 0 + 1))
  s.mapSel (fun c => { c with dis := dis, agr := agr })

/-- The agreement test of a SUSPECT reference in use (Table 10.5); one that a switch is about to leave is left at once, and the
switch goes on from the model (Table 10.4). -/
def State.agreeTest (s : State) : State :=
  match s.steering with
  | none => s
  | some c =>
    if s.suspect c && (!s.bit F.CLK_STAT_HIST || ppmAbove (s.getS (F.REF_FREQ_D c)) 5) then
      if s.following then (s.toModel (!s.bit F.CLK_STAT_HIST)).choose
      else if s.bit F.REF_SEL_STAT_COMMITTED then s
      else s.mapSel (fun c => { c with fromLost := true })
    else s

/-- The largest offset correction of a second, in 2^-32 (R275, R293): 10 ppm, and for REF2 to REF4 no more than a loop of the
bandwidth of REF_CFG makes of the phase error, 2π × BW × error. DEDUCED, log 73: unsafe. -/
def State.offsetBound (s : State) (r : Nat) : Nat :=
  let err := (s.getS (F.REF_PHASE_ERR r)).natAbs
  if err = 0 then 0
  else if r < 2 then 42949
  else min 42949 ((err * 10 ^ s.get (F.REF_CFG_BW r) * 105414357 + 9999999999) / 10 ^ 10)

/-- The rate a reference asks of ROOT (R275, R293): its own rate, and an offset correction against the phase less the bias, whose
size the loop makes. DEDUCED, log 73: unsafe. -/
def State.askedRate (s : State) (r : Nat) : Int :=
  let c : Int := ((Config.freeWord s.free).toNat % (s.offsetBound r + 1) : Nat)
  s.refRate r + (if 0 < s.getS (F.REF_PHASE_ERR r) then -c else c)

/-- The correction the model gives ROOT: none in NO_HISTORY and in a switch from it (Table 10.2, Table 10.3), else y_h. -/
def State.modelRate (s : State) : Int :=
  if s.selBase = 0 || (s.selBase = 4 && s.tu.sel.fromState = 0) then 0 else s.getS F.CLK_MODEL_Y_H

/-- The correction applied to ROOT in the next second (R275, R293): toward the model where it steers, else toward what the reference
in use asks, within 0.2 ppm per second and 50 ppm. -/
def State.rootRate (s : State) : State :=
  let y := s.getS F.CLK_RATE_Y
  let target : Int := match s.steering with
    | none => s.modelRate
    | some r => s.askedRate r
  let y' := satTo (-214748) 214748 (y + satTo (-858) 858 (target - y))
  let s := s.mapSel (fun c => { c with ySum := s.ySumAt s.node.time, yAt := s.node.time })
  s.nextFree.put F.CLK_RATE_Y (unsigned 32 y')

/-- REF_FREQ_UPDATE: once per second. -/
def effRefFreqUpdate (s : State) : State :=
  if !s.selRuns then s
  else s.selStep (fun s =>
    let s := if s.get F.REF_SEL_STAT_STATE = 3 then
        let yh := s.getS F.CLK_MODEL_Y_H
        let s := s.put F.CLK_MODEL_Y_H (unsigned 32 (yh + rhe (s.getS F.CLK_RATE_Y - yh) 300))
        let s := s.bump F.CLK_MODEL_AGE_AGE
        s.putBit F.CLK_STAT_HIST (decide (60 ≤ s.get F.CLK_MODEL_AGE_AGE))
      else s
    let s := (List.range 6).foldl (fun s r => s.freqOf r) s
    let s := s.pairCounts.agreeTest
    let s := if s.selBase = 5 || s.selBase = 1 then s.bump F.CLK_HOLD_TIME_SECONDS else s.put F.CLK_HOLD_TIME_SECONDS 0
    s.rootRate)

/-- The counter of a pair of references in a table. -/
def pairCount (t : Tbl Nat) (a b : Nat) : Nat := tgetD t (8 * min a b + max a b) 0

/-- REF_SUSPECT_MARK (R294): references of equal rank have disagreed at every measurement for 10 s. -/
def effRefSuspectMark (s : State) : State :=
  if !s.selRuns then s
  else s.selStep (fun s =>
    let ps := s.equalPairs
    let others (r : Nat) : List Nat := ps.filterMap (fun e => if e.1 = r then some e.2 else if e.2 = r then some e.1 else none)
    let marks := (List.range 6).filter (fun r => !s.suspect r && !(others r).isEmpty
      && (others r).all (fun q => decide (10 ≤ pairCount s.tu.sel.dis r q)))
    let s := marks.foldl (fun s r => ((s.setSuspect r true).bump F.REF_EVT_CNT_DISAGREES).latch 31) s
    let s := marks.foldl (fun s r =>
      let s := if s.bit (F.REF_STAT_WTR_RUN r) then (s.putBit (F.REF_STAT_WTR_RUN r) false).put (F.REF_STAT_TIMER r) 0 else s
      if s.selBase = 4 && s.get F.REF_SEL_STAT_TARGET = r then s.unusable r else s) s
    s.agreeTest)

/-- REF_SUSPECT_CLEAR (R294): references of equal rank have agreed within 1 ppm for 10 s. DEDUCED, log 73: unsafe. -/
def effRefSuspectClear (s : State) : State :=
  if !s.selRuns then s
  else s.selStep (fun s =>
    let ps := s.equalPairs
    let clear := (List.range 6).filter (fun r => s.suspect r && ps.any (fun e =>
      (e.1 = r || e.2 = r) && decide (10 ≤ pairCount s.tu.sel.agr e.1 e.2)))
    let s := clear.foldl (fun s r => s.setSuspect r false) s
    clear.foldl (fun s r => if s.following then s.startWtr r else s.choose) s)

/-- A wait-to-restore of a reference that is no longer better than the one selected stops. -/
def State.stopWorse (s : State) : State :=
  (List.range 6).foldl (fun s r =>
    if s.bit (F.REF_STAT_WTR_RUN r) && (s.rank r = 0 || s.rank s.selRef ≤ s.rank r) then
      (s.putBit (F.REF_STAT_WTR_RUN r) false).put (F.REF_STAT_TIMER r) 0 else s) s

/-- A reset leaves the code of REF_STAT[2:0] at 0b111 (R288). -/
def State.stopSelector (s old : State) : State :=
  if old.get F.REF_SEL_STAT_STATE = 7 then s else s.emit (.refStat 7)

/-- The reference selected among REF0 to REF4; a switch leaves the old one selected until it completes, unless that one is lost. -/
def State.selected (s : State) : Option Nat :=
  if s.selRef ≤ 4 && (s.following || (s.selBase = 4 && !s.tu.sel.fromLost)) then some s.selRef else none

/-- Entry into P3 or P4 from state `old`: the selected reference is recorded (R300). -/
def State.recordRef (s : State) (old : Nat) : State :=
  let r := match s.selected with
    | some r => some r
    | none => if old < 3 then none else s.tu.sel.recorded
  s.mapSel (fun c => { c with recorded := r, requal := none })

/-- The reference section's writes change ranks and limits: conditions are tested again, and a reference that is better now is waited
on (R296). -/
def State.refsWritten (s : State) : State :=
  if !s.selRuns then s
  else s.selStep (fun s =>
    let s := (List.range 6).foldl (fun s r => s.checkRef r) s
    if s.following then s.stopWorse.startWtrs else s.choose)

/-- ROOT_UNLOCK. -/
def effRootUnlock (s : State) : State :=
  if !s.bit F.CLK_STAT_ROOT_LOCK then s
  else ((s.putBit F.CLK_STAT_ROOT_LOCK false).bump F.CLK_CNT_ROOT_UNLOCK).latch 33

/-- ROOT_PLL_RELOCK: the cause of ROOT_UNLOCK is absent. -/
def effRootPllRelock (s : State) : State := s.putBit F.CLK_STAT_ROOT_LOCK true

/-! ## Re-alignment (R298) -/

/-- The state and mark conditions of R298. -/
def State.realignOk (s : State) : Bool :=
  (match s.node.mode with
    | .beacon | .lead | .shadow | .hold | .service => true
    | _ => false) && s.get F.REF_SEL_STAT_STATE = 3 && s.selRef < 5

/-- Refuse a re-alignment; one whose mute runs ends with it. -/
def State.realignRefuse (s : State) : State :=
  let s := match s.tu.sel.realign with
    | some (_, some _) => s.unmuteAllOuts .realign
    | _ => s
  ((s.mapSel (fun c => { c with realign := none })).put F.CLK_REALIGN_STATUS 3).putBit F.CLK_STAT_REALIGN_BUSY false

/-- A request with GO: accepted or refused (R298). -/
def State.realignAsk (s : State) (blk : Nat) : State :=
  let n := s.node.n.toNat
  let at_ := if blk = 0 then (n / 8 + 1) * 8 else 8 * blk % 2 ^ 64
  let d := signed 64 ((at_ + 2 ^ 64 - n) % 2 ^ 64)
  let s := s.put F.CLK_REALIGN_N_AT_BLK blk
  if s.realignOk && (blk = 0 || (8 ≤ d && d ≤ 2 ^ 31)) then
    let s := match s.tu.sel.realign with
      | some (_, some _) => s.unmuteAllOuts .realign
      | _ => s
    ((s.mapSel (fun c => { c with realign := some (at_, none) })).put F.CLK_REALIGN_STATUS 1).putBit F.CLK_STAT_REALIGN_BUSY true
  else s.realignRefuse

/-- A re-alignment is done. -/
def State.realignDone (s : State) : State :=
  (((s.mapSel (fun c => { c with realign := none })).put F.CLK_REALIGN_STATUS 2).putBit F.CLK_STAT_REALIGN_BUSY false).bump
    F.CLK_CNT_REALIGNS

/-- The smallest N whose T(N) is at least `x` (R268). -/
def State.tickAtOrAfter (s : State) (x : Nat) : Nat :=
  let k := 1000000000 * 65536
  ((((x : Int) - s.node.t0).toNat) * s.fs + k - 1) / k

/-- One sample period, rounded up, in the units of node.time. -/
def State.tsUnits (s : State) : Nat := (1000000000 * 65536 + s.fs - 1) / s.fs

/-- T0 moves by `d`: the phases of the references measured against T(N) move with it (R283, R298). -/
def State.moveTicks (s : State) (d : Int) : State :=
  let s := { s with node := { s.node with t0 := s.node.t0 + d } }
  [2, 4].foldl (fun s r =>
    let v := s.rf r
    s.setRf r { v with
      last := v.last.map (fun e => (e.1, e.2.1 - d, e.2.2)), snaps := v.snaps.map (fun e => (e.1, e.2.1 - d, e.2.2)) }) s

/-! ## Meanings of the commands -/

/-- ROOT_UNLOCK (R447). -/
def execRootUnlock (s : State) : Result :=
  runs s effRootUnlock

/-- REF_EVENT (R283). -/
def execRefEvent (r : Fin 6) (t : Nat) (s : State) : Result :=
  runs s (effRefEvent r.val t)

/-- REF_LOSS (R283). -/
def execRefLoss (r : Fin 6) (s : State) : Result :=
  runs s (effRefLoss r.val)

/-- REF_FREQ_UPDATE (R286). -/
def execRefFreqUpdate (s : State) : Result :=
  runs s effRefFreqUpdate

/-- REF_QUALIFIED (R287). -/
def execRefQualified (r : Fin 6) (s : State) : Result :=
  runs s (effRefQualified r.val)

/-- REF_SUSPECT_MARK (R294). -/
def execRefSuspectMark (s : State) : Result :=
  runs s effRefSuspectMark

/-- REF_SUSPECT_CLEAR (R294). -/
def execRefSuspectClear (s : State) : Result :=
  runs s effRefSuspectClear

/-- SWITCH_COMMIT (R291). -/
def execSwitchCommit (s : State) : Result :=
  runs s effSwitchCommit

/-- SWITCH_COMPLETE (R291). -/
def execSwitchComplete (s : State) : Result :=
  runs s effSwitchComplete

/-- WTR_EXPIRY (R296). -/
def execWtrExpiry (r : Fin 6) (s : State) : Result :=
  runs s (effWtrExpiry r.val)

/-- HOLDOVER_TIMEOUT (R288). -/
def execHoldoverTimeout (s : State) : Result :=
  runs s effHoldoverTimeout

/-- FORCE_SELECT (R297). -/
def execForceSelect (en : Bool) (r : Fin 6) (s : State) : Result :=
  runs s (effForceSelect en r.val)

/-- ROOT_PLL_RELOCK (R447). -/
def execRootPllRelock (s : State) : Result :=
  runs s effRootPllRelock

end Sys2Proof.Machine
end

