-- ==== Sys2Proof/Machine/Ptp.lean ====
section
/-! DEFINITION. PTP instances: master choice, offsets, servo states (R271 to R276, R532, R534), pulse outputs (R277 to
R279), capture inputs (R280, R281), the step of the counter (R70, R273). -/

namespace Sys2Proof.Machine

/-! ## Instances -/

/-- An instance with nothing measured. -/
def PtpInst.rest : PtpInst :=
  { foreign := [], master := none, first := false, latest := none, heardAt := 0, syncAt := 0, lastSync := none,
    waitFollow := none, ms := none, req := none,
    delays := [], aside := [], offsets := [], offsAside := [], rates := [], nOffsets := 0, lockRun := 0, farRun := 0,
    splitRun := 0, nearRun := 0, drIntv := 0, seqSync := 0, seqAnn := 0, seqReq := 0 }

/-- An instance's typed state. -/
def State.inst (s : State) (d : Nat) : PtpInst := tgetD s.tu.ptp d PtpInst.rest

/-- Set an instance's typed state. -/
def State.setInst (s : State) (d : Nat) (v : PtpInst) : State :=
  { s with tu := { s.tu with ptp := tput s.tu.ptp d (if v = PtpInst.rest then none else some v) } }

/-- Change an instance's typed state. -/
def State.mapInst (s : State) (d : Nat) (f : PtpInst → PtpInst) : State := s.setInst d (f (s.inst d))

/-- The instance is enabled and the time unit's PTP side runs. -/
def State.ptpOn (s : State) (d : Nat) : Bool := s.bit (F.TMS_PTP_CFG_EN d) && s.get F.PWR_STAT_STATE < 4

/-- A field of a signed byte. -/
def sbyte (v : Nat) : Int := signed 8 v

/-- The source port identity of an instance: EUI-64 of the MAC address, port 1. -/
def State.ownPort (s : State) : Nat :=
  let m := s.fuses.mac
  (m / 2 ^ 24 * 2 ^ 40 + 0xFFFE * 2 ^ 24 + m % 2 ^ 24) * 2 ^ 16 + 1

/-- The clock data an instance announces of itself. -/
def State.ownClock (s : State) (d : Nat) : ClockData :=
  { prio1 := s.get (F.TMS_PTP_CFG_PRIORITY1 d), clockClass := s.get (F.TMS_PTP_QUAL_CLOCK_CLASS d),
    accuracy := s.get (F.TMS_PTP_QUAL_CLOCK_ACCURACY d), variance := s.get (F.TMS_PTP_QUAL_LOG_VARIANCE d),
    prio2 := s.get (F.TMS_PTP_CFG_PRIORITY2 d), gmid := s.ownPort / 2 ^ 16, steps := 0 }

/-- First of two lists of keys by lexical order. -/
def lexLess : List Nat → List Nat → Bool
  | a :: as, b :: bs => decide (a < b) || (a = b && lexLess as bs)
  | [], _ :: _ => true
  | _, [] => false

/-- The better clock by the data set comparison of IEEE 1588 (clause 9.3); `pa`, `pb` break ties.
PRESUMED, log 71: unsafe. -/
def betterClock (a : ClockData) (pa : Nat) (b : ClockData) (pb : Nat) : Bool :=
  if a.gmid = b.gmid then lexLess [a.steps, pa] [b.steps, pb]
  else lexLess [a.prio1, a.clockClass, a.accuracy, a.variance, a.prio2, a.gmid]
    [b.prio1, b.clockClass, b.accuracy, b.variance, b.prio2, b.gmid]

/-- The servo state of an instance is shown in its own status, in TMS_STAT, and as a reference; an entry into SPLIT raises
TIME_SPLIT (R276). -/
def State.setServo (s : State) (d code : Nat) : State :=
  let old := s.servo d
  let s := (s.put (F.TMS_PTP_STAT_SERVO d) code).put (if d = 0 then F.TMS_STAT_SERVO_A else F.TMS_STAT_SERVO_B) code
  let s := s.putBit F.TMS_STAT_SPLIT (s.servo 0 = 6 || s.servo 1 = 6)
  let s := if code = 2 || code = 3 || code = 4 || code = 6 then s else s.setRg (TMS_PTP_OFS d) 0
  let s := if code = 6 && old != 6 then (s.bump F.TMS_STEP_CNT_SPLITS).latch 29 else s
  if old = code then s else (s.mapInst d (fun v => { v with lockRun := 0, farRun := 0, splitRun := 0, nearRun := 0 })).refServo d

/-- PORT_STATE (R532). -/
def State.setPortState (s : State) (d code : Nat) : State := s.put (F.TMS_PTP_STAT_PORT_STATE d) code

/-- Report the grandmaster of an instance. -/
def State.reportGm (s : State) (d : Nat) (c : ClockData) : State :=
  let s := s.put (F.TMS_PTP_STAT_GM_CLASS d) c.clockClass
  (s.put (F.TMS_PTP_STAT_STEPS_REMOVED d) (min 255 c.steps)).setRg (TMS_PTP_GMID d) c.gmid

/-- The span of the receipt timeout counts from now (Table 9.1). -/
def State.hearAgain (s : State) (d : Nat) : State :=
  s.mapInst d (fun v => { v with heardAt := s.node.uptime, syncAt := s.node.uptime })

/-- Enabling or disabling an instance (Table 9.2: OFF and LISTEN); an offset from which a step is to be taken stays. -/
def State.ptpEnable (s : State) (d : Nat) : State :=
  if s.bit (F.TMS_PTP_CFG_EN d) then
    (if s.servo d = 0 then ((s.setPortState d 4).setServo d 1).hearAgain d else s)
  else ((s.setServo d 0).setPortState d 0).setInst d
    { PtpInst.rest with latest := if s.node.stepping = some d then (s.inst d).latest else none }

/-! ## Choosing a master (R532) -/

/-- The instance has a master: the port enters UNCALIBRATED and the servo leaves LISTEN; it has no offset from it yet (R534). -/
def State.takeMaster (s : State) (d src : Nat) : State :=
  let s := s.mapInst d (fun v => { v with
    master := some src, first := true, lastSync := none, waitFollow := none, ms := none, req := none, delays := [],
    aside := [], offsets := [], offsAside := [], rates := [], nOffsets := 0 })
  let s := (s.hearAgain d).setRg (TMS_PTP_OFS d) 0
  (s.setPortState d 8).setServo d (if s.node.lockedOnce then 3 else 2)

/-- The master is lost: before the step LISTEN, after it HOLD (Table 9.2). -/
def State.loseMaster (s : State) (d : Nat) : State :=
  let code := s.servo d
  let s := s.mapInst d (fun v => { v with
    foreign := v.foreign.filter (fun f => some f.src != v.master), master := none, first := false })
  ((s.setPortState d 4).setServo d (if code = 2 then 1 else 5)).hearAgain d

/-- The instance becomes master of its domain; an ordinary clock passes through PRE_MASTER without a stay there (IEEE 1588, clause
9.2.6.11). PRESUMED, log 71: unsafe. -/
def State.becomeMaster (s : State) (d : Nat) : State :=
  let s := (s.setPortState d 6).setServo d 7
  (s.mapInst d (fun v => { v with master := none, first := false })).reportGm d (s.ownClock d)

/-- Intervals of 2^`log` s, in 2^-16 ns. -/
def intervals (n : Nat) (log : Int) : Nat := n * (1000000000 * 65536) * 2 ^ (satTo (-8) 8 log + 8).toNat / 256

/-- A foreign master is qualified at uptime `now`: two Announce messages within the foreign-master window of 4 announce intervals,
but for the master in use, and fewer than 255 steps (IEEE 1588, clause 9.3.2.5). PRESUMED, log 71: unsafe. -/
def PtpInst.qualified (v : PtpInst) (now : Nat) (f : Foreign) : Bool :=
  decide (f.clock.steps < 255) && (v.master == some f.src || (match f.heard with
    | [_, t] => decide (now < t + intervals 4 f.logIntv)
    | _ => false))

/-- The best qualified foreign master. PRESUMED, log 71: unsafe. -/
def PtpInst.best (v : PtpInst) (now : Nat) : Option Foreign :=
  (v.foreign.filter (v.qualified now)).foldl (fun (b : Option Foreign) f =>
    match b with
    | none => some f
    | some g => if betterClock f.clock f.src g.clock g.src then some f else some g) none

/-- The port is PASSIVE, and has no master. -/
def State.bePassive (s : State) (d : Nat) : State :=
  ((s.mapInst d (fun v => { v with master := none, first := false, waitFollow := none, req := none })).setPortState d 7).setServo d 1

/-- The state decision of the best master clock algorithm. PRESUMED, log 71: unsafe. -/
def State.bmcDecide (s : State) (d : Nat) : State :=
  match (s.inst d).best s.node.uptime with
  | none => s
  | some f =>
    let own := s.ownClock d
    if !s.bit (F.TMS_PTP_CFG_SLAVE_ONLY d) && betterClock own s.ownPort f.clock f.src then
      if own.clockClass ≤ 127 || s.servo d = 7 || (s.inst d).master.isNone then s.becomeMaster d
      else (s.loseMaster d).becomeMaster d
    else if !s.bit (F.TMS_PTP_CFG_SLAVE_ONLY d) && own.clockClass ≤ 127 then s.bePassive d
    else
      let s := s.reportGm d f.clock
      if (s.inst d).master = some f.src then s else s.takeMaster d f.src

/-- PTP_ANNOUNCE_RX. PRESUMED, log 71: unsafe. -/
def effPtpAnnounceRx (d : Nat) (m : PtpMsg) (s : State) : State :=
  if !s.ptpOn d || m.domainNum != s.get (F.TMS_PTP_CFG_DOMAIN_NUM d) || m.src / 2 ^ 16 = s.ownPort / 2 ^ 16 then s
  else
    let v := s.inst d
    let s := if v.foreign.any (fun f => f.src = m.src) then
        s.setInst d { v with foreign := v.foreign.map (fun f =>
          if f.src = m.src then ⟨f.src, m.clock, m.logIntv, (s.node.uptime :: f.heard).take 2⟩ else f) }
      else s.setInst d { v with foreign := v.foreign.take 15 ++ [⟨m.src, m.clock, m.logIntv, [s.node.uptime]⟩] }
    let s := s.bmcDecide d
    let s := if (s.inst d).master.isNone || (s.inst d).master = some m.src then
        s.mapInst d (fun v => { v with heardAt := s.node.uptime }) else s
    if (s.inst d).master = some m.src then
      let s := s.setRg (TMS_PTP_UTC d) (m.utc % 2 ^ 21)
      if m.utc.testBit 16 && !s.tu.utc.contains d then { s with tu := { s.tu with utc := d :: s.tu.utc } } else s
    else s

/-- The announce interval in force: the one the master states, or the instance's own while it has none (Table 9.1). -/
def State.announceIntv (s : State) (d : Nat) : Int :=
  match (s.inst d).foreign.find? (fun f => some f.src = (s.inst d).master) with
  | some f => f.logIntv
  | none => sbyte (s.get (F.TMS_PTP_INTV_LOG_ANNOUNCE d))

/-- The receipt timeout, in 2^-16 ns (Table 9.1). -/
def State.receiptSpan (s : State) (d : Nat) : Nat :=
  intervals (s.get (F.TMS_PTP_INTV_ANNOUNCE_TO d)) (s.announceIntv d)

/-- The receipt timeout ends before the coming tick: no Announce for its span, or no Sync in the states that need one. -/
def State.receiptDue (s : State) (d : Nat) : Bool :=
  let gone (t : Nat) : Bool := decide (t + s.receiptSpan d ≤ s.node.uptime + s.tsUnits)
  gone (s.inst d).heardAt || ((s.servo d = 3 || s.servo d = 4 || s.servo d = 6) && gone (s.inst d).syncAt)

/-- ANNOUNCE_RECEIPT_TIMEOUT (Table 9.2). -/
def effAnnounceReceiptTimeout (d : Nat) (s : State) : State :=
  if !s.ptpOn d || s.servo d = 7 || !s.receiptDue d then s
  else
    let s := s.bump (F.TMS_PTP_CNT_TIMEOUTS d)
    if (s.inst d).master.isSome then s.loseMaster d
    else if s.bit (F.TMS_PTP_CFG_SLAVE_ONLY d) then s else s.becomeMaster d

/-! ## Offsets (R272, R534) -/

/-- Mean of a list, rounded half-even. -/
def meanOf (l : List Int) : Int := rhe (l.foldl (· + ·) 0) (max 1 l.length)

/-- mpd, once a path delay has been accepted. -/
def PtpInst.mpd (v : PtpInst) : Option Int := if v.delays.isEmpty then none else some (meanOf v.delays)

/-- Insert into a rising list. -/
def insertInt (x : Int) : List Int → List Int
  | [] => [x]
  | y :: l => if x ≤ y then x :: y :: l else y :: insertInt x l

/-- The median of seven. -/
def median7 (l : List Int) : Int := ((l.take 7).foldl (fun a x => insertInt x a) []).getD 3 0

/-- LOCK_WIN and STEP_THR in 2^-16 ns. -/
def State.lockWin (s : State) : Nat := s.get F.TMS_CTL_LOCK_WIN * 10 * 65536
def State.stepThr (s : State) : Nat := s.get F.TMS_CTL_STEP_THR * 1000 * 65536

/-- The servo's first lock (R273): the step waits for the mute; a better-ranked instance, or A on equal ranks, takes it over
before it is applied. -/
def State.firstLock (s : State) (d : Nat) : State :=
  if s.node.lockedOnce then s
  else
    let win := match s.node.stepping with
      | none => d
      | some e =>
        if e = d then d
        else
          let rd := if s.rank d = 0 then 8 else s.rank d
          let re := if s.rank e = 0 then 8 else s.rank e
          if rd < re then d else if re < rd then e else 0
    let s := { s with node := { s.node with stepping := some win } }
    let s := s.putBit F.TMS_STAT_STEP_PENDING true
    if s.audio.running then s.muteAllOuts .firstLock else s

/-- Leave ACQUIRE (Table 9.2). -/
def State.leaveAcquire (s : State) (d : Nat) : State :=
  ((s.firstLock d).setServo d 3).mapInst d (fun v => { v with first := false })

/-- Rate estimates lie within a spread of 0.5 ppm. -/
def spreadOk (l : List Int) : Bool :=
  match l with
  | [] => false
  | x :: r => !ppmAbove (r.foldl max x - r.foldl min x) 5

/-- The servo's tests on one offset (Table 9.2); `used` is false for an offset set aside. DEDUCED, log 72: unsafe. -/
def State.servoStep (s : State) (d : Nat) (ofs : Int) (used : Bool) : State :=
  let v := s.inst d
  let e := ofs - s.bias d
  let far := decide (s.stepThr < ofs.natAbs)
  let steps := s.node.lockedOnce && s.node.stepping.isNone
  let v := { v with
    splitRun := if far && steps then v.splitRun + 1 else 0
    nearRun := if used && !far then v.nearRun + 1 else if used then 0 else v.nearRun
    lockRun := if !used then v.lockRun else if e.natAbs < s.lockWin then v.lockRun + 1 else 0
    farRun := if !used then v.farRun else if 4 * s.lockWin < e.natAbs then v.farRun + 1 else 0
    nOffsets := if used then v.nOffsets + 1 else v.nOffsets }
  let s := s.setInst d v
  match s.servo d with
  | 2 => if 8 ≤ v.nOffsets && 2 ≤ v.delays.length && v.rates.length = 8 && spreadOk v.rates then s.leaveAcquire d else s
  | 3 =>
    if v.first && steps then
      let s := s.setInst d { v with first := false }
      if far then (s.setServo d 6).setPortState d 9 else s
    else if 4 ≤ v.splitRun then (s.setServo d 6).setPortState d 9
    else if 16 ≤ v.lockRun then (s.setServo d 4).setPortState d 9
    else s
  | 4 =>
    if 4 ≤ v.splitRun then s.setServo d 6
    else if 4 ≤ v.farRun then (s.setServo d 3).setPortState d 8
    else s
  | 6 => if 4 ≤ v.nearRun then (s.setServo d 3).setPortState d 8 else s.setPortState d 9
  | _ => s

/-- One Sync with its t1, correction and t2 (R272). DEDUCED, log 72: unsafe. -/
def State.useSync (s : State) (d : Nat) (t1 cf t2 : Int) : State :=
  let s := s.bump (F.TMS_PTP_CNT_SYNC_RX d)
  let v := s.inst d
  let rate := match v.lastSync with
    | some (a1, a2) => if a2 < t2 then some (rhe (((t1 - a1) - (t2 - a2)) * 2 ^ 32) (t2 - a2).toNat) else none
    | none => none
  let s := match rate with
    | some r => s.put (F.TMS_PTP_RATE_RATE d) (unsigned 32 r)
    | none => s
  let ms := t2 - t1 - cf
  let v := { v with lastSync := some (t1, t2), syncAt := s.node.uptime, ms := some ms, waitFollow := none,
                    rates := (match rate with
                      | some r => r :: v.rates
                      | none => v.rates).take 8 }
  match v.mpd with
  | none => s.setInst d v
  | some mpd =>
    let ofs := ms - mpd
    let odd := 7 ≤ v.offsets.length && decide (8 * s.lockWin < (ofs - median7 v.offsets).natAbs)
    if odd && v.offsAside.length < 3 then
      (s.setInst d { v with offsAside := ofs :: v.offsAside }).servoStep d ofs false
    else
      let hist := if odd then ofs :: v.offsAside else ofs :: v.offsets.take 6
      let s := s.setInst d { v with offsets := hist, offsAside := [], latest := some (ofs, t2) }
      let s := s.setRg (TMS_PTP_OFS d) (unsigned 64 ofs)
      let s := s.servoStep d ofs true
      if s.servo d = 3 || s.servo d = 4 then s.refPtp d ofs else s

/-- The message comes from the chosen master in the instance's domain. -/
def State.fromMaster (s : State) (d : Nat) (m : PtpMsg) : Bool :=
  s.ptpOn d && m.domainNum = s.get (F.TMS_PTP_CFG_DOMAIN_NUM d) && (s.inst d).master = some m.src

/-- PTP_SYNC_RX: a Sync with ingress timestamp `t2`. -/
def effPtpSyncRx (d : Nat) (m : PtpMsg) (t2 : Nat) (s : State) : State :=
  if !s.fromMaster d m then s
  else if m.twoStep then s.mapInst d (fun v => { v with waitFollow := some (m.seq, t2, m.cf) })
  else s.useSync d (m.ns * 65536) m.cf t2

/-- PTP_FOLLOW_UP_RX: t1 of the Sync before it. -/
def effPtpFollowUpRx (d : Nat) (m : PtpMsg) (s : State) : State :=
  if !s.fromMaster d m then s
  else match (s.inst d).waitFollow with
    | some (seq, t2, cf) => if seq = m.seq then s.useSync d (m.ns * 65536) (cf + m.cf) t2 else s
    | none => s

/-- PTP_DELAY_RESP_RX (R534). -/
def effPtpDelayRespRx (d : Nat) (m : PtpMsg) (s : State) : State :=
  if !s.fromMaster d m || m.reqPort != s.ownPort then s
  else
    let v := s.inst d
    match v.req, v.ms with
    | some (seq, t3), some ms =>
      if seq != m.seq then s
      else
        let sm : Int := m.ns * 65536 - t3 - m.cf
        let delay := rhe (ms + sm) 2
        let v := { v with req := none, drIntv := satTo (-4) 5 m.logIntv }
        let odd := match v.mpd with
          | some p => decide (1000 * 65536 < (delay - p).natAbs)
          | none => false
        let v := if odd && v.aside.length < 3 then { v with aside := delay :: v.aside }
          else if odd then { v with delays := delay :: v.aside, aside := [] }
          else { v with delays := (delay :: v.delays).take 8, aside := [] }
        let s := s.setInst d v
        match v.mpd with
        | some p => s.put (F.TMS_PTP_DELAY_MPD d) (unsigned 32 (rhe p 256))
        | none => s
    | _, _ => s

/-! ## Messages sent -/

/-- A message of the instance. -/
def State.ptpMsg (s : State) (d seq : Nat) (cf : Int) (ns : Nat) (logIntv : Int) (reqPort : Nat) : PtpMsg :=
  { domainNum := s.get (F.TMS_PTP_CFG_DOMAIN_NUM d), src := s.ownPort, seq := seq % 65536, twoStep := false, cf := cf, ns := ns,
    logIntv := logIntv, reqPort := reqPort, clock := s.ownClock d, utc := s.rg (TMS_PTP_UTC d) }

/-- PTP_DELAY_REQ_RX: as master, a Delay_Req with ingress timestamp `t4` is answered. -/
def effPtpDelayReqRx (d : Nat) (m : PtpMsg) (t4 : Nat) (s : State) : State :=
  if !s.ptpOn d || s.servo d != 7 || m.domainNum != s.get (F.TMS_PTP_CFG_DOMAIN_NUM d) then s
  else s.emit (.ptp d .delayResp 0xE0000181 320 (s.ptpMsg d m.seq (m.cf - (t4 % 65536 : Nat)) (t4 / 65536)
    (sbyte (s.get (F.TMS_PTP_INTV_LOG_DELAY_REQ d))) m.src))

/-- PTP_SYNC_SEND: as master, a one-step Sync that leaves at counter value `t`. -/
def effPtpSyncSend (d t : Nat) (s : State) : State :=
  if !s.ptpOn d || s.servo d != 7 then s
  else
    let q := (s.inst d).seqSync
    (s.mapInst d (fun v => { v with seqSync := (q + 1) % 65536 })).emit
      (.ptp d .sync 0xE0000181 319 (s.ptpMsg d q (t % 65536 : Nat) (t / 65536) (sbyte (s.get (F.TMS_PTP_INTV_LOG_SYNC d))) 0))

/-- PTP_ANNOUNCE_SEND. -/
def effPtpAnnounceSend (d : Nat) (s : State) : State :=
  if !s.ptpOn d || s.servo d != 7 then s
  else
    let q := (s.inst d).seqAnn
    (s.mapInst d (fun v => { v with seqAnn := (q + 1) % 65536 })).emit
      (.ptp d .announce 0xE0000181 320 (s.ptpMsg d q 0 0 (sbyte (s.get (F.TMS_PTP_INTV_LOG_ANNOUNCE d))) 0))

/-- PTP_DELAY_REQ_SEND: as slave, a Delay_Req that leaves at counter value `t3`. -/
def effPtpDelayReqSend (d t3 : Nat) (s : State) : State :=
  if !s.ptpOn d || (s.inst d).master.isNone then s
  else
    let q := (s.inst d).seqReq
    (s.mapInst d (fun v => { v with seqReq := (q + 1) % 65536, req := some (q, t3) })).emit
      (.ptp d .delayReq 0xE0000181 319 (s.ptpMsg d q (t3 % 65536 : Nat) (t3 / 65536) 0x7F 0))

/-! ## Pulses (R277 to R279) -/

/-- A wide time with its sub-nanoseconds as one 80-bit number. -/
def wide (t : Nat) : Nat := t % 2 ^ 80

/-- Signed difference of two wide times (R267). -/
def wideDiff (a b : Nat) : Int := signed 80 ((a + 2 ^ 80 - b % 2 ^ 80) % 2 ^ 80)

/-- Target k of a pulse. -/
def PulseRun.target (p : PulseRun) : Nat := p.start + p.k * p.period

/-- How far ahead a target lies: 2^-16 ns, or ticks. -/
def State.pulseAhead (s : State) (p : PulseRun) : Int :=
  if p.tick then signed 64 ((p.target + 2 ^ 64 - s.node.n.toNat) % 2 ^ 64) else wideDiff p.target s.node.time

/-- The first k at or after the present one whose target is at least `least` ahead. -/
def State.firstAhead (s : State) (p : PulseRun) (least : Int) : PulseRun :=
  let a := s.pulseAhead p
  if least ≤ a || p.period = 0 then p else { p with k := p.k + ((least - a + p.period - 1) / (p.period : Int)).toNat }

/-- Level of a pulse output. -/
def State.pulseLevel (s : State) (i : Nat) (active : Bool) : Bool := active != s.bit (F.TMS_PULSE_CFG_POL i)

/-- Disarm an output. -/
def State.disarm (s : State) (i : Nat) : State :=
  ({ s with tu := { s.tu with pulses := tput s.tu.pulses i none } }).putBit (F.TMS_PULSE_STAT_ARMED i) false

/-- Arm an output. -/
def State.arm (s : State) (i : Nat) (p : PulseRun) : State :=
  ({ s with tu := { s.tu with pulses := tput s.tu.pulses i (some p) } }).putBit (F.TMS_PULSE_STAT_ARMED i) true

/-- TMS_PULSE_CFG is written with EN = 1: the pulse is armed from START and PERIOD as they stand (R277, R278). -/
def State.pulseArm (s : State) (i : Nat) : State :=
  let tick := s.bit (F.TMS_PULSE_CFG_BASE i)
  let periodic := s.bit (F.TMS_PULSE_CFG_PERIODIC i)
  let p : PulseRun :=
    { tick := tick
      start := if tick then s.rg (TMS_PULSE_START i) else wide (s.rg (TMS_PULSE_START i) * 65536 + s.get (F.TMS_PULSE_START_SUB_START_SUB i))
      period := if !periodic then 0 else if tick then s.get (F.TMS_PULSE_PERIOD_PERIOD i) else s.rg (TMS_PULSE_PERIOD i)
      k := 0
      periodic := periodic }
  let least : Int := if tick then 1 else 100 * 65536
  if least ≤ s.pulseAhead p then s.arm i p
  else
    let s := s.putBit (F.TMS_PULSE_STAT_LATE i) true
    if periodic then s.arm i (s.firstAhead p least) else s.disarm i

/-- EN is written 0: the output goes inactive at once. -/
def State.pulseOff (s : State) (i : Nat) : State := (s.disarm i).emit (.pulse i (s.pulseLevel i false) s.node.time 0)

/-- A period is not reserved in a time base or a tick base (TMS_PULSE_PERIOD). -/
def periodOk (tick : Bool) (period : Nat) : Bool :=
  if tick then decide (1 ≤ period / 2 ^ 16) && decide (period % 2 ^ 16 = 0) else decide (20 ≤ period / 2 ^ 16)

/-- TMS_PULSE_CFG takes a write but for EN. A WIDTH of 0 is reserved, and so are PERIODIC and BASE over a period reserved with them: those
fields stay (R23). DEDUCED, log 94: unsafe. -/
def State.pulseCfg (s : State) (i : Nat) (cfg : Word32) : State :=
  let old := s.rg (TMS_PULSE_CFG i)
  let width := if fieldOf cfg.toNat 0 28 = 0 then fieldOf old 0 28 else fieldOf cfg.toNat 0 28
  let mode := if !cfg.getLsbD 30 || periodOk (cfg.getLsbD 29) (s.rg (TMS_PULSE_PERIOD i)) then fieldOf cfg.toNat 29 2 else fieldOf old 29 2
  s.setRg (TMS_PULSE_CFG i) (withField (withField (withField cfg.toNat 31 1 0) 0 28 width) 29 2 mode)

/-- PULSE_ARM: TMS_PULSE_CFG of output `i` is written with EN = 1. -/
def effPulseArm (i : Nat) (cfg : Word32) (s : State) : State := ((s.pulseCfg i cfg).putBit (F.TMS_PULSE_CFG_EN i) true).pulseArm i

/-- PULSE_DISARM: TMS_PULSE_CFG of output `i` is written with EN = 0. -/
def effPulseDisarm (i : Nat) (cfg : Word32) (s : State) : State := (s.pulseCfg i cfg).pulseOff i

/-- TMS_PULSE_PERIOD takes a write; with PERIODIC 1 the fields that would be reserved stay (R23). DEDUCED, log 94: unsafe. -/
def State.pulsePeriod (s : State) (i new : Nat) : State :=
  let old := s.rg (TMS_PULSE_PERIOD i)
  let tick := s.bit (F.TMS_PULSE_CFG_BASE i)
  let n1 := if tick && fieldOf new 0 16 != 0 then withField new 0 16 (fieldOf old 0 16) else new
  let n2 := if decide (new / 2 ^ 16 < (if tick then 1 else 20)) then withField n1 16 48 (fieldOf old 16 48) else n1
  s.setRg (TMS_PULSE_PERIOD i) (if s.bit (F.TMS_PULSE_CFG_PERIODIC i) then n2 else new)

/-- The value of the counter at which the present target's edge fires: the first at which it is due, or tick START (R277). -/
def State.edgeAt (s : State) (p : PulseRun) : Nat :=
  let ahead := s.pulseAhead p
  (s.counterFrom (if p.tick then s.tickTime (s.node.n.toNat + ahead.toNat) else s.node.time + ahead.toNat)).1

/-- PULSE_EDGE: the target of an armed pulse falls due before the tick after next (R277). -/
def effPulseEdge (i : Nat) (s : State) : State :=
  match tget s.tu.pulses i with
  | none => s
  | some p =>
    let due := if p.tick then decide (s.pulseAhead p ≤ 1) else decide (s.pulseAhead p ≤ wideDiff (s.tickTime (s.node.n.toNat + 1)) s.node.time)
    if !due then s
    else
      let width := s.get (F.TMS_PULSE_CFG_WIDTH i)
      let s := (s.bump (F.TMS_PULSE_STAT_FIRED i)).emit (.pulse i (s.pulseLevel i true) (s.edgeAt p) ((width * 65536 + 159999) / 160000))
      if p.periodic then s.arm i { p with k := p.k + 1 } else s.disarm i

/-- R279: the counter or, with `ticks`, N alone has moved; single pulses passed over are missed, periodic ones go on ahead. -/
def State.pulsesMoved (s : State) (ticks : Bool) : State :=
  s.tu.pulses.foldl (fun s e =>
    let a := s.pulseAhead e.2
    if 0 < a || (ticks && !e.2.tick) then s
    else if e.2.periodic then s.arm e.1 (s.firstAhead e.2 1)
    else (s.putBit (F.TMS_PULSE_STAT_MISSED e.1) true).disarm e.1) s

/-! ## Re-alignment (R298) -/

/-- REALIGN_EXECUTE (Table 10.6): at N_AT, and for REF2 and REF4 again when the mute has ended. DEDUCED, log 73: unsafe. -/
def effRealignExecute (s : State) : State :=
  match s.tu.sel.realign with
  | none => s
  | some (at_, none) =>
    if s.node.n.toNat + 1 < at_ then s
    else if !s.realignOk then s.realignRefuse
    else
      let r := s.selRef
      if r = 2 || r = 4 then
        (s.mapSel (fun c => { c with realign := some (at_, some r) })).muteAllOuts .realign
      else ((s.put (F.REF_BIAS_BIAS r) 0).realignDone).showSelector.restartCopy
  | some (_, some r) =>
    if !(s.audio.muteNet.ended && s.audio.muteOut.ended) then s
    else
      let last := s.tickTime s.node.n.toNat
      let s := s.moveTicks (s.bias r)
      let next := s.tickAtOrAfter (last + s.tsUnits)
      let s := { s with node := { s.node with n := BitVec.ofNat 64 (next - 1) } }
      ((((s.put (F.REF_BIAS_BIAS r) 0).realignDone).unmuteAllOuts .realign).showSelector.pulsesMoved true).restartCopy

/-! ## Captures (R280, R281) -/

/-- TMS_CAP_WNS, TMS_CAP_SUB and LEVEL show the queue. -/
def State.showCap (s : State) (j : Nat) : State :=
  let q := tgetD s.tu.caps j ⟨[], false⟩
  let s := s.put (F.TMS_CAP_STAT_LEVEL j) q.entries.length
  match q.entries with
  | [] => (s.setRg (TMS_CAP_WNS j) 0).setRg (TMS_CAP_SUB j) 0
  | e :: _ =>
    let s := s.setRg (TMS_CAP_WNS j) (e.t / 65536 % 2 ^ 64)
    let s := (s.put (F.TMS_CAP_SUB_SUB j) (e.t % 65536)).putBit (F.TMS_CAP_SUB_VALID j) true
    ((s.putBit (F.TMS_CAP_SUB_FALL j) e.fall).putBit (F.TMS_CAP_SUB_OVF_BEFORE j) e.ovf).putBit (F.TMS_CAP_SUB_PRE_STEP j) e.pre

/-- Set a capture queue. -/
def State.setCap (s : State) (j : Nat) (q : CapQueue) : State :=
  ({ s with tu := { s.tu with caps := tput s.tu.caps j (if q.entries.isEmpty && !q.lost then none else some q) } }).showCap j

/-- TCAP_EDGE: input `j` changes at counter value `t` and holds its new level for `held` cycles. It is accepted when that is at least
FILT + 1; in P4 captures resolve REF5 cycles (R266, R280). -/
def effTcapEdge (j : Nat) (fall : Bool) (t held : Nat) (s : State) : State :=
  let kind := s.get (F.TMS_CAP_CFG_EDGE j)
  let t := if s.get F.PWR_STAT_STATE < 4 || t ≤ s.node.time then t else (s.counterFrom t).1
  if held ≤ s.get (F.TMS_CAP_CFG_FILT j) || !s.bit (F.TMS_CAP_CFG_EN j) || (kind = 0 && fall) || (kind = 1 && !fall) || kind = 3 then s
  else
    let q := tgetD s.tu.caps j ⟨[], false⟩
    if 8 ≤ q.entries.length then (s.bump (F.TMS_CAP_STAT_OVF j)).setCap j { q with lost := true }
    else s.setCap j ⟨q.entries ++ [⟨t, fall, q.lost, false⟩], false⟩

/-- POP: the oldest entry of input `j` goes; with the queue empty nothing happens. -/
def effPop (j : Nat) (s : State) : State :=
  let q := tgetD s.tu.caps j ⟨[], false⟩
  if q.entries.isEmpty then s else s.setCap j { q with entries := q.entries.drop 1 }

/-! ## The step (R70, R273, R276) -/

/-- Every mute factor stands at mute. -/
def State.allMuted (s : State) : Bool :=
  !s.audio.running || (s.audio.muteNet.ended && s.audio.muteOut.ended && s.audio.mutes.all (fun e => e.2.ended))

/-- Work in progress on the old N ends (R70 action 4). -/
def State.endWork (s : State) : State :=
  let s := s.finishFades
  let s := s.audio.lines.foldl (fun s e => s.finishLine e.1) s
  let s := s.finishDyn.firstUse
  { s with
    audio := { s.audio with history := [], pipe := [], brickIn := [] }
    amp := { s.amp with chs := tmap (fun _ c => { c with trips := [] }) s.amp.chs }
    str := { s.str with rx := [], tx := tmap (fun _ t => { t with runs := [] }) s.str.tx, txHist := [], watched := [] }
    pair := { s.pair with own := [], theirs := [], block := [] } }

/-- A measurement that began before a step is not used after it. DEDUCED, log 72: unsafe. -/
def PtpInst.afterStep (v : PtpInst) : PtpInst :=
  { v with lastSync := none, waitFollow := none, ms := none, req := none, offsets := [], offsAside := [],
           lockRun := 0, farRun := 0, splitRun := 0, nearRun := 0, latest := none }

/-- The outputs stay muted after a step until the first N that is a multiple of 8 (R274), where they ramp up (R70). -/
def State.resumeOutputs (s : State) (t : Nat) : State :=
  if s.node.stepping.isNone && t % 8 = 0 then s.unmuteAllOuts .firstLock else s

/-- What was measured against the counter before a step is not used after it: edge phases, and the window of a meter that runs. -/
def State.stepMeasures (s : State) : State :=
  let s := { s with audio := { s.audio with
    startN := s.nextN, meters := tmap (fun _ (m : Meter) => { m with running := false }) s.audio.meters } }
  s.mapSel (fun c => { c with
    yAt := s.node.time, refs := tmap (fun _ (v : RefSt) => { v with last := none, snaps := [] }) c.refs })

/-- The step by −ofs of instance `d`, its latest offset (R273 actions 3 and 4). -/
def State.applyStep (s : State) (d : Nat) : State :=
  let rate := s.getS (F.TMS_PTP_RATE_RATE d)
  let now : Int := match (s.inst d).latest with
    | some (ofs, t2) => ofs - rhe (rate * ((s.node.time : Int) - t2)) (2 ^ 32)
    | none => 0
  let time := ((s.node.time : Int) - now).toNat
  let s := { s with node := { s.node with time := time, t0 := 0, lockedOnce := true, stepping := none, fresh := false } }
  let next := s.tickAtOrAfter (time + s.tsUnits)
  let s := { s with node := { s.node with n := BitVec.ofNat 64 (next - 1) } }
  let s := ((s.putBit F.TMS_STAT_STEP_PENDING false).putBit F.TMS_STAT_STEPPED true).put F.TMS_STAT_STEP_SRC (d + 1)
  let s := s.bump F.TMS_STEP_CNT_STEPS
  let caps := tmap (fun _ (q : CapQueue) => { q with entries := q.entries.map (fun (e : CapEntry) => { e with pre := true }) }) s.tu.caps
  let s := { s with tu := { s.tu with ptp := tmap (fun _ (v : PtpInst) => v.afterStep) s.tu.ptp, caps := caps, restep := false } }
  let s := s.tu.caps.foldl (fun s e => s.showCap e.1) s
  let s := { s with pair := { s.pair with countFrom := 0 } }
  (s.stepMeasures).pulsesMoved false

/-! ## Meanings of the commands -/

/-- REALIGN_EXECUTE (R298). -/
def execRealignExecute (s : State) : Result :=
  runs s effRealignExecute

/-- PULSE_ARM (R277). -/
def execPulseArm (i : Fin 8) (cfg : Word32) (s : State) : Result :=
  runs s (effPulseArm i.val cfg)

/-- PULSE_DISARM (R277). -/
def execPulseDisarm (i : Fin 8) (cfg : Word32) (s : State) : Result :=
  runs s (effPulseDisarm i.val cfg)

/-- PULSE_EDGE (R277). -/
def execPulseEdge (i : Fin 8) (s : State) : Result :=
  runs s (effPulseEdge i.val)

/-- TCAP_EDGE (R280). -/
def execTcapEdge (j : Fin 16) (fall : Bool) (t : CapEdge) (s : State) : Result :=
  runs s (effTcapEdge j.val fall t.at_ t.held)

/-- POP (R281). -/
def execPop (j : Fin 16) (s : State) : Result :=
  runs s (effPop j.val)

/-- PTP_SYNC_RX (R272). -/
def execPtpSyncRx (d : Fin 2) (m : PtpMsg) (t2 : Nat) (s : State) : Result :=
  runs s (effPtpSyncRx d.val m t2)

/-- PTP_DELAY_RESP_RX (R534). -/
def execPtpDelayRespRx (d : Fin 2) (m : PtpMsg) (s : State) : Result :=
  runs s (effPtpDelayRespRx d.val m)

/-- PTP_ANNOUNCE_RX (R271). -/
def execPtpAnnounceRx (d : Fin 2) (m : PtpMsg) (s : State) : Result :=
  runs s (effPtpAnnounceRx d.val m)

/-- PTP_DELAY_REQ_RX (R271). -/
def execPtpDelayReqRx (d : Fin 2) (m : PtpMsg) (t4 : Nat) (s : State) : Result :=
  runs s (effPtpDelayReqRx d.val m t4)

/-- PTP_SYNC_SEND (R272). -/
def execPtpSyncSend (d : Fin 2) (t : Nat) (s : State) : Result :=
  runs s (effPtpSyncSend d.val t)

/-- PTP_ANNOUNCE_SEND (R271). -/
def execPtpAnnounceSend (d : Fin 2) (s : State) : Result :=
  runs s (effPtpAnnounceSend d.val)

/-- PTP_DELAY_REQ_SEND (R272). -/
def execPtpDelayReqSend (d : Fin 2) (t3 : Nat) (s : State) : Result :=
  runs s (effPtpDelayReqSend d.val t3)

/-- ANNOUNCE_RECEIPT_TIMEOUT (R275). -/
def execAnnounceReceiptTimeout (d : Fin 2) (s : State) : Result :=
  runs s (effAnnounceReceiptTimeout d.val)

/-- PTP_FOLLOW_UP_RX (R271). -/
def execPtpFollowUpRx (d : Fin 2) (m : PtpMsg) (s : State) : Result :=
  runs s (effPtpFollowUpRx d.val m)

end Sys2Proof.Machine
end

