-- ==== Sys2Proof/Machine/WarmCopy.lean ====
section
/-! DEFINITION. Warm copy (R323 to R330): units and their order, the sender's side, the frames the returning node takes. -/

namespace Sys2Proof.Machine

/-! ## Units (R323) -/

/-- The unit of a destination with a delay line, a dynamics instance or a final limiter; its LINK group's, if it has one. -/
def State.dstUnit (s : State) (d : Nat) : Option Nat :=
  match s.audio.dyn.find? (fun e => e.2.dst = d) with
  | some e => some (if e.2.link = 0 then 0x2000 + d else 0x3000 + e.2.link)
  | none =>
    if (tget s.audio.lines d).isSome || (match limiterOf d with
      | some i => (tget s.audio.lim i).isSome
      | none => false) then some (0x2000 + d) else none

/-- The destinations that have a unit. -/
def State.unitDsts (s : State) : List Nat :=
  (((s.audio.lines.map (fun e => e.1)) ++ (s.audio.dyn.map (fun e => e.2.dst))
    ++ (s.audio.lim.map (fun e => if e.1 < 1280 then e.1 else e.1 + 2048))).foldl (fun (m : Tbl Nat) d => cins m d d) []).map (fun e => e.1)

/-- The logical Brick on a physical one. -/
def State.logicalOf (s : State) (b : Nat) : Option Nat := (List.range nLogical).find? (fun l => s.physOf l = b)

/-- The logical Brick bound to an output number, or reading an input number. -/
def State.brickBound (s : State) (out : Bool) (k : Nat) : Option Nat :=
  (s.ioBindings.find? (fun e => e.2.1 = out && e.2.2.1 = k)).bind (fun e => s.logicalOf e.1)

/-- Where a destination's values go: its own unit, or the Brick that reads it. -/
def State.intoDst (s : State) (d : Nat) : List Nat :=
  match s.dstUnit d with
  | some u => [u]
  | none => if isBrickDst d then ((s.brickBound false (d - 1280)).map (fun l => 0x1000 + l)).toList else []

/-- The values of which unit reach which: crosspoints, side chains, Brick inputs. -/
def State.unitEdges (s : State) : List (Nat × Nat) :=
  let srcUnit (src : Nat) : List Nat :=
    if 1280 ≤ src && src < 3328 then ((s.brickBound true (src - 1280)).map (fun l => 0x1000 + l)).toList else []
  (s.liveEntries.flatMap (fun e => (srcUnit (peSrc e.2.cur)).flatMap (fun a => (s.intoDst (peDst e.2.cur)).map (fun b => (a, b)))))
    ++ (s.audio.dyn.flatMap (fun e => if e.2.self then [] else
        (srcUnit e.2.sc).flatMap (fun a => (s.intoDst e.2.dst).map (fun b => (a, b)))))
    ++ (s.unitDsts.flatMap (fun d => if isBrickDst d then
        (s.intoDst d).flatMap (fun a => ((s.brickBound false (d - 1280)).map (fun l => (a, 0x1000 + l))).toList) else []))

/-- Everything reached from a set of units. -/
def reach (edges : List (Nat × Nat)) : Nat → List Nat → List Nat
  | 0, set => set
  | n + 1, set => reach edges n (set ++ (edges.filterMap (fun e => if set.contains e.1 && !set.contains e.2 then some e.2 else none)).eraseDups)

/-- Units that a unit's values reach. -/
def reachFrom (edges : List (Nat × Nat)) (u : Nat) : List Nat :=
  reach edges (edges.length + 1) (edges.filterMap (fun e => if e.1 = u then some e.2 else none)).eraseDups

/-- The unit that names a feedback loop: its lowest logical Brick, else the unit itself. -/
def loopName (edges : List (Nat × Nat)) (u : Nat) : Nat :=
  let r := reachFrom edges u
  if r.contains u then (r.filter (fun v => (reachFrom edges v).contains u)).foldl min u else u

/-- All units, the patch unit first. -/
def State.wcUnits (s : State) : List Nat :=
  let e := s.unitEdges
  0 :: ((s.stateBricks.map (fun l => loopName e (0x1000 + l))) ++ (s.unitDsts.filterMap s.dstUnit).map (loopName e)).eraseDups

/-- The units a unit comes after (R323, R326). -/
def State.unitDeps (s : State) (u : Nat) : List Nat :=
  let e := s.unitEdges
  if u = 0 then []
  else 0 :: (s.wcUnits.filter (fun v => v != 0 && v != u && (reachFrom e v).contains u && !(reachFrom e u).contains v))

/-- Unit `u` holds the plain unit `v`. -/
def State.inUnit (s : State) (u v : Nat) : Bool := loopName s.unitEdges v = u

/-- Bytes of memory that belong to a unit: STATE areas and rings of its Bricks, granules of its lines. -/
def State.unitRanges (s : State) (u : Nat) : List (Nat × Nat) :=
  (s.stateBricks.flatMap (fun l => if s.inUnit u (0x1000 + l) then
      (match s.stateArea l with
        | some (w, n, _) => [(brickWordAddr (s.physOf l) w, 4 * n)]
        | none => [])
      ++ s.ioBindings.filterMap (fun e => if e.1 = s.physOf l then some (brickWordAddr e.1 e.2.2.2, 64) else none)
    else []))
  ++ (s.unitDsts.flatMap (fun d => match s.dstUnit d with
    | some v => if s.inUnit u v then
        let l := s.line d
        (l.cur.grans ++ (match l.next with
          | some (b, _) => b.grans
          | none => [])).map (fun g => (0x20000000 + 1024 * g, 1024))
      else []
    | none => []))

/-- An address lies in a unit's memory. -/
def inRanges (rs : List (Nat × Nat)) (a : Nat) : Bool := rs.any (fun r => decide (r.1 ≤ a) && decide (a < r.1 + r.2))

/-! ### Rows of dynamics and limiter state

The specification gives these rows no address. Instance `i` has sixteen rows from 0x8000_0000 + 128 × i on, limiter `i` one at
0x8010_0000 + 8 × i. DESIGN CHOICE, log 97: unsafe. -/

/-- Row addresses of an instance and of a limiter. -/
def dynRow (i k : Nat) : Nat := 0x80000000 + 128 * i + 8 * k
def limRow (i : Nat) : Nat := 0x80100000 + 8 * i

/-- The rows of an instance: gain, mean square, make-up ramp, gain last applied, private delay. -/
def DynInst.rows (d : DynInst) : List Nat :=
  [unsigned 64 d.g, d.mean % 2 ^ 64, d.mean / 2 ^ 64, unsigned 64 d.makeup.g0, unsigned 64 d.makeup.g1, d.makeup.k, d.makeup.len,
   unsigned 64 d.applied, d.look.length] ++ d.look.map (unsigned 64)

/-- An instance with one of its rows set. -/
def DynInst.setRow (d : DynInst) (k v : Nat) : DynInst :=
  match k with
  | 0 => { d with g := signed 64 v }
  | 1 => { d with mean := d.mean / 2 ^ 64 * 2 ^ 64 + v }
  | 2 => { d with mean := v * 2 ^ 64 + d.mean % 2 ^ 64 }
  | 3 => { d with makeup := { d.makeup with g0 := signed 64 v } }
  | 4 => { d with makeup := { d.makeup with g1 := signed 64 v } }
  | 5 => { d with makeup := { d.makeup with k := v } }
  | 6 => { d with makeup := { d.makeup with len := v } }
  | 7 => { d with applied := signed 64 v }
  | 8 => { d with look := (d.look ++ List.replicate 3 0).take (min 3 v) }
  | j => { d with look := d.look.set (j - 9) (signed 64 v) }

/-- The rows a unit has besides those in memory. -/
def State.dynRows (s : State) (u : Nat) : List Nat :=
  let mine (d : Nat) : Bool := (s.dstUnit d).any (fun v => s.inUnit u v)
  s.audio.dyn.flatMap (fun e => if mine e.2.dst then (List.range e.2.rows.length).map (dynRow e.1) else [])
    ++ s.audio.lim.filterMap (fun e => if mine (if e.1 < 1280 then e.1 else e.1 + 2048) then some (limRow e.1) else none)

/-- The value of a row. -/
def State.rowValue (s : State) (a : Nat) : Nat :=
  if a < 0x80000000 then s.rdNat 8 a
  else if a < 0x80100000 then (match tget s.audio.dyn ((a - 0x80000000) / 128) with
    | some d => d.rows.getD (a % 128 / 8) 0
    | none => 0)
  else unsigned 64 (tgetD s.audio.lim ((a - 0x80100000) / 8) 0)

/-- Set a row. -/
def State.setRow (s : State) (a v : Nat) : State :=
  if a < 0x80000000 then s.wrNat 8 a v
  else if a < 0x80100000 then { s with audio := { s.audio with
    dyn := tmap (fun i d => if i = (a - 0x80000000) / 128 then d.setRow (a % 128 / 8) v else d) s.audio.dyn } }
  else { s with audio := { s.audio with
    lim := tmap (fun i g => if i = (a - 0x80100000) / 8 then signed 64 v else g) s.audio.lim } }

/-- A row belongs to a unit. -/
def State.rowIn (s : State) (u a : Nat) : Bool := inRanges (s.unitRanges u) a || (s.dynRows u).contains a

/-- The rows of a unit that its programs and fixed-function blocks have written in this tick, in the order of their last writes; the
dynamics engine and the limiters write theirs at every tick (R326). -/
def State.rowsWritten (s : State) (u : Nat) : List Nat :=
  let rs := s.unitRanges u
  (s.pair.wrote.eraseDups.reverse.filter (inRanges rs)) ++ s.dynRows u

/-- A record (R328): row address, low 32 bits of N, row. -/
def State.wcRecord (s : State) (a : Nat) : List Byte := beBytes 4 a ++ beBytes 4 s.node.n.toNat ++ beBytes 8 (s.rowValue a)

/-! ## Both sides -/

/-- A unit not started. -/
def WcUnit.fresh (id : Nat) : WcUnit := ⟨id, .waiting, [], none, 0, 0, 0, 0, 0, []⟩

/-- Change one unit of a copy. -/
def WarmCopy.mapUnit (c : WarmCopy) (u : Nat) (f : WcUnit → WcUnit) : WarmCopy :=
  { c with units := c.units.map (fun x => if x.id = u then f x else x) }

/-- A unit of a copy. -/
def WarmCopy.unit (c : WarmCopy) (u : Nat) : Option WcUnit := c.units.find? (fun x => x.id = u)

/-- PAIR_WC_STAT shows the units not joined, and the first in their order that is in progress. -/
def State.showCopy (s : State) : State :=
  match s.pair.wc with
  | some c =>
    let left := c.units.filter (fun x => x.st != .joined)
    (s.put F.PAIR_WC_STAT_UNITS_LEFT left.length).put F.PAIR_WC_STAT_UNIT (match left.find? (fun x => x.st != .waiting) with
      | some x => x.id
      | none => 0)
  | none => (s.put F.PAIR_WC_STAT_UNITS_LEFT 0).put F.PAIR_WC_STAT_UNIT 0

/-- Set R's copy. -/
def State.setWc (s : State) (c : WarmCopy) : State := ({ s with pair := { s.pair with wc := some c } }).showCopy

/-- Set A's copy. -/
def State.setSrc (s : State) (c : WarmCopy) : State := { s with pair := { s.pair with src := some c } }

/-! ## The returning node R -/

/-- Start the copy that has been asked for once R324's conditions hold. -/
def State.tryCopy (s : State) : State :=
  match s.pair.last with
  | none => s
  | some f =>
    if s.pair.wcAsked && s.pair.wc.isNone && !s.pair.lostNow && s.copyPossible f && !s.bit F.PAIR_RELIEF_BUSY then
      let s := { s with pair := { s.pair with wcAsked := false, wcRetry := false } }
      let s := (s.put F.PAIR_STAT_WC_PHASE 1).bump F.PAIR_WC_CNT_STARTS
      s.clearMatch.setWc ⟨s.rg PAIR_EPOCH, s.wcUnits.map WcUnit.fresh, [], false, 0, 0⟩
    else s

/-- A unit has restarted three times: the copy has failed (R328). -/
def State.failCopy (s : State) : State :=
  let s := s.dropCopy
  let s := { s with pair := { s.pair with wcRetry := true } }
  ((s.put F.PAIR_STAT_WC_PHASE 3).bump F.PAIR_WC_CNT_FAILS).showCopy.latch 37

/-- R asks for a restart of a unit (R325, R328). -/
def State.restartUnit (s : State) (u : Nat) : State :=
  match s.pair.wc with
  | none => s
  | some c =>
    let n := match c.unit u with
      | some x => x.restarts + 1
      | none => 0
    let s := s.bump F.PAIR_WC_CNT_RESTARTS
    if 3 ≤ n then s.failCopy
    else s.setWc (c.mapUnit u (fun _ => { WcUnit.fresh u with st := .restart, restarts := n }))

/-- A journal group has changed the configuration of units: those R copies or verifies restart (R330). -/
def State.changedUnits (s : State) (us : List Nat) : State :=
  match s.pair.wc with
  | none => s
  | some c =>
    (c.units.filter (fun x => us.contains x.id && (x.st = .copying || x.st = .verifying))).foldl (fun s x => s.restartUnit x.id) s

/-- Every unit has joined: digests count from the next block (R329). -/
def State.endCopy (s : State) : State :=
  match s.pair.wc with
  | some c =>
    if c.units.all (fun x => x.st = .joined) then
      let s := { s with pair := { s.pair with wc := none, countFrom := s.blk + 1 } }
      (s.put F.PAIR_STAT_WC_PHASE 2).showCopy
    else s
  | none => s

/-- A unit joins. -/
def State.joinUnit (s : State) (u : Nat) : State :=
  match s.pair.wc with
  | some c => (s.setWc (c.mapUnit u (fun x => { x with st := .joined }))).endCopy
  | none => s

/-- WC_UNIT_JOINED: sixteen blocks of verification have passed without a difference. -/
def effWcUnitJoined (u : Nat) (s : State) : State :=
  match s.pair.wc.bind (fun c => c.unit u) with
  | some x => if x.st = .verifying && 16 ≤ x.clean then s.joinUnit u else s
  | none => s

/-- WC_RETRY: 10 s after a failed copy R asks again. -/
def effWcRetry (s : State) : State :=
  if s.pair.wcRetry && s.node.mode = .shadow then
    ({ s with pair := { s.pair with wcRetry := false, wcAsked := true } }).tryCopy
  else s

/-- A unit is held on R: A's mirrored values stand in its place until it runs (R326). -/
def State.unitHeld (s : State) (u : Nat) : Bool :=
  match s.pair.wc.bind (fun c => c.unit u) with
  | some x => x.st = .copying
  | none => false

/-- A physical Brick is held. -/
def State.brickHeld (s : State) (b : Nat) : Bool :=
  if s.pair.wc.isNone then false
  else match s.logicalOf b with
    | some l => s.unitHeld (loopName s.unitEdges (0x1000 + l))
    | none => false

/-- What a tick did to the units of held destinations is undone: their rows, dynamics and limiter states stand as A
mirrors them. -/
def State.holdDsts (s before : State) : State :=
  if s.pair.wc.isNone then s
  else
    let held := s.unitDsts.filter (fun d => match s.dstUnit d with
      | some v => s.unitHeld (loopName s.unitEdges v)
      | none => false)
    held.foldl (fun s d =>
      let grans := (s.line d).cur.grans
      let s := grans.foldl (fun s g => s.wrBytes (0x20000000 + 1024 * g) (before.rdBytes 1024 (0x20000000 + 1024 * g))) s
      let dyn := s.audio.dyn.map (fun (e : Nat × DynInst) => if e.2.dst = d then (e.1, tgetD before.audio.dyn e.1 e.2) else e)
      let lim := match limiterOf d with
        | some i => (match tget before.audio.lim i with
          | some g => if (tget s.audio.lim i).isSome then cins s.audio.lim i g else s.audio.lim
          | none => s.audio.lim)
        | none => s.audio.lim
      { s with audio := { s.audio with dyn := dyn, lim := lim } }) s

/-- Units whose SWITCH block has come run themselves from this block-trigger tick on (R326 step 3). -/
def State.wcSwitchTick (s : State) : State :=
  match s.pair.wc with
  | none => s
  | some c => s.setWc { c with units := c.units.map (fun x =>
      match x.runAt with
      | some b => if b ≤ s.blk && x.st = .copying then { x with st := .verifying, runAt := none, clean := 0, diffs := 0 } else x
      | none => x) }

/-! ### Frames R takes -/

/-- Read a warm-copy frame: kind, LAST, unit, FSEQ, BLK and entry bytes; none when MAGIC, VER, AUTH or COPY_ID does not
match. -/
structure WcIn where
  kind : Nat
  last : Bool
  unit : Nat
  fseq : Nat
  blk : Nat
  count : Nat
  body : List Byte
deriving DecidableEq, Repr

/-- Check and read a frame of a copy. -/
def State.readWc (s : State) (copyId : Nat) (b : List Byte) : Option WcIn :=
  let n := b.length - 8
  if b.length < 32 || beAt b 0 4 != 0x4B574350 || beAt b 4 1 != 1 || beAt b 8 4 != copyId then none
  else if s.pairAuth && b.drop n != s.authField (b.take n) then none
  else some ⟨beAt b 5 1, (beAt b 7 1).testBit 0, beAt b 12 2, beAt b 14 2, beAt b 16 8, beAt b 6 1, (b.take n).drop 24⟩

/-- A frame of no copy under way: its COPY_ID matches none (R325). -/
def State.strayWc (s : State) : State := if s.paired then s.bump F.PAIR_CNT_FLASH_BAD else s

/-- A frame of kind `kind` for R's copy: what it holds, once in FSEQ order; a gap asks for a restart of the unit. -/
def State.takeWc (s : State) (kind : Nat) (b : List Byte) (act : WarmCopy → WcUnit → WcIn → State → State) : State :=
  match s.pair.wc with
  | none => s.strayWc
  | some c =>
    match s.readWc c.copyId b with
    | none => s.bump F.PAIR_CNT_FLASH_BAD
    | some f =>
      if f.kind != kind then s
      else match c.unit f.unit with
        | none => s
        | some x =>
          let next := tgetD x.fseq kind 0
          if f.fseq = next then
            let x := { x with fseq := cins x.fseq kind ((next + 1) % 65536) }
            let c := c.mapUnit f.unit (fun _ => x)
            act c x f (s.setWc c)
          else if x.st = .restart then s
          else s.restartUnit f.unit

/-- WC_PATCH: patch descriptors; the set is whole with LAST. -/
def effWcPatch (b : List Byte) (s : State) : State :=
  s.takeWc 0x01 b (fun c x f s =>
    let d := (List.range f.count).map (fun i => (f.body.drop (32 * i)).take 32)
    s.setWc ({ c with descr := (if x.st = UnitSt.copying then c.descr else []) ++ d, whole := f.last, descrBlk := f.blk }.mapUnit 0 (fun x => { x with st := .copying })))

/-- A record reaches R after the tick it stands for has passed there (R327). -/
def State.recordLate (s : State) (r : List Byte) : Bool :=
  let age := (s.node.n.toNat + 2 ^ 32 - beAt r 4 4) % 2 ^ 32
  0 < age && age < 2 ^ 31

/-- Apply records to a unit (R326): while it is held they are written; while R verifies, a row that differs from R's own
is overwritten and counts as a difference; a mirrored record that comes after its tick asks for a restart (R328). -/
def State.applyRecords (s : State) (u : Nat) (mirror verify : Bool) (recs : List (List Byte)) : State :=
  if mirror && recs.any s.recordLate then s.restartUnit u
  else
    let r := recs.foldl (fun (acc : State × Nat) r =>
      let a := beAt r 0 4
      if !acc.1.rowIn u a then acc
      else if verify && acc.1.rowValue a = beAt r 8 8 then acc
      else (acc.1.setRow a (beAt r 8 8), acc.2 + 1)) (s, 0)
    if !verify then r.1
    else match r.1.pair.wc with
      | some c => r.1.setWc (c.mapUnit u (fun x => { x with diffs := x.diffs + r.2 }))
      | none => r.1

/-- The records of a frame. -/
def WcIn.records (f : WcIn) : List (List Byte) := (List.range f.count).map (fun i => (f.body.drop (16 * i)).take 16)

/-- A first MIRROR or BULK frame makes R hold the unit. -/
def WarmCopy.beginUnit (c : WarmCopy) (u : Nat) : WarmCopy :=
  c.mapUnit u (fun x => if x.st = .waiting || x.st = .restart then { x with st := .copying } else x)

/-- WC_MIRROR: rows written in named ticks. DEDUCED, log 74: unsafe. -/
def effWcMirror (b : List Byte) (s : State) : State :=
  s.takeWc 0x02 b (fun c x f s => (s.setWc (c.beginUnit f.unit)).applyRecords f.unit true (x.st = .verifying) f.records)

/-- WC_BULK: rows of the bulk copy. DEDUCED, log 74: unsafe. -/
def effWcBulk (b : List Byte) (s : State) : State :=
  s.takeWc 0x03 b (fun c _ f s => (s.setWc (c.beginUnit f.unit)).applyRecords f.unit false false f.records)

/-- WC_SWITCH: R runs the unit from the block trigger of block BLK. -/
def effWcSwitch (b : List Byte) (s : State) : State :=
  s.takeWc 0x04 b (fun c _ f s => s.setWc (c.mapUnit f.unit (fun x => { x with runAt := some f.blk })))

/-- WC_STOP: with LAST the unit is joined; without it A aborts the copy. -/
def effWcStop (b : List Byte) (s : State) : State :=
  match s.pair.wc with
  | none => s.strayWc
  | some c =>
    match s.readWc c.copyId b with
    | none => s.bump F.PAIR_CNT_FLASH_BAD
    | some f =>
      if f.kind != 0x05 then s
      else if f.last then s.joinUnit f.unit
      else
        let s := { s with pair := { s.pair with wc := none, wcAsked := true } }
        (s.put F.PAIR_STAT_WC_PHASE 0).showCopy

/-! ### The patch unit (Table 11.13) -/

/-- The greatest of 2^`b` steps of the fade law from `acc` on whose factor is not above `f`, in units of 2^-20. -/
def fadeStep (f : Nat) : Nat → Nat → Nat
  | 0, acc => acc
  | b + 1, acc => fadeStep f b (if sinQ30 (acc + 2 ^ b) (2 ^ 20) ≤ f then acc + 2 ^ b else acc)

/-- A mute factor whose ramp of `len` samples stands at factor `f` at its sample `k0`, and is at sample `k` now (Table 11.13, KIND 5):
the position of R191's law is found to 2^-20. -/
def Mute.present (m : Mute) (f k0 k len : Nat) : Mute :=
  let u := if 2 ^ 30 ≤ f then 2 ^ 20 else fadeStep f 20 0
  let d := k0 * 2 ^ 20
  { m with num := if m.reasons.isEmpty then u * len - d else u * len + d, den := 2 ^ 20 * len, k := min k len, len := len }

/-- The running state a descriptor describes, added to an entry; the set stands at tick `n0`. DEDUCED, log 75: unsafe. -/
def State.adoptDescr (n0 : Nat) (s : State) (d : List Byte) : State :=
  let i := beAt d 0 2
  let kind := beAt d 2 1
  let start := beAt d 4 8
  let len := beAt d 12 4
  let k := s.node.n.toNat - start
  let old := BitVec.ofNat 64 (beAt d 20 8)
  let p := s.pe i
  match kind with
  | 0 => s.setPe i { p with ramp := some ⟨signed 16 (beAt d 16 2), signed 16 (beAt d 18 2), k, len⟩ }
  | 1 => s.setPe i { p with fade := some ⟨false, k, len⟩ }
  | 2 => s.setPe i { p with shadow := some ⟨old, peGain old, some ⟨true, k, len⟩, none⟩ }
  | 3 =>
    let new := s.entry i
    s.setPe i { p with cur := 0, ramp := none, fade := none, waiting := some (.program (if sounding new then peDst new else peDst old, start), new),
                       shadow := if old = 0 then none else some ⟨old, peGain old, none, none⟩ }
  | 4 => s.setPe i { p with cur := old, waiting := some (.shadow start none, s.entry i) }
  | 5 => if len = 0 then s else s.mapMute i (fun m => m.present (beAt d 16 4) (min (n0 - start) len) k len)
  | _ => s

/-- At a block boundary R adopts a whole set of descriptors; the patch unit is then joined. -/
def State.adoptPatch (s : State) : State :=
  match s.pair.wc with
  | some c =>
    if !c.whole then s
    else
      let s := { s with audio := { s.audio with patch := [] } }
      let s := (c.descr.foldl (State.adoptDescr (8 * c.descrBlk)) s).showPatch
      (s.setWc { c with descr := [], whole := false }).joinUnit 0
  | none => s

/-- The descriptors of the patch unit as it stands. -/
def State.patchDescr (s : State) : List (List Byte) :=
  let n := s.node.n.toNat
  let one (i kind ramp start len p1 p2 : Nat) (old : Nat) : List Byte :=
    beBytes 2 i ++ [BitVec.ofNat 8 kind, BitVec.ofNat 8 ramp] ++ beBytes 8 start ++ beBytes 4 len ++ beBytes 2 p1 ++ beBytes 2 p2
      ++ beBytes 8 old ++ beBytes 4 0
  (s.audio.patch.flatMap (fun e =>
    let p := e.2
    (match p.ramp with
      | some r => [one e.1 0 (peRamp p.cur) (n - r.k) r.len (unsigned 16 r.g0) (unsigned 16 r.g1) 0]
      | none => [])
    ++ (match p.fade with
      | some f => [one e.1 1 (peRamp p.cur) (n - f.k) f.len 0 0 0]
      | none => [])
    ++ (match p.shadow with
      | some ⟨img, _, some f, _⟩ => [one e.1 2 (peRamp img) (n - f.k) f.len 0 0 img.toNat]
      | _ => [])
    ++ (match p.waiting with
      | some (.program w, _) => [one e.1 3 0 w.2 0 0 0 (match p.shadow with
        | some x => x.image.toNat
        | none => 0)]
      | some (.shadow m _, _) => [one e.1 4 0 m 0 0 0 p.cur.toNat]
      | _ => [])))
  ++ (s.audio.mutes.map (fun e => one e.1 5 0 (n - e.2.k) e.2.len (e.2.factor / 65536) (e.2.factor % 65536) 0))
  ++ [one 0 6 0 n 0 0 0 0]

/-! ## The partner A -/

/-- A takes up the copy that R's Flash asks for (R324). -/
def State.serveCopy (s : State) (f : FlashInfo) : State :=
  if s.node.mode = .lead && f.mode = 4 && f.flag flWarmReq && s.pair.src.isNone && s.node.lockedOnce && f.flag flLocked
      && f.dtag = s.dtag && !s.bit F.PAIR_RELIEF_BUSY then
    s.clearMatch.setSrc ⟨f.epoch, s.wcUnits.map WcUnit.fresh, [], false, 0, 0⟩
  else s

/-- Split into runs of at most `k`. -/
def chunks {α : Type} (k : Nat) : Nat → List α → List (List α)
  | 0, _ => []
  | _, [] => []
  | n + 1, l => l.take k :: chunks k n (l.drop k)

/-- A sends frames of a kind for a unit, in FSEQ order. -/
def State.sendUnit (s : State) (kind u : Nat) (parts : List (List (List Byte))) (markLast : Bool) : State :=
  match s.pair.src with
  | none => s
  | some c =>
    let base := match c.unit u with
      | some x => tgetD x.fseq kind 0
      | none => 0
    let n := parts.length
    let s := (parts.zip (List.range n)).foldl (fun (s : State) (e : List (List Byte) × Nat) =>
      s.sendWc kind c.copyId u (base + e.2) (markLast && e.2 + 1 = n) e.1) s
    s.setSrc (c.mapUnit u (fun x => { x with fseq := cins x.fseq kind ((base + n) % 65536) }))

/-- Every row of a unit. -/
def State.unitRows (s : State) (u : Nat) : List Nat :=
  (s.unitRanges u).flatMap (fun r => (List.range ((r.2 + 7) / 8)).map (fun i => r.1 / 8 * 8 + 8 * i)) ++ s.dynRows u

/-- Bytes a Ts may carry under PAIR_WC_CFG.RATE, limited by the rate of the link (R328). -/
def State.wcBytes (s : State) : Nat :=
  let d := ((List.range 2).find? s.pairDomain).getD 0
  let ports := (List.range 4).filter (fun p => s.bit (F.NET_PORT_CFG_EN p) && s.bit (F.NET_PORT_STAT_LINK p) && s.get (F.NET_PORT_CFG_DOMAIN p) == d)
  let link := ports.foldl (fun m p => max m (if s.get (F.NET_PORT_STAT_RATE_NOW p) = 2 then 100 else 250)) 0
  min (s.get F.PAIR_WC_CFG_RATE) link * 100000000 / (8 * s.fs)

/-- What a frame takes beside its records: its header and AUTH, UDP, IP, Ethernet with FCS, preamble and gap. DEDUCED, log 74: unsafe. -/
def wcHeader : Nat := 98

/-- Bytes of records in frames of up to 88. -/
def wcCost (rows : Nat) : Nat := 16 * rows + wcHeader * ((rows + 87) / 88)

/-- The records that fit in some bytes. -/
def wcRoom (bytes : Nat) : Nat :=
  let whole := wcCost 88
  88 * (bytes / whole) + (bytes % whole - wcHeader) / 16

/-- A mirrors the unit. -/
def WcUnit.mirrored (x : WcUnit) : Bool := x.id != 0 && (x.st = .copying || x.st = .verifying)

/-- Bytes a Ts takes for the mirrors of a copy. -/
def WarmCopy.mirrorBytes (c : WarmCopy) : Nat := ((c.units.filter WcUnit.mirrored).map (fun x => wcCost x.rows)).foldl (· + ·) 0

/-- Start of a unit on A at a block-trigger tick (R326): the patch unit's descriptors go out; of another unit the mirror begins, and
the bulk copy has every row to send. -/
def State.startUnit (s : State) (u : Nat) : State :=
  match s.pair.src with
  | none => s
  | some c =>
    let s := s.setSrc (c.mapUnit u (fun x => { x with st := .copying, left := s.unitRows u }))
    if u = 0 then s.sendUnit 0x01 0 (chunks 44 (s.patchDescr.length + 1) s.patchDescr) true else s

/-- A at a block boundary: units whose predecessors have joined start, those whose mirrors fit in what the rate leaves over (R326,
R328). DEDUCED, log 74: unsafe. -/
def State.wcSourceBlock (s : State) : State :=
  match s.pair.src with
  | none => s
  | some c =>
    let joined (v : Nat) : Bool := match c.unit v with
      | some x => x.st = .joined
      | none => true
    (c.units.filter (fun x => x.st = .waiting && (s.unitDeps x.id).all joined)).foldl (fun s x =>
      match s.pair.src with
      | some c => if x.id = 0 || c.mirrorBytes + wcCost x.rows ≤ s.wcBytes then s.startUnit x.id else s
      | none => s) s

/-- A sends records of a unit as frames of a kind. -/
def State.sendRecords (s : State) (kind u : Nat) (rows : List Nat) (last : Bool) : State :=
  let recs := rows.map s.wcRecord
  if recs.isEmpty then s else s.sendUnit kind u (chunks 88 (recs.length + 1) recs) last

/-- One unit of A after a tick: how many rows the tick wrote is noted, and under mirror they go out (R326 steps 1 and 4). -/
def State.mirrorUnit (s : State) (u : Nat) : State :=
  match s.pair.src with
  | none => s
  | some c =>
    let rows := s.rowsWritten u
    let s := s.setSrc (c.mapUnit u (fun x => { x with rows := max x.rows rows.length }))
    if (c.unit u).any WcUnit.mirrored then s.sendRecords 0x02 u rows false else s

/-- One unit's bulk rows, as many as fit in `room` bytes (R326 step 2); after the last of them SWITCH names the next block-trigger tick
(step 3). Answers the room left. -/
def State.bulkUnit (s : State) (u room : Nat) : State × Nat :=
  match s.pair.src with
  | none => (s, room)
  | some c =>
    match c.unit u with
    | none => (s, room)
    | some x =>
      let now := x.left.take (wcRoom room)
      let left := x.left.drop (wcRoom room)
      let s := s.setSrc (c.mapUnit u (fun x => { x with left := left }))
      let s := s.sendRecords 0x03 u now left.isEmpty
      (match left, s.pair.src with
        | [], some c =>
          (s.emitWc (s.wcFrame 0x04 c.copyId u 0 (s.blk + 1) false [])).setSrc
            (c.mapUnit u (fun x => { x with st := .verifying, clean := 0 }))
        | _, _ => s, room - wcCost now.length)

/-- A after a tick: the mirrors, then bulk rows in what the rate leaves over (R326, R328). DEDUCED, log 74: unsafe. -/
def State.wcMirrorTick (s : State) : State :=
  match s.pair.src with
  | none => s
  | some c =>
    let s := (c.units.filter (fun x => x.id != 0 && x.st != .joined)).foldl (fun s x => s.mirrorUnit x.id) s
    let room := match s.pair.src with
      | some c => s.wcBytes - c.mirrorBytes
      | none => 0
    ((c.units.filter (fun x => x.id != 0 && x.st = .copying)).foldl (fun (acc : State × Nat) x => acc.1.bulkUnit x.id acc.2) (s, room)).1

/-- State codes of a STATUS entry. -/
def UnitSt.code : UnitSt → Nat
  | .waiting => 0 | .copying => 1 | .verifying => 2 | .joined => 3 | .restart => 4

/-- R once per block: blocks of verification are counted, and STATUS goes out (Table 11.12, R328). -/
def State.wcStatusBlock (s : State) : State :=
  match s.pair.wc with
  | none => s
  | some c =>
    let entries := c.units.map (fun x => beBytes 2 x.id ++ [BitVec.ofNat 8 x.st.code, BitVec.ofNat 8 (min 255 x.diffs)])
    let parts := chunks 255 (entries.length + 1) entries
    let s := parts.zipIdx.foldl (fun s e => s.sendWc 0x10 c.copyId 0 ((c.statusSeq + e.2) % 65536) false e.1) s
    let s := s.setWc { c with statusSeq := (c.statusSeq + parts.length) % 65536, units := c.units.map (fun x =>
      if x.st = .verifying then
        (if x.diffs = 0 then { x with clean := x.clean + 1 } else { x with clean := 0, fails := x.fails + 1, diffs := 0 })
      else x) }
    (c.units.filter (fun x => x.st = .verifying && x.diffs != 0 && 2 ≤ x.fails)).foldl (fun s x => s.restartUnit x.id) s

/-- One entry of R's STATUS at A. -/
def State.statusEntry (s : State) (e : List Byte) : State :=
  match s.pair.src with
  | none => s
  | some c =>
    let u := beAt e 0 2
    match beAt e 2 1, c.unit u with
    | 3, some _ => s.setSrc (c.mapUnit u (fun x => { x with st := .joined }))
    | 4, some x => if x.st = .waiting then s else s.setSrc (c.mapUnit u (fun x => { WcUnit.fresh u with rows := x.rows }))
    | 2, some x =>
      if x.st != .verifying then s
      else
        let clean := if beAt e 3 1 = 0 then x.clean + 1 else 0
        if 16 ≤ clean then
          (s.sendWc 0x05 c.copyId u 0 true []).setSrc (c.mapUnit u (fun x => { x with st := .joined }))
        else s.setSrc (c.mapUnit u (fun x => { x with clean := clean }))
    | _, _ => s

/-- A frame of A's copy. -/
def State.takeSrc (s : State) (kind : Nat) (b : List Byte) (act : WcIn → State → State) : State :=
  match s.pair.src with
  | none => s.strayWc
  | some c =>
    match s.readWc c.copyId b with
    | none => s.bump F.PAIR_CNT_FLASH_BAD
    | some f => if f.kind = kind then act f s else s

/-- WC_STATUS: R's report of its units. -/
def effWcStatus (b : List Byte) (s : State) : State :=
  s.takeSrc 0x10 b (fun f s => ((List.range f.count).map (fun i => (f.body.drop (4 * i)).take 4)).foldl State.statusEntry s)

/-- WC_ABORT: R ends the copy. -/
def effWcAbort (b : List Byte) (s : State) : State :=
  s.takeSrc 0x11 b (fun _ s => s.endSrc)

/-! ## Flash and RESYNC -/

/-- FLASH_RECEIVED (R309): what the Flash does to the pair unit, then the start of a copy on either side. -/
def effFlashReceived (d addr mac : Nat) (bytes : List Byte) (s : State) : State :=
  match s.flashIn d addr mac bytes with
  | (s, some f) => (s.serveCopy f).tryCopy
  | (s, none) => s

/-- A RESYNC through PAIR_WC_CTL (R324): only a SHADOW starts a copy. -/
def State.resync (s : State) : State :=
  if s.node.mode = .shadow && s.paired then
    ({ s.restartCopy with pair := { s.restartCopy.pair with wcAsked := true } }).tryCopy
  else s

/-- At a block boundary, before dispatch: adopt descriptors, report, run switched units, start units. -/
def State.wcBlockTick (s : State) : State :=
  if s.node.n.toNat % 8 != 0 then s
  else s.wcStatusBlock.adoptPatch.wcSwitchTick.wcSourceBlock

/-! ## Meanings of the commands -/

/-- FLASH_RECEIVED (R309). -/
def execFlashReceived (d : Fin 2) (addr : Word32) (mac : BitVec 48) (bytes : List Byte) (s : State) : Result :=
  runs s (effFlashReceived d.val addr.toNat mac.toNat bytes)

/-- WC_PATCH (R326). -/
def execWcPatch (bytes : List Byte) (s : State) : Result :=
  runs s (effWcPatch bytes)

/-- WC_MIRROR (R326). -/
def execWcMirror (bytes : List Byte) (s : State) : Result :=
  runs s (effWcMirror bytes)

/-- WC_BULK (R326). -/
def execWcBulk (bytes : List Byte) (s : State) : Result :=
  runs s (effWcBulk bytes)

/-- WC_SWITCH (R326). -/
def execWcSwitch (bytes : List Byte) (s : State) : Result :=
  runs s (effWcSwitch bytes)

/-- WC_STOP (R325). -/
def execWcStop (bytes : List Byte) (s : State) : Result :=
  runs s (effWcStop bytes)

/-- WC_STATUS (R325). -/
def execWcStatus (bytes : List Byte) (s : State) : Result :=
  runs s (effWcStatus bytes)

/-- WC_ABORT (R325). -/
def execWcAbort (bytes : List Byte) (s : State) : Result :=
  runs s (effWcAbort bytes)

/-- WC_UNIT_JOINED (R326). -/
def execWcUnitJoined (u : Nat) (s : State) : Result :=
  runs s (effWcUnitJoined u)

/-- WC_RETRY (R328). -/
def execWcRetry (s : State) : Result :=
  runs s effWcRetry

end Sys2Proof.Machine
end

