-- ==== Sys2Proof/Machine/Relief.lean ====
section
/-! DEFINITION. Relief Bricks and checkpoints (R336 to R343), placing a logical Brick's items (R170). -/

namespace Sys2Proof.Machine

/-! ## Placing a logical Brick -/

/-- Write the 32-bit words of a value into Brick memory from word `w` on. -/
def State.writeWords (s : State) (b w : Nat) (v : List Byte) : State :=
  s.wrBytes (brickWordAddr b w) (v.take (4 * (65536 - w)))

/-- CODE and DATA words of logical Brick `l` go to physical Brick `b` (Table 5.10). -/
def State.placeWords (s : State) (l b : Nat) : State :=
  let s := (Cfg.progItems s.st.cfg 1 l).foldl (fun s e => s.writeWords b (2 * e.1) e.2) s
  (Cfg.progItems s.st.cfg 2 l).foldl (fun s e => s.writeWords b e.1 e.2) s

/-- TRIG, IO and STATE values of logical Brick `l` go to physical Brick `b`, which dispatches when it has any.
No item gives BRK_CTL.RUN: the Keeper sets it once there is a TRIG item. DESIGN CHOICE, log 85: unsafe. -/
def State.placeTables (s : State) (l b : Nat) : State :=
  let trig := Cfg.progItems s.st.cfg 3 l
  let io := Cfg.progItems s.st.cfg 4 l
  let s := trig.foldl (fun s e => if e.1 < 16 then s.setRg (BRK_TRIG b e.1) (leAt e.2 0 4) else s) s
  let s := io.foldl (fun s e => if e.1 < 256 then s.setRg (BRK_IO b e.1) (leAt e.2 0 4) else s) s
  let s := s.put (F.BRK_PORT_CK_WORDS b) (match s.stateArea l with
    | some (_, _, ck) => ck
    | none => 0)
  if trig.isEmpty then s else s.putBit (F.BRK_CTL_RUN b) true

/-- Clear a Brick's trigger and I/O tables (R126). RUN and CK_WORDS, which the spec does not name there, go to 0 with them.
DESIGN CHOICE, log 85: unsafe. -/
def State.clearTables (s : State) (b : Nat) : State :=
  let s := (List.range 16).foldl (fun s k => s.clearRg (BRK_TRIG b k)) s
  let s := (List.range 256).foldl (fun s k => s.clearRg (BRK_IO b k)) s
  (s.putBit (F.BRK_CTL_RUN b) false).put (F.BRK_PORT_CK_WORDS b) 0

/-- A Brick without work or dispatch history. -/
def State.idleBrick (s : State) (b : Nat) : State :=
  s.setBrick b { s.brick b with fgWork := none, bgWork := none, ready := [] }

/-- A Brick goes OUT_OF_SERVICE (R126); the requests of its Course port on its behalf are drained (R432). -/
def State.retire (s : State) (b : Nat) : State :=
  let s := (s.clearTables b).idleBrick b
  let s := s.zeroMem (brickWordAddr b 0) 0x40000
  let s := ((s.put (F.BRK_ROLE_ROLE b) 2).showBrick b).masterReset (8 + b / 8)
  { s with mortar := { s.mortar with drains := b :: s.mortar.drains } }

/-! ## Checkpoints (R341) -/

/-- Byte offset in shared SRAM of buffer `buf` of logical Brick `l`'s checkpoint: the buffers lie in ascending order from
the start of the area; none when the area does not hold it. -/
def State.ckptAddr (s : State) (l buf : Nat) : Option Nat :=
  let before := ((List.range l).map (fun m => match s.stateArea m with
    | some (_, n, _) => 8 * n
    | none => 0)).foldl (· + ·) 0
  match s.stateArea l with
  | some (_, n, _) =>
    let o := before + 4 * n * buf
    if o + 4 * n ≤ 4096 * s.get F.PAIR_CKPT_CFG_SIZE then some (4096 * s.get F.PAIR_CKPT_CFG_BASE + o) else none
  | none => none

/-- One tick of the checkpoint engine for one logical Brick. -/
def State.ckptBrick (s : State) (t l : Nat) : State :=
  match s.stateArea l with
  | none => s
  | some (first, len, _) =>
    let b := s.physOf l
    let c := tgetD s.pair.ckpt l ⟨0, 0, false, 0, none⟩
    let c : Ckpt := if t % 1024 = 0 then
        { c with buf := (match c.complete with
            | some k => 1 - k
            | none => 0), pos := 0, running := true, startN := t }
      else c
    if !c.running || s.outOfService b then s
    else
      let n := min (s.get (F.BRK_PORT_CK_WORDS b)) (len - c.pos)
      let s := match s.ckptAddr l c.buf with
        | some o => s.wrShared 6 (o + 4 * c.pos) (s.rdBytes (4 * n) (brickWordAddr b (first + c.pos)))
        | none => s
      let c := { c with pos := c.pos + n }
      let c := if len ≤ c.pos then { c with running := false, complete := some c.buf } else c
      { s with pair := { s.pair with ckpt := cins s.pair.ckpt l c } }

/-- The checkpoint engine at tick `t`; PAIR_CKPT_N names the last round that is whole. DEDUCED, log 75: unsafe. -/
def State.ckptTick (s : State) (t : Nat) : State :=
  if s.stateBricks.isEmpty then s
  else
    let was := s.pair.ckpt.any (fun e => e.2.running) || t % 1024 = 0
    let s := s.stateBricks.foldl (fun s l => s.ckptBrick t l) s
    if was && !s.pair.ckpt.any (fun e => e.2.running) then s.setRg PAIR_CKPT_N (t / 1024 * 1024) else s

/-! ## Takeover (R336 to R340, R343) -/

/-- Relief Bricks: 24k + 23. -/
def reliefBrick (k : Nat) : Nat := 24 * k + 23

/-- The Relief Brick R337 chooses for a failed Brick. -/
def State.chooseRelief (s : State) (b : Nat) : Option Nat :=
  let free := s.get F.PAIR_RELIEF_FREE
  let pref := b / 8 / 3
  if free.testBit pref then some (reliefBrick pref)
  else ((List.range 4).find? (fun k => free.testBit k)).map reliefBrick

/-- A takeover by logical Brick. -/
def State.takeover (s : State) (l : Nat) : Option Takeover := s.pair.takeovers.find? (fun t => t.logical = l)

/-- Change a takeover. -/
def State.mapTakeover (s : State) (l : Nat) (f : Takeover → Takeover) : State :=
  { s with pair := { s.pair with takeovers := s.pair.takeovers.map (fun t => if t.logical = l then f t else t) } }

/-- A takeover starts anew for a logical Brick, or it stays failed (R336 to R338, R340). DEDUCED, log 75: unsafe. -/
def State.beginTakeover (s : State) (l : Nat) (commanded : Bool) : State :=
  let b := s.physOf l
  match s.chooseRelief b with
  | none =>
    if commanded then s
    else ({ s with flt := { s.flt with reliefNone := s.flt.reliefNone ++ [l] } }).latch 3
  | some r =>
    let s := s.putMask F.PAIR_RELIEF_FREE (r / 24) false
    let s := (s.putBit F.PAIR_RELIEF_BUSY true).put F.PAIR_RELIEF_LAST_LOGICAL l
    let s := { s with pair := { s.pair with
      takeovers := s.pair.takeovers.filter (fun (t : Takeover) => t.logical != l)
        ++ [(⟨l, b, r, commanded, false, false, false⟩ : Takeover)] } }
    let s := s.latch 4
    let s := s.restartCopy
    -- R343
    let s := if s.node.mode = .lead && s.paired then { s with pair := { s.pair with owed := true } } else s
    if s.node.mode = .lead && s.paired && s.matched && s.get F.PAIR_STAT_PARTNER_MODE = 4 && s.pair.ho.isNone then
      (if s.policyActs then s.announce true else s.propose .pairSwap)
    else s

/-- A logical Brick fails (R336). A takeover from its present Brick that is under way goes on as one after an error; one that already
runs on a Relief that now fails gives way to a new one. DEDUCED, log 75: unsafe. -/
def State.failBrick (s : State) (l : Nat) (commanded : Bool) : State :=
  let s := s.put F.PAIR_RELIEF_LAST_FAILED (s.physOf l)
  match s.takeover l with
  | some t =>
    if t.failed = s.physOf l then s.mapTakeover l (fun t => { t with commanded := false })
    else (if t.commanded then s.retire t.failed else s).beginTakeover l commanded
  | none => s.beginTakeover l commanded

/-- RELIEF_TAKEOVER: an uncorrectable error in the memory of physical Brick `b`. -/
def effReliefTakeover (b : Nat) (s : State) : State :=
  if s.outOfService b then s
  else
    let s := (s.putBit (F.BRK_STAT_ECC_UE b) true).latch 0
    if b % 24 = 23 && s.get F.PAIR_RELIEF_FREE / 2 ^ (b / 24) % 2 = 1 then
      (s.putMask F.PAIR_RELIEF_FREE (b / 24) false).retire b
    else match s.logicalOf b with
      | some l => if s.flt.reliefNone.contains l then s else s.failBrick l false
      | none => s

/-- A commanded replacement of logical Brick `l` (R339): refused while a takeover runs or when no Relief is free. -/
def State.replaceOk (s : State) (l : Nat) : Bool :=
  l < nLogical && !s.bit F.PAIR_RELIEF_BUSY && s.get F.PAIR_RELIEF_FREE != 0 && !s.flt.reliefNone.contains l

/-- The last complete checkpoint of logical Brick `l`: where its bytes lie. -/
def State.lastCkpt (s : State) (l : Nat) : Option Nat :=
  match (tgetD s.pair.ckpt l ⟨0, 0, false, 0, none⟩).complete with
  | some buf => (s.ckptAddr l buf).map (fun o => 0x30000000 + o)
  | none => none

/-- It meets a row with an uncorrectable error (R461), and counts as none. DEDUCED, log 80: unsafe. -/
def State.ckptFails (s : State) (l : Nat) : Bool :=
  match s.lastCkpt l, s.stateArea l with
  | some a, some (_, len, _) => s.sramFails a (4 * len)
  | _, _ => false

/-- RELIEF_LOADED (Table 11.10 steps 3 and 4): CODE, DATA and STATE are in the Relief Brick. -/
def effReliefLoaded (l : Nat) (s : State) : State :=
  match s.takeover l with
  | some t =>
    if t.loaded then s
    else
      let s := (s.zeroMem (brickWordAddr t.relief 0) 0x40000).placeWords l t.relief
      let q := match s.stateArea l, s.lastCkpt l with
        | some (_, len, _), some a => s.sharedPath 6 a (4 * len)
        | _, _ => (s, true)
      let s := if s.ckptFails l then q.1.latch 9 else q.1
      let lost := s.ckptFails l || !q.2
      let s := match s.stateArea l with
        | some (first, len, _) =>
          s.writeWords t.relief first (match s.lastCkpt l, lost with
            | some a, false => s.rdBytes (4 * len) a
            | _, _ => List.replicate (4 * len) 0)
        | none => s
      let s := (Cfg.progItems s.st.cfg 4 l).foldl (fun s e =>
        s.writeWords t.relief (16 * fieldOf (leAt e.2 0 4) 4 12) (List.replicate 64 0)) s
      s.mapTakeover l (fun t => { t with loaded := true })
  | none => s

/-- RELIEF_RUN (step 5): at the next block-trigger tick the Relief Brick runs. DEDUCED, log 75: unsafe. -/
def effReliefRun (l : Nat) (s : State) : State :=
  match s.takeover l with
  | some t =>
    if !t.loaded || t.runs || (s.node.n.toNat + 1) % 8 != 0 then s
    else
      let s := s.mapTakeover l (fun t => { t with runs := true })
      let s := if t.commanded then s else s.retire t.failed
      let s := { s with pair := { s.pair with carried := cins s.pair.carried l t.relief } }
      let s := (s.idleBrick t.relief).placeTables l t.relief
      s.put (F.BRK_ROLE_REPLACES t.relief) t.failed
  | none => s

/-- Output numbers bound on a physical Brick. -/
def State.outputsOf (s : State) (b : Nat) : List Nat :=
  s.ioBindings.filterMap (fun e => if e.1 = b && e.2.1 then some e.2.2.1 else none)

/-- An entry whose source is one of these output numbers. -/
def fromOutputs (ks : List Nat) (e : Word64) : Bool := 1280 ≤ peSrc e && peSrc e < 3328 && ks.contains (peSrc e - 1280)

/-- Step 6 for one entry: its crosspoint fades in; for a commanded replacement it changes as by a route change, at the end of a fade
that runs (R193) and once a shadow entry is free (R192), and plays the old Brick until then (R339). DEDUCED, log 75: unsafe. -/
def State.fadeRelief (s : State) (i : Nat) (p : PEntry) (old : Option Nat) : State :=
  match old with
  | none => (s.countFades 1).setPe i { p with fade := some ⟨false, 0, s.rampLen (peRamp p.cur)⟩ }
  | some b =>
    let p := { p with old := some b }
    match p.waiting with
    | some _ => s.setPe i p
    | none =>
      if p.shadow.isSome || p.fade.isSome then s.setPe i { p with waiting := some (.fade none, p.cur) }
      else if 2048 ≤ s.shadowsUsed then s.setPe i { p with waiting := some (.shadow s.node.n.toNat none, p.cur) }
      else s.startFades i p p.cur

/-- A shadow entry that plays one of these outputs goes on with its old Brick. -/
def PEntry.keepShadow (p : PEntry) (ks : List Nat) (b : Nat) : PEntry :=
  { p with shadow := p.shadow.map (fun x => if fromOutputs ks x.image && x.oldBrick.isNone then { x with oldBrick := some b } else x) }

/-- Relief Brick `b` is ready by R195; one without programs has none to wait for. DEDUCED, log 75: unsafe. -/
def State.reliefPlays (s : State) (b : Nat) : Bool := s.brickReady b || (s.triggers b).isEmpty

/-- RELIEF_READY (step 6): the Relief's outputs are ready. -/
def effReliefReady (l : Nat) (s : State) : State :=
  match s.takeover l with
  | some t =>
    if !t.runs || t.ready || !s.reliefPlays t.relief then s
    else
      let ks := s.outputsOf t.relief
      let s := s.mapTakeover l (fun t => { t with ready := true })
      (s.liveEntries.foldl (fun s e =>
        let p := e.2.keepShadow ks t.failed
        if sounding p.cur && fromOutputs ks p.cur then s.fadeRelief e.1 p (if t.commanded then some t.failed else none)
        else s.setPe e.1 p) s).showPatch
  | none => s

/-- A fade of an entry from these outputs still runs. -/
def PEntry.busyFor (p : PEntry) (ks : List Nat) (old : Nat) : Bool :=
  p.old = some old || (fromOutputs ks p.cur && (match p.fade with
    | some f => !f.done
    | none => false))
  || (match p.shadow with
    | some x => x.oldBrick = some old && (match x.fade with
      | some f => !f.done
      | none => true)
    | none => false)

/-- RELIEF_DONE (step 7): the longest fade has ended. -/
def effReliefDone (l : Nat) (s : State) : State :=
  match s.takeover l with
  | some t =>
    if !t.ready || s.audio.patch.any (fun e => e.2.busyFor (s.outputsOf t.relief) t.failed) then s
    else
      let s := if t.commanded then s.retire t.failed else s
      let s := { s with pair := { s.pair with takeovers := s.pair.takeovers.filter (fun (x : Takeover) => x.logical != l) } }
      -- no exchange of roles is coming any more (R343)
      let s := if s.node.mode = .lead && s.pair.ho.isNone && !s.proposed .pairSwap then
          { s with pair := { s.pair with owed := false } } else s
      (s.putBit F.PAIR_RELIEF_BUSY (!s.pair.takeovers.isEmpty)).tryCopy
  | none => s

/-! ## Meanings of the commands -/

/-- RELIEF_TAKEOVER (R338). -/
def execReliefTakeover (b : Fin 96) (s : State) : Result :=
  runs s (effReliefTakeover b.val)

/-- RELIEF_LOADED (R338). -/
def execReliefLoaded (l : Fin 92) (s : State) : Result :=
  runs s (effReliefLoaded l.val)

/-- RELIEF_RUN (R338). -/
def execReliefRun (l : Fin 92) (s : State) : Result :=
  runs s (effReliefRun l.val)

/-- RELIEF_READY (R338). -/
def execReliefReady (l : Fin 92) (s : State) : Result :=
  runs s (effReliefReady l.val)

/-- RELIEF_DONE (R338). -/
def execReliefDone (l : Fin 92) (s : State) : Result :=
  runs s (effReliefDone l.val)

end Sys2Proof.Machine
end

