-- ==== Sys2Proof/Machine/Tw0.lean ====
section
/-! DEFINITION. TW0, the two-wire controller (chapter 14). -/

namespace Sys2Proof.Machine

/-- One byte of the SMBus CRC-8, polynomial 0x07 (R406). -/
def crc8Byte (c : Nat) (b : Byte) : Nat :=
  iterate (fun (x : Nat) => if x.testBit 7 then (x * 2 ^^^ 0x107) % 256 else x * 2 % 256) 8 (c ^^^ b.toNat)

/-- PEC over the bytes of a transaction (R406). -/
def pec (bytes : List Byte) : Byte := BitVec.ofNat 8 (bytes.foldl crc8Byte 0)

/-- TW0 acts: EN is 1, and the engine is in P0 to P3 (R413). -/
def State.tw0On (s : State) : Bool := s.bit F.TW0_CFG_EN && s.get F.PWR_STAT_STATE < 4

/-- Put TW0's typed state and its status bits; the bus is not free while a line is stuck, a transaction of the engine stands or
another controller holds it (R410). -/
def State.setTw0 (s : State) (t : Tw0) : State :=
  let s := ({ s with tw0 := t } : State).putBit F.TW0_STAT_BUSY t.run.isSome
  s.putBit F.TW0_STAT_BUS_BUSY (t.sdaLow || t.sclLow || t.run.isSome || t.taken)

/-! ## A transaction's start -/

/-- A TW0_CMD image's WLEN and RLEN, each at most 64; another encoding is reserved and leaves the field as it was (R23). -/
def State.tw0Cmd (s : State) (cmd : Nat) : State :=
  let s := ((s.put F.TW0_CMD_PEC (fieldOf cmd 30 1)).put F.TW0_CMD_BLOCK (fieldOf cmd 29 1)).put F.TW0_CMD_ADDR (fieldOf cmd 22 7)
  let s := if fieldOf cmd 15 7 ≤ 64 then s.put F.TW0_CMD_WLEN (fieldOf cmd 15 7) else s
  let s := if fieldOf cmd 8 7 ≤ 64 then s.put F.TW0_CMD_RLEN (fieldOf cmd 8 7) else s
  s.put F.TW0_CMD_TAG (fieldOf cmd 0 8)

/-- Write bytes that TW0_TXD never received: the spec does not say what goes out. PRESUMED, log 63: unsafe. -/
def State.freeBytes (s : State) (n : Nat) : List Byte :=
  (List.range n).map (fun i => BitVec.ofNat 8 ((Config.freeWord (s.free + i)).toNat))

/-- A GO starts the transaction TW0_CMD selects (R405), which waits for a free bus (R410); one written while a transaction runs
has no effect (R404). PRESUMED, log 63: unsafe. -/
def State.tw0Go (s : State) (cmd : Nat) (owner : Option (Nat × Nat)) : State :=
  let s := s.tw0Cmd cmd
  if !s.tw0On || s.tw0.run.isSome then s
  else
    let wlen := s.get F.TW0_CMD_WLEN
    let need := wlen - s.tw0.tx.length
    let data := s.tw0.tx.take wlen ++ s.freeBytes need
    let s := { s with free := s.free + need }
    (s.setTw0 { s.tw0 with run := some ⟨s.rg TW0_CMD, data, 0, false, owner⟩ }).putBit F.TW0_RES_VALID false

/-- The Keeper runs the transactions of the sessions in order: the next one starts once none runs (R404). -/
def State.tw0Next (s : State) : State :=
  match s.tw0.waits with
  | [] => s
  | (cmd, bytes, owner) :: rest =>
    if !s.tw0On || s.tw0.run.isSome then s else (s.setTw0 { s.tw0 with waits := rest, tx := bytes }).tw0Go cmd owner

/-- A session submits a transaction (R404). -/
def State.tw0Submit (s : State) (cmd : Nat) (bytes : List Byte) (owner : Option (Nat × Nat)) : State :=
  (s.setTw0 { s.tw0 with waits := s.tw0.waits ++ [(cmd, bytes, owner)] }).tw0Next

/-! ## Results -/

/-- The transaction ends (R406): TW0_RES, the bytes read, the reply to the session that submitted it; the next one may start. -/
def State.tw0End (s : State) (result acked : Nat) (read : List Byte) : State :=
  match s.tw0.run with
  | none => s
  | some r =>
    let tag := r.cmd % 256
    let image := 2 ^ 31 + result * 2 ^ 27 + acked % 128 * 2 ^ 20 + read.length % 128 * 2 ^ 13 + tag
    let s := s.setTw0 { s.tw0 with run := none, tx := [], rx := read, pos := 0 }
    let s := s.setRg TW0_RES image
    let s := if result = 1 || result = 2 then s.bump F.TW0_CNT_NACKS else s
    let s := if result = 4 then s.bump F.TW0_CNT_TIMEOUTS else s
    (s.finish r.owner 0x61 0 (beBytes 4 image ++ read)).tw0Next

/-- The bus is free: the transaction that waits for it starts, one that has lost again from START (R410). -/
def State.tw0Free (s : State) : State :=
  if s.tw0.taken then
    s.setTw0 { s.tw0 with
      taken := false
      run := s.tw0.run.map (fun r => if r.lost then { r with lost := false, tries := r.tries + 1 } else r) }
  else s

/-- Bus recovery (R412), ending as `how` says. A GO that waits for it ends with the stuck result.
PRESUMED, log 63: unsafe. -/
def State.tw0Recover (s : State) (how : Recovery) : State :=
  let s := (s.bump F.TW0_CNT_RECOVERIES)
  match how with
  | .freed => s.tw0Free.emit .tw0Recovery
  | .sdaStuck =>
    let s := ((s.emit .tw0Recovery).setTw0 { s.tw0 with sdaLow := true }).putBit F.TW0_STAT_SDA_STUCK true
    (s.latch 49).tw0End 7 0 []
  | .sclStuck =>
    let s := (s.setTw0 { s.tw0 with sclLow := true }).putBit F.TW0_STAT_SCL_STUCK true
    (s.latch 49).tw0End 8 0 []

/-! ## Commands -/

/-- TW0_ENABLE: EN becomes 1, and recovery runs (R412). -/
def effTw0Enable (how : Recovery) (s : State) : State :=
  if s.bit F.TW0_CFG_EN then s else ((s.putBit F.TW0_CFG_EN true).tw0Recover how).tw0Next

/-- The data bytes of a partial read, as the transaction stood. -/
def effTw0Abort (acked : Nat) (read : List Byte) (s : State) : State :=
  match s.tw0.run with
  | none => s
  | some r => s.tw0End 9 (min acked (fieldOf r.cmd 15 7)) read

/-- TW0_DISABLE: a transaction in progress ends at the next byte with ABORTED (R413). -/
def effTw0Disable (acked : Nat) (read : List Byte) (s : State) : State :=
  if s.bit F.TW0_CFG_EN then effTw0Abort acked read (s.putBit F.TW0_CFG_EN false) else s

/-- TW0_TXD: four write bytes are appended; a transaction writes at most 64 (R404, Table 14.1). -/
def effTw0Txd (w : Word32) (s : State) : State :=
  s.setTw0 { s.tw0 with tx := (s.tw0.tx ++ leBytes 4 w.toNat).take 64 }

/-- TW0_RXD: the next four bytes read. DEDUCED, log 37: unsafe. -/
def effTw0Rxd (s : State) : State :=
  (s.setTw0 { s.tw0 with pos := min s.tw0.rx.length (s.tw0.pos + 4) }).emit (.data (leAt s.tw0.rx s.tw0.pos 4))

/-- TW0_GO (R405). -/
def effTw0Go (cmd : Nat) (s : State) : State := s.tw0Go cmd none

/-- TW0_ARB_LOST: the controller sees 0 where it drove 1, and the winner holds the bus (R410). -/
def effTw0ArbLost (s : State) : State :=
  match s.tw0.run with
  | none => s
  | some r =>
    if s.tw0.taken then s
    else
      let s := (s.putBit F.TW0_STAT_ARB_LOST true).bump F.TW0_CNT_ARB_LOSSES
      if s.get F.TW0_CFG_ARB_RETRY ≤ r.tries then (s.setTw0 { s.tw0 with taken := true }).tw0End 3 0 []
      else s.setTw0 { s.tw0 with run := some { r with lost := true }, taken := true }

/-- TW0_ARB_RETRY: the winner's STOP and BUF have passed (R410). -/
def effTw0ArbRetry (s : State) : State := s.tw0Free

/-- Bytes that no partner drives read as ones. PRESUMED, log 63: unsafe. -/
def padRead (n : Nat) (bytes : List Byte) : List Byte := (bytes ++ List.replicate n 0xFF).take n

/-- The read half of a transaction: data bytes read, and the result (Table 14.1, R406). `bus` holds the bytes on the bus
before it. PRESUMED, log 63: unsafe. -/
def tw0Read (cmd : Nat) (bus : List Byte) (got : List Byte) : Nat × List Byte :=
  let rlen := fieldOf cmd 8 7
  let withPec := (fieldOf cmd 30 1 == 1)
  if fieldOf cmd 29 1 = 1 then
    let c := (padRead 1 got).headD 0
    if c = 0 || rlen < c.toNat then (6, [c])
    else
      let data := padRead (c.toNat + 1) got
      let p := (padRead (c.toNat + 2) got).getLastD 0
      (if withPec && p != pec (bus ++ data) then 5 else 0, data)
  else
    let data := padRead rlen got
    let p := (padRead (rlen + 1) got).getLastD 0
    (if withPec && p != pec (bus ++ data) then 5 else 0, data)

/-- TW0_DONE: the transaction ends with STOP (R405, R406); `b` is what the partners did. PRESUMED, log 63: unsafe. -/
def effTw0Done (b : Tw0Bus) (s : State) : State :=
  match s.tw0.run with
  | none => s
  | some r =>
    if s.tw0.taken || s.tw0.sdaLow || s.tw0.sclLow then s
    else
      let addr := fieldOf r.cmd 22 7
      let wlen := fieldOf r.cmd 15 7
      let rlen := fieldOf r.cmd 8 7
      let addrW : Byte := BitVec.ofNat 8 (2 * addr)
      let addrR : Byte := BitVec.ofNat 8 (2 * addr + 1)
      let writes := wlen ≠ 0 || rlen = 0
      let withPec := fieldOf r.cmd 30 1 = 1 && rlen = 0 && wlen ≠ 0
      let sent := r.data ++ (if withPec then [pec (addrW :: r.data)] else [])
      let s := if writes then s.emit (.tw0 (2 * addr) (if b.ackW then sent.take (b.acked + 1) else [])) else s
      if writes && !b.ackW then s.tw0End 1 0 []
      else if b.acked < sent.length then s.tw0End 2 (min b.acked wlen) []
      else if rlen = 0 then s.tw0End 0 wlen []
      else
        let s := s.emit (.tw0 (2 * addr + 1) [])
        if !b.ackR then s.tw0End 1 wlen []
        else
          let bus := (if writes then addrW :: r.data else []) ++ [addrR]
          let res := tw0Read r.cmd bus b.read
          s.tw0End res.1 wlen res.2

/-- TW0_TIMEOUT: SCL has been low for TIMEOUT; the transaction ends and recovery runs (R409). -/
def effTw0Timeout (acked : Nat) (read : List Byte) (how : Recovery) (s : State) : State :=
  match s.tw0.run with
  | none => s
  | some r => (s.tw0End 4 (min acked (fieldOf r.cmd 15 7)) read).tw0Recover how

/-- TW0_RECOVER: RECOVER is written, or SDA has been low for 50 µs with no transaction running (R412). -/
def effTw0Recover (how : Recovery) (s : State) : State := if s.tw0On then s.tw0Recover how else s

/-- TW0_RECOVERY_REPEAT: 1 s has passed with SDA stuck (R412). -/
def effTw0RecoveryRepeat (how : Recovery) (s : State) : State :=
  if s.tw0On && (s.tw0.sdaLow || s.tw0.sclLow) then s.tw0Recover how else s

/-- TW0_STUCK_CLEAR: the line (SDA, or SCL) has been high for 50 µs, and its cause is absent (R412). -/
def effTw0StuckClear (sda : Bool) (s : State) : State :=
  s.setTw0 (if sda then { s.tw0 with sdaLow := false } else { s.tw0 with sclLow := false })

/-! ## Meanings of the commands -/

/-- TW0_ENABLE (R412). -/
def execTw0Enable (how : Recovery) (s : State) : Result :=
  runs s (effTw0Enable how)

/-- TW0_DISABLE (R413). -/
def execTw0Disable (acked : Nat) (read : List Byte) (s : State) : Result :=
  runs s (effTw0Disable acked read)

/-- TW0_TXD (R404). -/
def execTw0Txd (w : Word32) (s : State) : Result :=
  runs s (effTw0Txd w)

/-- TW0_RXD (R404). -/
def execTw0Rxd (s : State) : Result :=
  runs s effTw0Rxd

/-- TW0_GO (R405). -/
def execTw0Go (cmd : BitVec 31) (s : State) : Result :=
  runs s (effTw0Go cmd.toNat)

/-- TW0_ARB_LOST (R410). -/
def execTw0ArbLost (s : State) : Result :=
  runs s effTw0ArbLost

/-- TW0_ARB_RETRY (R410). -/
def execTw0ArbRetry (s : State) : Result :=
  runs s effTw0ArbRetry

/-- TW0_DONE (R406). -/
def execTw0Done (b : Tw0Bus) (s : State) : Result :=
  runs s (effTw0Done b)

/-- TW0_TIMEOUT (R409). -/
def execTw0Timeout (acked : Nat) (read : List Byte) (how : Recovery) (s : State) : Result :=
  runs s (effTw0Timeout acked read how)

/-- TW0_RECOVER (R412). -/
def execTw0Recover (how : Recovery) (s : State) : Result :=
  runs s (effTw0Recover how)

/-- TW0_ABORT (R413). -/
def execTw0Abort (acked : Nat) (read : List Byte) (s : State) : Result :=
  runs s (effTw0Abort acked read)

/-- TW0_RECOVERY_REPEAT (R412). -/
def execTw0RecoveryRepeat (how : Recovery) (s : State) : Result :=
  runs s (effTw0RecoveryRepeat how)

/-- TW0_STUCK_CLEAR (R412). -/
def execTw0StuckClear (sda : Bool) (s : State) : Result :=
  runs s (effTw0StuckClear sda)

end Sys2Proof.Machine
end

