-- ==== Sys2Proof/Machine/Load.lean ====
section
/-! DEFINITION. Writing the configuration into the registers and memories: at START (step 11 of Table 2.4) and when a
journal group takes effect (R106, R170 to R174, R192 to R197, R208 to R211, R282, R302, R399, R423). -/

namespace Sys2Proof.Machine

/-! ## Register images -/

/-- The value of register `a` with its writable fields from an image; the other bits of `old` stay. -/
def imageOver (old a v : Nat) : Nat :=
  match findReg a with
  | none => old
  | some (d, _, _) => d.fields.foldl (fun (n : Nat) (f : FieldDef) =>
      if f.writable then withField n f.lo f.width (fieldOf v f.lo f.width) else n) old

/-- Write the writable fields of a register from an image. -/
def State.writeImage (s : State) (a v : Nat) : State := if (findReg a).isSome then s.setRg a (imageOver (s.rg a) a v) else s

/-- The images of an item: those of its VALUE, or the reset values when it is absent (R95). -/
def Cfg.images (c : Cfg) (sec k : Nat) : List (Nat × Nat) :=
  match itemRegs sec k with
  | none => []
  | some r => imagesOf r.regs ((c.item sec k).getD r.resetImage)

/-- Write the images of an item to their registers. -/
def State.writeItem (s : State) (sec k : Nat) : State :=
  (Cfg.images s.st.cfg sec k).foldl (fun s e => s.writeImage e.1 e.2) s

/-- The images of an item for registers of the AMP block, taken at the next tick (R34, R381). -/
def State.parkItem (s : State) (sec k : Nat) : State :=
  (Cfg.images s.st.cfg sec k).foldl (fun s e => (s.park e.1 (imageOver (s.lastWritten e.1) e.1 e.2)).ampTouched e.1 0) s

/-! ## Items with consequences beyond their registers -/

/-- A free outcome of a bus recovery that a configuration change runs. -/
def State.freeRecovery (s : State) : Recovery :=
  match (Config.freeWord s.free).toNat % 3 with
  | 0 => .freed
  | 1 => .sdaStuck
  | _ => .sclStuck

/-- CBUS_CFG of a MAC from its item: enabling and disabling run as R384 and R386 say; what a PHY answers is free. -/
def State.writeCbusCfg (s : State) (m k : Nat) : State :=
  let was := s.bit (F.CBUS_CFG_EN m)
  let s := s.writeItem secPeripherals k
  let now := s.bit (F.CBUS_CFG_EN m)
  let s := s.putBit (F.CBUS_CFG_EN m) was
  if now && !was then
    effCbusEnable m s.freePlca s.nextFree
  else if was && !now then effCbusDisable m s
  else s

/-- TW0_CFG from its item: enabling runs recovery (R412), disabling ends a transaction (R413); what the bus does is free. -/
def State.writeTw0Cfg (s : State) (k : Nat) : State :=
  let was := s.bit F.TW0_CFG_EN
  let s := s.writeItem secPeripherals k
  let now := s.bit F.TW0_CFG_EN
  let s := s.putBit F.TW0_CFG_EN was
  if now && !was then effTw0Enable s.freeRecovery s.nextFree
  else if was && !now then effTw0Disable ((Config.freeWord s.free).toNat % 128) [] s.nextFree
  else s

/-- NET_PORT_CFG of a port from its item: a port disabled, or tried at another rate or FEC, loses its link. -/
def State.writePortCfg (s : State) (p k : Nat) : State :=
  let old := s.rg (NET_PORT_CFG p)
  let s := s.writeItem secNode k
  let new := s.rg (NET_PORT_CFG p)
  if fieldOf old 0 5 = fieldOf new 0 5 then s
  else
    let s := effLinkDown p s
    s.setPort p { s.port p with attempt := 0 }

/-- A link-local address (RFC 3927): 169.254.1.0 to 169.254.254.255, which one is not determined.
DESIGN CHOICE, log 57: unsafe. -/
def State.linkLocal (s : State) : Nat := 0xA9FE0100 + (Config.freeWord s.free).toNat % 0xFE00

/-- The node's address in domain `d` from its item (Table 8.13), link-local without one. -/
def State.writeAddr (s : State) (d : Nat) : State :=
  match s.cfgItem secNode (0x10 + d) with
  | some v => { s with net := { s.net with node := cins s.net.node d (leAt v 0 4) } }
  | none => ({ s with net := { s.net with node := cins s.net.node d s.linkLocal } }).nextFree

/-- PRIORITY1, PRIORITY2 and SLAVE_ONLY of an instance from its NODE item; the other fields stay (R282). -/
def State.writePtpCfg (s : State) (d : Nat) : State :=
  let v := s.cfgWord secNode (0x150 + d) (resetValue (TMS_PTP_CFG d)).toNat
  ((s.put (F.TMS_PTP_CFG_PRIORITY1 d) (fieldOf v 8 8)).put (F.TMS_PTP_CFG_PRIORITY2 d) (fieldOf v 0 8)).put
    (F.TMS_PTP_CFG_SLAVE_ONLY d) (fieldOf v 30 1)

/-- DOMAIN_NUM and the intervals of an instance from its REFERENCES item (R282). -/
def State.writeDomain (s : State) (d : Nat) : State :=
  match s.cfgItem secReferences (0x10 + d) with
  | some v => (s.put (F.TMS_PTP_CFG_DOMAIN_NUM d) (leAt v 0 1)).writeImage (TMS_PTP_INTV d) (leAt v 4 4)
  | none => (s.put (F.TMS_PTP_CFG_DOMAIN_NUM d) (fieldOf (resetValue (TMS_PTP_CFG d)).toNat 16 8)).writeImage
      (TMS_PTP_INTV d) (resetValue (TMS_PTP_INTV d)).toNat

/-- An instance runs while its reference has a rank (R282). -/
def State.ptpFromRank (s : State) (d : Nat) : State :=
  (s.putBit (F.TMS_PTP_CFG_EN d) (s.rank d != 0)).ptpEnable d

/-- The values of a REFERENCES item; FORCE_EN and FORCE_REF are not the section's (R302). -/
def State.writeRefItem (s : State) (k : Nat) : State :=
  if k = 0x200 then
    let v := s.cfgWord secReferences k (resetValue REF_SEL_CTL).toNat
    (s.put F.REF_SEL_CTL_WTR (fieldOf v 8 8)).put F.REF_SEL_CTL_HOLD_MAX (fieldOf v 0 8)
  else if k = 0x10 || k = 0x11 then s.writeDomain (k - 0x10)
  else s.writeItem secReferences k

/-- A PERIPHERALS item. -/
def State.writePeripheral (s : State) (k : Nat) : State :=
  if k = 0x02000000 then s.writeTw0Cfg k
  else if 0x01000000 ≤ k && k < 0x01000400 && k % 0x100 = 0 then s.writeCbusCfg ((k - 0x01000000) / 0x100) k
  else s.writeItem secPeripherals k

/-- A NODE item. -/
def State.writeNode (s : State) (k : Nat) : State :=
  if 0x100 ≤ k && k < 0x104 then s.writePortCfg (k - 0x100) k
  else if k = 0x10 || k = 0x11 then s.writeAddr (k - 0x10)
  else if k = 0x150 || k = 0x151 then s.writePtpCfg (k - 0x150)
  else if 0x300 ≤ k && k < 0x308 then s.parkItem secNode k
  else s.writeItem secNode k

/-- A STREAMS item. -/
def State.writeStream (s : State) (k : Nat) : State :=
  let old := s
  let s := s.writeItem secStreams k
  let i := k % 2 ^ 16
  let mid := k / 2 ^ 16 % 256
  match k / 2 ^ 24 with
  | 3 => s.legWritten old i mid true
  | _ => s

/-- A FAULTS element; the pin's DRIVE bit is not the section's, and follows the classes (R455). -/
def State.writeFault (s : State) (k : Nat) : State :=
  let d := s.bit F.FLT_PIN_CTL_DRIVE
  let s := s.writeItem secFaults k
  (if k = 64 then s.putBit F.FLT_PIN_CTL_DRIVE d else s).policyPin

/-- The role of the configuration (R1, R66). -/
def Cfg.role (c : Cfg) : Role :=
  match c.item secGlobal 2 with
  | some v => if word v 0 = 1 then .amplifier else .processing
  | none => .processing

/-- R4: a change of role takes the modulators to or from gates-low; it counts as a route change of every entry into one (R197). -/
def State.takeRole (s : State) : State :=
  let r := Cfg.role s.st.cfg
  if s.node.role = r then s
  else
    let mods := s.liveEntries.filter (fun e => isModDst (peDst (s.entry e.1)))
    let s := mods.foldl (fun s e =>
        let s := s.setPe e.1 e.2
        { s with audio := { s.audio with touchedEntries := addIndex e.1 s.audio.touchedEntries } })
      { s with node := { s.node with role := r } }
    (if r = .processing then s.ignoreSense else s).settleAmp

/-! ## Delay lines and dynamics across a class change (R197) -/

/-- Values of the full class still play into a destination: shadow entries, and entries whose change has not begun. -/
def State.fullShadow (s : State) (d : Nat) : Bool :=
  let into (e : Word64) : Bool := peDst e == d && !peLow e && peEn e
  s.audio.patch.any (fun e => into e.2.cur || (match e.2.shadow with
    | some sh => into sh.image
    | none => false))

/-- The configuration feeds a destination in the low-latency class. -/
def Cfg.lowInto (c : Cfg) (d : Nat) : Bool := c.entries.any (fun e => e.1 && e.2.2 == d)

/-- A destination keeps its delay line and dynamics instance while its old class fades. DEDUCED, log 58: unsafe. -/
def State.classHeld (s : State) (d : Nat) : Bool := s.fullShadow d && Cfg.lowInto s.st.cfg d

/-- The image of a delay line, 0 for none. -/
def Cfg.delayImage (c : Cfg) (d : Nat) : Nat := c.image secDelay d 0 0

/-- A delay line that its register takes away waits for the end of the old class. DEDUCED, log 58: unsafe. -/
def State.lineWaits (s : State) (d : Nat) : Bool := s.classHeld d && !(s.rg (DYN_DLY_CFG d)).testBit 31

/-- A delay line takes the image of its register, or waits for the end of the old class. -/
def State.takeLine (s : State) (d : Nat) : State :=
  if s.lineWaits d then
    { s with audio := { s.audio with classFade := (d :: s.audio.classFade).eraseDups } }
  else s.changeLine d (s.rg (DYN_DLY_CFG d))

/-- The four images of a dynamics instance. -/
def Cfg.instImages (c : Cfg) (i : Nat) : DynCfg :=
  let v := (c.item secDynamics i).getD (match itemRegs secDynamics i with
    | some r => r.resetImage
    | none => [])
  (BitVec.ofNat 32 (word v 0), BitVec.ofNat 32 (word v 4), BitVec.ofNat 32 (word v 8), BitVec.ofNat 32 (word v 12))

/-- A dynamics instance takes the images of its registers, or stays with its destination until the end of the old class.
DEDUCED, log 58: unsafe. -/
def State.takeInst (s : State) (i : Nat) : State :=
  let c := s.dynCfg i
  let held := match tget s.audio.dyn i with
    | some d => s.classHeld d.dst && (!DynCfg.en c || fieldOf c.1.toNat 0 12 != d.dst)
    | none => false
  if s.instTarget i c then s
  else if held then
    let d := match tget s.audio.dyn i with
      | some d => d.dst
      | none => 0
    { s with audio := { s.audio with classFade := (d :: s.audio.classFade).eraseDups } }
  else s.changeInst i c

/-- The old class of a destination has faded: from here on the destination follows the new class alone, so that the line and the
instances that waited leave it at once, whatever they still hold. DEDUCED, log 58: unsafe. -/
def State.endClassFades (s : State) : State :=
  s.audio.classFade.foldl (fun s d =>
    if s.fullShadow d then s
    else
      let s := { s with audio := { s.audio with classFade := s.audio.classFade.filter (· != d) } }
      let s := if (s.rg (DYN_DLY_CFG d)).testBit 31 then s.takeLine d else s.setLine d ⟨DelayBuf.none, none, none⟩
      (s.audio.dyn.filter (fun e => e.2.dst == d && !s.instTarget e.1 (s.dynCfg e.1))).foldl (fun s e =>
        let s := { s with audio := { s.audio with dyn := cdel s.audio.dyn e.1 } }
        s.takeInst e.1) s) s

/-- What was written since the last tick takes effect together (R34): entries first, then instances and lines, then what waited
for an old class. A line that has nothing to wait for, as one of D = 0, starts its fade at that tick (R210). -/
def State.settleWrites (s : State) : State :=
  let s := s.settleEntries
  let insts := s.audio.touchedInsts
  let lines := s.audio.touchedLines
  let s := { s with audio := { s.audio with touchedInsts := [], touchedLines := [] } }
  let s := insts.foldl (fun s i => s.takeInst i) s
  -- every buffer that only fills is freed before the first new one is taken (R209, R211)
  let moves := lines.filter (fun d => !s.lineWaits d && (s.line d).moves (s.rg (DYN_DLY_CFG d)))
  let s := moves.foldl State.freeNew s
  (lines.foldl (fun s d => effDelayFadeStart d
    (if moves.contains d then s.giveLine d (s.rg (DYN_DLY_CFG d)) else s.takeLine d)) s).endClassFades

/-- In the PROCESSING role the modulators whose entries have faded out go to gates-low (R4). -/
def State.settleRole (s : State) : State := if s.node.role = .processing then s.settleAmp else s

/-! ## Programs under way (R170 to R174, R194) -/

/-- The bytes a CODE (1) or DATA (2) item gives to word `w` of a logical Brick. -/
def Cfg.wordAt (c : Cfg) (type l w : Nat) : Option (List Byte) :=
  let start (i : Nat) : Nat := if type = 1 then 2 * i else i
  match (c.progItems type l).find? (fun e => decide (start e.1 ≤ w ∧ 4 * w < 4 * start e.1 + e.2.length)) with
  | some e => some ((e.2.drop (4 * (w - start e.1))).take 4)
  | none => none

/-- Words that an item covers. -/
def itemWords (type : Nat) (c : Cfg) (l i : Nat) : List Nat :=
  match c.item secPrograms (progKey type l i) with
  | some v => (List.range (v.length / 4)).map (fun n => (if type = 1 then 2 * i else i) + n)
  | none => []

/-- Words of a logical Brick that differ between two configurations, among those of the items named. -/
def changedWords (c c' : Cfg) (type l : Nat) (items : List Nat) : List Nat :=
  ((items.flatMap (fun i => itemWords type c l i ++ itemWords type c' l i)).eraseDups).filter
    (fun w => decide (c.wordAt type l w ≠ c'.wordAt type l w))

/-- Keys of PROGRAMS items of one type and logical Brick that changes touch. -/
def touchedItems (chs : List Change) (type l : Nat) : List Nat :=
  ((chs.filter (fun c => c.1 == secPrograms && c.2.1 / 2 ^ 16 == type * 256 + l)).map (fun c => c.2.1 % 2 ^ 16)).eraseDups

/-- Logical Bricks that changes touch. -/
def touchedBricks (chs : List Change) : List Nat :=
  ((chs.filter (fun c => c.1 == secPrograms)).map (fun c => c.2.1 / 2 ^ 16 % 256)).eraseDups

/-- Any trigger entry of a logical Brick is enabled. -/
def Cfg.running (c : Cfg) (l : Nat) : Bool := !(c.trigs l).isEmpty

/-- The image of a trigger entry, 0 for none. -/
def Cfg.trigImage (c : Cfg) (l k : Nat) : Nat := c.image secPrograms (progKey 3 l k) 0 0

/-- The words of a program: from ENTRY to the end of the CODE run that contains it (R172). -/
def Cfg.programRange (c : Cfg) (l entry : Nat) : Nat × Nat :=
  match (c.codeRuns l).find? (fun r => decide (r.1 ≤ 2 * entry ∧ 2 * entry < r.1 + r.2)) with
  | some r => (2 * entry, r.1 + r.2)
  | none => (0, 0)

/-- The range of a BANK that its selector does not make active (R173). -/
def Cfg.inactive (c : Cfg) (l : Nat) (b : Nat × Nat × Nat × Nat) : Nat × Nat :=
  let sel := leNat ((c.wordAt 2 l b.1).getD [])
  (if sel = 0 then b.2.2.1 else b.2.1, b.2.2.2)

/-- R172 and R173 for one logical Brick. The BANK items that count are those before the group. DESIGN CHOICE, log 85: unsafe. -/
def loadLegal (c c' : Cfg) (chs : List Change) (l : Nat) : Bool :=
  let code := changedWords c c' 1 l (touchedItems chs 1 l)
  let data := changedWords c c' 2 l (touchedItems chs 2 l)
  let live := (List.range 16).filter (fun k => (c.trigImage l k).testBit 31 && (c'.trigImage l k).testBit 31)
  let spans := live.map (fun k => c.programRange l (fieldOf (c.trigImage l k) 0 15))
  let free := (c.banks l).map (fun b => c.inactive l b)
  let sels := (c.banks l).map (fun b => b.1)
  !(code.any (fun w => spans.any (fun r => decide (r.1 ≤ w ∧ w < r.2))))
    && (!c.running l || data.all (fun w => sels.contains w || free.any (fun r => decide (r.1 ≤ w ∧ w < r.1 + r.2))))

/-- A logical Brick has a physical Brick to carry it. -/
def State.carriedOk (s : State) (l : Nat) : Bool := !s.outOfService (s.physOf l)

/-- Write words, by word address, into the Brick that carries a logical Brick. -/
def State.loadWords (s : State) (l : Nat) (ws : List (Nat × List Byte)) : State :=
  if !s.carriedOk l then s
  else ws.foldl (fun s w => (s.wrBytes (brickWordAddr (s.physOf l) w.1) w.2).portAsk (s.physOf l) (w.2.length / 4)) s

/-- After a group's COMMIT its CODE runs and its inactive bank ranges begin to be written (R174, R194).
DEDUCED, log 54: unsafe. -/
def State.beginLoads (s : State) (c c' : Cfg) (chs : List Change) (seq : Nat) (block : Bool) : State :=
  (touchedBricks chs).foldl (fun s l =>
    let runs : List CodeLoad := (touchedItems chs 1 l).filterMap (fun i =>
      if (changedWords c c' 1 l [i]).isEmpty then none
      else (c'.item secPrograms (progKey 1 l i)).map (fun v => ⟨l, i, v⟩))
    let data := changedWords c c' 2 l (touchedItems chs 2 l)
    let banks : List BankLoad := if !c.running l then [] else (c.progItems 6 l).filterMap (fun e =>
      let b := (leAt e.2 0 2, leAt e.2 2 2, leAt e.2 4 2, leAt e.2 6 2)
      let r := c.inactive l b
      let ws := (data.filter (fun w => decide (r.1 ≤ w ∧ w < r.1 + r.2))).filterMap (fun w =>
        (c'.wordAt 2 l w).map (fun v => (w, v)))
      let sel := if data.contains b.1 then c'.wordAt 2 l b.1 else none
      if ws.isEmpty && sel.isNone then none else some ⟨seq, l, e.1, ws, sel, ws.isEmpty, false, block, none⟩)
    let keep := s.st.codeLoads.filter (fun r => !(runs.any (fun q => q.l == r.l && q.index == r.index)))
    { s with st := { s.st with codeLoads := keep ++ runs, bankLoads := s.st.bankLoads ++ banks } }) s

/-- The selector of a bank is written. -/
def State.writeSelector (s : State) (b : BankLoad) : State :=
  match b.sel, (Cfg.item s.st.cfg secPrograms (progKey 6 b.l b.index)) with
  | some v, some e => s.loadWords b.l [(leAt e 0 2, v)]
  | _, _ => s

/-- The next tick, or the first block boundary from it on. -/
def State.nextPlace (s : State) (block : Bool) : Nat :=
  let n := s.node.n.toNat + 1
  if block then (n + 7) / 8 * 8 else n

/-- What waited for tick `t` takes its value before that tick's dispatch. -/
def State.releaseLoads (s : State) (t : Nat) : State :=
  let due (o : Option Nat) : Bool := match o with
    | some n => decide (n ≤ t)
    | none => false
  let trigs := s.st.trigWaits.filter (fun w => due w.due)
  let banks := s.st.bankLoads.filter (fun b => due b.due)
  let s := { s with st := { s.st with
    trigWaits := s.st.trigWaits.filter (fun w => !due w.due), bankLoads := s.st.bankLoads.filter (fun b => !due b.due) } }
  let s := trigs.foldl (fun s w => if s.carriedOk w.l then s.setRg (BRK_TRIG (s.physOf w.l) w.k) w.image else s) s
  banks.foldl (fun s b => s.writeSelector b) s

/-- CODE_RUN_LOADED (R194): the last word of CODE run `index` of logical Brick `l` is written; trigger entries that waited
for it take their values at the next tick, or at the next block boundary. -/
def effCodeRunLoaded (l index : Nat) (s : State) : State :=
  match s.st.codeLoads.find? (fun r => r.l == l && r.index == index) with
  | none => s
  | some r =>
    let s := s.loadWords l [(2 * index, r.bytes)]
    let s := { s with st := { s.st with
      codeLoads := s.st.codeLoads.filter (fun q => !(q.l == l && q.index == index))
      trigWaits := s.st.trigWaits.map (fun (w : TrigWait) =>
        if w.l = l ∧ w.run = index then { w with due := some (s.nextPlace w.block) } else w) } }
    s.releaseLoads (s.node.n.toNat + 1)

/-- The inactive-range words of the group that ends at `seq` are all written (R174). -/
def State.banksWritten (s : State) (seq : Nat) : Bool := s.st.bankLoads.all (fun b => b.seq != seq || b.written)

/-- BANK_SWITCH (R174): the inactive-range words of a BANK are written; the selectors of its group are written at the apply tick, or
when that is past at the next tick or block boundary after the last word of the group. -/
def effBankSwitch (l index : Nat) (s : State) : State :=
  match s.st.bankLoads.find? (fun b => b.l == l && b.index == index && !b.written) with
  | none => s
  | some b =>
    let s := s.loadWords l b.words
    let s := { s with st := { s.st with bankLoads := s.st.bankLoads.map (fun (q : BankLoad) => if q = b then { q with written := true } else q) } }
    -- the selectors of a group wait for the last of its words
    let s := if !s.banksWritten b.seq then s
      else { s with st := { s.st with bankLoads := s.st.bankLoads.map (fun (q : BankLoad) =>
        if q.applied && q.seq == b.seq then { q with due := some (s.nextPlace q.block) } else q) } }
    s.releaseLoads (s.node.n.toNat + 1)

/-- A trigger entry takes its new value, or waits for the run that holds its new ENTRY. -/
def State.takeTrig (s : State) (l k : Nat) (block : Bool) : State :=
  let img := Cfg.trigImage s.st.cfg l k
  let entry := 2 * fieldOf img 0 15
  let s := { s with st := { s.st with trigWaits := s.st.trigWaits.filter (fun w => !(w.l == l && w.k == k)) } }
  match s.st.codeLoads.find? (fun r => r.l == l && decide (2 * r.index ≤ entry ∧ entry < 2 * r.index + r.bytes.length / 4)) with
  | some r =>
    if img.testBit 31 then
      { s with st := { s.st with trigWaits := s.st.trigWaits ++ [⟨l, k, img, r.index, block, none⟩] } }
    else s.setRg (BRK_TRIG (s.physOf l) k) img
  | none => s.setRg (BRK_TRIG (s.physOf l) k) img

/-- PROGRAMS items at a group's apply tick. `old` is the configuration before it. RUN is set once there is a TRIG item, and a
group that deletes them all leaves it set. DESIGN CHOICE, log 85: unsafe. -/
def State.takePrograms (s : State) (old : Cfg) (chs : List Change) (block : Bool) : State :=
  (touchedBricks chs).foldl (fun s l =>
    let b := s.physOf l
    -- DATA words of a Brick whose programs did not run
    let data := changedWords old s.st.cfg 2 l (touchedItems chs 2 l)
    let s := if Cfg.running old l then s
      else s.loadWords l (data.filterMap (fun w => (Cfg.wordAt s.st.cfg 2 l w).map (fun v => (w, v))))
    if !s.carriedOk l then s
    else
      let s := (touchedItems chs 3 l).foldl (fun s k => if k < 16 then s.takeTrig l k block else s) s
      let s := (touchedItems chs 4 l).foldl (fun s k =>
        if k < 256 then s.setRg (BRK_IO b k) (Cfg.image s.st.cfg secPrograms (progKey 4 l k) 0 0) else s) s
      let s := s.put (F.BRK_PORT_CK_WORDS b) (match s.stateArea l with
        | some (_, _, ck) => ck
        | none => 0)
      if (Cfg.progItems s.st.cfg 3 l).isEmpty then s else s.putBit (F.BRK_CTL_RUN b) true) s

/-- Selectors of the group that ends at `seq`, at its apply tick: written now when all its words are, else once they are, and true then
with JRN_APPLY_AT. DEDUCED, log 54: unsafe. -/
def State.takeBanks (s : State) (seq : Nat) : State × Bool :=
  let mine (b : BankLoad) : Bool := !b.applied && b.seq == seq
  let ready := s.banksWritten seq
  let late := !ready && s.st.bankLoads.any (fun b => mine b && b.block)
  let s := { s with st := { s.st with bankLoads := s.st.bankLoads.map (fun (b : BankLoad) =>
    if mine b then { b with applied := true, due := if ready then some 0 else none } else b) } }
  (s.releaseLoads 0, late)

/-! ## The DNS-SD announcement (Table 0.9, R71, R243, R262) -/

/-- A hexadecimal digit in lower case. -/
def hexDigit (n : Nat) : Byte := BitVec.ofNat 8 (if n < 10 then 0x30 + n else 0x57 + n)

/-- The host name of Table 2.5: km1024-hhhhhh, the low 24 bits of the MAC address in lower-case hex. -/
def State.hostName (s : State) : List Byte :=
  [0x6B, 0x6D, 0x31, 0x30, 0x32, 0x34, 0x2D] ++ (List.range 6).map (fun i => hexDigit (s.fuses.mac / 16 ^ (5 - i) % 16))

/-- The engine and its streams are announced; NAME stands in place of km1024-hhhhhh (Table 8.13). The spec does not say when
beyond the keep-alive of DORMANT: the model announces at the end of START, and when NAME or a stream changes.
DESIGN CHOICE, log 84: unsafe. -/
def State.announceName (s : State) : State :=
  let host := match s.cfgItem secNode 1 with
    | some v => if v.isEmpty then s.hostName else v
    | none => s.hostName
  s.emit (.dnssd host host 47100 ((List.range 256).filter (fun k => s.bit (F.STR_TX_CFG_EN k))))

/-! ## A group takes effect (R106 step 4) -/

/-- Keys of one section that changes touch. -/
def touched (chs : List Change) (sec : Nat) : List Nat := ((chs.filter (fun c => c.1 == sec)).map (fun c => c.2.1)).eraseDups

/-- The changes of a group at its apply tick; `block` when it carries JRN_APPLY_AT. The flag is BANK_LATE.
DEDUCED, log 54: unsafe. -/
def State.applyChanges (s : State) (chs : List Change) (seq : Nat) (block : Bool) : State × Bool :=
  let old := s.st.cfg
  let s := { s with st := { s.st with cfg := Cfg.apply old chs } }
  let entries := (touched chs secPatch).map (fun k => (k, BitVec.ofNat 64 (((Cfg.images s.st.cfg secPatch k).head?.map Prod.snd).getD 0)))
  let s := s.noteEntries (entries.filter (fun e => decide (s.entry e.1 ≠ e.2)))
  let s := (touched chs secGenerators).foldl (fun s k => s.writeItem secGenerators k) s
  let s := (touched chs secTdm).foldl (fun s k => s.writeItem secTdm k) s
  let s := (touched chs secDynamics).foldl (fun s k => s.noteInst k (Cfg.instImages s.st.cfg k)) s
  let s := (touched chs secLimiters).foldl (fun s k => s.writeItem secLimiters k) s
  let s := (touched chs secDelay).foldl (fun s k => s.noteLine k (Cfg.delayImage s.st.cfg k)) s
  let s := s.takePrograms old chs block
  let (s, bankLate) := s.takeBanks seq
  let late := bankLate || (block && s.st.trigWaits.any (fun w => (touchedItems chs 3 w.l).contains w.k))
  let s := (touched chs secStreams).foldl (fun s k => s.writeStream k) s
  let s := (touched chs secAmp).foldl (fun s k => s.parkItem secAmp k) s
  let s := (touched chs secFaults).foldl (fun s k => s.writeFault k) s
  let s := if (touched chs secPolicy).contains 1 then s.writeItem secPolicy 1 else s
  let refs := touched chs secReferences
  let s := refs.foldl (fun s k => s.writeRefItem k) s
  let s := if refs.isEmpty then s else ((s.ptpFromRank 0).ptpFromRank 1).refsWritten
  let s := (touched chs secPeripherals).foldl (fun s k => s.writePeripheral k) s
  let s := (touched chs secNode).foldl (fun s k => s.writeNode k) s
  let s := if (touched chs secNode).contains 1 || (touched chs secStreams).any (fun k => k / 2 ^ 24 == 1)
    then s.announceName else s
  (s, late)

/-- The units of a warm copy whose configuration changes touch, `old` being the state before them (R323, R330). -/
def State.unitsTouched (s old : State) (chs : List Change) : List Nat :=
  let e := s.unitEdges
  let dsts := touched chs secDelay
    ++ (touched chs secDynamics).flatMap (fun i =>
      [fieldOf (s.rg (DYN_INST_CFG0 i)) 0 12, fieldOf (old.rg (DYN_INST_CFG0 i)) 0 12]
        ++ ((tget old.audio.dyn i).map DynInst.dst).toList)
    ++ (touched chs secLimiters).map (fun i => if i < 1280 then i else i + 2048)
  (if (touched chs secPatch).isEmpty && (touched chs secGenerators).isEmpty then [] else [0])
    ++ (touchedBricks chs).map (fun l => loopName e (0x1000 + l))
    ++ ((dsts.filterMap s.dstUnit ++ dsts.filterMap old.dstUnit).eraseDups).map (loopName e)

/-- The Daymark of the configuration in force goes to PAIR_DAYMARK (R121, R122). -/
def State.showDaymark (s : State) : State :=
  let d := Cfg.daymark s.st.cfg
  let before := s.pairImage
  let s := (List.range 8).foldl (fun s i => s.setRg (PAIR_DAYMARK i) (beAt d (4 * i) 4)) s
  -- R334: the tags have become unequal, or equal again
  if !s.paired || s.pairImage = before then s else (if s.tagsDiffer then s.latch 34 else s).notify 9 (beBytes 4 s.pairImage)

/-! ## Everything at START (step 11 of Table 2.4) -/

/-- Registers that only the array sections, the streams, the delay lines and the programs hold, by the start of their array. -/
def tableBases : List Nat :=
  [PATCH_ENTRY 0, PATCH_GEN_CFG 0, PATCH_GEN_FREQ 0, PATCH_GEN_PHASE 0, PATCH_RAMP 0, GLB_TDM_CFG 0, GLB_TDM_RXEN 0,
   GLB_TDM_TXEN 0, DYN_INST_CFG0 0, DYN_INST_CFG1 0, DYN_INST_CFG2 0, DYN_INST_CFG3 0, DYN_LIM_CFG 0, DYN_LIM_TIME 0,
   DYN_DLY_CFG 0, STR_TX_CFG 0, STR_TX_DST 0, STR_TX_UDP 0, STR_TX_TAG 0, STR_TX_SSRC 0, STR_TX_TSOFS 0, STR_RX_CFG 0,
   STR_RX_TSOFS 0, STR_RX_MISC 0, STR_RX_LEG_CFG 0 0, STR_RX_LEG_GRP 0 0, STR_RX_LEG_SRC 0 0, STR_RX_LEG_LATCH 0 0,
   PAIR_DIG_MASK 0, PAIR_CHSEL 0, METER_CFG 0, AMP_CH_CFG 0, AMP_CH_SCALE 0, AMP_CH_SNS_SCALE 0, AMP_CH_PROT 0, AMP_CH_TIME 0,
   AMP_CH_RAILSAG 0, AMP_CH_COIL 0, AMP_CH_HF 0, AMP_CH_TAP 0, FLT_CFG 0]

/-- These registers return to their reset values. -/
def State.clearTablesAll (s : State) : State :=
  { s with regs := s.regs.filter (fun e => match findReg e.1 with
      | some (d, _, _) => !(tableBases.contains d.base)
      | none => true) }

/-- Every key of a keyed section that has registers. -/
def referenceKeys : List Nat := [1, 0x10, 0x11, 0x100, 0x101, 0x102, 0x103, 0x104, 0x105, 0x200]
/-- NODE. -/
def nodeKeys : List Nat :=
  [0x10, 0x11, 0x100, 0x101, 0x102, 0x103, 0x110, 0x111, 0x112, 0x113, 0x120, 0x121, 0x122, 0x123, 0x130, 0x131, 0x132,
   0x133, 0x140, 0x150, 0x151, 0x158, 0x159, 0x200, 0x201, 0x202, 0x210, 0x211, 0x220, 0x221, 0x300, 0x301, 0x302, 0x303,
   0x304, 0x305, 0x306, 0x307, 0x400, 0x401]
/-- PERIPHERALS. -/
def peripheralKeys : List Nat :=
  (List.range 4).flatMap (fun m => (List.range 9).map (fun o => 0x01000000 + 0x100 * m + o))
    ++ [0x02000000, 0x02000001, 0x02000002, 0x02000003, 0x02000004, 0x02000010]

/-- Placement of the programs (R170): each logical Brick on its Brick, or on the Relief Brick that carries it. -/
def State.placePrograms (s : State) : State :=
  (List.range nLogical).foldl (fun s l =>
    if s.carriedOk l then (s.placeWords l (s.physOf l)).placeTables l (s.physOf l) else s) s

/-- The Keeper writes the tables of the configuration, the audio blocks standing still. -/
def State.loadAll (s : State) : State :=
  let c : Cfg := s.st.cfg
  let old := s
  let s := s.clearTablesAll
  let s := (c.items secPatch).foldl (fun s e => s.writeItem secPatch e.1) s
  let s := (c.items secGenerators).foldl (fun s e => s.writeItem secGenerators e.1) s
  let s := (c.items secTdm).foldl (fun s e => s.writeItem secTdm e.1) s
  let s := (c.items secDynamics).foldl (fun s e =>
    let s := s.writeItem secDynamics e.1
    let i := s.dynCfg e.1
    if DynCfg.en i then s.attachInst e.1 i else s) s
  let s := (c.items secLimiters).foldl (fun s e => s.writeItem secLimiters e.1) s
  let s := (c.items secDelay).foldl (fun s e => s.placeLine e.1 (leAt e.2 0 4)) s
  let s := s.placePrograms
  let s := ((c.items secStreams).foldl (fun s e => s.writeStream e.1) s).leaveGone old
  let s := (c.items secAmp).foldl (fun s e => s.writeItem secAmp e.1) s
  let s := (List.range 68).foldl (fun s k =>
    if k < 64 then (if (c.item secFaults k).isSome then s.writeFault k else s) else s.writeFault k) s
  let s := referenceKeys.foldl (fun s k => s.writeRefItem k) s
  let s := ((s.ptpFromRank 0).ptpFromRank 1).refsWritten
  let s := peripheralKeys.foldl (fun s k => s.writePeripheral k) s
  -- the audio blocks stand still, so nothing waits for a tick
  (nodeKeys.foldl (fun s k => s.writeNode k) s).settleParked

/-! ## Meanings of the commands -/

/-- CODE_RUN_LOADED (R194). -/
def execCodeRunLoaded (l : Fin 92) (index : Nat) (s : State) : Result :=
  runs s (effCodeRunLoaded l.val index)

/-- BANK_SWITCH (R174). -/
def execBankSwitch (l : Fin 92) (index : Nat) (s : State) : Result :=
  runs s (effBankSwitch l.val index)

/-- FADE_END (R189). -/
def execFadeEnd (i : Fin 16384) (s : State) : Result :=
  runs s (fun s => ((effFadeEnd i.val s).endClassFades).settleRole)

end Sys2Proof.Machine
end

