-- ==== Sys2Proof/Machine/Boot.lean ====
section
/-! DEFINITION. Reading the store at START: images, markers, the journal's chain and groups, the causes of REPLAY (R93, R98
to R104, R116 to R118). -/

namespace Sys2Proof.Machine

/-! ## Signatures (R116 to R119) -/

/-- A signature by the owner key. -/
def State.ownerSigned (s : State) (digest sig : List Byte) : Bool := ecdsaVerify s.fuses.ownerPub digest sig

/-- The signature of an image: what the lifecycle state asks of it. `signer` is IMG_END's SIGNER. DEDUCED, log 50: unsafe. -/
def State.imageSigOk (s : State) (sealed_ : Bool) (signer : Nat) (hash : List Byte) (sig : Option (List Byte)) : Bool :=
  match sig with
  | none => !sealed_
  | some g =>
    if signer = 1 then s.ownerSigned hash g
    else if signer = 2 then s.keysUsable && s.lifecycle != 3 && ecdsaVerify s.fuses.signPub hash g
    else false

/-- The digest a group's signature is made over (R118). DEDUCED, log 50: unsafe. -/
def signedDigest (pre : List Byte) (recs : List Rec) : List Byte :=
  sha256 (pre ++ recs.flatMap (fun r => leBytes 2 r.type ++ leBytes 2 (r.flags % 4) ++ leBytes 4 r.len ++ r.payload))

/-- The signature of a group on its END record. DEDUCED, log 50: unsafe. -/
def State.groupSigOk (s : State) (sealed_ : Bool) (pre : List Byte) (recs : List Rec) : Bool :=
  match recs.getLast? with
  | none => false
  | some r => if r.flags / 4 % 2 = 1 then s.ownerSigned (signedDigest pre recs) r.sig else !sealed_

/-! ## Images (R93, R98) -/

/-- Why an image is not valid: ERR_CODE and the device address of the record. DEDUCED, log 50: unsafe. -/
abbrev StoreFail := Nat × Nat

/-- The records of an image from a device address on, up to IMG_END, with the code of the first that fails (R93). No code
names a wrong MAGIC, which is reported as 1. DESIGN CHOICE, log 89: unsafe. -/
def State.imageRecs (s : State) (hi : Nat) : Nat → Nat → Nat → Nat → Except StoreFail (List (Nat × Rec))
  | 0, a, _, _ => .error (3, a)
  | n + 1, a, seq, prev =>
    if hi ≤ a then .error (3, a)
    else match s.recAt a with
    | none => .error (1, a)
    | some (r, ok) =>
      if !ok then .error (if r.crc = r.crcOf then 2 else 1, a)
      else if r.seq ≠ seq || r.prevCrc ≠ prev || hi < a + r.size then .error (3, a)
      else if r.type = 3 then .ok [(a, r)]
      else if r.type ≠ 1 && r.type ≠ 2 then .error (10, a)
      else match s.imageRecs hi n (a + r.size) (seq + 1) r.crc with
        | .ok rs => .ok ((a, r) :: rs)
        | .error e => .error e

/-- Append a section part; it must continue its section without a gap (R95). -/
def addPart (t : Tbl (List Byte)) (r : Rec) : Option (Tbl (List Byte)) :=
  let sec := leAt r.payload 0 2
  let have_ := tgetD t sec []
  if r.payload.length < 8 || leAt r.payload 2 2 ≠ 0 || leAt r.payload 4 4 ≠ have_.length then none
  else some (cins t sec (have_ ++ r.payload.drop 8))

/-- The sections of an image from its records. -/
def sectionBytes : List (Nat × Rec) → Tbl (List Byte) → Except StoreFail (Tbl (List Byte))
  | [], t => .ok t
  | (a, r) :: rs, t =>
    if r.type = 2 then match addPart t r with
      | some u => sectionBytes rs u
      | none => .error (5, a)
    else sectionBytes rs t

/-- Every section read from its canonical bytes; `at_` gives the address of a section's first record. -/
def readSections (at_ : Nat → Nat) : Tbl (List Byte) → Except StoreFail Cfg
  | [] => .ok []
  | (sec, b) :: t =>
    if !secDefined sec then .error (6, at_ sec)
    else match readSection sec b with
    | none => .error (5, at_ sec)
    | some items => match readSections at_ t with
      | .ok c => .ok ((sec, items) :: c)
      | .error e => .error e

/-- A valid image: its configuration, BUILD_ID, MIN_STEPPING and the CRC of IMG_END. -/
structure Image where
  cfg : Cfg
  build : Nat
  minStep : Nat
  endCrc : Nat
deriving DecidableEq, Repr

/-- The stepping code of the engine (GLB_ID). -/
def stepping : Nat := 0x10

/-- BEGIN stands on the first record of an image alone and END on the last alone (R93). -/
def imageFlags (recs : List Rec) : Bool :=
  recs.zipIdx.all (fun e => e.1.flags.testBit 0 == (e.2 == 0) && e.1.flags.testBit 1 == (e.2 + 1 == recs.length))

/-- An image as a chain of records: all of them, those before IMG_END, its first and last, where the last stands, and the
hash of what is before that. -/
structure Frame where
  recs : List (Nat × Rec)
  body : List (Nat × Rec)
  head : Rec
  last : Rec
  end_ : Nat
  hash : List Byte
deriving DecidableEq, Repr

/-- The records of a slot's image, chained, counted and hashed (R93); `crc` is the marker's IMAGE_CRC, when a marker names it.
DEDUCED, log 50: unsafe. -/
def State.imageFrame (s : State) (slot : Nat) (crc : Option Nat) : Except StoreFail Frame :=
  let d := s.st.density
  let a := slotBase d slot
  match s.imageRecs (a + slotSize d) (slotSize d / 32) a 0 0 with
  | .error e => .error e
  | .ok recs =>
    match recs.head?, recs.getLast? with
    | some (_, h), some (e, z) =>
      let body := recs.dropLast
      let parts := body.filter (fun r => r.2.type == 2)
      let secs := (parts.map (fun r => leAt r.2.payload 0 2)).eraseDups
      if h.type ≠ 1 || h.len < 32 || z.len < 64 || !imageFlags (recs.map Prod.snd) || parts.isEmpty
          || (body.drop 1).any (fun r => r.2.type == 1) || leAt h.payload 8 4 ≠ e + z.size - a
          || leAt h.payload 12 4 ≠ recs.length || leAt h.payload 6 2 ≠ secs.length then .error (3, a)
      else
        let hash := sha256 (s.rdStore (e - a) a)
        if hash ≠ z.payload.take 32 || (match crc with
            | some c => c != z.crc
            | none => false) then .error (11, e)
        else .ok ⟨recs, body, h, z, e, hash⟩
    | _, _ => .error (3, a)

/-- The signature of an image checks (R116, R117). -/
def State.frameSigned (s : State) (sealed_ : Bool) (f : Frame) : Bool :=
  s.imageSigOk sealed_ (leAt f.last.payload 32 1) f.hash (if f.last.flags.testBit 2 then some f.last.sig else none)

/-- The address of the first record of a section in an image that begins at `a`. -/
def partAddr (a : Nat) (body : List (Nat × Rec)) (sec : Nat) : Nat :=
  ((body.find? (fun e => e.2.type == 2 && leAt e.2.payload 0 2 == sec)).map Prod.fst).getD a

/-- The section a configuration that is not legal is refused for: of items the first that holds a malformed one, else the one whose
elements break a rule together. DESIGN CHOICE, log 53: unsafe. -/
def Cfg.faultIn (c : Cfg) : Nat :=
  match c.find? (fun s => !(secDefined s.1 && s.2.all (fun e => itemLegal c.fs96 s.1 e.1 e.2))) with
  | some s => s.1
  | none =>
    if !c.classesLegal then secPatch
    else if 32768 < c.granules then secDelay
    else if !c.streamsLegal || !c.selectorsLegal then secStreams
    else if !c.programsLegal || !c.checkpointsLegal then secPrograms
    else if !c.tapsLegal then secAmp
    else secPeripherals

/-- What an image of a slot says: for this device, canonical, in range and well-formed (R98). A failure of a section names the
section's first record. DEDUCED, log 50: unsafe. DESIGN CHOICE, log 53: unsafe. -/
def State.frameImage (s : State) (slot : Nat) (f : Frame) : Except StoreFail Image :=
  let a := slotBase s.st.density slot
  let h := f.head.payload
  if leAt h 0 2 ≠ 1 || leAt h 2 2 ≠ 0x1024 || stepping < leAt h 4 1 then .error (7, a)
  else match sectionBytes f.body [] with
    | .error e => .error e
    | .ok t => match readSections (partAddr a f.body) t with
      | .error e => .error e
      | .ok c => if Cfg.legal c then .ok ⟨c, leAt h 16 8, leAt h 4 1, f.last.crc⟩ else .error (6, partAddr a f.body (Cfg.faultIn c))

/-- Read the image of a slot, by the conditions of R98 in their order; `crc` is the marker's IMAGE_CRC, when a marker names
it. -/
def State.readImage (s : State) (slot : Nat) (crc : Option Nat) (sealed_ : Bool) : Except StoreFail Image :=
  match s.imageFrame slot crc with
  | .error e => .error e
  | .ok f =>
    match s.frameImage slot f with
    | .error e => .error e
    | .ok i => if s.frameSigned sealed_ f then .ok i else .error (4, f.end_)

/-- The image a marker names, when it is valid; a marker outside the bounds of R530 names none, which is reported as 6. Of a SLOT
byte other than 0 and 1, which Table 3.6 does not define, the low bit counts. DESIGN CHOICE, log 89: unsafe. -/
def State.markerImage (s : State) (m : Marker) (sealed_ : Bool) : Except StoreFail Image :=
  if m.bounded (jrnSize s.st.density) then s.readImage (m.slot % 2) (some m.imageCrc) sealed_ else .error (6, m.addr)

/-! ## The journal's chain (R91, R100) -/

/-- The next 4 KiB boundary after an offset. DEDUCED, log 51: unsafe. -/
def nextBoundary (size ofs : Nat) : Nat := (ofs / 4096 + 1) * 4096 % size

/-- The chain as the loader finds it: records with their offsets, the two offsets where it ends. -/
structure Chain where
  recs : List (Nat × Rec)
  looks : List Nat
deriving DecidableEq, Repr

/-- The record at a journal offset if it continues the chain. -/
def State.chainAt (s : State) (ofs seq : Nat) (prev : Option Nat) : Option Rec :=
  match s.recAt (jrnBase s.st.density + ofs) with
  | some (r, true) =>
    if r.seq == seq && (match prev with
        | some c => r.prevCrc == c
        | none => true) then some r else none
  | _ => none

/-- Where the chain goes on after a record. DEDUCED, log 51: unsafe. -/
def afterRec (size ofs : Nat) (r : Rec) : Nat := if r.type = 0x2F then 0 else (ofs + r.size) % size

/-- Scan the chain from an offset (R100). DEDUCED, log 51: unsafe. -/
def State.scanChain (s : State) : Nat → Nat → Nat → Option Nat → Chain
  | 0, ofs, _, _ => ⟨[], [ofs]⟩
  | n + 1, ofs, seq, prev =>
    let size := jrnSize s.st.density
    let go (o : Nat) (r : Rec) : Chain :=
      let c := s.scanChain n (afterRec size o r) (seq + 1) (some r.crc)
      ⟨(o, r) :: c.recs, c.looks⟩
    match s.chainAt ofs seq prev with
    | some r => go ofs r
    | none =>
      let b := nextBoundary size ofs
      match s.chainAt b seq prev with
      | some r => go b r
      | none => ⟨[], [ofs, b]⟩

/-- Wraps of the journal's position (R91) from `pos` over the records of a prefix to the write position `wptr`: each move to a
lower offset is one. -/
def wrapsAlong (size wptr : Nat) : Nat → List (Nat × Rec) → Nat
  | pos, [] => if wptr < pos then 1 else 0
  | pos, (o, r) :: rs =>
    let nx := afterRec size o r
    (if o < pos then 1 else 0) + (if nx ≤ o then 1 else 0) + wrapsAlong size wptr nx rs

/-- The whole groups of a chain, JRN_PAD records set aside, and the offset of the first record of a group that is cut short
or breaks the structure. DEDUCED, log 51: unsafe. -/
def splitGroups : List (Nat × Rec) → List (Nat × Rec) → List (List (Nat × Rec)) × Option Nat
  | [], [] => ([], none)
  | [], g :: _ => ([], some g.1)
  | (o, r) :: rs, open_ =>
    if r.type = 0x2F then splitGroups rs open_
    else
      let begins := r.flags.testBit 0
      match open_ with
      | [] =>
        if !begins then ([], some o)
        else if r.flags.testBit 1 then let t := splitGroups rs []; ([(o, r)] :: t.1, t.2)
        else splitGroups rs [(o, r)]
      | g :: gs =>
        if begins then ([], some g.1)
        else if r.flags.testBit 1 then let t := splitGroups rs []; ((g :: gs ++ [(o, r)]) :: t.1, t.2)
        else splitGroups rs (g :: gs ++ [(o, r)])

/-- The first record of a group that is malformed or holds a malformed change, by its offset. -/
def groupFault (fs96 : Bool) : List (Nat × Rec) → Chunks → Option Nat
  | [], _ => none
  | (o, r) :: rs, open_ =>
    match recChanges r open_ with
    | none => some o
    | some (chs, open_) => if changesLegal fs96 chs then groupFault fs96 rs open_ else some o

/-- Apply whole groups in order: the configuration, the groups applied, and the failure that ended it, if one did, with the record
that caused it: of an unknown type, the first malformed one, else the END record, which carries the signature.
DEDUCED, log 51: unsafe. DESIGN CHOICE, log 53: unsafe. -/
def State.replayGroups (s : State) (sealed_ : Bool) : List (List (Nat × Rec)) → Cfg → Cfg × List (List (Nat × Rec)) × Option StoreFail
  | [], c => (c, [], none)
  | g :: gs, c =>
    let recs := g.map Prod.snd
    let jb := jrnBase s.st.density
    let end_ : Nat := jb + (g.getLast?.map Prod.fst).getD 0
    let bad (fs96 : Bool) : StoreFail := (6, ((groupFault fs96 g []).map (fun o => jb + o)).getD end_)
    let fail : Option StoreFail :=
      match g.find? (fun r => decide (r.2.type < 0x20) || decide (0x23 < r.2.type)) with
      | some r => some (10, jb + r.1)
      | none =>
        if !s.groupSigOk sealed_ c.daymark recs then some (4, end_)
        else match groupChanges recs [] with
          | none => some (bad c.fs96)
          | some chs =>
            let c' := Cfg.apply c chs
            if changesLegal (Cfg.fs96 c') chs && Cfg.legal c' then none else some (bad (Cfg.fs96 c'))
    match fail, groupChanges recs [] with
    | none, some chs =>
      let t := s.replayGroups sealed_ gs (Cfg.apply c chs)
      (t.1, g :: t.2.1, t.2.2)
    | some f, _ => (c, [], some f)
    | none, none => (c, [], some (6, end_))

/-! ## The boot read (R99, R101 to R103) -/

/-- What START takes from the store. -/
structure Boot where
  cfg : Cfg
  base : Cfg
  journal : List (Nat × Rec)
  marker : Marker
  fallback : Bool
  replay : Bool
  /-- Device addresses whose MAGIC REPLAY zeroes (R102). -/
  zero : List Nat
  wptr : Nat
  wraps : Nat
  lastSeq : Nat
  lastCrc : Nat
  endSeq : Nat
  err : Option StoreFail
deriving DecidableEq, Repr

/-- The chain a marker's journal holds. -/
def State.markerChain (s : State) (m : Marker) : Chain :=
  let n := (s.magicAddrs (jrnBase s.st.density) (jrnBase s.st.density + jrnSize s.st.density) 32).length
  s.scanChain (n + 1) m.startOfs m.startSeq none

/-- R99: the marker and image to use, whether by fallback; and the failure of the newest. -/
def State.chooseImage (s : State) (sealed_ : Bool) : Option (Marker × Image × Bool) × Option StoreFail :=
  let ms := s.markers
  match topMarker none ms with
  | none => (none, none)
  | some m =>
    match s.markerImage m sealed_ with
    | .ok i => (some (m, i, false), none)
    | .error e =>
      match topMarker (some m.gen) ms with
      | none => (none, some e)
      | some p =>
        match s.markerImage p sealed_ with
        | .error _ => (none, some e)
        | .ok i =>
          let whole := (splitGroups (s.markerChain p).recs []).1
          let last := ((whole.getLast?.bind (fun g => g.getLast?)).map (fun r => r.2.seq)).getD (p.startSeq - 1)
          if p.slot ≠ m.slot ∧ m.startSeq ≤ last + 1 then (some (p, i, true), some e) else (none, some e)

/-- A record with correct MAGIC at a device address that is not committed, and its SEQ. -/
def State.tornAt (s : State) (a : Nat) : Option Nat :=
  match s.recAt a with
  | some (r, false) => some r.seq
  | _ => none

/-- No journal record has been written since the first image of the store: the oldest marker's image begins the journal at offset 0,
and the marker in use begins it with the same SEQ, at the same place, in the same turn. DEDUCED, log 51: unsafe. -/
def State.noRecordYet (s : State) (m : Marker) : Bool :=
  s.markers.all (fun q => decide (m.gen ≤ q.gen) || (q.startSeq = m.startSeq && q.startOfs = m.startOfs && q.wraps = m.wraps))
    && m.startOfs = 0

/-- CRC of the journal record before the first of a marker's journal (Table 3.2): 0 when none has been written since the first
image, or the store holds it no more. -/
def State.crcBefore (s : State) (m : Marker) : Nat :=
  let jb := jrnBase s.st.density
  let seq := m.startSeq
  let rs := if s.noRecordYet m then [] else (s.magicAddrs jb (jb + jrnSize s.st.density) 32).filterMap (fun a => match s.recAt a with
    | some (r, true) => if r.seq + 1 = seq then some r.crc else none
    | _ => none)
  rs.headD 0

/-- The boot read: none when no base image qualifies; with the failure reported in STORE_ERR. Where the first 4 KiB boundary of R103
lies at or past the live part, which no record may enter (R112), the write position is the end of the last record itself. Records of
discarded groups stay where they are (R104), so that groups written later may have their SEQ and the next START meets them first. A
valid prefix without an END record shows JRN_START_SEQ - 1 in STORE_JRN_SEQ. DESIGN CHOICE, log 90: unsafe.
DEDUCED, log 51: unsafe. -/
def State.boot (s : State) (sealed_ : Bool) : Option Boot × Option StoreFail :=
  match s.chooseImage sealed_ with
  | (none, e) => (none, e)
  | (some (m, img, fb), e) =>
    let size := jrnSize s.st.density
    let jb := jrnBase s.st.density
    let ch := s.markerChain m
    let split := splitGroups ch.recs []
    let rp := s.replayGroups sealed_ split.1 img.cfg
    -- records of the valid prefix: those before a group that is cut, or refused at replay
    let stop : Option Nat := match rp.2.2, split.1[rp.2.1.length]? with
      | some _, some g => g.head?.map Prod.fst
      | _, _ => split.2
    let prefix_ : List (Nat × Rec) := match stop with
      | some o => ch.recs.takeWhile (fun r => r.1 != o)
      | none => ch.recs
    let expect := m.startSeq + ch.recs.length
    let torn := (ch.looks.eraseDups.filter (fun o => s.tornAt (jb + o) == some expect)).map (fun o => jb + o)
    let cut := match split.2 with
      | some o => [jb + o]
      | none => []
    let idle := slotBase s.st.density (1 - m.slot % 2)
    let idleNamed := s.markers.any (fun q => q.slot % 2 == 1 - m.slot % 2 && (match s.markerImage q sealed_ with
      | .ok _ => true
      | .error _ => false))
    let idleBad := match s.recAt idle with
      | some (r, _) => r.type = 1 && leAt r.payload 16 8 != img.build && !idleNamed
      | none => false
    let markPos := nextMarkerPos ((topMarker none s.markers).getD m)
    let tornMark := (s.tornAt markPos).isSome
    let zero := torn ++ cut ++ (if idleBad then [idle] else []) ++ (if tornMark then [markPos] else [])
    let last := prefix_.getLast?
    let far (x : Nat) : Nat := (x + size - m.startOfs) % size
    let wptr := match last with
      | some (o, r) =>
        let e := afterRec size o r
        if e % 4096 = 0 || far (nextBoundary size e) ≤ far e then e else nextBoundary size e
      | none => if torn.isEmpty && cut.isEmpty then m.startOfs else nextBoundary size m.startOfs
    let endRec := (rp.2.1.getLast?.bind (fun g => g.getLast?)).map (fun r => r.2.seq)
    let beyond := if zero.isEmpty then none else (s.magicAddrs jb (jb + size) 32).find? (fun a => match s.recAt a with
      | some (r, true) => decide (expect ≤ r.seq)
      | _ => false)
    let err := match beyond, rp.2.2 with
      | some a, _ => some (3, a)
      | none, some f => some f
      | none, none => e
    (some { cfg := rp.1, base := img.cfg, journal := prefix_, marker := m, fallback := fb, replay := !zero.isEmpty,
            zero := zero, wptr := wptr, wraps := m.wraps + wrapsAlong size wptr m.startOfs prefix_,
            lastSeq := (last.map (fun (r : Nat × Rec) => r.2.seq)).getD (m.startSeq - 1),
            lastCrc := (last.map (fun (r : Nat × Rec) => r.2.crc)).getD (s.crcBefore m),
            endSeq := endRec.getD (m.startSeq - 1), err := err }, err)

/-- The region code of a device address (STORE_ERR.REGION). -/
def storeRegion (density a : Nat) : Nat :=
  if a < 0x10000 then 0 else if a < slotBase density 1 then 1 else if a < jrnBase density then 2 else 3

end Sys2Proof.Machine
end

