-- ==== Sys2Proof/Machine/Store.lean ====
section
/-! DEFINITION. The store at work: journal groups (R105 to R110), compaction (R111 to R114), the first image (R73 to R76,
R495), power loss (R115). -/

namespace Sys2Proof.Machine

/-! ## Position, fill and registers -/

/-- Journal size of the device attached. -/
def State.jsize (s : State) : Nat := jrnSize s.st.density

/-- Journal fill (R111). -/
def State.jfill (s : State) : Nat := (s.rg STORE_JRN_WPTR + s.jsize - s.st.jrnStartOfs) % s.jsize

/-- The status fields that follow from the store engine's state. The spec gives FILL_PCT no rounding: it is rounded down.
DESIGN CHOICE, log 53: unsafe. -/
def State.showStore (s : State) : State :=
  let s := s.put F.STORE_STAT_FILL_PCT (s.jfill * 100 / max 1 s.jsize)
  let s := s.putBit F.STORE_STAT_WRITING s.st.writing.isSome
  let s := s.putBit F.STORE_STAT_COMPACTING s.st.compaction.isSome
  if s.st.compaction.isNone then s.put F.STORE_STAT_COMPACT_STEP 0 else s

/-- Report a store failure. -/
def State.storeError (s : State) (code a : Nat) : State :=
  ((s.put F.STORE_ERR_ERR_CODE code).put F.STORE_ERR_REGION (storeRegion s.st.density a)).setRg STORE_ERR_OFS a

/-- A write, read-back or erase failure: counted and latched (STORE_WRITE). -/
def State.storeWriteErr (s : State) (code a : Nat) : State :=
  ((s.storeError code a).bump F.STORE_EVT_CNT_WRITE_ERR).latch 16

/-- A journal sector (by offset) holds part of the live journal (R112). -/
def State.sectorLive (s : State) (o : Nat) : Bool :=
  let d (x : Nat) : Nat := (x + s.jsize - s.st.jrnStartOfs) % s.jsize
  decide (d o < s.jfill) || decide (d (o + 4095) < s.jfill) || (decide (o ≤ s.st.jrnStartOfs ∧ s.st.jrnStartOfs < o + 4096) && s.jfill != 0)

/-- The parts of journal sectors from offset `w` on that `len` bytes and the rest of their last sector take: each from its first
such offset to the end of its sector. -/
def partsAhead (size w len : Nat) : List (Nat × Nat) :=
  (List.range ((w + len + 4095) / 4096 - w / 4096)).map (fun i =>
    let k := (w / 4096 + i) * 4096
    if size ≤ k then (k - size, k - size + 4096) else (max w k, k + 4096))

/-- A part of a journal sector holds bytes that are not erased. -/
def State.dirty (s : State) (p : Nat × Nat) : Bool :=
  let jb := jrnBase s.st.density
  s.store.any (fun c => decide (jb + p.1 ≤ c.1 ∧ c.1 < jb + p.2))

/-- R110: on NOR the sectors that `len` bytes from the write position need, and two more, are erased in the background. -/
def State.eraseAhead (s : State) (len : Nat) : State :=
  if !s.nor || s.jsize = 0 then s
  else
    let need := (partsAhead s.jsize (s.rg STORE_JRN_WPTR) (len + 8192)).filter (fun p =>
      !s.sectorLive (p.1 / 4096 * 4096) && s.dirty p)
    { s with st := { s.st with
      erasing := (s.st.erasing ++ need.map (fun p => jrnBase s.st.density + p.1 / 4096 * 4096)).eraseDups } }

/-- On NOR, bytes that `len` bytes from the write position would take are not erased and cannot be, since their sector holds
part of the live journal: that space is no more free than the live part itself. DESIGN CHOICE, log 53: unsafe. -/
def State.blockedAhead (s : State) (len : Nat) : Bool :=
  s.nor && (partsAhead s.jsize (s.rg STORE_JRN_WPTR) len).any (fun p => s.sectorLive (p.1 / 4096 * 4096) && s.dirty p)

/-! ## A group's records (R91, R106) -/

/-- The records of a group as a client sends them: SEQ, PREV_CRC, CRC and COMMIT are filled by the engine. -/
def parseRecs : Nat → List Byte → Option (List Rec)
  | 0, b => if b.isEmpty then some [] else none
  | n + 1, b =>
    if b.isEmpty then some []
    else
      let len := leAt b 16 4
      let flags := leAt b 6 2
      let sig := flags / 4 % 2 = 1
      let full := 32 + pad32 len + (if sig then 64 else 0)
      if b.length < full || 65504 < len || leAt b 0 4 ≠ recMagic then none
      else
        let r : Rec := ⟨leAt b 4 2, flags, 0, len, 0, 0, (b.drop 32).take len,
          if sig then (b.drop (32 + pad32 len)).take 64 else []⟩
        (parseRecs n (b.drop full)).map (fun rs => r :: rs)

/-- BEGIN on the first record only, END and a signature on the last only, JRN_APPLY_AT first only, known types.
DEDUCED, log 51: unsafe. -/
def groupShape (recs : List Rec) : Bool :=
  let n := recs.length
  n != 0 && recs.zipIdx.all (fun e =>
    let r := e.1
    r.flags < 8 && r.flags.testBit 0 == (e.2 == 0) && r.flags.testBit 1 == (e.2 + 1 == n)
      && (!r.flags.testBit 2 || e.2 + 1 == n) && 0x20 ≤ r.type && r.type ≤ 0x23
      && (r.type != 0x20 || (e.2 == 0 && r.len == 32 && (r.payload.drop 8).all (· == 0))))

/-- Records placed in the journal from a position on, JRN_PAD where one would cross the end of the region: offset and
record of each, the position and CRC after them, bytes of journal used. DEDUCED, log 51: unsafe. -/
def placeRecs (size : Nat) : List Rec → Nat → Nat → Nat → List (Nat × Rec) × Nat × Nat × Nat
  | [], pos, _, crc => ([], pos, crc, 0)
  | r :: rs, pos, seq, crc =>
    if size < pos + r.size then
      let p := Rec.sealed ⟨0x2F, 0, seq, size - pos - 32, crc, 0, [], []⟩
      let q := Rec.sealed { r with seq := seq + 1, prevCrc := p.crc }
      let t := placeRecs size rs (q.size % size) (seq + 2) q.crc
      ((pos, p) :: (0, q) :: t.1, t.2.1, t.2.2.1, t.2.2.2 + (size - pos) + q.size)
    else
      let q := Rec.sealed { r with seq := seq, prevCrc := crc }
      let t := placeRecs size rs ((pos + q.size) % size) (seq + 1) q.crc
      ((pos, q) :: t.1, t.2.1, t.2.2.1, t.2.2.2 + q.size)

/-- The configuration a group applies to: the one in force with the committed groups that take effect before it.
DEDUCED, log 54: unsafe. -/
def State.cfgBefore (s : State) (at_ : Option Nat) : Cfg :=
  s.st.committed.foldl (fun c g =>
    let first := match g.applyAt, at_ with
      | none, _ => true
      | some a, some b => decide (a ≤ b)
      | some _, none => false
    if first then match groupChanges (g.recs.map Prod.snd |>.filter (fun r => r.type != 0x2F)) [] with
      | some chs => Cfg.apply c chs
      | none => c
    else c) s.st.cfg

/-- N of the present tick as an unsigned number, and a signed difference of two sample counts. -/
def signedDiff (a b : Nat) : Int := signed 64 ((a + 2 ^ 64 - b % 2 ^ 64) % 2 ^ 64)

/-- The ticks from now to the one at which a group takes effect: JRN_APPLY_AT, else the next tick, at which it can at the
earliest. DEDUCED, log 54: unsafe. -/
def State.ticksTo (s : State) (at_ : Option Nat) : Nat :=
  match at_ with
  | some a => max 1 (signedDiff a s.node.n.toNat).toNat
  | none => 1

/-- Put a group's images into a plan in the order of its ticks. -/
def planInsert (e : Nat × List (Nat × Nat)) : List (Nat × List (Nat × Nat)) → List (Nat × List (Nat × Nat))
  | [] => [e]
  | x :: xs => if e.1 < x.1 then e :: x :: xs else x :: planInsert e xs

/-- R209: granules the pool would hold at the group's apply tick, the groups committed before that take effect by then taken in. -/
def State.poolAfter (s : State) (at_ : Option Nat) (c' : Cfg) (chs : List Change) : Nat :=
  let t := s.ticksTo at_
  let plan := s.st.committed.foldl (fun p g =>
    match groupChanges (g.recs.map Prod.snd |>.filter (fun r => r.type != 0x2F)) [] with
    | some cs =>
      if s.ticksTo g.applyAt ≤ t then
        planInsert (s.ticksTo g.applyAt, (touched cs secDelay).map (fun d => (d, (Cfg.apply s.st.cfg cs).delayImage d))) p
      else p
    | none => p) []
  s.poolWith (plan ++ [(t, (touched chs secDelay).map (fun d => (d, c'.delayImage d)))])

/-- The status that refuses a group at step 1 of R106, or 0 (Table 3.8). -/
def State.groupRefusal (s : State) (recs : List Rec) : Nat :=
  if !groupShape recs then 5
  else match groupChanges recs [] with
  | none => 5
  | some chs =>
    let at_ := applyAtOf recs
    let c := s.cfgBefore at_
    let c' := Cfg.apply c chs
    if chs.any (fun ch => !secDefined ch.1) then 5
    else if chs.any (fun ch => ch.1 == secKeeper) && s.node.mode != .service then 8
    else if !s.groupSigOk s.sealed c.daymark recs then 6
    else if !changesLegal c'.fs96 chs || !c'.legal then 5
    else if !(touchedBricks chs).all (fun l => loadLegal c c' chs l) then 5
    else if 32768 < s.poolAfter at_ c' chs then 5
    else if (match at_ with
      | some a => a % 8 != 0 || decide (2 ^ 31 < signedDiff a s.node.n.toNat)
      | none => false) then 5
    else
      let used := (placeRecs s.jsize recs (s.rg STORE_JRN_WPTR) (s.st.lastSeq + 1) s.st.lastCrc).2.2.2
      if s.jsize ≤ s.jfill + used || s.blockedAhead used then 4 else 0

/-- Take the next waiting group: refuse it, or start to write it (R107). -/
def State.nextGroup : Nat → State → State
  | 0, s => s
  | n + 1, s =>
    if s.st.writing.isSome then s
    else match s.st.waiting with
    | [] => s
    | g :: gs =>
      let s := { s with st := { s.st with waiting := gs } }
      let recs := g.recs.map Prod.snd
      let k := s.groupRefusal recs
      let s := s.putBit F.STORE_STAT_FULL (k = 4)
      if k ≠ 0 then
        let s := if k = 6 then (s.bump F.SEC_CNT_SIG_FAIL).latch 52 else if k = 4 then s.latch 20 else s
        let pool := match groupChanges recs [] with
          | some chs => decide (32768 < s.poolAfter (applyAtOf recs) (Cfg.apply (s.cfgBefore (applyAtOf recs)) chs) chs)
          | none => false
        let s := if k = 5 && pool then s.putBit F.DYN_STAT_POOL_REFUSED true else s
        State.nextGroup n (s.reply g.session 0x20 g.reqId k [])
      else
        let jb := jrnBase s.st.density
        let p := placeRecs s.jsize recs (s.rg STORE_JRN_WPTR) (s.st.lastSeq + 1) s.st.lastCrc
        let all := p.1
        let last := (all.getLast?.map (fun (e : Nat × Rec) => e.2.commitWrite (jb + e.1))).getD (jb, [])
        let writes := all.dropLast.flatMap (fun (e : Nat × Rec) => e.2.writes (jb + e.1) ++ [e.2.commitWrite (jb + e.1)])
          ++ (match all.getLast? with
            | some e => e.2.writes (jb + e.1)
            | none => [])
        let run : GroupRun := { g with
          recs := all, writes := writes, endCommit := last, applyAt := applyAtOf recs,
          endSeq := s.st.lastSeq + all.length, nextPos := p.2.1, lastCrc := p.2.2.1 }
        (({ s with st := { s.st with writing := some run } }).eraseAhead p.2.2.2).showStore

/-- A group of a client joins the queue; at most 16 wait (R107). `false` when the queue is full. -/
def State.submitGroup (s : State) (session reqId : Nat) (recs : List Rec) : State × Bool :=
  if 16 ≤ s.st.waiting.length then (s, false)
  else
    let g : GroupRun := ⟨session, reqId, recs.map (fun r => (0, r)), [], (0, []), none, 0, 0, 0⟩
    (({ s with st := { s.st with waiting := s.st.waiting ++ [g] } }).nextGroup 18, true)

/-! ## Compaction (R111 to R114) -/

/-- The configuration of the active base image with every journal group of the list. -/
def mergeGroups (base : Cfg) (journal : List (Nat × Rec)) : Cfg :=
  (splitGroups journal []).1.foldl (fun c g => match groupChanges (g.map Prod.snd) [] with
    | some chs => Cfg.apply c chs
    | none => c) base

/-- Number, chain and seal the records of an image. -/
def chainImage : List Rec → Nat → Nat → List Rec
  | [], _, _ => []
  | r :: rs, seq, crc => let q := Rec.sealed { r with seq := seq, prevCrc := crc }; q :: chainImage rs (seq + 1) q.crc

/-- The bytes of a record on the store. -/
def Rec.bytes (r : Rec) : List Byte := r.head ++ leBytes 4 r.crc ++ leBytes 4 (commitWord r.seq) ++ r.padded ++ r.sig

/-- The records of an image of a configuration, sections split into the largest parts a record holds.
DEDUCED, log 52: unsafe. -/
def State.imageOf (s : State) (c : Cfg) (build minStep : Nat) : List Rec :=
  let secs : List Rec := c.flatMap (fun (e : Nat × Tbl (List Byte)) =>
    let b := Cfg.canonical c e.1
    let parts := if b.isEmpty then [[]] else chunks 65496 (b.length / 65496 + 1) b
    (parts.filter (fun p => !p.isEmpty || b.isEmpty)).zipIdx.map (fun p =>
      let pay := leBytes 2 e.1 ++ [0, 0] ++ leBytes 4 (65496 * p.2) ++ p.1
      (⟨2, 0, 0, pay.length, 0, 0, pay, []⟩ : Rec)))
  let sign := s.sealed && s.keysUsable
  let endFlags := if sign then 6 else 2
  let len := 64 + secs.foldl (fun (n : Nat) r => n + r.size) 0 + 96 + (if sign then 64 else 0)
  let head := leBytes 2 1 ++ leBytes 2 0x1024 ++ leBytes 1 minStep ++ [0] ++ leBytes 2 c.length ++ leBytes 4 len
    ++ leBytes 4 (secs.length + 2) ++ leBytes 8 build ++ List.replicate 8 0
  let body := chainImage ((⟨1, 1, 0, 32, 0, 0, head, []⟩ : Rec) :: secs) 0 0
  let hash := sha256 (body.flatMap Rec.bytes)
  let sig := if sign then ecdsaSign (beNat s.fuses.kSign) (beNat (Config.random s.free)) hash else []
  let last : Rec := ⟨3, endFlags, secs.length + 1, 64, (body.getLast?.map (fun (r : Rec) => r.crc)).getD 0, 0,
    hash ++ [if sign then 2 else 0] ++ List.replicate 31 0, sig⟩
  body ++ [last.sealed]

/-- The records of an image one after the other, with their device addresses. DEDUCED, log 52: unsafe. -/
def placeImage : List Rec → Nat → List (Nat × Rec)
  | [], _ => []
  | r :: rs, a => (a, r) :: placeImage rs (a + r.size)

/-- What a compaction programs into the idle slot, in order. -/
def Compaction.writes (c : Compaction) : List (Nat × List Byte) :=
  c.recs.flatMap (fun e => e.2.writes e.1 ++ [e.2.commitWrite e.1])

/-- BUILD_ID of the image that generation `gen` names: one base for every generation, so that no two are equal, and another
half of the numbers where it would equal the active image's. DESIGN CHOICE, log 88: unsafe. -/
def buildFor (gen active : Nat) : Nat :=
  let b := (Config.buildBase.toNat + gen) % 2 ^ 64
  if b = active then (b + 2 ^ 63) % 2 ^ 64 else b

/-- STORE_STAT.VALID of a slot. -/
def State.slotValid (s : State) (slot : Nat) (b : Bool) : State :=
  s.putBit (if slot = 0 then F.STORE_STAT_VALID_A else F.STORE_STAT_VALID_B) b

/-- Start a compaction for a request, or for none (R111, Table 3.10 steps 1 to 5). Nothing of an image larger than the slot is
written beyond the slot. -/
def State.startCompaction (s : State) (owner : Option (Nat × Nat)) : State :=
  if s.st.compaction.isSome || s.st.density = 0 || s.rg STORE_GENERATION = 0 then s
  else
    let s := { s with st := { s.st with compactRetry := false } }
    let d := s.st.density
    let idle := 1 - s.get F.STORE_STAT_ACTIVE_SLOT
    let a := slotBase d idle
    let top := topMarker none s.markers
    let gen := (top.map (fun (m : Marker) => m.gen)).getD 0 + 1
    let minStep := leNat (s.rdStore 1 (slotBase d (1 - idle) + 36))
    let active := leNat (s.rdStore 8 (slotBase d (1 - idle) + 48))
    let s := s.slotValid idle false
    let s := if s.nor then
        { s with store := s.store.filter (fun c => decide (c.1 < a) || decide (a + slotSize d ≤ c.1)) } else s
    let c := mergeGroups s.st.base s.st.journal
    let recs := s.imageOf c (buildFor gen active) minStep
    let len := recs.foldl (fun (n : Nat) r => n + r.size) 0
    let crc := (recs.getLast?.map (fun (r : Rec) => r.crc)).getD 0
    let placed := (placeImage recs a).filter (fun e => decide (e.1 + e.2.size ≤ a + slotSize d))
    let run : Compaction := ⟨s.rg STORE_JRN_SEQ, idle, placed, (len, leBytes 4 crc), owner⟩
    let s := { s with st := { s.st with compaction := some run } }
    let s := s.put F.STORE_STAT_COMPACT_STEP (2 + (Config.freeWord s.free).toNat % 5)
    (s.nextFree).showStore

/-- The engine starts a compaction of its own accord; after an error only its retries, and then a command, do (Table 3.11). -/
def State.ownCompaction (s : State) : State :=
  if s.st.compactRetry || s.flt.compactBad then s else s.startCompaction none

/-- A compaction starts when fill passes 75 % (R111). -/
def State.fillCheck (s : State) : State :=
  if 3 * s.jsize < 4 * s.jfill then s.ownCompaction else s

/-- A compaction is abandoned: the idle slot's IMG_HEAD MAGIC is zeroed (Table 3.11). -/
def State.abandonCompaction (s : State) : State :=
  match s.st.compaction with
  | none => s
  | some c =>
    let s := s.zeroMagic (slotBase s.st.density c.slot)
    let s := { s with st := { s.st with compaction := none } }
    (s.showStore).finish c.session 0x22 0xA []

/-- The marker record that commits a compaction. Its JRN_WRAPS are those of the write position when it stood at JRN_START_OFS, from
which the loader counts on. DEDUCED, log 52: unsafe. -/
def State.compactMarker (s : State) (c : Compaction) : Nat × Rec :=
  let top := topMarker none s.markers
  let gen := (top.map (fun (m : Marker) => m.gen)).getD 0 + 1
  let pos := (top.map nextMarkerPos).getD 0
  let later := s.st.journal.filter (fun r => decide (c.s < r.2.seq))
  let wptr := s.rg STORE_JRN_WPTR
  let ofs := (later.head?.map Prod.fst).getD wptr
  (pos, markerRec gen c.slot c.marker.1 (c.s + 1) ofs (leNat c.marker.2) (s.rg STORE_WEAR - wrapsAlong s.jsize wptr ofs later))

/-- On NOR the idle anchor half is erased once the active half holds two committed markers (R97). -/
def State.eraseIdleHalf (s : State) (pos : Nat) : State :=
  let half := pos / 0x8000
  if s.nor && 2 ≤ (s.markers.filter (fun m => m.addr / 0x8000 == half)).length then
    { s with store := s.store.filter (fun c => !(decide ((1 - half) * 0x8000 ≤ c.1 ∧ c.1 < (2 - half) * 0x8000))) }
  else s

/-- A compaction fails at the record at device address `a`: it is abandoned and retried after 60 s, at most 3 times (Table 3.11). -/
def State.failCompaction (s : State) (c : Compaction) (a : Nat) : State :=
  let s := (s.storeWriteErr 8 a).zeroMagic (slotBase s.st.density c.slot)
  let again := decide (s.st.compactTries < 3)
  let s := { s with
    st := { s.st with compaction := none, compactRetry := again }
    flt := { s.flt with compactBad := s.flt.compactBad || !again } }
  let s := if again then s else s.latch 17
  (s.showStore).finish c.session 0x22 9 []

/-- Where the slot of a compaction fails to read back as R98 asks (Table 3.10 step 6). -/
def State.slotFault (s : State) (c : Compaction) : Option Nat :=
  match s.readImage c.slot (some (leNat c.marker.2)) s.sealed with
  | .ok _ => none
  | .error e => some e.2

/-- COMPACTION_COMMIT (Table 3.10 steps 6 to 8): the image's records and the marker are written, read back and committed one after
the other (R90), `ok` when the device answered what was sent. With `ok` false the first record reads back otherwise.
DESIGN CHOICE, log 53: unsafe. -/
def effCompactionCommit (ok : Bool) (s : State) : State :=
  match s.st.compaction with
  | none => s
  | some c =>
    let m := s.compactMarker c
    let w := s.writeRecs ok true c.recs
    let t := w.1.writeRecs ok true [m]
    match w.2.or (w.1.slotFault c), t.2 with
    | some a, _ => w.1.failCompaction c a
    | none, some a => t.1.failCompaction c a
    | none, none =>
      let s := t.1
      let keep := s.st.journal.filter (fun r => decide (c.s < r.2.seq))
      let s := { s with
        st := { s.st with
          compaction := none, compactTries := 0, compactRetry := false
          base := mergeGroups s.st.base (s.st.journal.filter (fun r => decide (r.2.seq ≤ c.s)))
          journal := keep, jrnStartOfs := leAt m.2.payload 16 4 }
        flt := { s.flt with compactBad := false } }
      let s := (s.setRg STORE_GENERATION m.2.seq).setRg STORE_JRN_START (c.s + 1)
      let s := s.put F.STORE_STAT_ACTIVE_SLOT c.slot
      let s := (s.slotValid c.slot true).bump F.STORE_EVT_CNT_COMPACT
      ((s.eraseIdleHalf m.1).showStore.finish c.session 0x22 0 []).fillCheck

/-- COMPACTION_RETRY (Table 3.11): 60 s after an abandoned compaction. -/
def effCompactionRetry (s : State) : State :=
  if s.st.compactRetry && s.st.compaction.isNone then
    ({ s with st := { s.st with compactTries := s.st.compactTries + 1 } }).startCompaction none
  else s

/-! ## Image START (R63) -/

/-- An image START is asked for: outputs ramp to mute first. During another transition and in DORMANT it waits (R61); one that
is under way serves it. A START for a change of fs keeps START_CAUSE (R109). DEDUCED, log 47: unsafe. -/
def State.askImageStart (s : State) (cause : StartCause) : State :=
  match s.node.phase with
  | .imageMute _ => s
  | _ =>
    if s.inTransition || s.node.mode = .dormant || s.node.mode = .start || s.node.mode = .replay then
      { s with node := { s.node with startAsked := some cause } }
    else ({ s with node := { s.node with phase := .imageMute cause, startAsked := none } }).muteAllOuts .imageStart

/-! ## Commit and apply -/

/-- The write position moves; a lower one is a wrap (R91). -/
def State.setWptr (s : State) (pos : Nat) : State :=
  let w := if pos < s.rg STORE_JRN_WPTR then 1 else 0
  (s.setRg STORE_WEAR (s.rg STORE_WEAR + w)).setRg STORE_JRN_WPTR pos

/-- Where the chain of committed records ends. -/
def State.chainEnd (s : State) : Nat :=
  match s.st.journal.getLast? with
  | some (o, r) => afterRec s.jsize o r
  | none => s.st.jrnStartOfs

/-- Where writing resumes after a group that failed: the 4 KiB boundary after the last committed record, where the loader
looks once more (R100), so that what is committed there is found. Where that lies at or past the live part, writing resumes at
the end of that record itself. R106 does not say from where the boundary is counted. DESIGN CHOICE, log 90: unsafe. -/
def State.resumePos (s : State) : Nat :=
  let e := s.chainEnd
  let d (x : Nat) : Nat := (x + s.jsize - s.st.jrnStartOfs) % s.jsize
  let b := nextBoundary s.jsize e
  if d e < d b then b else e

/-- The records of a group with their device addresses. -/
def GroupRun.placed (g : GroupRun) (jb : Nat) : List (Nat × Rec) := g.recs.map (fun r => (jb + r.1, r.2))

/-- A record of the group stands at its place. -/
def State.standsAt (s : State) (e : Nat × Rec) : Bool :=
  match s.recAt e.1 with
  | some (r, _) => r.seq = e.2.seq
  | none => false

/-- A group that is not committed: those of its records that were written are zeroed at MAGIC and writing resumes at a 4 KiB
boundary (R106, R108), which may take the fill past 75 % (R111). -/
def State.dropGroup (s : State) (g : GroupRun) (status : Nat) : State :=
  let s := ((g.placed (jrnBase s.st.density)).filter s.standsAt).foldl (fun s r => s.zeroMagic r.1) s
  let s := (s.setWptr s.resumePos).reply g.session 0x20 g.reqId status []
  ((({ s with st := { s.st with writing := none } }).eraseAhead 0).showStore.fillCheck).nextGroup 18

/-- A group's bytes meet the sector at a device address. -/
def GroupRun.meets (g : GroupRun) (e : Nat) : Bool :=
  (g.endCommit :: g.writes).any (fun w => decide (e < w.1 + w.2.length ∧ w.1 < e + 4096))

/-- NOR_ERASE_DONE (R107, R110): the erase of the sector at device address `a` ends; `ok` when it verified. A failed one drops
the group that needs the sector. -/
def effNorEraseDone (a : Nat) (ok : Bool) (s : State) : State :=
  if !s.st.erasing.contains a then s
  else
    let s := { s with st := { s.st with erasing := s.st.erasing.filter (· != a) } }
    if ok then s.eraseSector a
    else
      let s := s.storeWriteErr 9 a
      match s.st.writing with
      | some g => if g.meets a then s.dropGroup g 9 else s
      | none => s

/-- Records of a group without the padding between them. -/
def GroupRun.plain (g : GroupRun) : List Rec := (g.recs.map Prod.snd).filter (fun r => r.type != 0x2F)

/-- GROUP_COMMITTED (R106, R108): the records are written, read back and committed one after the other (R90), `ok` when the device
answered what was sent; the END record's COMMIT is written last, unless the apply tick lies less than 2 ms ahead. With `ok` false
the group's first record reads back otherwise. DESIGN CHOICE, log 53: unsafe. -/
def effGroupCommitted (ok : Bool) (s : State) : State :=
  match s.st.writing with
  | none => s
  | some g =>
    let late := match g.applyAt with
      | some a => decide (signedDiff a s.node.n.toNat * 1000 < 2 * s.fs)
      | none => false
    if s.st.erasing.any g.meets then s
    else match s.writeRecs ok false (g.placed (jrnBase s.st.density)) with
    | (s, some a) => (s.storeWriteErr 8 a).dropGroup g 9
    | (s, none) =>
    if late then s.dropGroup g 7
    else
      let s := s.progAll s.nor [g.endCommit]
      let s := s.setWptr g.nextPos
      let c := s.cfgBefore g.applyAt
      let s := { s with st := { s.st with
        writing := none, committed := s.st.committed ++ [g], journal := s.st.journal ++ g.recs, lastSeq := g.endSeq,
        lastCrc := g.lastCrc } }
      let s := s.setRg STORE_JRN_SEQ g.endSeq
      let s := match groupChanges g.plain [] with
        | some chs => s.beginLoads c (Cfg.apply c chs) chs g.endSeq g.applyAt.isSome
        | none => s
      ((s.eraseAhead 0).showStore.fillCheck).nextGroup 18

/-- The final reply of an applied group, and event 6 (R106 step 6). -/
def State.groupDone (s : State) (g : GroupRun) (late : Bool) : State :=
  let tag := leNat (s.st.cfg |> Cfg.daymark |>.drop 28 |>.reverse)
  let s := s.reply g.session 0x20 g.reqId 0 (beBytes 8 g.endSeq ++ beBytes 4 tag ++ beBytes 4 (if late then 1 else 0))
  s.notify 6 (beBytes 4 tag ++ beBytes 8 g.endSeq)

/-- GROUP_APPLY (R106 steps 4 to 6, R109, R174): the oldest committed group that is due at the next tick takes effect; one without
JRN_APPLY_AT is due once its inactive-range words are written.
DEDUCED, log 54: unsafe. -/
def effGroupApply (s : State) : State :=
  let n1 := (s.node.n.toNat + 1) % 2 ^ 64
  match s.st.committed.find? (fun g => match g.applyAt with
    | some a => decide (signedDiff a n1 ≤ 0)
    | none => s.banksWritten g.endSeq) with
  | none => s
  | some g =>
    let s := { s with st := { s.st with committed := s.st.committed.filter (fun h => h.endSeq != g.endSeq) } }
    match groupChanges g.plain [] with
    | none => s
    | some chs =>
      if (touched chs secGlobal).contains 1 && Cfg.fs96 (Cfg.apply s.st.cfg chs) != s.node.fs96 then
        -- the image START takes all of it from the store
        let c := Cfg.apply s.st.cfg chs
        let s := { s with st := { s.st with cfg := c } }
        (s.showDaymark.groupDone g false).askImageStart s.node.cause
      else
        let old := s
        let (s, late) := s.applyChanges chs g.endSeq g.applyAt.isSome
        ((s.changedUnits (s.unitsTouched old chs)).showDaymark).groupDone g late

/-! ## The first image (R73 to R75, R495) -/

/-- R75: read the whole store, note its highest generation, wraps and SEQ, and prepare it. -/
def State.prepareStore (s : State) (session size : Nat) : State :=
  let d := s.st.density
  let ms := s.markers
  let gOld := ms.foldl (fun (n : Nat) m => max n m.gen) 0
  let wraps := ms.foldl (fun (n : Nat) m => max n m.wraps) 0
  let sOld := ((s.magicAddrs (jrnBase d) (jrnBase d + jrnSize d) 32).filterMap (fun a => match s.recAt a with
    | some (r, true) => some r.seq
    | _ => none)).foldl max 0
  let s := if s.nor then
      { s with store := s.store.filter (fun c => !(decide (c.1 < slotBase d 1)
          || decide (jrnBase d ≤ c.1 ∧ c.1 < jrnBase d + 8192))) }
    else s.zeroMarkers.zeroMagic (slotBase d 0)
  let s := { s with kmp := { s.kmp with transfer := some ⟨session, size, 0, 0, [], false, gOld, sOld, wraps⟩ } }
  (s.slotValid 0 false).slotValid 1 false

/-- Bytes of the record a buffer of image bytes begins with, once its header is there. -/
def recordSpan (b : List Byte) : Option Nat :=
  if b.length < 32 then none
  else some (32 + pad32 (leAt b 16 4) + (if leAt b 6 2 / 4 % 2 = 1 then 64 else 0))

/-- Write the whole records of the buffer to slot A, each by R90 after its CRC-32C has been checked (R74 step 3); nothing more
once one has failed. -/
def State.imageRecords : Nat → State → Transfer → State × Transfer
  | 0, s, t => (s, t)
  | n + 1, s, t =>
    match recordSpan t.buf with
    | none => (s, t)
    | some k =>
      if t.bad || t.buf.length < k then (s, t)
      else
        let b := t.buf.take k
        let a := slotBase s.st.density 0 + t.done
        let t := { t with done := t.done + k, buf := t.buf.drop k }
        let ws := [(a, b.take 28), (a + 32, b.drop 32)]
        let u := s.progAll s.nor ws
        if crc32c (b.take 24 ++ b.drop 32) ≠ leAt b 24 4 || 65504 < leAt b 16 4 then (s, { t with bad := true })
        else if !ws.all u.holds then (u.storeWriteErr 8 a, { t with bad := true })
        else State.imageRecords n (u.progStore u.nor (a + 28) ((b.drop 28).take 4)) t

/-- Image bytes at the expected offset: the records they complete go to slot A. -/
def State.imageBytes (s : State) (t : Transfer) (b : List Byte) : State :=
  let r := s.imageRecords (b.length / 32 + 1) { t with received := t.received + b.length, buf := t.buf ++ b }
  { r.1 with kmp := { r.1.kmp with transfer := some r.2 } }

/-- The step of R74 that fails for the transferred image, 0 for none: 3 for its records, 4 for its signature, 5 for what it
says. -/
def State.imageFailStep (s : State) (t : Transfer) : Nat :=
  if t.bad then 3
  else match s.imageFrame 0 none with
  | .error (10, _) => 5
  | .error _ => 3
  | .ok f =>
    if !s.frameSigned s.sealed f then 4
    else match s.frameImage 0 f with
      | .error _ => 5
      | .ok _ => 0

/-- Steps 6 and 7 of R74: the marker at the start of anchor half 0, by R90, and an image START. A marker that does not read
back is reported as step 6. -/
def State.commitImage (s : State) (t : Transfer) : State × Nat :=
  let d := s.st.density
  let recs := match s.imageRecs (slotBase d 0 + slotSize d) (slotSize d / 32) (slotBase d 0) 0 0 with
    | .ok rs => rs
    | .error _ => []
  let len := recs.foldl (fun (n : Nat) r => n + r.2.size) 0
  let crc := (recs.getLast?.map (fun (r : Nat × Rec) => r.2.crc)).getD 0
  let m := markerRec (t.gOld + 1) 0 len (t.sOld + 1) 0 crc t.wraps
  let s := { s with kmp := { s.kmp with transfer := none } }
  let s := s.progAll s.nor (m.writes 0)
  if (m.writes 0).all s.holds then ((((s.progAll s.nor [m.commitWrite 0]).slotValid 0 true).askImageStart .firstImage), 0)
  else (s.storeWriteErr 8 0, 6)

/-- IMAGE_TRANSFER_IDLE (R73): a transfer idle for 30 s is abandoned. -/
def effImageTransferIdle (s : State) : State := { s with kmp := { s.kmp with transfer := none } }

/-! ## Power loss (R115) -/

/-- What the store keeps of the writes in flight: `group` bytes of the group's, `image` bytes of the compaction's.
DESIGN CHOICE, log 53: unsafe. -/
def State.storeCut (s : State) (group image : Nat) : State :=
  let s := match s.st.writing with
    | some g => s.progSome s.nor group (g.writes ++ [g.endCommit])
    | none => s
  match s.st.compaction with
  | some c =>
    let m := s.compactMarker c
    s.progSome s.nor image (c.writes ++ m.2.writes m.1 ++ [m.2.commitWrite m.1])
  | none => s

/-- STORE_STAT.VALID_A and VALID_B: which slots hold a valid image (R98). -/
def State.showSlots (s : State) : State :=
  let valid (k : Nat) : Bool := s.markers.any (fun m => m.slot % 2 == k && (match s.markerImage m s.sealed with
    | .ok _ => true
    | .error _ => false))
  (s.putBit F.STORE_STAT_VALID_A (valid 0)).putBit F.STORE_STAT_VALID_B (valid 1)

/-- START finds no base image: the STORE registers of an image and a journal stand at zero, and nothing is written (R529). -/
def State.noImage (s : State) : State :=
  let s := [STORE_GENERATION, STORE_JRN_SEQ, STORE_JRN_START, STORE_JRN_WPTR].foldl (fun (s : State) a => s.clearRg a) s
  let s := [F.STORE_STAT_ACTIVE_SLOT, F.STORE_STAT_FALLBACK, F.STORE_STAT_REPLAYED].foldl (fun (s : State) f => s.put f 0) s
  ({ s with st := { s.st with
    base := [], journal := [], jrnStartOfs := 0, lastSeq := 0, lastCrc := 0, waiting := [], writing := none, committed := [],
    codeLoads := [], trigWaits := [], bankLoads := [], compaction := none, compactTries := 0, compactRetry := false,
    erasing := [] } }).showStore

/-- START finds the store: registers of the STORE block from the boot read; REPLAY's acts (R102, R103). -/
def State.takeBoot (s : State) (b : Boot) : State :=
  let s := b.zero.foldl (fun s a => s.zeroMagic a) s
  let s := { s with st := { s.st with
    cfg := b.cfg, base := b.base, journal := b.journal, jrnStartOfs := b.marker.startOfs, lastSeq := b.lastSeq,
    lastCrc := b.lastCrc, waiting := [], writing := none, committed := [], codeLoads := [], trigWaits := [], bankLoads := [],
    compaction := none, compactTries := 0, compactRetry := false, erasing := [] } }
  let slot := b.marker.slot % 2
  let s := (s.setRg STORE_GENERATION b.marker.gen).setRg STORE_JRN_SEQ b.endSeq
  let s := (s.setRg STORE_JRN_START b.marker.startSeq).setRg STORE_JRN_WPTR b.wptr
  let s := (s.setRg STORE_WEAR b.wraps).put F.STORE_STAT_ACTIVE_SLOT slot
  let s := s.showSlots
  let s := (s.putBit F.STORE_STAT_FALLBACK b.fallback).putBit F.STORE_STAT_REPLAYED b.replay
  let s := match b.err with
    | some (k, a) => if k = 4 then ((s.storeError k a).bump F.SEC_CNT_SIG_FAIL).latch 52 else s.storeError k a
    | none => s
  let s := if b.replay then s.bump F.STORE_EVT_CNT_REPLAY else s
  let s := s.showStore
  let s := if b.replay then s.latch 18 else s
  if b.fallback then s.latch 19 else s

/-! ## Meanings of the commands -/

/-- GROUP_COMMITTED (R106). -/
def execGroupCommitted (ok : Bool) (s : State) : Result :=
  runs s (effGroupCommitted ok)

/-- GROUP_APPLY (R528). -/
def execGroupApply (s : State) : Result :=
  runs s effGroupApply

/-- COMPACTION_COMMIT (R113). -/
def execCompactionCommit (ok : Bool) (s : State) : Result :=
  runs s (effCompactionCommit ok)

/-- COMPACTION_RETRY (R114). -/
def execCompactionRetry (s : State) : Result :=
  runs s effCompactionRetry

/-- NOR_ERASE_DONE (R110). -/
def execNorEraseDone (a : Nat) (ok : Bool) (s : State) : Result :=
  runs s (effNorEraseDone a ok)

/-- IMAGE_TRANSFER_IDLE (R73). -/
def execImageTransferIdle (s : State) : Result :=
  runs s effImageTransferIdle

end Sys2Proof.Machine
end

