-- ==== Sys2Proof/Machine/Start.lean ====
section
/-! DEFINITION. START: the sequence of Table 2.4, image STARTs, the Beacon image, the start gate, the first-lock step (R59 to
R79). -/

namespace Sys2Proof.Machine

/-! ## The Beacon image (R71, Table 2.5) -/

/-- A patch entry: enabled, low-latency, RAMP 0. -/
def lowEntry (src dst gain : Nat) : List Byte := leBytes 8 (src + dst * 2 ^ 12 + gain * 2 ^ 24 + 2 ^ 44 + 2 ^ 45)

/-- The reset images of an item with one of its registers replaced. DESIGN CHOICE, log 57: unsafe. -/
def itemWith (sec k a v : Nat) : List Byte :=
  match itemRegs sec k with
  | some r => r.regs.flatMap (fun e => leBytes e.2 (if e.1 = a then v else (resetValue e.1).toNat)) ++ List.replicate r.pad 0
  | none => []

/-- The built-in image. Entries of the PATCH section stand in the order of Table 2.5. DESIGN CHOICE, log 57: unsafe. -/
def beaconCfg (amp : Bool) : Cfg :=
  let word4 (v : Nat) : List Byte := leBytes 4 v
  let tdm : Tbl (List Byte) := (List.range 256).map (fun c => (c, lowEntry (1024 + c) (1024 + c) 0))
  let net : Tbl (List Byte) := (List.range 256).map (fun c => (256 + c, lowEntry (1024 + c) c 0))
  let mods : Tbl (List Byte) := if amp then (List.range 64).map (fun m => (512 + m, lowEntry (1024 + m) (3328 + m) 0xEC00)) else []
  let lims : Tbl (List Byte) := (List.range 1344).map (fun i => (i, itemWith secLimiters i (DYN_LIM_CFG i) 0x8000FF00))
  let streams : Tbl (List Byte) := (List.range 32).map (fun k => (0x01000000 + k,
    leBytes 4 (2 ^ 31 + 7 * 2 ^ 22 + 6 * 2 ^ 15 + 2 ^ 13 + 8 * k) ++ word4 0
      ++ leBytes 4 ((5004 + 2 * k) * 65536 + 5004 + 2 * k) ++ leBytes 4 (34 * 256 + 96) ++ word4 0 ++ word4 0))
  let amps : Tbl (List Byte) := if amp then (List.range 64).map (fun m => (m, itemWith secAmp m (AMP_CH_CFG m)
    (withField 0xD0000006 (F.AMP_CH_CFG_PHASE m).lo (F.AMP_CH_CFG_PHASE m).width (m % 16)))) else []
  let limb (t : Tbl (List Byte)) (sec : Nat) : Cfg := if t.isEmpty then [] else [(sec, t)]
  [(secGlobal, [(1, word4 48000), (2, word4 (if amp then 1 else 0)), (3, word4 0), (4, word4 10)]),
   (secPatch, tdm ++ net ++ mods),
   (secTdm, (List.range 8).map (fun p => (p, leBytes 4 0x11 ++ leBytes 4 0xFFFFFFFF ++ leBytes 4 0xFFFFFFFF ++ word4 0))),
   (secLimiters, lims), (secStreams, streams)] ++ limb amps secAmp ++
  [(secReferences, [(0x10, itemWith2), (0x100, leBytes 4 (withField (resetValue (REF_CFG 0)).toNat 0 3 1)),
     (0x105, leBytes 4 (withField (resetValue (REF_CFG 5)).toNat 0 3 2))]),
   (secNode, (List.range 4).map (fun p => (0x100 + p, leBytes 4 1)))]
where
  /-- DOMAIN_NUM 0 with the media profile's intervals, the reset values of TMS_PTP_INTV. -/
  itemWith2 : List Byte := leBytes 4 0 ++ leBytes 4 (resetValue (TMS_PTP_INTV 0)).toNat

/-- The values of Table 2.5 that follow from the engine's own identity. DESIGN CHOICE, log 57: unsafe. -/
def State.beaconIdentity (s : State) : State :=
  let ll := s.nodeAddr 0
  let s := { s with net := { s.net with node := cins s.net.node 1 ll } }
  (List.range 32).foldl (fun s k =>
    (s.setRg (STR_TX_DST k) (0xEFC00000 + ll % 65536)).setRg (STR_TX_SSRC k) (s.fuses.mac % 2 ^ 24 * 256 + k)) s

/-! ## Audio starts (steps 12 to 15) -/

/-- First audio: processing starts and every output ramps up, behind the mutes that stand. -/
def State.firstAudio (s : State) : State :=
  let s := { s with
    node := { s.node with phase := .none }
    audio := { s.audio with running := true, startN := s.nextN } }
  let s := s.freshMutes (fun r => match r with
    | .start | .gate | .imageStart | .replay => false
    | _ => true)
  s.ampFirstAudio

/-- The lowest bit of a 64-bit word. -/
def lowestBit (w : Word64) : Nat := ((List.range 64).find? (fun k => w.getLsbD k)).getD 0

/-- Step 12: the mode, or HOLD in its place while a bit latched under NODE_HOLD stands (R62); then the start gate (R69) and
first audio. A paired node held here leaves HOLD for SHADOW, as Table 2.2 has it, though R62 names the mode it would have entered,
LEAD where no partner was heard. The duration of START is not determined. DESIGN CHOICE, log 12: safe. DEDUCED, log 55: unsafe. -/
def State.finishStart (s : State) (dest : Mode) : State :=
  let s := { s with node := { s.node with phase := .none } }
  let s := if s.flt.hold != 0 then
      let s := s.enterHold (some (lowestBit s.flt.hold))
      { s with node := { s.node with releaseTo := if dest = .beacon || dest = .service then some dest else none } }
    else s.setMode dest
  let s := (s.setRg GLB_START_TIME ((Config.freeWord s.free).toNat % 2 ^ 32)).nextFree
  let s := (s.writeItem secPolicy 1).announceName
  let s := s.serviceMute
  let gate := Cfg.image s.st.cfg secGlobal 3 0 0 = 1
  let s := if gate && !s.node.lockedOnce then
      ({ s with node := { s.node with phase := .gate } }).mapMuteAll (fun m =>
        let rs := m.reasons.filter (fun (r : MuteReason) => match r with
          | .start | .gate | .imageStart | .replay => false
          | _ => true)
        (⟨rs ++ [MuteReason.gate], 0, 1, 0, 0⟩ : Mute))
    else s.firstAudio
  (s.fillCheck).policyPin

/-- START_GATE_TIMEOUT (R69). -/
def effStartGateTimeout (s : State) : State := if s.node.phase = .gate then s.firstAudio else s

/-- Step 12 of a START, an image START or not: with a pair configured it waits for the listen window (R68).
DEDUCED, log 55: unsafe. -/
def State.stepTwelve (s : State) (dest : Mode) (image : Bool) : State :=
  if s.paired then { s with node := { s.node with phase := .listen dest image, heard := false } }
  else s.finishStart dest

/-- Step 12 of an image START falls on the first block boundary after step 11 (R63). -/
def State.boundaryTick (s : State) : State :=
  match s.node.phase with
  | .boundary dest => if s.node.n.toNat % 8 = 0 then ({ s with node := { s.node with phase := .none } }).stepTwelve dest true else s
  | _ => s

/-! ## Steps 6 to 11 -/

/-- The Relief Bricks take their role (R125), those out of service excepted. -/
def State.assignRelief (s : State) : State :=
  [23, 47, 71, 95].foldl (fun (s : State) b => if s.outOfService b then s else s.put (F.BRK_ROLE_ROLE b) 1) s

/-- Where START goes when the configuration is loaded; the strap SVC_BOOT counts at an image START too (R63, Table 2.2).
DEDUCED, log 55: unsafe. -/
def State.startTarget (s : State) (image : Bool) : Mode :=
  if s.bit F.GLB_STRAP_SVC_BOOT then .service else if image then .lead else .beacon

/-- The store is read, and the configuration chosen and loaded (steps 6 to 12). DEDUCED, log 55: unsafe. -/
def State.loadAndGo (s : State) (full : Bool) : State :=
  let s := s.put F.STORE_GEOM_DENSITY s.st.density
  let s := s.put F.STORE_GEOM_MEDIUM s.fuses.medium
  let s := if s.st.density = 0 then s
    else ((s.putBit F.STORE_XSPI_CAL_CAL_OK true).put F.STORE_XSPI_CAL_DQS_DELAY (Config.freeWord s.free).toNat).nextFree
  let life := s.lifecycle
  let barred := full && (s.bit F.GLB_STRAP_IMG_BYPASS || life = 0 || life = 3)
  let found := if s.st.density = 0 then (none, none) else s.boot s.sealed
  let (s, image) := match barred, found with
    | false, (some b, _) =>
      let s := if b.replay then s.setMode .replay else s
      (s.takeBoot b, true)
    | true, _ => (s, false)
    | false, (none, e) =>
      let s := match e with
        | some (k, a) =>
          let s := if k = 4 then ((s.storeError k a).bump F.SEC_CNT_SIG_FAIL).latch 52 else s.storeError k a
          if s.startTarget false = Mode.beacon then s.latch 60 else s
        | none => s
      (s, false)
  let s := if image then s
    else
      let s := (if s.st.density = 0 then s else s.showSlots).noImage
      { s with st := { s.st with cfg := beaconCfg (s.bit F.GLB_STRAP_AMP_DEFAULT) } }
  let c : Cfg := s.st.cfg
  let patch := if image && (tget c secKeeper).isSome then (Config.freeWord s.free).toNat % 65536 else 0
  let s := (s.put F.GLB_FW_VER_PATCH_VER patch).nextFree
  let s := s.showDaymark
  let s := { s with node := { s.node with role := c.role, fs96 := c.fs96 } }
  -- state areas are zero before DATA words give them initial values
  let s := (s.zeroStateAreas.loadAll).assignRelief
  let s := (if s.node.role = Role.processing then s.ignoreSense else s).ampLoaded
  let s := if image then s else s.beaconIdentity
  -- Table 2.7, by the configuration just loaded
  let s := s.resetCoil.resetBaselines.startLimits
  let dest := s.startTarget image
  if full then ({ s with node := { s.node with n := 0, fresh := true, t0 := s.node.time } }).stepTwelve dest false
  else { s with node := { s.node with phase := .boundary dest } }

/-! ## Full START (R67) -/

/-- The default debug level of a lifecycle state (Table 17.5). -/
def debugDefault (life : Nat) : Nat := if life = 0 then 2 else if life = 1 || life = 3 then 1 else 0

/-- FLT_RESET_HIST over a full START (R452); COUNT reads the STARTs of the last 10 minutes. -/
def State.resetHist (s : State) (cause : StartCause) : Nat :=
  let h := s.rg FLT_RESET_HIST
  match cause with
  | .powerOn | .resetN => 0
  | .resetFault =>
    let n := min 255 (fieldOf h 24 8 + 1)
    withField (withField (withField h 24 8 n) 7 1 1) 0 6 (s.flt.resetPending.getD 0)
  | _ => withField h 8 1 0

/-- A full START meets a group or a compaction being written: how many of its bytes had reached the device is not determined
(Table 3.12). DESIGN CHOICE, log 53: unsafe. -/
def State.cutWrites (s : State) : State :=
  if s.st.writing.isNone && s.st.compaction.isNone then s
  else
    let group := match s.st.writing with
      | some g => (Config.freeWord s.free).toNat % ((g.writes ++ [g.endCommit]).foldl (fun (n : Nat) w => n + w.2.length) 1)
      | none => 0
    let image := match s.st.compaction with
      | some c => (Config.freeWord (s.free + 1)).toNat % (c.writes.foldl (fun (n : Nat) w => n + w.2.length) 65)
      | none => 0
    (s.storeCut group image).nextFree.nextFree

/-- A full START: straps, root PLL, fuses, SRAM, then the store.
DESIGN CHOICE, log 12: safe. DEDUCED, log 55: unsafe. DESIGN CHOICE, log 56: safe. -/
def State.fullStart (s : State) (cause : StartCause) : State :=
  -- what was being written stops short (Table 3.12)
  let s := s.cutWrites
  -- sessions close with REASON 4 (R490)
  let s := s.kmp.sessions.foldl (fun s x => s.sendKmp x.num 0x03 [0, 4, 0, 0]) s
  let s := s.gatesStop
  let old := s
  let hist := s.resetHist cause
  let keep : Nat := if cause = .powerOn then 0 else s.rg SEC_ZEROIZE
  let times := match cause with
    | .powerOn | .resetN => []
    | .resetFault => s.node.uptime :: s.recentResets
    | _ => s.flt.resetTimes
  let s : State := { State.reset with
    store := old.store, fuses := old.fuses, free := old.free, out := old.out, pending := old.pending
    node := { Node.reset with
      inReset := false, cause := cause, uptime := old.node.uptime, strapPins := old.node.strapPins, grade := old.node.grade }
    flt := { Flt.reset with resetTimes := times, supplyBad := old.flt.supplyBad }
    st := { StoreSt.reset with density := old.st.density } }
  let s := (s.setRg FLT_RESET_HIST hist).setRg SEC_ZEROIZE keep
  let s := (if old.errLow then s.emit (.errN false) else s).stopSelector old
  -- step 1
  let p := s.node.strapPins
  let s := (s.putBit F.GLB_STRAP_AMP_DEFAULT (p.testBit 0)).putBit F.GLB_STRAP_SVC_BOOT (p.testBit 1)
  let s := (s.putBit F.GLB_STRAP_IMG_BYPASS (p.testBit 2)).put F.GLB_STRAP_TW1_ADDR (fieldOf p 4 3)
  -- step 2
  let s := (((s.putBit F.CLK_STAT_ROOT_LOCK true).emit (.snsClk true)).checkRef 5).showSelector
  -- the collector runs from here on, and finds what stands (R447, R453)
  let s := if s.flt.supplyBad then s.latch 56 else s
  -- step 3
  let life := s.lifecycle
  let s := (s.put F.DBG_LEVEL_DEFAULT (debugDefault life)).put F.DBG_LEVEL_LEVEL (debugDefault life)
  if life = 4 then { s with node := { s.node with phase := .halted } }
  else if s.fuses.lifecycle.testBit 2 && !s.fuses.lifecycle.testBit 3 then
    { s with sec := { s.sec with erasing := true }, node := { s.node with phase := .halted } }
  else
    -- step 4
    let s := (s.put F.GLB_FW_VER_ROM_VER (Config.freeWord s.free).toNat).nextFree
    s.loadAndGo true

/-- POWER_ON: the supplies come into range; strap levels and the density of the store device attached are given.
DESIGN CHOICE, log 10: unsafe. -/
def effPowerOn (straps density : Nat) (s : State) : State :=
  if s.node.powered && !s.node.inReset then s
  else
    let s := { s with
      node := { s.node with powered := true, inReset := false, uptime := 0, strapPins := straps }
      st := { s.st with density := density % 4 } }
    s.fullStart .powerOn

/-- RESET_N_RISE (R64). DESIGN CHOICE, log 10: unsafe. -/
def effResetNRise (straps density : Nat) (s : State) : State :=
  if !s.node.powered || !s.node.inReset then s
  else
    let s := { s with
      node := { s.node with inReset := false, strapPins := straps }
      st := { s.st with density := density % 4 } }
    s.fullStart .resetN

/-- What is left when the supplies fail or RESET_N is low: the store as the writes in flight leave it (R115, R515), fuses,
and the erasure that the always-on logic runs while its supply stands (R516). -/
def State.stopAll (s : State) (group image : Nat) (powered : Bool) : State :=
  let s := (s.storeCut group image).gatesStop
  let keep := if powered then s.rg SEC_ZEROIZE else 0
  let t : State := { State.reset with
    store := s.store, fuses := s.fuses, free := s.free, out := s.out, pending := s.pending
    node := { Node.reset with
      powered := powered, inReset := powered, uptime := s.node.uptime, strapPins := s.node.strapPins, grade := s.node.grade }
    sec := { Sec.reset with erasing := powered && s.sec.erasing }
    st := { StoreSt.reset with density := s.st.density } }
  let t := (if s.errLow then t.emit (.errN false) else t).stopSelector s
  let t := if s.bit F.CLK_STAT_ROOT_LOCK then t.emit (.snsClk false) else t
  t.setRg SEC_ZEROIZE keep

/-- RESET_N_LOW (R515): bytes of the group and of the compaction in flight that reached the device.
DESIGN CHOICE, log 53: unsafe. -/
def effResetNLow (group image : Nat) (s : State) : State :=
  if !s.node.powered then s else if s.node.inReset then s else s.stopAll group image true

/-- POWER_LOSS (R115). DESIGN CHOICE, log 53: unsafe. -/
def effPowerLoss (group image : Nat) (s : State) : State :=
  if !s.node.powered then s else s.stopAll group image false

/-- RESET_FAULT_START (R449, R452): the pulse of a RESET-class latch has ended. DEDUCED, log 49: unsafe. -/
def effResetFaultStart (s : State) : State :=
  match s.flt.resetPending with
  | some _ =>
    if s.flt.pulsing && (s.get F.FLT_PIN_CTL_CLASS_EN).testBit 4 then s else s.fullStart .resetFault
  | none => s

/-! ## Image START (R63) -/

/-- Groups that wait are answered BUSY, committed ones take effect with the boot read. DEDUCED, log 54: unsafe. -/
def State.closeGroups (s : State) : State :=
  let s := s.st.waiting.foldl (fun s g => s.reply g.session 0x20 g.reqId 2 []) s
  let s := s.st.committed.foldl (fun s g => s.groupDone g false) s
  { s with st := { s.st with waiting := [], committed := [] } }

/-- The audio blocks are cleared before the tables are loaded again. -/
def State.clearAudio (s : State) : State :=
  let s := s.zeroStateAreas.zeroMem 0x20000000 0x2000000
  let s := s.firstUse
  let s := { s with
    audio := { Audio.reset with
      muteNet := s.audio.muteNet, muteOut := s.audio.muteOut, mutes := s.audio.mutes }
    str := ⟨[], [], [], [], []⟩
    pair := { s.pair with lastBlk := none, own := [], theirs := [], block := [], ckpt := [], countFrom := 0 } }
  let s := (List.range 64).foldl (fun s q => s.clearRg (PAIR_CHSEL_ALT q)) s
  (List.range 96).foldl (fun s b => (if s.outOfService b then s else s.clearTables b).showBrick b)
    { s.ampImageStart.showPatch with bricks := [] }

/-- IMAGE_START: the outputs are muted; steps 6 to 15 run. DEDUCED, log 55: unsafe. -/
def effImageStart (s : State) : State :=
  match s.node.phase with
  | .imageMute cause =>
    if !s.allMuted || s.st.writing.isSome then s
    else
      let s := { s with node := { s.node with phase := .none, cause := cause } }
      let s := if cause = .exitService && s.get F.GLB_MODE_REQ_STATUS = 1 then s.put F.GLB_MODE_REQ_STATUS 2 else s
      let s := ((s.setMode .start).masterReset 0).abandonCompaction
      let s := s.closeGroups.gatesStop.clearAudio
      let s := s.put F.FLT_RESET_HIST_DOWNGRADED 0
      s.loadAndGo false
  | _ => s

/-- FIRMWARE_UPDATE_DONE (R109): an update in SERVICE ends; outputs that wait for the start gate are muted already. -/
def effFirmwareUpdateDone (s : State) : State :=
  if s.node.mode = .service then s.askImageStart .firmwareUpdate else s

/-! ## The time step (R70, R273, R276) -/

/-- TIME_STEP: the mute is complete; the counter steps and first-use states return. The outputs ramp up at the first N that is a
multiple of 8 (R274). -/
def effTimeStep (s : State) : State :=
  match s.node.stepping with
  | none => s
  | some d =>
    if !s.allMuted then s
    else
      let s := (s.endWork.applyStep d).endClassFades
      let s := s.restartCopy
      if s.node.phase = .gate then
        (s.mapMuteAll (fun m => (⟨m.reasons ++ [MuteReason.firstLock], 0, 1, 0, 0⟩ : Mute))).firstAudio
      else s

/-- RESTEP (R276): the answer is the KMP status; a refusal shows in GLB_MODE_REQ. -/
def State.restep (s : State) (inst : Nat) : State × Nat :=
  let d := inst - 1
  let v := s.servo d
  if inst ≠ 1 && inst ≠ 2 then (s, 5)
  else if (s.node.mode ≠ .start && s.node.mode ≠ .service) || (v ≠ 3 && v ≠ 4 && v ≠ 6) then
    (s.put F.GLB_MODE_REQ_STATUS 3, 0xA)
  else
    let s := { s with node := { s.node with stepping := some d }, tu := { s.tu with restep := true } }
    let s := s.putBit F.TMS_STAT_STEP_PENDING true
    (if s.audio.running then s.muteAllOuts .firstLock else s, 0)

/-! ## Meanings of the commands -/

/-- POWER_ON (R67). -/
def execPowerOn (straps : Fin 128) (density : Fin 4) (s : State) : Result :=
  always s (effPowerOn straps.val density.val)

/-- RESET_N_RISE (R64). -/
def execResetNRise (straps : Fin 128) (density : Fin 4) (s : State) : Result :=
  always s (effResetNRise straps.val density.val)

/-- RESET_N_LOW (R515). -/
def execResetNLow (group : Nat) (image : Nat) (s : State) : Result :=
  always s (effResetNLow group image)

/-- START_GATE_TIMEOUT (R69). -/
def execStartGateTimeout (s : State) : Result :=
  runs s effStartGateTimeout

/-- RESET_FAULT_START (R449). -/
def execResetFaultStart (s : State) : Result :=
  runs s effResetFaultStart

/-- FIRMWARE_UPDATE_DONE (R109). -/
def execFirmwareUpdateDone (s : State) : Result :=
  runs s effFirmwareUpdateDone

/-- TIME_STEP (R273). -/
def execTimeStep (s : State) : Result :=
  runs s effTimeStep

/-- POWER_LOSS (R115). -/
def execPowerLoss (group : Nat) (image : Nat) (s : State) : Result :=
  always s (effPowerLoss group image)

end Sys2Proof.Machine
end

