-- ==== Sys2Proof/Machine/Power.lean ====
section
/-! DEFINITION. Power states, DORMANT entry, stay and wake (R465 to R477). -/

namespace Sys2Proof.Machine

/-! ## The schedule (R469) -/

/-- Nanoseconds of a day. -/
def dayNs : Int := 86400 * 1000000000

/-- The time counter in whole wide nanoseconds. -/
def State.wideNs (s : State) : Int := (s.node.time / 65536 : Nat)

/-- UTC_OFFSET of the selected PTP instance in ns, 0 when it has never been valid. -/
def State.utcNs (s : State) : Int :=
  let d := if s.selRef = 1 then 1 else 0
  if s.tu.utc.contains d then s.getS (F.TMS_PTP_UTC_UTC_OFFSET d) * 1000000000 else 0

/-- Latest occurrence of a SCHEDULE item at or before the present, and its next one, with its KIND; a single time is compared by
signed difference (R267). -/
def State.occurrences (s : State) (v : List Byte) : Option Int × Option Int × Bool :=
  let now := s.wideNs
  let time : Int := leAt v 0 8
  let sleep := leAt v 8 1 = 1
  let flags := leAt v 9 1
  if flags.testBit 0 then
    let off := if flags.testBit 1 then s.utcNs else 0
    let last := now - (now - off - time) % dayNs
    (if time + off ≤ last then some last else none, some (last + dayNs), sleep)
  else
    let at_ := now + signed 64 ((time - now) % 2 ^ 64).toNat
    if at_ ≤ now then (some at_, none, sleep) else (none, some at_, sleep)

/-- Every SCHEDULE item's occurrences. DEDUCED, log 44: unsafe. -/
def State.schedule (s : State) : List (Option Int × Option Int × Bool) :=
  ((Cfg.items s.st.cfg secSchedule).filter (fun (e : Nat × List Byte) => decide (e.1 < 256))).map (fun e => s.occurrences e.2)

/-- The schedule stands in SLEEP: the latest occurrence is a SLEEP, with no AWAKE at the same instant.
DEDUCED, log 44: unsafe. -/
def State.asleep (s : State) : Bool :=
  let best := s.schedule.foldl (fun (b : Option (Int × Bool)) o =>
    match o.1 with
    | none => b
    | some t =>
      match b with
      | none => some (t, o.2.2)
      | some (u, k) => if u < t then some (t, o.2.2) else if t = u then some (u, k && o.2.2) else b) none
  match best with
  | some (_, k) => k
  | none => false

/-- The next AWAKE occurrence. -/
def State.nextAwake (s : State) : Option Int :=
  s.schedule.foldl (fun (b : Option Int) o =>
    if o.2.2 then b
    else
      match b, o.2.1 with
      | some u, some t => some (min u t)
      | none, t => t
      | b, none => b) none

/-! ## Counted events (Table 17.2) -/

/-- A counted event: its counted time in wide ns, the state it needs, its PWR_TNEXT_SRC code. -/
structure Counted where
  at_ : Int
  needed : Nat
  src : Nat
deriving DecidableEq, Repr

/-- Wide time of an uptime that lies ahead. -/
def State.atUptime (s : State) (u : Nat) : Int := s.wideNs + ((u : Int) - s.node.uptime) / 65536

/-- M of R472 as a fraction of seconds. DESIGN CHOICE, log 46: unsafe. -/
def State.moorMax (s : State) : Nat × Nat :=
  let thr := s.get F.TMS_CTL_STEP_THR
  if s.bit F.CLK_STAT_HIST then (thr * 2 ^ 31, (s.getS F.CLK_MODEL_Y_H).natAbs * 1000000 + 2 ^ 32) else (thr, 100)

/-- A command names the Keeper timer that runs out next, in ns from now. -/
def State.setTimer (s : State) (timer : Option Nat) : State :=
  { s with pwr := { s.pwr with timer := timer.map (fun t => s.node.uptime + 65536 * t) } }

/-- The events of Table 17.2 that stand: Flash and keep-alives in DORMANT. -/
def State.countedEvents (s : State) : List Counted :=
  let dormant := s.node.mode = .dormant
  let awake := match s.nextAwake with
    | some t => [(⟨t - s.get F.PWR_CFG_PREWAKE * 1000000000, 0, 1⟩ : Counted)]
    | none => []
  let pulses := if s.bit F.PWR_CFG_PULSE_P4 then [] else s.tu.pulses.map (fun (e : Nat × PulseRun) =>
    let ahead := s.pulseAhead e.2
    (⟨s.wideNs + (if e.2.tick then ahead * 1000000000 / (s.fs : Int) else ahead / 65536), 3, 2⟩ : Counted))
  let flash := if dormant && s.paired then [(⟨s.atUptime (s.pwr.flashAt + 10 * 1000000000 * 65536), 3, 3⟩ : Counted)] else []
  let keep : List Counted := if dormant then [⟨s.atUptime (s.pwr.keepAt + 60 * 1000000000 * 65536), 3, 4⟩] else []
  let moor := if s.pwr.moored.isSome && s.get F.PWR_STAT_STATE = 4 then
      let m := s.moorMax
      [(⟨s.atUptime (s.pwr.mooredSince + m.1 * (1000000000 * 65536) / m.2), 3, 5⟩ : Counted)]
    else []
  let timers := match s.pwr.timer with
    | some u => if s.node.uptime < u then [(⟨s.atUptime u, 3, 6⟩ : Counted)] else []
    | none => []
  awake ++ pulses ++ flash ++ keep ++ moor ++ timers

/-- The earliest of some counted events. -/
def earliest (es : List Counted) : Option Counted :=
  es.foldl (fun (b : Option Counted) e =>
    match b with
    | none => some e
    | some x => if e.at_ < x.at_ then some e else b) none

/-- Wake latency L of a state in ns (Table 17.1). -/
def wakeLatency (p : Nat) : Int := if p = 2 then 500000 else if p = 3 then 30000000 else 900000000

/-- T_next of a state in ns (R471); none when nothing is counted that needs a shallower state.
DESIGN CHOICE, log 46: unsafe. -/
def State.tNext (s : State) (p : Nat) : Option Int :=
  (earliest (s.countedEvents.filter (fun e => decide (e.needed < p)))).map (fun e => e.at_ - s.wideNs)

/-! ## The conditions of R468 -/

/-- External ports with link. -/
def State.linkedPorts (s : State) : List Nat := (List.range 4).filter (fun p => s.bit (F.NET_PORT_STAT_LINK p))

/-- The failing conditions of R468 in the order of PWR_STAT.BLOCK, those that depend on the mode apart. -/
def State.blockRest (s : State) : List Bool :=
  [!s.bit F.PWR_CFG_DORMANT_EN, !s.node.lockedOnce, !s.asleep, s.pair.wc.isSome || s.pair.src.isSome,
    s.bit F.PAIR_RELIEF_BUSY || s.bit F.AMP_STAT_DIAG_BUSY, s.get F.DBG_LEVEL_LEVEL = 2, s.bit F.PWR_CTL_AWAKE_LOCK]

/-- PWR_STAT.BLOCK. -/
def State.pwrBlock (s : State) : Nat := bitsNat ((s.node.mode != .lead && s.node.mode != .shadow) :: s.blockRest)

/-- Held at P2 by FWD_FLOOR or a compaction (R468). DESIGN CHOICE, log 46: unsafe. -/
def State.floored (s : State) : Bool :=
  (s.bit F.PWR_CFG_FWD_FLOOR && decide (2 ≤ s.linkedPorts.length)) || s.st.compaction.isSome

/-- The selector is ACQUIRING or LOCKED on a reference. -/
def State.onRef (s : State) (r : Nat) : Bool := s.following && s.selRef = r

/-- A relock holds P3 (R472). DESIGN CHOICE, log 46: unsafe. -/
def State.relocking (s : State) : Bool :=
  match s.pwr.relock, s.pwr.moored with
  | some u, some r => decide (s.node.uptime < u) && !s.onRef r
  | _, _ => false

/-- The deepest permitted state (R468, Table 17.3, R472). -/
def State.deepest (s : State) : Nat :=
  let d := max 2 (min 4 (s.get F.PWR_CFG_DEEPEST))
  let wake := match s.pwr.floor with
    | some u => decide (s.node.uptime < u)
    | none => false
  if s.floored || s.pwr.waking.isSome then 2 else if wake || s.relocking then min 3 d else d

/-- A state of R471 is permitted. -/
def State.permitted (s : State) (p : Nat) : Bool :=
  p ≤ s.deepest && (match s.tNext p with
    | some t => decide (12 * wakeLatency p < 10 * t)
    | none => true)

/-- A deeper state may be entered: 1.2 × L + 2 s fits. -/
def State.enterable (s : State) (p : Nat) : Bool :=
  p ≤ s.deepest && (match s.tNext p with
    | some t => decide (12 * wakeLatency p + 20 * 1000000000 ≤ 10 * t)
    | none => true)

/-! ## Moving among P2, P3 and P4 -/

/-- A port stops with its power state: no link is reported lost. DEDUCED, log 45: unsafe. -/
def State.portOff (s : State) (p : Nat) : State :=
  if !s.bit (F.NET_PORT_STAT_LINK p) then s
  else
    let s := s.setPort p { s.port p with queues := Vector.replicate 4 [], sending := none, attempt := 0 }
    ((s.put (F.NET_PORT_STAT_RATE_NOW p) 0).putBit (F.NET_PORT_STAT_FEC_ON p) false).putBit (F.NET_PORT_STAT_LINK p) false

/-- The ports a state keeps: all in P2, the P3 port in P3, none in P4 (Table 17.1). DEDUCED, log 45: unsafe. -/
def State.portsFor (s : State) (p : Nat) : State :=
  (List.range 4).foldl (fun s q => if p ≤ 2 || (p = 3 && q = s.pwr.p3port) then s else s.portOff q) s

/-- Entry into P4: the selected reference is recorded, with when it was followed last (R472), the model holds (R300), the debug port is
disconnected (R501). -/
def State.moor (s : State) : State :=
  let since := match s.tu.sel.left with
    | some (r, u) => if s.following || some r ≠ s.selected then s.node.uptime else u
    | none => s.node.uptime
  let s := { s with pwr := { s.pwr with moored := s.selected, mooredSince := since } }
  let s := s.selStep (fun s =>
    let s := s.stopWtr
    let s := (List.range 5).foldl (fun s r => ((s.setQualified r false).putBit (F.REF_STAT_PRESENT r) false).setRf r RefSt.rest) s
    let s := s.mapSel (fun c => { c with base := 5 })
    ((s.put F.REF_SEL_STAT_SEL 7).put F.REF_SEL_STAT_TARGET 7).putBit F.REF_SEL_STAT_COMMITTED false)
  (s.putBit F.DBG_LEVEL_DISC true).masterReset 7

/-- Pass to power state `p` within DORMANT. DEDUCED, log 45: unsafe. -/
def State.goState (s : State) (p : Nat) : State :=
  let old := s.get F.PWR_STAT_STATE
  if p = old then s
  else
    let s := if 3 ≤ p && old < p then s.recordRef old else s
    let s := if p = 4 then s.moor else s
    let s := s.put F.PWR_STAT_STATE p
    let s := if old = 4 then s.unmoor else s
    let s := if old = 3 && p < 3 then s.requalify else s
    (s.portsFor p).tw0Next

/-- The state R471 would sink to. -/
def State.sinkTarget (s : State) : Nat :=
  let cur := s.get F.PWR_STAT_STATE
  if cur < 4 && s.enterable 4 then 4 else if cur < 3 && s.enterable 3 then 3 else cur

/-- Sink to the deepest state R471 permits, or propose it to a present client (R473). -/
def State.deepen (s : State) : State :=
  let p := s.sinkTarget
  if p = s.get F.PWR_STAT_STATE then s else if s.policyActs then s.goState p else s.propose (.deepen p)

/-! ## Leaving DORMANT (R475, R476) -/

/-- The engine reaches P0 in LEAD or SHADOW. -/
def State.awaken (s : State) (cause index : Nat) (shadow : Bool) : State :=
  let s := { s with node := { s.node with phase := .none } }
  let s := s.wakeAudio cause index
  ((s.ampTouched (AMP_RAIL_CFG 0) 0).setMode (if shadow then .shadow else .lead)).macsWake

/-- Leave DORMANT: at once without a pair, else after the listen window that starts now. -/
def State.leaveDormant (s : State) (cause index : Nat) : State :=
  if s.node.mode != .dormant || s.pwr.waking.isSome then s
  else if s.paired then
    let s := s.forgetBlk.goState 2
    { s with pwr := { s.pwr with waking := some (cause, index) }, node := { s.node with phase := .listen .lead false, heard := false } }
  else s.awaken cause index false

/-- The deepest permitted state, no deeper than the present one; 0 where DORMANT is to be left. -/
def State.riseTarget (s : State) : Nat :=
  let cur := s.get F.PWR_STAT_STATE
  if s.permitted cur then cur else if 3 < cur && s.permitted 3 then 3 else if 2 < cur && s.permitted 2 then 2 else 0

/-- The state R471 chooses, TARGET of PWR_STAT, in DORMANT. DESIGN CHOICE, log 46: unsafe. -/
def State.powerTarget (s : State) : Nat :=
  if s.riseTarget = s.get F.PWR_STAT_STATE then s.sinkTarget else s.riseTarget

/-- Rise to the deepest permitted state; a counted event that needs P0 leaves DORMANT (R471). -/
def State.rise (s : State) : State :=
  let cur := s.get F.PWR_STAT_STATE
  let p := s.riseTarget
  if p = cur then s
  else if p = 0 then
    let due := (earliest (s.countedEvents.filter (fun e => decide (e.needed < 2)))).map (fun e => (e.at_ * 65536).toNat)
    ({ s with pwr := { s.pwr with due := due } }).leaveDormant 1 0
  else
    let s := (s.put F.PWR_WAKE_STAT_CAUSE 1).put F.PWR_WAKE_STAT_INDEX 0
    (s.bump F.PWR_CNT_RISES).goState p

/-- The engine is in DORMANT and stays there. -/
def State.resting (s : State) : Bool := s.node.mode = .dormant && s.pwr.waking.isNone

/-- PWR_STAT: TARGET, FLOORED and RELOCKING as they stand in DORMANT. DESIGN CHOICE, log 46: unsafe. -/
def State.pwrImage (s : State) : Nat :=
  let dormant := s.node.mode = .dormant
  let v := withField (s.rg PWR_STAT) 4 3 (if dormant then s.powerTarget else 0)
  let v := withField v 19 1 (if dormant && s.floored then 1 else 0)
  let v := withField v 20 1 (if dormant && s.relocking then 1 else 0)
  withField (withField v 8 8 s.pwrBlock) 18 1 (if s.kmp.proposals.any (fun p => decide (p.act.matter = 6)) then 1 else 0)

/-- PWR_TNEXT and PWR_TNEXT_SRC: the earliest counted event (R471). -/
def State.tNextImage (s : State) : Nat × Nat :=
  match earliest s.countedEvents with
  | some e => (unsigned 64 e.at_, e.needed * 2 ^ 8 + e.src)
  | none => (0, 0)

/-- PWR_MOOR_MAX: M while a relock is due (R472). -/
def State.moorImage (s : State) : Nat :=
  if s.pwr.moored.isSome && s.get F.PWR_STAT_STATE = 4 then min 0xFFFFFFFF (s.moorMax.1 / s.moorMax.2) else 0

/-! ## Commands -/

/-- R468 holds or not: entry aborts, or DORMANT is left (Table 17.4). -/
def State.checkDormant (s : State) : State :=
  if s.node.mode = .dormant then (if s.blockRest.any (fun b => b) then s.leaveDormant 6 0 else s)
  else if s.pwrBlock = 0 then s else s.abortDormant

/-- SCHEDULE_OCCURRENCE (R469): a SLEEP or AWAKE time has arrived. -/
def effScheduleOccurrence (s : State) : State := (s.unbar .dormant).checkDormant

/-- The entry fade begins, and a compaction where the journal holds a group (R474). -/
def State.beginDormant (s : State) : State :=
  if s.pwrBlock != 0 || s.inTransition then s
  else
    let s := ({ s with pwr := { s.pwr with entering := true } }).muteAllOuts .dormant
    if s.rg STORE_JRN_START ≤ s.rg STORE_JRN_SEQ then s.ownCompaction else s

/-- DORMANT_DECIDE (R468, R471, R473). -/
def effDormantDecide (timer : Option Nat) (s : State) : State :=
  let s := s.setTimer timer
  if s.pwrBlock != 0 || s.inTransition || !s.enterable 2 then s
  else if s.policyActs then s.beginDormant
  else s.propose .dormant

/-- DORMANT_ENTER (R474 steps 4 and 5). -/
def effDormantEnter (timer : Option Nat) (s : State) : State :=
  if !s.pwr.entering || !s.allMuted then s
  else
    let port := if s.bit F.PWR_CFG_P3_AUTO then (s.linkedPorts.head?).getD (s.get F.PWR_CFG_P3_PORT) else s.get F.PWR_CFG_P3_PORT
    let s := { s with
      pwr := { s.pwr with
        entering := false, flashAt := s.node.uptime, keepAt := s.node.uptime
        waking := none, due := none, p3port := port }
      audio := { s.audio with running := false } }
    let s := (s.gatesStop.setMode .dormant).put F.PWR_STAT_STATE 2
    let s := s.bump F.PWR_CNT_ENTRIES
    let s := (List.range 4).foldl (fun s m => if s.bit (F.CBUS_CFG_EN m) then s.macStop m else s) s.settleAmp
    (s.setTimer timer).deepen

/-- POWER_DEEPEN (R471). -/
def effPowerDeepen (timer : Option Nat) (s : State) : State := if s.resting then (s.setTimer timer).deepen else s

/-- POWER_RISE (R471). -/
def effPowerRise (timer : Option Nat) (s : State) : State := if s.resting then (s.setTimer timer).rise else s

/-- KEEPALIVE_SEND (Table 17.2): membership reports of the enabled legs, and the announcements. -/
def effKeepaliveSend (s : State) : State :=
  if s.node.mode != .dormant || 4 ≤ s.get F.PWR_STAT_STATE then s
  else
    let s := s.legsOn.foldl (fun s e => s.reportLeg s e.1 e.2 true) (s.reportWatch (fun _ => true))
    ({ s with pwr := { s.pwr with keepAt := s.node.uptime } }).announceName.emit .presence

/-- A wake from P4 to P3 (Table 17.3). DEDUCED, log 45: unsafe. -/
def State.doze (s : State) (cause index : Nat) : State :=
  let s := ((s.put F.PWR_WAKE_STAT_CAUSE cause).put F.PWR_WAKE_STAT_INDEX index).bump F.PWR_CNT_RISES
  s.goState 3

/-- P3 is the deepest state for 30 s from now. -/
def State.floor30 (s : State) : State :=
  { s with pwr := { s.pwr with floor := some (s.node.uptime + 30 * 1000000000 * 65536) } }

/-- MOORED_RELOCK (R472): a P4 stay reaches M. -/
def effMooredRelock (s : State) : State :=
  if s.resting && s.get F.PWR_STAT_STATE = 4 && s.pwr.moored.isSome then s.doze 1 0 else s

/-- RELOCK_END (R472): the selector is on the reference again, or the 30 s have passed. -/
def effRelockEnd (s : State) : State :=
  if s.pwr.relock = none || s.relocking then s
  else
    { s with pwr := { s.pwr with relock := none, moored := none } }

/-- LINK_WAKE (R475): link up on an enabled port in P4. -/
def effLinkWake (p : Nat) (s : State) : State :=
  if s.resting && s.get F.PWR_STAT_STATE = 4 && s.bit (F.NET_PORT_CFG_EN p) && (s.get F.PWR_WAKE_CFG_LINK).testBit p then
    (s.doze 3 p).floor30
  else s

/-- TCAP_WAKE (R475): an accepted edge on an enabled capture input in P4. -/
def effTcapWake (j : Nat) (s : State) : State :=
  if s.resting && s.get F.PWR_STAT_STATE = 4 && (s.get F.PWR_WAKE_CFG_TCAP).testBit j then (s.doze 4 j).floor30 else s

/-- LEAVE_DORMANT (Table 17.4): R468 fails in DORMANT. -/
def effLeaveDormant (s : State) : State :=
  if s.resting && s.blockRest.any (fun b => b) then s.leaveDormant 6 0 else s

/-- WAKE (Table 17.3): from P2 and P3; a wake during the entry fade aborts it. -/
def State.wakeCommand (s : State) : State :=
  if s.pwr.entering then s.abortDormant
  else if s.resting && s.get F.PWR_STAT_STATE ≤ 3 then s.leaveDormant 2 0
  else s

/-- LISTEN_WINDOW_END (R311). -/
def effListenWindowEnd (s : State) : State :=
  match s.node.phase with
  | .listen dest _ =>
    match s.pwr.waking with
    | some (c, i) => s.awaken c i s.node.heard
    | none => s.finishStart (if dest = .lead && s.node.heard then .shadow else dest)
  | _ => s

/-! ## Meanings of the commands -/

/-- SCHEDULE_OCCURRENCE (R469). -/
def execScheduleOccurrence (s : State) : Result :=
  runs s effScheduleOccurrence

/-- DORMANT_DECIDE (R471). -/
def execDormantDecide (timer : Option Nat) (s : State) : Result :=
  runs s (effDormantDecide timer)

/-- DORMANT_ENTER (R474). -/
def execDormantEnter (timer : Option Nat) (s : State) : Result :=
  runs s (effDormantEnter timer)

/-- POWER_RISE (R471). -/
def execPowerRise (timer : Option Nat) (s : State) : Result :=
  runs s (effPowerRise timer)

/-- KEEPALIVE_SEND (R470). -/
def execKeepaliveSend (s : State) : Result :=
  runs s effKeepaliveSend

/-- MOORED_RELOCK (R472). -/
def execMooredRelock (s : State) : Result :=
  runs s effMooredRelock

/-- RELOCK_END (R472). -/
def execRelockEnd (s : State) : Result :=
  runs s effRelockEnd

/-- LINK_WAKE (R475). -/
def execLinkWake (p : Fin 4) (s : State) : Result :=
  runs s (effLinkWake p.val)

/-- TCAP_WAKE (R475). -/
def execTcapWake (j : Fin 16) (s : State) : Result :=
  runs s (effTcapWake j.val)

/-- LEAVE_DORMANT (R476). -/
def execLeaveDormant (s : State) : Result :=
  runs s effLeaveDormant

/-- POWER_DEEPEN (R471). -/
def execPowerDeepen (timer : Option Nat) (s : State) : Result :=
  runs s (effPowerDeepen timer)

end Sys2Proof.Machine
end

