-- ==== Sys2Proof/Machine/Modes.lean ====
section
/-! DEFINITION. Mode requests: HOLD, SERVICE, RELEASE, EXIT_SERVICE, SWAP and reset (R59 to R62, R84, GLB_MODE_REQ). -/

namespace Sys2Proof.Machine

/-- Table 2.2 allows SERVICE from the present mode; a FULL unlock in SEALED stays in HOLD (Table 17.10). -/
def State.serviceAllowed (s : State) : Bool :=
  (s.node.mode = .beacon || s.node.mode = .lead || s.node.mode = .shadow || s.node.mode = .hold) && !s.sec.unlocked

/-- Enter SERVICE. A compaction in progress is abandoned, and begins again if its cause holds (Table 3.11). -/
def State.enterService (s : State) : State :=
  let s := s.abandonCompaction.unmuteOuts .hold
  let s := { s with node := { s.node with released := false } }
  ((s.setMode .service).serviceMute).fillCheck

/-- GLB_MODE_REQ.STATUS is set. -/
def State.reqStatus (s : State) (v : Nat) : State := s.put F.GLB_MODE_REQ_STATUS v

/-- A request waits for the end of the transition in progress (R61). -/
def State.waitRequest (s : State) (req : Nat) : State :=
  ({ s with node := { s.node with asked := s.node.asked ++ [req] } }).reqStatus 1

/-- HOLD: from BEACON, LEAD, SHADOW, SERVICE and DORMANT. -/
def State.requestHold (s : State) : State :=
  match s.node.mode with
  | .beacon | .lead | .shadow | .service | .dormant => (s.enterHold none).reqStatus 2
  | _ => s.reqStatus 3

/-- SERVICE: from BEACON, LEAD, SHADOW and HOLD; in the Ts of a NODE_HOLD latch it is refused (R61). DEDUCED, log 47: unsafe. -/
def State.requestService (s : State) : State :=
  if !s.serviceAllowed || s.node.holdNow then s.reqStatus 3
  else if s.inTransition then s.waitRequest 6
  else
    let s := s.enterService.reqStatus 2
    { s with node := { s.node with serviceNow := true } }

/-- RELEASE (R60): HOLD is left now or once its other conditions hold. -/
def State.requestRelease (s : State) : State :=
  if s.node.mode != .hold then s.reqStatus 3
  else (({ s with node := { s.node with released := true } }).reqStatus 1).tryRelease

/-- EXIT_SERVICE: an image START follows its mute. DEDUCED, log 47: unsafe. -/
def State.requestExit (s : State) : State :=
  if s.node.mode != .service then s.reqStatus 3
  else if s.inTransition then s.waitRequest 9
  else (s.reqStatus 1).askImageStart .exitService

/-- SWAP (R333): in LEAD and SHADOW of a pair. DEDUCED, log 47: unsafe. -/
def State.requestSwap (s : State) : State :=
  if !((s.node.mode = .lead || s.node.mode = .shadow) && s.paired) then s.reqStatus 3
  else if s.inTransition then s.waitRequest 10
  else (s.reqStatus 1).announce true

/-- A mode request by its code; a reserved code has no effect (R23). DEDUCED, log 28: unsafe. -/
def State.modeRequest (s : State) (req : Nat) : State :=
  match req with
  | 5 => s.requestHold
  | 6 => s.requestService
  | 8 => s.requestRelease
  | 9 => s.requestExit
  | 10 => s.requestSwap
  | 15 => s.fullStart .kmpReset
  | _ => s

/-- What waited for the end of a transition is acted on in order (R61), up to the first that begins another; STATUS is that of
the last request. -/
def State.serveAsked : Nat → State → State
  | 0, s => s
  | n + 1, s =>
    if s.inTransition || s.node.mode = .start || s.node.mode = .replay then s
    else match s.node.startAsked with
    | some c => if s.node.mode = .dormant then s else s.askImageStart c
    | none =>
      match s.node.asked with
      | [] => s
      | q :: qs =>
        let s := ({ s with node := { s.node with asked := qs } } : State).modeRequest q
        State.serveAsked n (if qs.isEmpty then s else s.reqStatus 1)

/-- A transition may have ended: what waited is acted on. -/
def State.settleModes (s : State) : State := s.serveAsked (s.node.asked.length + 1)

/-- The codes of GLB_MODE_REQ.REQ that are not reserved. -/
def modeCode (req : Nat) : Bool := req = 5 || req = 6 || req = 8 || req = 9 || req = 10 || req = 15

/-! ## Meanings of the commands -/

/-- LISTEN_WINDOW_END (R311). -/
def execListenWindowEnd (s : State) : Result :=
  runs s (fun s => (effListenWindowEnd s).settleModes)

/-- IMAGE_START (R63). -/
def execImageStart (s : State) : Result :=
  runs s (fun s => (effImageStart s).settleModes)

/-- HANDOVER_EFFECTIVE (R331). -/
def execHandoverEffective (s : State) : Result :=
  runs s (fun s => (effHandoverEffective s).settleModes)

/-- SWAP_ABANDON (R333). -/
def execSwapAbandon (s : State) : Result :=
  runs s (fun s => (effSwapAbandon s).settleModes)

end Sys2Proof.Machine
end

