-- ==== Sys2Proof/Machine/Security.lean ====
section
/-! DEFINITION. The security lifecycle, provisioning and the debug levels (R478 to R483, R496 to R502). -/

namespace Sys2Proof.Machine

/-- `n` random bytes of the engine. -/
def State.randomBytes (s : State) (n : Nat) : List Byte := (Config.random s.free ++ List.replicate n 0).take n

/-- Blow one bit of the LIFECYCLE bank; a blown bit stays blown (R479). -/
def State.blow (s : State) (k : Nat) : State :=
  { s with fuses := { s.fuses with
    lifecycle := if s.fuses.lifecycle.testBit k then s.fuses.lifecycle else s.fuses.lifecycle + 2 ^ k } }

/-! ## Provisioning (R480): each answers a KMP status -/

/-- Provisioning banks: 0 MEDIUM, 1 K_DEV, 2 K_SIGN and SIGN_PUB, 3 OWNER_PUB. -/
def State.bankFree (s : State) (k : Nat) : Bool := !s.fuses.written.contains k && !s.fuses.failed.contains k

/-- Write one bank; `ok` tells whether it reads back. DEDUCED, log 43: unsafe. -/
def State.writeBank (s : State) (k : Nat) (ok : Bool) (f : Fuses → Fuses) : State × Nat :=
  if s.lifecycle != 0 then (s, 0xB)
  else if !s.bankFree k then (s, 0xA)
  else if ok then
    let u := f s.fuses
    ({ s with fuses := { u with written := k :: u.written } }, 0)
  else ({ s with fuses := { s.fuses with failed := k :: s.fuses.failed } }, 9)

/-- SET_MEDIUM. DEDUCED, log 43: unsafe. -/
def State.setMedium (s : State) (m : Nat) (ok : Bool) : State × Nat :=
  if s.lifecycle = 0 && m != 1 && m != 2 then (s, 5) else s.writeBank 0 ok (fun u => { u with medium := m })

/-- SET_DEVICE_KEY. -/
def State.setDeviceKey (s : State) (key : List Byte) (ok : Bool) : State × Nat := s.writeBank 1 ok (fun u => { u with kDev := key })

/-- GEN_SIGN_KEY: the scalar is drawn on die. -/
def State.genSignKey (s : State) (ok : Bool) : State × Nat :=
  let d := beNat (s.randomBytes 32) % (p256n - 1) + 1
  let r := s.writeBank 2 ok (fun u => { u with kSign := beBytes 32 d, signPub := ecdsaPublic d })
  (r.1.nextFree, r.2)

/-- SET_OWNER_KEY. -/
def State.setOwnerKey (s : State) (key : List Byte) (ok : Bool) : State × Nat := s.writeBank 3 ok (fun u => { u with ownerPub := key })

/-- KEY_CHK over the key banks (Table 17.6). -/
def Fuses.check (u : Fuses) : Nat := crc32c (u.kDev ++ u.kSign ++ u.ownerPub)

/-- COMMIT is accepted when every bank is written and verified. -/
def State.commitReady (s : State) : Bool := [0, 1, 2, 3].all (fun k => s.fuses.written.contains k) && s.fuses.failed.isEmpty

/-- Why a lifecycle change is refused: a KMP status; 0 when it is not. Codes of SEC_CMD.OP; `auth` for an authenticated
session, `debug` for a debug command at FULL (Table 17.7). -/
def State.lifecycleRefusal (s : State) (op : Nat) (auth : Bool) : Nat :=
  let life := s.lifecycle
  if s.sec.erasing then 0xB
  else match op with
    | 1 => if life != 0 then 0xB else if s.commitReady then 0 else 0xA
    | 2 =>
      if life != 1 then 0xB
      else if !auth then 0xC
      else
        match s.boot true with
        | (some b, none) => if b.marker.slot % 2 = s.get F.STORE_STAT_ACTIVE_SLOT && b.endSeq = s.rg STORE_JRN_SEQ then 0 else 0xA
        | _ => 0xA
    | 3 => if life != 1 && life != 2 then 0xB else if life = 2 && !auth then 0xC else 0
    | 4 => if life = 4 then 0xB else if life = 2 && !auth then 0xC else 0
    | _ => 5

/-- The erasure of R482 begins: RETURN_BEGIN is blown; the rest runs on the always-on logic. -/
def State.beginReturn (s : State) : State := { (s.blow 2) with sec := { (s.blow 2).sec with erasing := true } }

/-- Carry out a lifecycle change that nothing refuses (Table 17.7). -/
def State.lifecycleChange (s : State) (op : Nat) : State :=
  match op with
  | 1 => ({ s with fuses := { s.fuses with keyChk := s.fuses.check } }.blow 0).fullStart .lifecycle
  | 2 => (s.blow 1).fullStart .lifecycle
  | 3 => s.beginReturn
  | 4 => (s.blow 4).fullStart .lifecycle
  | _ => s

/-- ZEROIZE_N_LOW: ZEROIZE_N has been low for 100 ms; `still` tells whether it stays low (R482, R516).
DEDUCED, log 43: unsafe. -/
def effZeroizeNLow (still : Bool) (s : State) : State :=
  if !s.node.powered then s
  else
    let s := s.putBit F.SEC_ZEROIZE_LEVEL still
    let life := s.lifecycle
    if (life = 1 || life = 2) && !s.fuses.lifecycle.testBit 2 then (s.beginReturn).putBit F.SEC_ZEROIZE_EVENT true else s

/-- RETURN_ERASE_DONE: K_DEV and K_SIGN read all ones; RETURN is blown and a full START begins (R482). -/
def effReturnEraseDone (s : State) : State :=
  if !s.node.powered || !s.fuses.lifecycle.testBit 2 || s.fuses.lifecycle.testBit 3 then s
  else
    let s := { s with
      fuses := { s.fuses with kDev := List.replicate 32 0xFF, kSign := List.replicate 32 0xFF }
      sec := { s.sec with erasing := false } }
    let s := s.blow 3
    if s.node.inReset then s else s.fullStart .lifecycle

/-! ## Debug levels (R497 to R502) -/

/-- The level set, with the debug master reset by the change (R432); FULL keeps the engine out of DORMANT (R468). -/
def State.setLevel (s : State) (l : Nat) : State :=
  if s.get F.DBG_LEVEL_LEVEL = l then s else ((s.put F.DBG_LEVEL_LEVEL l).masterReset 7).checkDormant

/-- An unlock ends; the level falls to `l` (R500). -/
def State.endUnlock (s : State) (l : Nat) : State :=
  if !s.sec.unlocked then s
  else
    let s := ({ s with sec := { s.sec with unlocked := false } }).putBit F.DBG_LEVEL_UNLOCKED false
    (s.setLevel l).tryRelease

/-- A level may be reached by DBG_REQ (`ctl` false) or DBG_CTL in the lifecycle state (Table 17.10). -/
def levelAllowed (life l : Nat) (ctl : Bool) : Bool :=
  match life with
  | 0 => !ctl && (l = 0 || l = 1)
  | 1 => l ≤ 2
  | 2 => !ctl && (l = 0 || l = 1)
  | 3 => !ctl && l ≤ 2
  | _ => false

/-- A request for a level (R498): the state, and whether it is done. -/
def State.requestLevel (s : State) (l : Nat) (ctl : Bool) : State × Bool :=
  if levelAllowed s.lifecycle l ctl then
    (if s.sec.unlocked && l < 2 then s.endUnlock l else s.setLevel l, true)
  else (s.bump F.DBG_CNT_REQ_REFUSED, false)

/-- DBG_CTL.REQ on behalf of the CONTROLLER. DEDUCED, log 41: unsafe. -/
def State.debugControl (s : State) (l : Nat) : State :=
  let r := s.requestLevel l true
  r.1.put F.DBG_CTL_STATUS (if r.2 then 1 else 2)

/-- The debug port acts: connected, not in SCRAPPED. -/
def State.tapOn (s : State) : Bool := !s.bit F.DBG_LEVEL_DISC && s.lifecycle != 4

/-- TCK has been seen; a TAP instruction other than EXTEST ends EXTEST. -/
def State.tapSeen (s : State) : State :=
  if s.bit F.DBG_LEVEL_DISC then s
  else ({ s with sec := { s.sec with extest := false } }).putBit F.DBG_LEVEL_CONNECTED true

/-- Shift out bits at TDO. -/
def State.tdo (s : State) (bits v : Nat) : State := s.emit (.tdo bits v)

/-- BYPASS, and every instruction that does not act: one bit. DEDUCED, log 42: unsafe. -/
def State.bypass (s : State) : State := if s.bit F.DBG_LEVEL_DISC then s else s.tapSeen.tdo 1 0

/-- IDCODE (R525): VERSION 2 (B0), PART 0x1024, MANUFACTURER 0x4D5. DEDUCED, log 42: unsafe. -/
def effIdcode (s : State) : State := if s.bit F.DBG_LEVEL_DISC then s else s.tapSeen.tdo 32 0x210249AB

/-- BYPASS. -/
def effBypass (s : State) : State := s.bypass

/-- SAMPLE/PRELOAD: `bits` bits shifted in as `v`; what the cells sampled comes out and is not determined. -/
def effSamplePreload (bits v : Nat) (s : State) : State :=
  if !s.tapOn || s.get F.DBG_LEVEL_LEVEL != 2 then s.bypass
  else
    let s := { s.tapSeen with sec := { s.tapSeen.sec with boundary := some (v % 2 ^ bits) } }
    (s.tdo bits ((Config.freeWord s.free).toNat % 2 ^ bits)).nextFree

/-- EXTEST: at FULL, in SERVICE and HOLD. -/
def effExtest (bits v : Nat) (s : State) : State :=
  if !s.tapOn || s.get F.DBG_LEVEL_LEVEL != 2 || (s.node.mode != .service && s.node.mode != .hold) then s.bypass
  else
    let s := { s.tapSeen with sec := { s.tapSeen.sec with boundary := some (v % 2 ^ bits), extest := true } }
    (s.tdo bits ((Config.freeWord s.free).toNat % 2 ^ bits)).nextFree

/-- DBG_STATUS: the DBG_LEVEL image. -/
def effDbgStatus (s : State) : State := if !s.tapOn then s.bypass else s.tapSeen.tdo 32 (s.tapSeen.rg DBG_LEVEL)

/-- DBG_REQ: a level requested. -/
def effDbgReq (l : Nat) (s : State) : State := if !s.tapOn then s.bypass else (s.tapSeen.requestLevel l false).1.tdo 2 0

/-- DBG_CHAL: a fresh challenge, in SEALED and not within 1 s of a failure (R499). DEDUCED, log 42: unsafe. -/
def effDbgChal (s : State) : State :=
  if !s.tapOn || s.lifecycle != 2 then s.bypass
  else if s.sec.backoff then s.tapSeen.tdo (8 * 32) 0
  else
    let c := s.randomBytes 32
    let s := ({ s with sec := { s.sec with challenge := some c } }).nextFree
    s.tapSeen.tdo (8 * 32) (beNat c)

/-- What the owner signs for an unlock. -/
def State.unlockDigest (s : State) (c : List Byte) : List Byte :=
  sha256 (ascii "KAMYAN-UNLOCK-1" ++ leBytes 8 s.fuses.deviceId ++ c)

/-- A signature unlocks the valid challenge. -/
def State.unlockGood (s : State) (sig : List Byte) : Bool :=
  match s.sec.challenge with
  | some c => sig.length == 64 && s.keysUsable && ecdsaVerify s.fuses.ownerPub (s.unlockDigest c) sig
  | none => false

/-- In HOLD an unlocked port is at FULL; entering HOLD sets the level otherwise. -/
def State.unlockLevel (s : State) : State := if s.node.mode = .hold then s.setLevel 2 else s

/-- An unlock succeeds: DBG_UNLOCK latches, HOLD is entered at FULL. DEDUCED, log 42: unsafe. -/
def State.unlock (s : State) : State :=
  let s := { s with sec := { s.sec with challenge := none, unlocked := true } }
  let s := ((s.bump F.DBG_CNT_UNLOCKS).putBit F.DBG_LEVEL_UNLOCKED true).latch 53
  s.unlockLevel

/-- DBG_UNLOCK: the signature is checked against OWNER_PUB (R499). -/
def effDbgUnlock (sig : List Byte) (s : State) : State :=
  if !s.tapOn || s.lifecycle != 2 || 16 ≤ s.sec.failures then s.bypass
  else
    let s := s.tapSeen
    if s.unlockGood sig then s.unlock
    else
      ({ s with sec := { s.sec with challenge := none, backoff := true, failures := s.sec.failures + 1 } }).bump F.DBG_CNT_UNLOCK_FAIL

/-- DBG_TAP_RESET: Test-Logic-Reset ends an unlock (R500). -/
def effDbgTapReset (s : State) : State :=
  if s.bit F.DBG_LEVEL_DISC then s
  else ({ s.tapSeen with sec := { s.tapSeen.sec with extest := false } }).endUnlock (debugDefault s.lifecycle)

/-- DBG_TCK_LOSS: TCK has been absent for 1 s (R500). -/
def effDbgTckLoss (s : State) : State := (s.putBit F.DBG_LEVEL_CONNECTED false).endUnlock (debugDefault s.lifecycle)

/-- DBG_CHALLENGE_EXPIRY: 60 s have passed since the challenge. -/
def effDbgChallengeExpiry (s : State) : State := { s with sec := { s.sec with challenge := none } }

/-- DBG_UNLOCK_BACKOFF_END: 1 s has passed since a failed unlock. -/
def effDbgUnlockBackoffEnd (s : State) : State := { s with sec := { s.sec with backoff := false } }

/-- Images of the SEC identity registers from the fuses. -/
def State.fuseStat (s : State) : Nat :=
  let u := s.fuses
  bitsNat [u.written.contains 1, u.written.contains 2, u.written.contains 3, u.written.contains 0, u.keyChk = u.check,
    u.kDev.all (fun b => b == 0xFF) && u.kSign.all (fun b => b == 0xFF)]

/-- SEC_LIFECYCLE. -/
def State.lifecycleImage (s : State) : Nat :=
  let l := s.fuses.lifecycle
  l % 32 + s.lifecycle * 256 + (if l.testBit 2 && !l.testBit 3 then 2048 else 0)

/-! ## Meanings of the commands -/

/-- ZEROIZE_N_LOW (R482). -/
def execZeroizeNLow (still : Bool) (s : State) : Result :=
  always s (effZeroizeNLow still)

/-- IDCODE (R525). -/
def execIdcode (s : State) : Result :=
  tapRuns s effIdcode

/-- SAMPLE_PRELOAD (R496). -/
def execSamplePreload (bits : Nat) (v : Nat) (s : State) : Result :=
  tapRuns s (effSamplePreload bits v)

/-- EXTEST (R496). -/
def execExtest (bits : Nat) (v : Nat) (s : State) : Result :=
  tapRuns s (effExtest bits v)

/-- DBG_STATUS (R496). -/
def execDbgStatus (s : State) : Result :=
  tapRuns s effDbgStatus

/-- DBG_REQ (R498). -/
def execDbgReq (l : Fin 4) (s : State) : Result :=
  tapRuns s (effDbgReq l.val)

/-- DBG_CHAL (R499). -/
def execDbgChal (s : State) : Result :=
  tapRuns s effDbgChal

/-- DBG_UNLOCK (R499). -/
def execDbgUnlock (sig : Vector Byte 64) (s : State) : Result :=
  tapRuns s (effDbgUnlock sig.toList)

/-- BYPASS (R496). -/
def execBypass (s : State) : Result :=
  tapRuns s effBypass

/-- DBG_TAP_RESET (R500). -/
def execDbgTapReset (s : State) : Result :=
  tapRuns s effDbgTapReset

/-- DBG_TCK_LOSS (R500). -/
def execDbgTckLoss (s : State) : Result :=
  tapRuns s effDbgTckLoss

/-- DBG_CHALLENGE_EXPIRY (R499). -/
def execDbgChallengeExpiry (s : State) : Result :=
  tapRuns s effDbgChallengeExpiry

/-- DBG_UNLOCK_BACKOFF_END (R499). -/
def execDbgUnlockBackoffEnd (s : State) : Result :=
  tapRuns s effDbgUnlockBackoffEnd

/-- RETURN_ERASE_DONE (R482). -/
def execReturnEraseDone (s : State) : Result :=
  always s effReturnEraseDone

end Sys2Proof.Machine
end

