-- ==== Sys2Proof/Machine/RegBus.lean ====
section
/-! DEFINITION. The register bus: what a register reads as, field by field (R21 to R26), who may reach and write it (R33,
Table 17.8 and the writer rules of each block), and what a write brings about. -/

namespace Sys2Proof.Machine

/-! ## Units gated and the power state (R467, R465) -/

/-- Bricks with an enabled trigger entry. -/
def State.triggered (s : State) : List Nat :=
  ((s.regs.filter (fun (e : Nat × Word64) =>
    decide (0x2000000 ≤ e.1 ∧ e.1 < 0x2600000 ∧ 0x100 ≤ e.1 % 0x10000 ∧ e.1 % 0x10000 < 0x140) && e.2.getLsbD 31)).map
      (fun e => (e.1 - 0x2000000) / 0x10000)).eraseDups

/-- The changes that take effect at the next tick: those of the committed groups due then. -/
def State.soonChanges (s : State) : List Change :=
  (s.st.committed.filter (fun g => match g.applyAt with
    | some a => decide (signedDiff a ((s.node.n.toNat + 1) % 2 ^ 64) ≤ 0)
    | none => s.banksWritten g.endSeq)).flatMap (fun g => (groupChanges g.plain []).getD [])

/-- The register images that take effect at the next tick: those of the changes, and what waits for the output stage. -/
def State.soonImages (s : State) : List (Nat × Nat) :=
  let chs := s.soonChanges
  let c := Cfg.apply s.st.cfg chs
  chs.flatMap (fun ch => Cfg.images c ch.1 ch.2.1) ++ s.amp.parked

/-- A bit is set, or will be at the next tick. -/
def State.bitSoon (s : State) (imgs : List (Nat × Nat)) (f : Fld) : Bool :=
  s.bit f || imgs.any (fun e => e.1 == f.addr && e.2.testBit f.lo)

/-- The Bricks that will have an enabled trigger entry at the next tick and have none now. -/
def State.triggeredSoon (s : State) : List Nat :=
  let chs := s.soonChanges
  let c := Cfg.apply s.st.cfg chs
  (((touchedBricks chs).filter (fun l => c.running l)).map s.physOf).filter (fun b => !s.triggered.contains b)

/-- PWR_GATED: ports, modulator channels, Bricks and TDM ports gated; a unit is ungated one tick before a change first uses it (R467).
In DORMANT it shows the units that Table 17.1 stops. DEDUCED, log 41: unsafe. -/
def State.gated (s : State) : Nat :=
  if s.node.mode = .dormant then
    let st := s.get F.PWR_STAT_STATE
    let ports := bitsNat ((List.range 4).map (fun p => !s.bit (F.NET_PORT_CFG_EN p) || st = 4 || (st = 3 && p ≠ s.pwr.p3port)))
    ports + 64 * 2 ^ 8 + 96 * 2 ^ 16 + 255 * 2 ^ 24
  else
    let imgs := s.soonImages
    let ports := bitsNat ((List.range 4).map (fun p => !s.bitSoon imgs (F.NET_PORT_CFG_EN p)))
    let mods := ((List.range 64).filter (fun m => (s.ch m).state = .off
      && !(s.audio.running && !s.bit (F.AMP_CH_CFG_EN m) && s.bitSoon imgs (F.AMP_CH_CFG_EN m)))).length
    let tdm := bitsNat ((List.range 8).map (fun p => !s.bitSoon imgs (F.GLB_TDM_CFG_EN p)))
    ports + mods * 2 ^ 8 + (96 - s.triggered.length - s.triggeredSoon.length) * 2 ^ 16 + tdm * 2 ^ 24

/-- A unit is gated: those of PWR_GATED, or a control-bus MAC. -/
def State.anyGated (s : State) : Bool :=
  s.gated != 0 || (let imgs := s.soonImages; (List.range 4).any (fun m => !s.bitSoon imgs (F.CBUS_CFG_EN m)))

/-- The power state in force: P0, P1 while a unit is gated, and in DORMANT the state the power controller stands in.
DEDUCED, log 41: unsafe. -/
def State.pstate (s : State) : Nat :=
  if s.node.mode = .dormant then s.get F.PWR_STAT_STATE else if s.anyGated then 1 else 0

/-! ## What registers show that the register file does not hold -/

/-- GLB_MODE. -/
def State.modeImage (s : State) : Nat :=
  let n := s.node
  n.mode.code + n.prevMode.code * 2 ^ 4 + n.cause.code * 2 ^ 8 + (if n.role = .amplifier then 2 ^ 12 else 0)
    + (if n.fs96 then 2 ^ 13 else 0) + s.pstate * 2 ^ 16 + (if n.lockedOnce then 2 ^ 20 else 0) + (if s.present then 2 ^ 21 else 0)

/-- SEC_KMP_STAT. -/
def State.kmpStat (s : State) : Nat :=
  let ss := s.kmp.sessions
  ss.length % 16 + (ss.filter (fun x => x.auth)).length % 16 * 2 ^ 4 + (match s.kmp.controller with
    | some n => 2 ^ 8 + n % 16 * 2 ^ 12
    | none => 0)

/-- Four bytes of a key, the first in the high bits. -/
def keyWord (k : List Byte) (i : Nat) : Nat := beAt k (4 * i) 4

/-- The key of a master's TMS_NOW capture. -/
def masterKey : Master → Nat
  | .keeper => 0
  | .session n => n % 16
  | .tw1 => 16
  | .debug => 17

/-- The TMS_NOW registers as master `m` captured them (R533). -/
def State.nowImage (s : State) (m : Master) (a : Nat) : Nat :=
  match tget s.tu.now (masterKey m) with
  | none => 0
  | some (t, n) =>
    if a = TMS_NOW_NS then t / 65536 % 1000000000 * 2 ^ 32 + t % 65536 * 2 ^ 16
    else if a = TMS_NOW_SEC then t / (65536 * 1000000000) % 2 ^ 48
    else if a = TMS_NOW_WNS then t / 65536 % 2 ^ 64
    else n

/-- The value of the register at base address `a`, for master `m`. DEDUCED, log 41: unsafe. -/
def State.view (s : State) (m : Master) (a : Nat) : Nat :=
  if a = GLB_ID then 0x10241000 + s.node.grade % 16
  else if a = GLB_MODE then s.modeImage
  else if a = PAIR_STAT then s.pairImage
  else if a = PAIR_CLAIM then withField (s.rg a) 0 16 s.claim
  else if 0x2000000 ≤ a ∧ a < 0x2600000 then (s.showBrick ((a - 0x2000000) / 0x10000)).lastWritten a
  else if a = FLT_RESET_HIST then withField (s.rg a) 24 8 (min 255 s.recentResets.length)
  else if a = FLT_CAUSE then bitsNat ((List.range 64).map (fun k => s.causePresent k))
  else if a = FLT_CHAN_SAFE then bitsNat ((List.range 64).map (fun c => s.flt.chanSafe.any (fun e => e.2 == c)))
  else if a = FLT_PIN_STAT then (if s.errLow then 0 else 1) + (if s.flt.pulsing then 2 else 0)
  else if a = STR_STAT then
    ((List.range 256).filter (fun k => s.bit (F.STR_RX_CFG_EN k))).length
      + ((List.range 256).filter (fun k => s.bit (F.STR_TX_CFG_EN k))).length * 2 ^ 16
  else if a = NET_SW_MAC then s.fuses.mac % 2 ^ 48
  else if a = SEC_LIFECYCLE then s.lifecycleImage
  else if a = SEC_DEV_ID then s.fuses.deviceId % 2 ^ 64
  else if a = SEC_FUSE_STAT then s.fuseStat
  else if SEC_SIGN_PUB 0 ≤ a ∧ a < SEC_SIGN_PUB 16 then keyWord s.fuses.signPub ((a - SEC_SIGN_PUB 0) / 4)
  else if SEC_OWNER_PUB 0 ≤ a ∧ a < SEC_OWNER_PUB 16 then keyWord s.fuses.ownerPub ((a - SEC_OWNER_PUB 0) / 4)
  else if a = SEC_KMP_STAT then s.kmpStat
  else if DBG_CHAL 0 ≤ a ∧ a < DBG_CHAL 8 then keyWord (s.sec.challenge.getD []) ((a - DBG_CHAL 0) / 4)
  else if a = PWR_GATED then s.gated
  else if a = PWR_STAT then withField s.pwrImage 0 3 s.pstate
  else if a = PWR_TNEXT then s.tNextImage.1
  else if a = PWR_TNEXT_SRC then s.tNextImage.2
  else if a = PWR_MOOR_MAX then s.moorImage
  else if a = TMS_T0 then unsigned 64 (s.node.t0 / 65536)
  else if a = TMS_T0_SUB then (s.node.t0 % 65536).toNat
  else if a = TMS_NOW_NS ∨ a = TMS_NOW_SEC ∨ a = TMS_NOW_WNS ∨ a = TMS_NOW_N then s.nowImage m a
  else if a = MORTAR_STAT then
    withField (s.rg a) 0 1 (if s.node.mode = .start || s.node.mode = .service || s.node.mode = .replay then 1 else 0)
  else if MORTAR_MST_PATH_RD 7 = a ∨ MORTAR_MST_PATH_WR 7 = a then
    (if s.get F.DBG_LEVEL_LEVEL = 2 then s.rg a else 0)
  else s.lastWritten a

/-! ## Who may reach what (Table 17.8) -/

/-- The parts of the management space (Table 1.10). -/
inductive Region where
  | regs | brick | pool | sram | exchange | unmapped
deriving DecidableEq, Repr

/-- The part an address lies in (Table 1.10), the sample exchange area of R425 apart. -/
def regionAt (a : Nat) : Region :=
  if a < 0x94000 ∨ (0xA0000 ≤ a ∧ a < 0x100000) ∨ (0x1000000 ≤ a ∧ a < 0x1020000) ∨ (0x2000000 ≤ a ∧ a < 0x2600000) then .regs
  else if 0x10000000 ≤ a ∧ a < 0x11800000 then .brick
  else if 0x20000000 ≤ a ∧ a < 0x22000000 then .pool
  else if 0x30000000 ≤ a ∧ a < 0x303F8000 then .sram
  else if 0x303F8000 ≤ a ∧ a < 0x30400000 then .exchange
  else .unmapped

/-- METER_CFG. -/
def isMeterCfg (a : Nat) : Bool := METER_CFG 0 ≤ a && a < METER_CFG 256

/-- GLB_ID and the SEC identity registers, which KMP reads in BLANK (R72, R487). DESIGN CHOICE, log 25: unsafe. -/
def isIdentity (a : Nat) : Bool :=
  a / 4 = GLB_ID / 4 || (SEC_LIFECYCLE ≤ a && a < SEC_FUSE_STAT + 4) || (SEC_SIGN_PUB 0 ≤ a && a < SEC_OWNER_PUB 16)

/-- Master `m` may make this access (Table 17.8). DEDUCED, log 32: unsafe. DEDUCED, log 34: unsafe. -/
def State.mayReach (s : State) (m : Master) (a : Nat) (write : Bool) : Bool :=
  let reg := regionAt a = .regs
  match m with
  | .keeper => true
  | .session n =>
    if s.lifecycle = 0 then !write && isIdentity a
    else s.kmp.controller = some n || (reg && (!write || isMeterCfg a))
  | .tw1 =>
    match s.lifecycle with
    | 1 | 3 => reg
    | 2 => reg && (!write || isMeterCfg a || a / 4 = TW1_WINDOW / 4)
    | _ => false
  | .debug => s.get F.DBG_LEVEL_LEVEL = 2 || (s.get F.DBG_LEVEL_LEVEL = 1 && reg && !write)

/-! ## Who may write what: the writer rules of each block -/

/-- Classes of writers: values the configuration gives, which the Keeper and the debug port at FULL write; what the Keeper
writes for the CONTROLLER; the same without the debug port; what any session and the TW1 window write; what the CONTROLLER
and the TW1 window write. -/
inductive Writers where
  | cfg | ctl | ctlOnly | any | shared
deriving DecidableEq, Repr

/-- The writers of the field at bit `lo` of the register at `a`. DEDUCED, log 32: unsafe. -/
def writersOf (a lo : Nat) : Writers :=
  if a = GLB_MODE_REQ ∨ a = STORE_CTL ∨ a = SEC_CMD then .ctlOnly
  else if isMeterCfg a then .any
  else if a = PATCH_STAT ∨ a = DYN_STAT ∨ a = TMS_STAT ∨ a = PAIR_STAT ∨ a = MORTAR_STAT ∨ a = TW1_STAT ∨ a = TW1_WINDOW then .shared
  else if a < 0x10000 then .cfg
  else if a < 0x20000 then (if a = FLT_STATUS ∨ a = FLT_SOFT ∨ (a = FLT_PIN_CTL ∧ lo = 31) then .ctl else .cfg)
  else if a < 0x28000 then .ctl
  else if a < 0x30000 then
    (if a = REF_SEL_CTL ∧ 28 ≤ lo then .ctl else if REF_CFG 0 ≤ a ∧ a % 0x20 = REF_STAT 0 % 0x20 then .shared else .cfg)
  else if a < 0x40000 then (if 0x30400 ≤ a then .shared else if a = TMS_CMD then .ctl else .cfg)
  else if a < 0x50000 then (if a % 0x4000 = NET_PORT_STAT 0 % 0x4000 then .ctl else .cfg)
  else if a < 0x60000 then (if a = STR_MON then .ctl else .cfg)
  else if a < 0x70000 then (if a = PAIR_WC_CTL ∨ a = PAIR_RELIEF_CTL then .ctl else .cfg)
  else if a < 0x80000 then .cfg
  else if a < 0x90000 then
    (if a = AMP_DIAG_CTL ∨ a = AMP_DIAG_MASK ∨ (AMP_SWEEP 0 ≤ a ∧ a < AMP_SWEEP 16) then .ctl
     else if AMP_RAIL_CFG 0 ≤ a ∧ a < 0x81000 then (if a % 0x10 = AMP_RAIL_STAT 0 % 0x10 then .shared else .cfg)
     else if 0x81000 ≤ a ∧ a < 0x83000 then
       (if a % 0x80 = AMP_CH_CTL 0 % 0x80 then .ctl else if a % 0x80 = AMP_CH_STAT 0 % 0x80 then .shared else .cfg)
     else .cfg)
  else if a < 0xA0000 then (if a % 0x1000 = CBUS_STAT 0 % 0x1000 then .ctl else .cfg)
  else if a < 0xA8000 then (if a = TW0_STAT then .ctl else .cfg)
  else if a < 0xB0000 then .cfg
  else if a < 0xC0000 then .ctl
  else if a < 0xE0000 then .cfg
  else if a < 0xF0000 then (if a = PWR_CTL then .ctl else .cfg)
  else if a < 0x100000 then .ctl
  else if 0x2000000 ≤ a ∧ a % 0x10000 = BRK_STAT 0 % 0x10000 then .shared
  else .cfg

/-- DMA channels 0 to 15 serve the Keeper's own services (R488). DEDUCED, log 33: unsafe. -/
def keeperDma (a : Nat) : Bool := DMA_CH_CFG 0 ≤ a && a < DMA_CH_CFG 16

/-- Master `m` may write the field at bit `lo` of the register at `a`. DEDUCED, log 32: unsafe. DEDUCED, log 33: unsafe. -/
def State.mayWrite (_s : State) (m : Master) (a lo : Nat) : Bool :=
  match m, writersOf a lo with
  | .keeper, _ => true
  | .session _, .cfg => false
  | .session _, _ => !keeperDma a
  | .tw1, .any => true
  | .tw1, .shared => true
  | .tw1, _ => false
  | .debug, .ctlOnly => false
  | .debug, _ => true

/-! ## Reads -/

/-- A read resets the RC fields of a register (R21). -/
def State.clearRc (s : State) (d : RegDef) (a i j : Nat) : State :=
  let r := d.resetAt i j
  let s := d.fields.foldl (fun (s : State) (f : FieldDef) =>
    if f.ty == .rc then s.put ⟨a, f.lo, f.width⟩ (fieldOf r f.lo f.width) else s) s
  if AMP_RAIL_V 0 ≤ a && a < AMP_RAIL_V 8 && a % 0x10 = AMP_RAIL_V 0 % 0x10 then
    { s with amp := { s.amp with vMin := cdel s.amp.vMin ((a - AMP_RAIL_V 0) / 0x10) } }
  else s

/-- Capture the counter and N for a master (R533). -/
def State.captureNow (s : State) (m : Master) : State :=
  { s with tu := { s.tu with now := cins s.tu.now (masterKey m) (s.node.time, s.node.n.toNat) } }

/-- The capture a master holds (R25). DEDUCED, log 35: safe. -/
def State.capture (s : State) (m : Master) : Option (Nat × Word32) :=
  (s.caps.find? (fun c => decide (c.1 = m))).map Prod.snd

/-- Capture the upper word of the register at `a` for a master. DEDUCED, log 35: safe. -/
def State.captureUpper (s : State) (m : Master) (a v : Nat) : State :=
  { s with caps := (m, a, BitVec.ofNat 32 (v / 2 ^ 32)) :: s.caps.filter (fun c => decide (c.1 ≠ m)) }

/-- The upper word of the register at `a`: what the master captured; a capture of another register leaves it open.
DEDUCED, log 35: safe. -/
def State.upperWord (s : State) (m : Master) (a : Nat) : State × Nat :=
  match s.capture m with
  | none => (s, 0)
  | some (b, w) => if b = a then (s, w.toNat) else (s.nextFree, (Config.freeWord s.free).toNat % 2 ^ 32)

/-- The TMS_NOW registers, whose values are a master's capture (R533). -/
def isNow (a : Nat) : Bool := a = TMS_NOW_NS || a = TMS_NOW_SEC || a = TMS_NOW_WNS || a = TMS_NOW_N

/-- Registers whose read hands data on. DEDUCED, log 37: unsafe. -/
def State.readData (s : State) (m : Master) (a : Nat) : Option (State × Nat) :=
  if CBUS_RX_DATA 0 ≤ a && a < 0x94000 && a % 0x1000 = CBUS_RX_DATA 0 % 0x1000 then
    let i := (a - CBUS_RX_DATA 0) / 0x1000
    match (s.mac i).rx with
    | r :: rs =>
      if m = .keeper then
        some (s.setMac i { s.mac i with rx := { r with pos := min r.bytes.length (r.pos + 4) } :: rs }, leAt r.bytes r.pos 4)
      else some (s, 0)
    | [] => some (s, 0)
  else if a = TW0_RXD then
    some (s.setTw0 { s.tw0 with pos := min s.tw0.rx.length (s.tw0.pos + 4) }, leAt s.tw0.rx s.tw0.pos 4)
  else none

/-- One 32-bit read of the register bus, or one 64-bit read of a 64-bit register. `quiet` for reads through the debug tap,
which have no side effects (R33, R496). DEDUCED, log 36: unsafe. -/
def State.readReg (s : State) (m : Master) (quiet : Bool) (a : Nat) (wide : Bool) : State × Nat :=
  match findReg a with
  | none => (s, 0)
  | some (d, i, j) =>
    let base := d.instAddr i j
    if a ≠ base then
      -- the upper word
      if isNow base then (s, s.view m base / 2 ^ 32) else s.upperWord m base
    else if isNow base then
      if quiet then
        (s, (if base = TMS_NOW_NS then (s.captureNow m).view m base else s.view m base) % (if wide then 2 ^ 64 else 2 ^ 32))
      else
        let s := if base = TMS_NOW_NS then s.captureNow m else s
        (s, s.view m base % (if wide then 2 ^ 64 else 2 ^ 32))
    else
      match (if quiet then none else s.readData m base) with
      | some r => r
      | none =>
        let hidden := d.fields.foldl (fun (n : Nat) (f : FieldDef) => if f.ty == .wo then withField n f.lo f.width 0 else n) (s.view m base)
        let v := if quiet && base = TW0_RXD then 0 else hidden
        if quiet then (s, v % (if wide then 2 ^ 64 else 2 ^ 32))
        else
          let s := if d.bits = 64 && !wide then s.captureUpper m base v else s
          let s := s.clearRc d base i j
          (s, v % (if wide then 2 ^ 64 else 2 ^ 32))

/-- How an access ends: done, with its data; refused by Table 17.8; an error response (R24, R26). -/
inductive Access where
  | done (v : Nat)
  | denied
  | failed
deriving DecidableEq, Repr

/-- The Mortar master that performs a requester's accesses (R33). -/
def masterCode (m : Master) : Nat := if m = .debug then 7 else 0

/-- A single aligned read of 32 or 64 bits by a requester of the management space. -/
def State.busRead (s : State) (m : Master) (quiet : Bool) (a : Nat) (wide : Bool) : State × Access :=
  if a % (if wide then 8 else 4) ≠ 0 then (s, .failed)
  else if regionAt a = .unmapped then (if quiet then s else s.decodeError (masterCode m) a, .failed)
  else if regionAt a = .exchange then (if quiet then s else s.noPath (masterCode m) 0 a, .failed)
  else if !s.mayReach m a false then (s, .denied)
  else
    match regionAt a with
    | .regs =>
      let whole := match findReg a with
        | some (d, i, j) => d.bits = 64 && d.instAddr i j = a
        | none => false
      if !wide || whole then
        let r := s.readReg m quiet a wide
        (r.1, .done r.2)
      else
        let lo := s.readReg m quiet a false
        let hi := lo.1.readReg m quiet (a + 4) false
        (hi.1, .done (lo.2 + hi.2 * 2 ^ 32))
    | _ =>
      if s.sramFails a (if wide then 8 else 4) then (if quiet then s else s.latch 9, .failed)
      else (if quiet then s else s.windowAsk a (if wide then 8 else 4), .done (if s.deadWindow a then 0 else s.rdNat (if wide then 8 else 4) a))

/-! ## Writes: the value of each field (R21, R23) -/

/-- The cause of a W1C bit stands (the block's own words for it). -/
def State.bitCause (s : State) (a k : Nat) : Bool :=
  if a = FLT_STATUS then false
  else if 0x90000 ≤ a && a < 0x94000 then
    let c := s.mac ((a - 0x90000) / 0x1000)
    (k = 3 && c.stuck) || (k = 5 && (c.txLost || c.rxLost))
  else if a = TW0_STAT then (k = 4 && s.tw0.sdaLow) || (k = 5 && s.tw0.sclLow)
  else if 0x81000 ≤ a && a < 0x83000 then
    let c := s.ch ((a - 0x81000) / 0x80)
    (k = 0 && (c.state = .latched || c.state = .retest || c.state = .locked)) || (k = 3 && c.dcLocked)
  else false

/-- A field's new value: `v` is the value written over `old`, `on` the bits the access carries. -/
def FieldDef.write (s : State) (m : Master) (a old v : Nat) (ones : Nat) (n : Nat) (f : FieldDef) : Nat :=
  if !s.mayWrite m a f.lo then n
  else match f.ty with
    | .rw =>
      let x := fieldOf v f.lo f.width
      if a = FLT_CFG 53 && f.lo = 0 then n else if f.allows x then withField n f.lo f.width x else n
    | .rwl =>
      let x := fieldOf v f.lo f.width
      if s.lifecycle ≤ 1 && f.allows x then withField n f.lo f.width x else n
    | .w1c =>
      if a = FLT_STATUS then n
      else (List.range f.width).foldl (fun (n : Nat) i =>
        let k := f.lo + i
        if ones.testBit k && old.testBit k && !s.bitCause a k then n - 2 ^ k else n) n
    | _ => n

/-- The bits written to WO fields (and to FLT_STATUS) that the master may write. -/
def State.commandBits (s : State) (m : Master) (d : RegDef) (a ones : Nat) : Nat :=
  d.fields.foldl (fun (n : Nat) (f : FieldDef) =>
    if (f.ty == .wo || a = FLT_STATUS) && s.mayWrite m a f.lo then withField n f.lo f.width (fieldOf ones f.lo f.width) else n) 0

/-! ## Writes: what they bring about -/

/-- A debug write of DYN_DLY_CFG whose buffer the pool cannot hold is refused (R224). -/
def State.poolFits (s : State) (d img : Nat) : Bool :=
  s.poolWith [(1, [(d, img)])] ≤ poolGranules

/-- A write to a MAC's registers at offset `o`. -/
def State.cbusWritten (s : State) (m o a new cmd : Nat) : State :=
  if o = 0x00 then
    let was := s.bit (F.CBUS_CFG_EN m)
    let now := new.testBit 0
    let s := s.setRg a (withField new 0 1 (if was then 1 else 0))
    if now && !was then effCbusEnable m s.freePlca s.nextFree
    else if was && !now then effCbusDisable m s
    else s
  else
    let s := s.setRg a new
    if o = 0x64 then
      let s := if cmd.testBit 0 then effRxPop m s else s
      if cmd.testBit 1 then effResPop m s else s
    else if o = 0x70 then effCbusTxData m (BitVec.ofNat 32 cmd) s
    else if o = 0x74 then
      let s := if cmd.testBit 31 then effCbusGo m (fieldOf cmd 0 12) (fieldOf cmd 12 8) s else s
      if cmd.testBit 30 then effCbusFlush m s else s
    else s

/-- A write to CBUS_MDIO; none has an effect while a frame is in progress. -/
def State.mdioWritten (s : State) (m new cmd : Nat) : State :=
  if s.bit (F.CBUS_MDIO_BUSY m) then s
  else
    let s := s.setRg (CBUS_MDIO m) new
    match fieldOf cmd 28 2 with
    | 1 => effMdioWrite m (fieldOf new 21 5) (fieldOf new 16 5) (fieldOf new 0 16) s
    | 2 => effMdioRead m (fieldOf new 21 5) (fieldOf new 16 5) s
    | _ => s

/-- How far a transaction was when its end is asked for: not determined by the write. -/
def State.freeCount (s : State) (n : Nat) : Nat := (Config.freeWord s.free).toNat % n

/-- A write to the TW0 block; HD_DAT stays below LOW. -/
def State.tw0Written (s : State) (a new cmd : Nat) : State :=
  if a = TW0_CFG then
    let was := s.bit F.TW0_CFG_EN
    let now := new.testBit 0
    let s := s.setRg a (withField new 0 1 (if was then 1 else 0))
    if now && !was then effTw0Enable s.freeRecovery s.nextFree
    else if was && !now then effTw0Disable (s.freeCount 128) [] s.nextFree
    else s
  else if a = TW0_CMD then (if cmd.testBit 31 then effTw0Go (new % 2 ^ 31) s else s.tw0Cmd new)
  else if a = TW0_TXD then effTw0Txd (BitVec.ofNat 32 cmd) s
  else if a = TW0_CTL then
    let s := if cmd.testBit 0 then effTw0Abort (s.freeCount 128) [] s.nextFree else s
    if cmd.testBit 1 then effTw0Recover s.freeRecovery s.nextFree else s
  else
    let t := s.setRg a new
    if t.get F.TW0_TIM3_HD_DAT < t.get F.TW0_TIM0_LOW then t else s

/-- A write to the DMA block. -/
def State.dmaWritten (s : State) (a new cmd : Nat) : State :=
  if a = DMA_CFG then
    (if new.testBit 0 then s.dmaOn
     else effDmaDisable ((List.finRange 32).map (fun c => (c, s.freeCount 65536))) s.nextFree)
  else if DMA_CH_CFG 0 ≤ a && a < DMA_CH_CFG 32 then
    let c := (a - DMA_CH_CFG 0) / 0x20
    match (a - DMA_CH_CFG 0) % 0x20 with
    | 0 =>
      let was := s.bit (F.DMA_CH_CFG_EN c)
      let s := s.setRg a (withField new 31 1 (if was then 1 else 0))
      if new.testBit 31 then effDmaChannelEnable c s else if was then s.dmaChannelOff c else s
    | 4 => if cmd.testBit 0 then effRing c s else s
    | 0xC =>
      let s := s.setRg a new
      let s := if cmd.testBit 1 then effDmaAbort c (s.freeCount 65536) s.nextFree else s
      if cmd.testBit 0 then effSetIdx c (fieldOf new 16 12) s else s
    | _ => s.setRg a new
  else if DMA_CQ_CFG 0 ≤ a && a < DMA_CQ_CFG 16 then
    let q := (a - DMA_CQ_CFG 0) / 0x10
    match (a - DMA_CQ_CFG 0) % 0x10 with
    | 0 =>
      let was := s.bit (F.DMA_CQ_CFG_EN q)
      let s := s.setRg a (withField new 31 1 (if was then 1 else 0))
      if new.testBit 31 then effDmaCqEnable q s else s.cqOff q
    | 4 => effDmaCqTail q (fieldOf new 0 12) s
    | _ => s.setRg a new
  else s.setRg a new

/-- A write to the GLB block, the meters and the generators. DEDUCED, log 94: unsafe. -/
def State.glbWritten (s : State) (a new cmd : Nat) : State :=
  let t := s.setRg a new
  if a = GLB_MODE_REQ then (if s.node.mode = .service then t.serviceMute else t).modeRequest (fieldOf cmd 0 4)
  else if isMeterCfg a then
    if s.rg a = new then t
    else
      let j := (a - METER_CFG 0) / 4
      let m := (tget t.audio.meters j).getD ⟨0, 0, false, none⟩
      { t with audio := { t.audio with meters := cins t.audio.meters j { m with running := false, sumSq := 0, cnt := 0 } } }
  else if PATCH_GEN_CFG 0 ≤ a && a < PATCH_GEN_CFG 63 && a % 0x10 < 8 then
    -- TYPE PULSE with FREQ 0 is reserved: the field that would leave it keeps its value (R200)
    let g := (a - PATCH_GEN_CFG 0) / 0x10
    if t.get (F.PATCH_GEN_CFG_TYPE g) = 3 && t.rg (PATCH_GEN_FREQ g) = 0 then
      (if a = PATCH_GEN_CFG g then t.put (F.PATCH_GEN_CFG_TYPE g) (s.get (F.PATCH_GEN_CFG_TYPE g)) else s)
    else t
  else t

/-- A write to the DYN block. DEDUCED, log 94: unsafe. -/
def State.dynWritten (s : State) (a new : Nat) : State :=
  if DYN_INST_CFG0 0 ≤ a && a < DYN_INST_CFG0 1280 then
    let i := (a - DYN_INST_CFG0 0) / 0x10
    let c := s.dynCfg i
    let w := BitVec.ofNat 32 new
    s.noteInst i (match (a - DYN_INST_CFG0 0) % 0x10 with
      | 0 => (w, c.2.1, c.2.2.1, c.2.2.2)
      | 4 => (c.1, w, c.2.2.1, c.2.2.2)
      | 8 => (c.1, c.2.1, w, c.2.2.2)
      | _ => (c.1, c.2.1, c.2.2.1, w))
  else if DYN_DLY_CFG 0 ≤ a && a < DYN_DLY_CFG 3392 then
    let d := (a - DYN_DLY_CFG 0) / 4
    -- a D above 4,194,304 is reserved with FMT 0 (R206), and its field stays (R23)
    let ok (v : Nat) : Bool := v.testBit 30 || fieldOf v 0 23 ≤ 4194304
    let new := if ok new then new else withField new 0 23 (fieldOf (s.rg a) 0 23)
    -- where the D that stays is reserved with FMT 0, FMT stays too
    let new := if ok new then new else withField new 30 1 (fieldOf (s.rg a) 30 1)
    if s.rg a = new then s
    else if s.poolFits d new then s.noteLine d new
    else s.putBit F.DYN_STAT_POOL_REFUSED true
  else s.setRg a new

/-- A write to the NET blocks. -/
def State.netWritten (s : State) (a new : Nat) : State :=
  let t := s.setRg a new
  if a % 0x4000 = 0 then
    let p := (a - 0x40000) / 0x4000
    if fieldOf (s.rg a) 0 5 = fieldOf new 0 5 then t
    else
      let t := effLinkDown p t
      t.setPort p { t.port p with attempt := 0 }
  else if NET_TXR_PTR 0 ≤ a && a ≤ NET_TXR_PTR 7 && a % 0x10 = NET_TXR_PTR 0 % 0x10 then
    effTxRingHead ((a - NET_TXR_PTR 0) / 0x10) (fieldOf new 16 12) s
  else t

/-- A write to the STR block. -/
def State.strWritten (s : State) (a new : Nat) : State :=
  let t := s.setRg a new
  if STR_RX_CFG 0 ≤ a && a < STR_RX_CFG 256 then
    let k := (a - STR_RX_CFG 0) / (STR_RX_CFG 1 - STR_RX_CFG 0)
    let o := (a - STR_RX_CFG 0) % (STR_RX_CFG 1 - STR_RX_CFG 0)
    if STR_RX_LEG_CFG 0 0 - STR_RX_CFG 0 ≤ o then
      let j := (o - (STR_RX_LEG_CFG 0 0 - STR_RX_CFG 0)) / (STR_RX_LEG_CFG 0 1 - STR_RX_LEG_CFG 0 0)
      t.legWritten s k j (decide (a = STR_RX_LEG_SRC k j))
    else t
  else t

/-- A write to the TMS block. -/
def State.tmsWritten (s : State) (a new cmd : Nat) : State :=
  if TMS_PULSE_CFG 0 ≤ a && a < TMS_PULSE_CFG 8 && a % 0x20 = TMS_PULSE_CFG 0 % 0x20 then
    let i := (a - TMS_PULSE_CFG 0) / 0x20
    if new.testBit 31 then effPulseArm i (BitVec.ofNat 32 new) s else effPulseDisarm i (BitVec.ofNat 32 new) s
  else if TMS_PULSE_PERIOD 0 ≤ a && a ≤ TMS_PULSE_PERIOD 7 && a % 0x20 = TMS_PULSE_PERIOD 0 % 0x20 then
    s.pulsePeriod ((a - TMS_PULSE_PERIOD 0) / 0x20) new
  else if TMS_CAP_STAT 0 ≤ a && a ≤ TMS_CAP_STAT 15 && a % 0x20 = TMS_CAP_STAT 0 % 0x20 then
    (if cmd.testBit 8 then effPop ((a - TMS_CAP_STAT 0) / 0x20) s else s)
  else
    let t := s.setRg a new
    if a = TMS_CMD then (if fieldOf cmd 0 2 = 0 then t else (t.restep (fieldOf cmd 0 2)).1)
    else if a = TMS_PTP_CFG 0 then t.ptpEnable 0
    else if a = TMS_PTP_CFG 1 then t.ptpEnable 1
    else t

/-- A write to the CLK and REF blocks. -/
def State.clkWritten (s : State) (a new cmd : Nat) : State :=
  if a = CLK_REALIGN then (if cmd.testBit 0 then s.realignAsk (fieldOf new 3 61) else s.setRg a new)
  else
    let t := s.setRg a new
    if a = REF_SEL_CTL then t.forceWritten
    else if REF_CFG 0 ≤ a && a ≤ REF_CFG 5 && a % 0x20 = REF_CFG 0 % 0x20 then
      ((t.ptpFromRank 0).ptpFromRank 1).refsWritten
    else t

/-- A write to the PAIR block. -/
def State.pairWritten (s : State) (a new cmd : Nat) : State :=
  let t := s.setRg a new
  if a = PAIR_WC_CTL then (if cmd.testBit 0 then t.resync else t)
  else if a = PAIR_RELIEF_CTL then
    (if cmd.testBit 31 && t.replaceOk (fieldOf new 0 7) then t.failBrick (fieldOf new 0 7) true else t)
  else t

/-- A write to the AMP block. -/
def State.ampWritten (s : State) (a new cmd : Nat) : State :=
  (if ampConfig a then s.park a new else s.setRg a new).ampTouched a cmd

/-- A write to the FLT block. -/
def State.fltWritten (s : State) (a new cmd : Nat) : State :=
  if a = FLT_STATUS then (s.clearFaults cmd).tryRelease
  else if a = FLT_SOFT then
    let s := if cmd.testBit 0 then s.latch 61 else s
    if cmd.testBit 1 then s.latch 63 else s
  else if a = FLT_PIN_CTL then s.pinStep (s.setRg a new)
  else (s.setRg a new).policyPin

/-- SEC_CMD: a lifecycle command of the CONTROLLER session, after the checks of Table 17.7 (R503). -/
def State.secCommand (s : State) (m : Master) (op : Nat) : State :=
  let auth := match m with
    | .session n => (match s.session n with
      | some x => x.auth
      | none => false)
    | _ => true
  if 1 ≤ op && op ≤ 4 && s.lifecycleRefusal op auth = 0 then s.lifecycleChange op else s

/-- A write to the PWR, SEC and DBG blocks. -/
def State.pwrWritten (s : State) (m : Master) (a new cmd : Nat) : State :=
  let t := s.setRg a new
  if a = PWR_CFG ∨ a = PWR_WAKE_CFG then t.checkDormant
  else if a = PWR_CTL then (if cmd.testBit 0 then t.wakeCommand else t).checkDormant
  else if a = SEC_CMD then t.secCommand m (fieldOf cmd 28 4)
  else if a = DBG_CTL then t.debugControl (fieldOf cmd 0 2)
  else t

/-- A register takes its new value `new`; `cmd` holds the bits written to its WO fields. -/
def State.written (s : State) (m : Master) (a new cmd : Nat) : State :=
  if a < 0x10000 then s.glbWritten a new cmd
  else if a < 0x20000 then s.fltWritten a new cmd
  else if a < 0x30000 then s.clkWritten a new cmd
  else if a < 0x40000 then s.tmsWritten a new cmd
  else if a < 0x50000 then s.netWritten a new
  else if a < 0x60000 then s.strWritten a new
  else if a < 0x70000 then s.pairWritten a new cmd
  else if a < 0x80000 then s.dynWritten a new
  else if a < 0x90000 then s.ampWritten a new cmd
  else if a < 0xA0000 then
    let i := (a - 0x90000) / 0x1000
    if a = CBUS_MDIO i then s.mdioWritten i new cmd else s.cbusWritten i (a % 0x1000) a new cmd
  else if a < 0xA8000 then s.tw0Written a new cmd
  else if a < 0xB0000 then s.setRg a new
  else if a < 0xC0000 then s.dmaWritten a new cmd
  else if a = STORE_CTL then (if cmd.testBit 0 then s.startCompaction none else s)
  else if a < 0xE0000 then s.setRg a new
  else if a < 0x100000 then s.pwrWritten m a new cmd
  else if 0x1000000 ≤ a && a < 0x1020000 then s.noteEntries [((a - 0x1000000) / 8, BitVec.ofNat 64 new)]
  else s.setRg a new

/-- One write of the register bus: 32 bits, or 64 bits of a 64-bit register. -/
def State.writeReg (s : State) (m : Master) (a : Nat) (wide : Bool) (x : Nat) : State :=
  match findReg a with
  | none => s
  | some (d, i, j) =>
    let base := d.instAddr i j
    let old := s.lastWritten base
    let x := if wide then x % 2 ^ 64 else x % 2 ^ 32
    let v := if wide || d.bits = 32 then x else if a = base then old / 2 ^ 32 * 2 ^ 32 + x else old % 2 ^ 32 + x * 2 ^ 32
    let ones := if a = base then x else x * 2 ^ 32
    if d.fields.any (fun (f : FieldDef) => (f.ty == .rw || f.ty == .rwl || f.ty == .w1c || f.ty == .wo) && s.mayWrite m base f.lo) then
      s.written m base (d.fields.foldl (FieldDef.write s m base old v ones) old) (s.commandBits m d base ones)
    else s

/-- A single aligned write of 32 or 64 bits by a requester of the management space. -/
def State.busWrite (s : State) (m : Master) (a : Nat) (wide : Bool) (x : Nat) : State × Access :=
  if a % (if wide then 8 else 4) ≠ 0 then (s, .failed)
  else if regionAt a = .unmapped then (s.decodeError (masterCode m) a, .failed)
  else if regionAt a = .exchange then (s.noPath (masterCode m) 0 a, .failed)
  else if !s.mayReach m a true then (s, .denied)
  else
    match regionAt a with
    | .regs =>
      let whole := match findReg a with
        | some (d, i, j) => d.bits = 64 && d.instAddr i j = a
        | none => false
      if !wide || whole then (s.writeReg m a wide x, .done 0)
      else (((s.writeReg m a false x).writeReg m (a + 4) false (x / 2 ^ 32)), .done 0)
    | _ => (if s.deadWindow a then s
        else ((s.wrNat (if wide then 8 else 4) a x).healRows a (if wide then 8 else 4)).windowAsk a (if wide then 8 else 4), .done 0)

end Sys2Proof.Machine
end

