-- ==== Sys2Proof/Machine/Mortar.lean ====
section
/-! DEFINITION. The Mortar fabric: paths, arbitration by age, pieces, drains (R424 to R434). -/

namespace Sys2Proof.Machine

/-! ## Routing (R424, R425) -/

/-- The sample exchange area. DEDUCED, log 39: unsafe. -/
def inExchange (a : Nat) : Bool := exchangeBase ≤ a && a < sharedEnd

/-- The target code of an address. -/
def targetOf (a : Nat) : Option Nat :=
  if inExchange a then some 0
  else match regionAt a with
    | .sram => some 0
    | .pool => some 1
    | .brick => some (5 + (a - brickBase) / 0x200000)
    | .regs => if 0x2000000 ≤ a then some (5 + (a - 0x2000000) / 0x80000) else some 2
    | .exchange => some 0
    | .unmapped => none

/-- The target code of a request (R424). -/
def reqTarget (r : MortarReq) : Option Nat :=
  match r.aim with
  | .address => targetOf r.addr.toNat
  | .xspi => some 3
  | .switchBuffers => some 4

/-- The request is for the sample exchange area (R425). -/
def reqExchange (r : MortarReq) : Bool := r.aim = .address && inExchange r.addr.toNat

/-- The request is for register space. -/
def reqRegs (r : MortarReq) : Bool := r.aim = .address && regionAt r.addr.toNat = .regs

/-- A path exists (Table 15.1): the debug port's only at FULL (R426), a Course port's only into the exchange area, which no other
master reaches (R425). -/
def State.hasPath (s : State) (r : MortarReq) (t : Nat) : Bool :=
  let m := r.master.val
  let marked := ((if r.write then s.get (F.MORTAR_MST_PATH_WR_TARGETS m) else s.get (F.MORTAR_MST_PATH_RD_TARGETS m))).testBit t
  marked && (m != 7 || s.get F.DBG_LEVEL_LEVEL = 2) && (reqExchange r = decide (8 ≤ m))

/-- Bytes a request moves. -/
def reqLen (r : MortarReq) : Nat := if r.write then r.data.length else r.bytes

/-- Beats of 64 bytes a request takes. -/
def reqBeats (r : MortarReq) : Nat := (r.addr.toNat % 64 + reqLen r + 63) / 64

/-! ## Carrying out beats -/

/-- Read or write bytes `o` to `o + n` of a request in a memory; what the exchange area, the xSPI controller and the switch buffers hold
is not described. DEDUCED, log 38: safe. -/
def State.moveBytes (s : State) (r : MortarReq) (o n : Nat) : State × List Byte :=
  let a := r.addr.toNat + o
  if r.aim ≠ .address || inExchange a then
    if r.write then (if r.aim = .address then s.healRows a n else s, [])
    else (s.nextFree, (List.range n).map (fun i => BitVec.ofNat 8 ((Config.freeWord s.free).toNat / 256 ^ (i % 8))))
  else if r.write then ((s.winWrite a ((r.data.drop o).take n)).windowAsk a n, [])
  else (s.windowAsk a n, s.winBytes n a)

/-- The bytes a beat covers: offset and length. -/
def reqBeat (r : MortarReq) (k : Nat) : Nat × Nat :=
  let head := r.addr.toNat % 64
  let lo := if k = 0 then 0 else 64 * k - head
  let hi := min (reqLen r) (64 * (k + 1) - head)
  (lo, hi - lo)

/-- A register access by Mortar: a single beat of 32 or 64 bits; a burst fails in every beat (R55, R430). DEDUCED, log 39: unsafe. -/
def State.regAccess (s : State) (r : MortarReq) : State × Access :=
  let m : Master := if r.master.val = 7 then .debug else .keeper
  let n := reqLen r
  if n != 4 && n != 8 then (s, .failed)
  else if r.write then
    if r.data.any (fun b => b.isNone) then (s, .failed)
    else s.busWrite m r.addr.toNat (n == 8) (leNat (r.data.map (fun b => b.getD 0)))
  else s.busRead m false r.addr.toNat (n == 8)

/-- The requests of a master that resets, or of a Course port's Brick that does, drain (R432). -/
def State.drains (s : State) (r : MortarReq) : Bool :=
  let m := r.master.val
  if m < 8 then s.bit (F.MORTAR_MST_STAT_RESETTING m) else s.mortar.drains.contains (8 * (m - 8) + r.brick.val)

/-- A request under way: itself, its place in issue order, its target (31 for none) and whether a path leads there, beats done, bytes
read, beats that failed, whether it holds its path for the whole burst, as the mode at its first grant says (R431). -/
structure MortarRun where
  req : MortarReq
  order : Nat
  target : Nat
  path : Bool
  done : Nat
  got : List Byte
  bad : Nat
  whole : Option Bool
deriving DecidableEq, Repr

/-- A beat of a request is done, with what it read, or failed. -/
def MortarRun.beat (x : MortarRun) (failed : Bool) (bytes : List Byte) : MortarRun :=
  { x with done := x.done + 1, got := x.got ++ bytes, bad := x.bad + (if failed then 1 else 0) }

/-- Carry out the next beat of a request; one of a draining master carries null strobes, and what it reads is discarded (R432).
DEDUCED, log 39: unsafe. -/
def State.runBeat (s : State) (x : MortarRun) : State × MortarRun :=
  let r := x.req
  let m := r.master.val
  let p := reqBeat r x.done
  let a := r.addr.toNat + p.1
  let zeros := List.replicate p.2 (0 : Byte)
  if s.drains r then (s, x.beat false zeros)
  else if r.badBeats.contains x.done then (s.mortarParity m x.target a, x.beat true zeros)
  else if reqRegs r then
    let q := s.regAccess r
    match q.2 with
    | .done v => (q.1, x.beat false (leBytes (if r.write then 0 else p.2) v))
    | _ => (q.1, x.beat true [])
  else if r.aim = .address && !r.write && s.sramFails a p.2 then (s.latch 9, x.beat true zeros)
  else
    let q := s.moveBytes r p.1 p.2
    (q.1, x.beat false q.2)

/-- Carry out up to `n` beats. -/
def State.runBeats (s : State) (x : MortarRun) : Nat → State × MortarRun
  | 0 => (s, x)
  | n + 1 =>
    if (reqBeats x.req) ≤ x.done then (s, x)
    else
      let y := s.runBeat x
      y.1.runBeats y.2 n

/-- The response to a request that has ended: an error for every beat that failed, none while its master drains (R430, R432). -/
def State.respond (s : State) (x : MortarRun) : State :=
  let m := x.req.master.val
  if s.drains x.req then s
  else if x.bad ≠ 0 then iterate (fun s => (s.bump (F.MORTAR_MST_CNT_ERRS m)).emit .error) x.bad s
  else if x.req.write then s.emit .done
  else s.emit (.data (leNat x.got))

/-! ## Arbitration (R433, R434) -/

/-- Paths are held for whole bursts (R431). -/
def State.locksPaths (s : State) : Bool := s.node.mode = .start || s.node.mode = .service || s.node.mode = .replay

/-- The arbiter a request stands at: its target's, or that of the sample exchange, which has a share of its own at the shared SRAM
(R434). -/
def MortarRun.arbiter (x : MortarRun) : Nat := if reqExchange x.req then 17 else x.target

/-- The first MORTAR cycle after `n` beats that start in cycle `now`. At the shared SRAM one access in every four cycles, in the first
of them, is the sample exchange's, every other master has the three that are left (R434). DEDUCED, log 39: unsafe. -/
def MortarRun.freeAt (x : MortarRun) (now n : Nat) : Nat :=
  if reqExchange x.req then now + 4 * n
  else if x.target = 0 && n ≠ 0 then
    let k := now - (now + 3) / 4 + n - 1
    4 * (k / 3) + k % 3 + 2
  else now + n

/-- The age of a request, which saturates. -/
def MortarRun.age (x : MortarRun) (now : Nat) : Nat := min 8191 (now - x.req.at_)

/-- Distance of a source after the one granted last, round a ring of `n`. -/
def afterLast (n last v : Nat) : Nat := (v + n - (last + 1) % n) % n

/-- The better of two requests for an arbiter: older, then nearer after the source granted last, then issued first. -/
def better (n now : Nat) (last : Nat) (key : MortarRun → Nat) (x y : MortarRun) : Bool :=
  if x.age now ≠ y.age now then y.age now < x.age now
  else if key x ≠ key y then afterLast n last (key x) < afterLast n last (key y)
  else x.order < y.order

/-- The choice of an arbiter. -/
def choose1 (n now last : Nat) (key : MortarRun → Nat) : List MortarRun → Option MortarRun
  | [] => none
  | x :: xs =>
    match choose1 n now last key xs with
    | none => some x
    | some y => some (if better n now last key y x then y else x)

/-- The privileged masters (R428). -/
def privileged (m : Nat) : Bool := m = 0 || m = 5 || m = 7

/-- The transactions of a request's master that were issued before it and have not completed. -/
def earlier (xs : List MortarRun) (x : MortarRun) : List MortarRun :=
  xs.filter (fun y => decide (y.order < x.order) && y.req.master == x.req.master)

/-- R427: a request waits while 32 earlier ones of its master are outstanding, or one to its target with its ID. -/
def inTurn (xs : List MortarRun) (x : MortarRun) : Bool :=
  let before := earlier xs x
  before.length < 32 && !before.any (fun y => y.target == x.target && y.req.id == x.req.id)

/-- R428: a privileged master's request is held at its port while an earlier write of that master has not completed, when it is for
register space, the xSPI controller or a Course port, and until its data or buffer space is ready. -/
def heldAtPort (now : Nat) (xs : List MortarRun) (x : MortarRun) : Bool :=
  privileged x.req.master.val && (now < x.req.ready
    || ((x.target = 2 || x.target = 3 || 5 ≤ x.target) && (earlier xs x).any (fun y => y.req.write)))

/-- The requests that stand at the arbiters in a cycle. -/
def standing (now : Nat) (xs : List MortarRun) : List MortarRun :=
  xs.filter (fun x => decide (x.req.at_ ≤ now) && inTurn xs x && !heldAtPort now xs x)

/-- Each Course arbiter without an offer makes one; it replaces it only after it has been granted (R433). `offers` gives the request
that a Course port offers, by its place in issue order. -/
def State.courseOffers (s : State) (now : Nat) (xs : List MortarRun) (offers : Tbl Nat) : Tbl Nat :=
  (List.range 12).foldl (fun o c =>
    if (tget o c).isSome then o
    else match choose1 8 now (tgetD s.mortar.course c 7) (fun x => x.req.brick.val) (xs.filter (fun x => x.req.master.val == 8 + c)) with
      | some x => tput o c (some x.order)
      | none => o) offers

/-- The request a target grants: the oldest of the masters' requests and the Courses' offers. -/
def State.grantAt (s : State) (now t : Nat) (offers : Tbl Nat) (xs : List MortarRun) : Option MortarRun :=
  choose1 20 now (tgetD s.mortar.top t 19) (fun x => x.req.master.val) (xs.filter (fun x =>
    x.arbiter == t && (decide (x.req.master.val < 8) || tget offers (x.req.master.val - 8) == some x.order)))

/-- Beats one grant covers (R431). -/
def MortarRun.span (x : MortarRun) : Nat := if x.whole = some true then reqBeats x.req else 8

/-- OUTSTANDING and HELD of some masters in a cycle (R427, R428). -/
def State.showPorts (s : State) (now : Nat) (ms : List Nat) (xs : List MortarRun) : State :=
  ms.foldl (fun s m =>
    let mine := xs.filter (fun x => x.req.master.val == m && decide (x.req.at_ ≤ now))
    (s.put (F.MORTAR_MST_STAT_OUTSTANDING m) (min 32 mine.length)).putBit (F.MORTAR_MST_STAT_HELD m) (mine.any (heldAtPort now xs))) s

/-- A request that finds no path, or no block at its address, is answered with an error (R424, R26). -/
def State.refuseRoute (s : State) (r : MortarReq) : State :=
  let m := r.master.val
  match reqTarget r with
  | none => (s.decodeError m r.addr.toNat).emit .error
  | some t => (s.noPath m t r.addr.toNat).emit .error

/-- A grant of a request in a cycle: its span is carried out (R433). -/
def State.grant (s : State) (now : Nat) (x : MortarRun) : State × MortarRun :=
  let m := x.req.master.val
  let s := s.bump (F.MORTAR_MST_CNT_GRANTS m)
  let s := if s.get (F.MORTAR_MST_STAT_AGE_MAX m) < x.age now then s.put (F.MORTAR_MST_STAT_AGE_MAX m) (x.age now) else s
  let s := { s with mortar := { s.mortar with
    top := cins s.mortar.top x.arbiter m
    course := if 8 ≤ m then cins s.mortar.course (m - 8) x.req.brick.val else s.mortar.course } }
  let x := { x with whole := some (x.whole.getD s.locksPaths) }
  s.runBeats x x.span

/-- Serve the requests that are not yet ended until none is left. In each cycle those without a path are answered, and every free
target grants; `busy` gives the cycle at which an arbiter's target is free again. DEDUCED, log 39: unsafe. -/
def State.serveMortar (s : State) (ms : List Nat) (now : Nat) (busy offers : Tbl Nat) (xs : List MortarRun) : Nat → State
  | 0 => s
  | fuel + 1 =>
    let s := s.showPorts now ms xs
    if xs.isEmpty then s else
    let at_ := standing now xs
    match at_.find? (fun x => !x.path) with
    | some x =>
      let s := if s.drains x.req then s else s.refuseRoute x.req
      s.serveMortar ms now busy offers (xs.filter (fun z => z.order != x.order)) fuel
    | none =>
      let offers := s.courseOffers now at_ offers
      match (List.range 18).findSome? (fun t => if tgetD busy t 0 ≤ now then s.grantAt now t offers at_ else none) with
      | some x =>
        let y := s.grant now x
        let busy := cins busy x.arbiter (x.freeAt now (y.2.done - x.done))
        let offers := if 8 ≤ x.req.master.val then tput offers (x.req.master.val - 8) none else offers
        if reqBeats x.req ≤ y.2.done then
          (y.1.respond y.2).serveMortar ms now busy offers (xs.filter (fun z => z.order != x.order)) fuel
        else y.1.serveMortar ms now busy offers (xs.map (fun z => if z.order = x.order then y.2 else z)) fuel
      | none =>
        match (xs.flatMap (fun x => [x.req.at_, x.req.ready]) ++ busy.map (fun e => e.2)).filter (fun n => decide (now < n)) with
        | [] => s
        | t :: ts => s.serveMortar ms (ts.foldl min t) busy offers xs fuel

/-- A request as R430 allows one: at least a byte, within 64 beats and one 4 KiB page; its bytes and strobes agree. -/
def reqFits (r : MortarReq) : Bool :=
  0 < reqLen r && r.addr.toNat % 4096 + reqLen r ≤ 4096 && reqBeats r ≤ 64

/-- Requests in the order of their issue. -/
def byIssue : List MortarReq → List MortarReq
  | [] => []
  | r :: rs =>
    let l := byIssue rs
    l.takeWhile (fun q => decide (q.at_ < r.at_)) ++ r :: l.dropWhile (fun q => decide (q.at_ < r.at_))

/-- Requests are routed and served. -/
def State.mortarServe (s : State) (rs : List MortarReq) : State :=
  let runs := (byIssue rs).zipIdx.map (fun e =>
    let t := reqTarget e.1
    (⟨e.1, e.2, t.getD 31, t.any (fun k => s.hasPath e.1 k), 0, [], 0, none⟩ : MortarRun))
  let ms := (rs.map (fun r => r.master.val)).eraseDups
  s.serveMortar ms 0 [] [] runs (runs.foldl (fun n x => n + 2 * reqBeats x.req + 6) 4)

/-- MORTAR_REQUEST: requests outstanding together; the port of a resetting master accepts none of its requests before DRAIN_END
(R432). DEDUCED, log 39: unsafe. -/
def effMortarRequest (rs : List MortarReq) (s : State) : State :=
  let rs := rs.filter (fun r => reqFits r)
  let s := { s with mortar := { s.mortar with held := s.mortar.held ++ rs.filter (fun r => s.drains r) } }
  s.mortarServe (rs.filter (fun r => !s.drains r))

/-- DRAIN_END (R432): every ID of the resetting master is free. DEDUCED, log 39: unsafe. -/
def effDrainEnd (m : Nat) (s : State) : State :=
  if !s.bit (F.MORTAR_MST_STAT_RESETTING m) then s
  else
    let s := s.putBit (F.MORTAR_MST_STAT_RESETTING m) false
    let mine := s.mortar.held.filter (fun r => r.master.val == m)
    let s := { s with mortar := { s.mortar with
      held := s.mortar.held.filter (fun r => r.master.val != m)
      drains := s.mortar.drains.filter (fun b => 8 + b / 8 != m) } }
    s.mortarServe mine

/-! ## Meanings of the commands -/

/-- MORTAR_REQUEST (R424). -/
def execMortarRequest (qs : List MortarReq) (s : State) : Result :=
  runs s (effMortarRequest qs)

/-- DRAIN_END (R432). -/
def execDrainEnd (m : Fin 20) (s : State) : Result :=
  runs s (effDrainEnd m.val)

end Sys2Proof.Machine
end

