-- ==== Sys2Proof/Machine/Tw1.lean ====
section
/-! DEFINITION. The TW1 target: pointer, window, whole-word accesses, PEC, protocol errors (R414 to R422); the TAP
instructions that reach the management space (Table 17.9). -/

namespace Sys2Proof.Machine

/-! ## TW1 -/

/-- The target acknowledges its address (R414), but not the one that follows a protocol error (R420). -/
def State.tw1Acks (s : State) (addr : Nat) : Bool :=
  s.bit F.TW1_CFG_EN && addr = 0x2C + s.get F.GLB_STRAP_TW1_ADDR && s.pstate ≤ 2 && !s.tw1.skip && s.lifecycle != 4

/-- The pointer q. -/
def State.tw1Ptr (s : State) : Nat := s.get F.TW1_STAT_POINTER

/-- Set the pointer, which wraps after 0xFF. -/
def State.tw1SetPtr (s : State) (q : Nat) : State := s.put F.TW1_STAT_POINTER (q % 256)

/-- The word that window byte q belongs to (R415). -/
def State.tw1Word (s : State) (q : Nat) : Nat :=
  if q < 0xF0 then (s.get F.TW1_WINDOW_BASE * 256 + (q - q % 4)) % 2 ^ 32 else 0xA8000 + (q - q % 4 - 0xF0)

/-- A word access that is refused or fails (R417, R418). -/
def State.tw1AccErr (s : State) : State := (s.putBit F.TW1_STAT_ACC_ERR true).bump F.TW1_CNT_ACC_ERRS

/-- Write one word of the window. DEDUCED, log 34: unsafe. DEDUCED, log 40: unsafe. -/
def State.tw1Put (s : State) (q : Nat) (bytes : List Byte) : State :=
  match s.busWrite .tw1 (s.tw1Word q) false (leNat bytes) with
  | (t, .done _) => t
  | (t, _) => t.tw1AccErr

/-- Commit data bytes at the pointer; `held` are the bytes of the present word that came in this transaction (R418). -/
def State.tw1Commit (s : State) (held : List Byte) : List Byte → State
  | [] => if held.isEmpty then s else s.putBit F.TW1_STAT_PARTIAL true
  | b :: bs =>
    let q := s.tw1Ptr
    let s := s.tw1SetPtr (q + 1)
    if held.length = q % 4 then
      if q % 4 = 3 then (s.tw1Put q (held ++ [b])).tw1Commit [] bs else s.tw1Commit (held ++ [b]) bs
    else
      -- the transaction began inside this word
      (s.putBit F.TW1_STAT_PARTIAL true).tw1Commit [] bs

/-- A write transaction's bytes beyond those the target holds with PEC on, the pointer, 64 data bytes and the PEC, are not
acknowledged (R419). DEDUCED, log 40: unsafe. -/
def State.tw1Holds (s : State) (bytes : List Byte) : State :=
  if s.bit F.TW1_CFG_PEC_EN then iterate (fun s => s.emit .tw1Nack) (bytes.length - 66) s else s

/-- A write transaction that ends between bytes. -/
def State.tw1Write (s : State) (addr : Nat) (bytes : List Byte) : State :=
  match bytes with
  | [] => s
  | p :: rest =>
    if !s.bit F.TW1_CFG_PEC_EN then (s.tw1SetPtr p.toNat).tw1Commit [] rest
    else
      let data := rest.dropLast
      let good := !rest.isEmpty && data.length ≤ 64 && data.length % 4 = 0
        && rest.getLast? = some (pec (BitVec.ofNat 8 (2 * addr) :: p :: data))
      if good then (s.tw1SetPtr p.toNat).tw1Commit [] data
      else ((s.putBit F.TW1_STAT_PEC_ERR true).bump F.TW1_CNT_PEC_ERR).latch 50

/-- Read `n` bytes from the pointer; `word` is the fetched word. -/
def State.tw1Read (s : State) (word : Option (List Byte)) (got : List Byte) : Nat → State × List Byte
  | 0 => (s, got)
  | n + 1 =>
    let q := s.tw1Ptr
    let f : State × List Byte := match (if q % 4 = 0 then none else word) with
      | some w => (s, w)
      | none =>
        match s.busRead .tw1 false (s.tw1Word q) false with
        | (t, .done v) => (t, leBytes 4 v)
        | (t, _) => (t.tw1AccErr, [0, 0, 0, 0])
    (f.1.tw1SetPtr (q + 1)).tw1Read (some f.2) (got ++ [f.2.getD (q % 4) 0]) n

/-- An address phase: whether the target acknowledges; the address after a protocol error is passed over. -/
def State.tw1Start (s : State) (addr : Nat) : State × Bool :=
  if s.tw1Acks addr then (s, true) else ({ s with tw1 := ⟨false⟩ }.emit .tw1Nack, false)

/-- TW1_WRITE: a write transaction to the 7-bit address, with its bytes up to its STOP or repeated START. -/
def effTw1Write (addr : Nat) (bytes : List Byte) (s : State) : State :=
  let a := s.tw1Start addr
  if a.2 then (a.1.tw1Holds bytes).tw1Write addr bytes else a.1

/-- TW1_READ: a read transaction of `n` bytes. -/
def effTw1Read (addr n : Nat) (s : State) : State :=
  let a := s.tw1Start addr
  if a.2 then
    let r := a.1.tw1Read none [] n
    r.1.emit (.tw1 r.2)
  else a.1

/-- A transaction is cut short: bytes already committed stay, the rest is discarded (R420). DEDUCED, log 40: unsafe. -/
def State.tw1Cut (s : State) (addr : Nat) (cut : Tw1Cut) : State × Bool :=
  let a := s.tw1Start addr
  if !a.2 then (a.1, false)
  else match cut with
    | .write bytes => (if a.1.bit F.TW1_CFG_PEC_EN then a.1.tw1Holds bytes else a.1.tw1Write addr bytes, true)
    | .read n =>
      let r := a.1.tw1Read none [] n
      (r.1.emit (.tw1 r.2), true)

/-- TW1_PROTOCOL_ERROR (R420). DEDUCED, log 40: unsafe. -/
def effTw1ProtocolError (addr : Nat) (cut : Tw1Cut) (s : State) : State :=
  let r := s.tw1Cut addr cut
  if r.2 then
    let s := (r.1.bump F.TW1_CNT_TW_PROTO_ERR).latch 50
    { s with tw1 := ⟨true⟩ }
  else r.1

/-- TW1_TIMEOUT (R421). DEDUCED, log 40: unsafe. -/
def effTw1Timeout (addr : Nat) (cut : Tw1Cut) (s : State) : State :=
  let r := s.tw1Cut addr cut
  if r.2 then ((r.1.putBit F.TW1_STAT_TIMEOUT true).bump F.TW1_CNT_TIMEOUTS).latch 50 else r.1

/-! ## TAP instructions (Table 17.9) -/

/-- DIAG_READ: a word of the register space, patch table or BRICK control, without side effects (R33). -/
def effDiagRead (a : Nat) (s : State) : State :=
  if !s.tapOn || s.get F.DBG_LEVEL_LEVEL = 0 then s.bypass
  else
    let s := s.tapSeen
    if regionAt a != .regs then s.emit .error
    else match s.busRead .debug true a false with
      | (t, .done v) => t.tdo 32 v
      | (t, _) => t.emit .error

/-- MORTAR: an access as Mortar master 7, which has its paths at FULL only; at another level it completes with an error response
(R426). -/
def effTapMortar (r : MortarReq) (s : State) : State :=
  if s.tapOn then effMortarRequest [{ r with master := 7 }] s.tapSeen else s.bypass

/-! ## Meanings of the commands -/

/-- DIAG_READ (R33). -/
def execDiagRead (a : Word32) (s : State) : Result :=
  tapRuns s (effDiagRead a.toNat)

/-- MORTAR (R426). -/
def execMortar (q : MortarReq) (s : State) : Result :=
  tapRuns s (effTapMortar q)

/-- TW1_WRITE (R418). -/
def execTw1Write (addr : BitVec 7) (bytes : List Byte) (s : State) : Result :=
  runs s (effTw1Write addr.toNat bytes)

/-- TW1_READ (R417). -/
def execTw1Read (addr : BitVec 7) (n : Nat) (s : State) : Result :=
  runs s (effTw1Read addr.toNat n)

/-- TW1_PROTOCOL_ERROR (R420). -/
def execTw1ProtocolError (addr : BitVec 7) (cut : Tw1Cut) (s : State) : Result :=
  runs s (effTw1ProtocolError addr.toNat cut)

/-- TW1_TIMEOUT (R421). -/
def execTw1Timeout (addr : BitVec 7) (cut : Tw1Cut) (s : State) : Result :=
  runs s (effTw1Timeout addr.toNat cut)

end Sys2Proof.Machine
end

