-- ==== Sys2Proof/Machine/Session.lean ====
section
/-! DEFINITION. KMP sessions: opening and closing, presence of the client, proposals, notifications (R80 to R83, R484 to R491,
R494). -/

namespace Sys2Proof.Machine

/-- The KMP server is reachable: the engine runs, and its rings serve it (R466). -/
def State.kmpUp (s : State) : Bool :=
  s.alive && s.pstate ≤ 3

/-! ## Presence (R80, R83) -/

/-- An open proposal ends; one refused or lapsed raises POLICY_LAPSE. -/
def State.closeProposal (s : State) (p : Proposal) (outcome : Nat) : State :=
  let s := s.endProposal p outcome
  if outcome = 0 then s else s.latch 59

/-- The policy decides alone from now on: what it had proposed and still stands, it does when its grounds are next met;
limits that wait to be relaxed and a revert that is due it acts on now. DEDUCED, log 31: unsafe. -/
def State.policyResumes (s : State) : State :=
  let s := { s with kmp := { s.kmp with barred := [] } }
  let s := (List.range 64).foldl (fun s m => if s.bit (F.AMP_CH_CFG_EN m) then s.adaptLimit m else s) s
  (if s.selRuns then s.selStep (fun s => s.choose.resumeRevert) else s).tryRevert

/-- What follows when the client's presence differs from `was`. DEDUCED, log 31: unsafe. -/
def State.presenceStep (s : State) (was : Bool) : State :=
  if s.present = was then s
  else if was then
    let s := s.kmp.proposals.foldl (fun s p => s.closeProposal p 2) s
    let s := (s.notify 5 [0, 0, 0, 0]).latch 58
    s.policyResumes.policyPin
  else (s.switchProposed.notify 5 [1, 0, 0, 0]).policyPin

/-- Close a session without a message: its role and what waited for it go with it. -/
def State.dropSession (s : State) (n : Nat) : State :=
  let was := s.present
  let s := { s with kmp := { s.kmp with
    sessions := s.kmp.sessions.filter (fun x => x.num != n)
    controller := if s.kmp.controller = some n then none else s.kmp.controller
    groupBuf := s.kmp.groupBuf.filter (fun b => b.1 != n) } }
  let s := { s with
    tu := { s.tu with now := cdel s.tu.now (masterKey (Master.session n)) }
    caps := s.caps.filter (fun c => decide (c.1 ≠ Master.session n)) }
  s.presenceStep was

/-! ## Opening (R485, R490) -/

/-- The key of a client, derived on demand (R484). -/
def State.clientKey (s : State) (client : List Byte) : List Byte := hmac s.fuses.kDev (ascii "KAMYAN-CLIENT-1" ++ client)

/-- The client item of the ACCESS section with a CLIENT_ID: its VALUE. -/
def State.clientItem (s : State) (client : List Byte) : Option (List Byte) :=
  (((Cfg.items s.st.cfg secAccess).filter (fun e => decide (0x100 ≤ e.1 ∧ e.1 < 0x140))).map Prod.snd).find?
    (fun v => v.take 16 == client)

/-- The lowest session number not in use, 1 to 8. -/
def State.freeSession (s : State) : Option Nat :=
  ((List.range 8).map (fun k => k + 1)).find? (fun n => !s.kmp.sessions.any (fun x => x.num == n))

/-- Why a SESSION_OPEN is refused: the REASON, 0 when it is not. DESIGN CHOICE, log 23: unsafe. -/
def State.openRefusal (s : State) (client : List Byte) (auth : Bool) : Nat :=
  if s.lifecycle = 2 && (!auth || (s.clientItem client).isNone) then 1
  else if s.lifecycle = 0 && auth then 1
  else if auth && !s.keysUsable then 1
  else if s.freeSession.isNone then 2
  else 0

/-- SESSION_OPEN: CLIENT_ID, N_c and WANT_AUTH (Table 17.12). DESIGN CHOICE, log 23: unsafe. -/
def effSessionOpen (client nonce : List Byte) (auth : Bool) (s : State) : State :=
  if !s.kmpUp then s
  else
    let k := s.openRefusal client auth
    if k ≠ 0 then s.emit (.kmp 0 0x03 1 (beBytes 2 k ++ [0, 0]) [])
    else
      let n := s.freeSession.getD 0
      let ne := s.randomBytes 16
      let s := s.nextFree
      let key := if auth then hmac (s.clientKey client) (ascii "KAMYAN-SESSION-1" ++ nonce ++ ne) else []
      let capable := match s.clientItem client with
        | some v => v.getD 16 0 == 1
        | none => false
      let x : Session := ⟨n, client, auth, key, capable, 0, 0, BitVec.allOnes 64, [], [], false⟩
      let s := { s with kmp := { s.kmp with sessions := s.kmp.sessions ++ [x] } }
      s.sendKmp n 0x02 ([BitVec.ofNat 8 n, BitVec.ofNat 8 s.lifecycle, 0, 0] ++ ne ++ beBytes 8 s.fuses.deviceId)

/-! ## What comes in (R485, R489, R491) -/

/-- A message that fails authentication or whose SEQ does not rise is counted and latches SEC_AUTH. -/
def State.badMessage (s : State) (replay : Bool) : State :=
  (if replay then s.bump F.SEC_CNT_REPLAY else s.bump F.SEC_CNT_AUTH_FAIL).latch 51

/-- The session a message belongs to; none when the message is discarded for its session or its TAG. -/
def State.authentic (s : State) (h : KmpHead) (type : Nat) (body : List Byte) : State × Option Session :=
  match (if s.kmpUp then s.session h.session else none) with
  | none => (s, none)
  | some x =>
    if x.auth && h.tag != some (kmpTag x.key x.num type h.seq body) then (s.badMessage false, none) else (s, some x)

/-- A message other than a REQUEST: accepted when its SEQ rises. -/
def State.accept (s : State) (h : KmpHead) (type : Nat) (body : List Byte) : State × Option Session :=
  match s.authentic h type body with
  | (s, none) => (s, none)
  | (s, some x) =>
    if h.seq ≤ x.rxSeq then (s.badMessage true, none)
    else (s.mapSession x.num (fun y => { y with rxSeq := h.seq }), some x)

/-- SESSION_CLOSE by the client. -/
def effSessionClose (h : KmpHead) (reason : Nat) (s : State) : State :=
  match s.accept h 0x03 (beBytes 2 reason ++ [0, 0]) with
  | (s, some x) => s.dropSession x.num
  | (s, none) => s

/-- KEEPALIVE: the client has kept alive within CLIENT_TIMEOUT. -/
def effKeepalive (h : KmpHead) (s : State) : State :=
  match s.accept h 0x04 [] with
  | (s, some x) => (s.mapSession x.num (fun y => { y with alive := true })).presenceStep s.present
  | (s, none) => s

/-- NOTIFY_ACK names the SEQ of a notification. -/
def effNotifyAck (h : KmpHead) (seq : Nat) (s : State) : State :=
  match s.accept h 0x21 (beBytes 8 seq) with
  | (s, some x) =>
    s.mapSession x.num (fun y => { y with unacked := y.unacked.filter (fun (u : Unacked) => u.seq != seq) })
  | (s, none) => s

/-- SESSION_IDLE_TIMEOUT: 60 s without a message from the client of session `n`. -/
def effSessionIdleTimeout (n : Nat) (s : State) : State :=
  if (s.session n).isNone then s else (s.sendKmp n 0x03 [0, 3, 0, 0]).dropSession n

/-- CLIENT_TIMEOUT: the time passes without a keep-alive on session `n`. -/
def effClientTimeout (n : Nat) (s : State) : State :=
  (s.mapSession n (fun y => { y with alive := false })).presenceStep s.present

/-- PROPOSAL_TIMEOUT of a proposal: it lapses; once PROPOSAL_TIMEOUT has passed again what it proposed may be made again, which is
when the policy next meets its grounds. -/
def effProposalTimeout (id : Nat) (s : State) : State :=
  match s.kmp.proposals.find? (fun (p : Proposal) => p.id == id) with
  | some p => s.closeProposal p 2
  | none => { s with kmp := { s.kmp with barred := s.kmp.barred.filter (fun b => b.1 != id) } }

/-- NOTIFY_RESEND: 200 ms have passed without an acknowledgement of notification `seq`; in P4 nothing is sent (R466). -/
def effNotifyResend (n seq : Nat) (s : State) : State :=
  match (if s.get F.PWR_STAT_STATE = 4 then none else s.session n) with
  | none => s
  | some x =>
    match x.unacked.find? (fun (u : Unacked) => u.seq == seq) with
    | none => s
    | some u =>
      let gone := decide (10 ≤ u.resends + 1)
      let s := s.emit (.kmp n 0x20 u.seq u.body (if x.auth then kmpTag x.key n 0x20 u.seq u.body else []))
      s.mapSession n (fun y => { y with
        unacked := if gone then y.unacked.filter (fun (v : Unacked) => v.seq != seq)
          else y.unacked.map (fun (v : Unacked) => if v.seq = seq then { v with resends := v.resends + 1 } else v) })

/-! ## What a client accepts (R82) -/

/-- Carry out an act of the policy that the client has accepted. DESIGN CHOICE, log 82: unsafe. -/
def State.perform (s : State) (a : PolicyAct) : State :=
  match a with
  | .refSelect r => if s.selRuns && s.selBase != 4 && s.bestRef = some r && s.selRef != r then s.selStep (fun s => s.startSwitch r) else s
  | .pairRevert => if s.revertDue then s.announce false else s
  | .pairSwap => if s.node.mode = .lead && s.paired && s.matched && s.pair.ho.isNone then s.announce true else s
  | .clearFault k => (s.clearFaults (2 ^ k)).tryRelease
  | .dormant => if s.enterable 2 then s.beginDormant else s
  | .relax m _ t => s.limitFor m (max t (s.getS (F.AMP_CH_ZPH_TCOIL m)))
  | .deepen p => if s.resting && s.get F.PWR_STAT_STATE < p && s.enterable p then s.goState p else s

/-! ## Meanings of the commands -/

/-- SESSION_OPEN (R490). -/
def execSessionOpen (client : Vector Byte 16) (nonce : Vector Byte 16) (auth : Bool) (s : State) : Result :=
  runs s (effSessionOpen client.toList nonce.toList auth)

/-- SESSION_CLOSE (R490). -/
def execSessionClose (h : KmpHead) (reason : Nat) (s : State) : Result :=
  runs s (effSessionClose h reason)

/-- KEEPALIVE (R80). -/
def execKeepalive (h : KmpHead) (s : State) : Result :=
  runs s (effKeepalive h)

/-- NOTIFY_ACK (R494). -/
def execNotifyAck (h : KmpHead) (seq : Nat) (s : State) : Result :=
  runs s (effNotifyAck h seq)

/-- SESSION_IDLE_TIMEOUT (R485). -/
def execSessionIdleTimeout (n : Nat) (s : State) : Result :=
  runs s (effSessionIdleTimeout n)

/-- CLIENT_TIMEOUT (R83). -/
def execClientTimeout (n : Nat) (s : State) : Result :=
  runs s (effClientTimeout n)

/-- PROPOSAL_TIMEOUT (R82). -/
def execProposalTimeout (id : Nat) (s : State) : Result :=
  runs s (effProposalTimeout id)

/-- NOTIFY_RESEND (R494). -/
def execNotifyResend (n : Nat) (seq : Nat) (s : State) : Result :=
  runs s (effNotifyResend n seq)

end Sys2Proof.Machine
end

