-- ==== Sys2Proof/Machine/Kmp.lean ====
section
/-! DEFINITION. The KMP operations (R491 to R493, Table 17.13). -/

namespace Sys2Proof.Machine

/-! ## Taking a request in (R489 to R493) -/

/-- A REQUEST is authentic and new; one answered before is answered again from the store.
DESIGN CHOICE, log 21: unsafe. DESIGN CHOICE, log 22: unsafe. -/
def State.takeRequest (s : State) (op : Nat) (r : KmpReq) : State × Option Session :=
  let body := beBytes 2 op ++ beBytes 2 r.reqId ++ r.args
  match s.authentic r.head 0x10 body with
  | (s, none) => (s, none)
  | (s, some x) =>
    match x.replies.find? (fun (e : StoredReply) => e.seq == r.head.seq && e.request == body) with
    | some e => (if e.reply.isEmpty then s else s.sendKmp x.num 0x11 e.reply, none)
    | none =>
      if r.head.seq ≤ x.rxSeq then (s.badMessage true, none)
      else
        (s.mapSession x.num (fun y => { y with
          rxSeq := r.head.seq, replies := (⟨r.head.seq, body, []⟩ : StoredReply) :: y.replies.take 15 }), some x)

/-- Lifecycle states that allow an operation (Table 17.13, R72). DESIGN CHOICE, log 25: unsafe. -/
def opLife (op life : Nat) : Bool :=
  if op = 0x01 || op = 0x02 || op = 0x03 || op = 0x10 || op = 0x92 then life ≤ 3
  else if 0x80 ≤ op && op ≤ 0x84 then life = 0
  else if op = 0x90 || op = 0x70 then life = 1
  else if op = 0x91 then life = 1 || life = 2
  else 1 ≤ life && life ≤ 3

/-- Operations of the CONTROLLER only. DESIGN CHOICE, log 25: unsafe. -/
def opCtl (op : Nat) : Bool :=
  op = 0x03 || op = 0x20 || op = 0x22 || (0x30 ≤ op && op ≤ 0x32) || (0x40 ≤ op && op ≤ 0x47) || op = 0x50 || op = 0x60
    || op = 0x61 || op = 0x70 || (0x90 ≤ op && op ≤ 0x92) || op = 0xA0

/-- The arguments have a length the operation allows. DESIGN CHOICE, log 25: unsafe. -/
def opArgs (op : Nat) (args : List Byte) : Bool :=
  let n := args.length
  match op with
  | 0x10 => n == 8
  | 0x11 => 8 ≤ n && n == 8 + 4 * beAt args 4 2
  | 0x20 => 8 ≤ n
  | 0x30 => n == 8
  | 0x31 => 4 ≤ n && n ≤ 1028
  | 0x40 => n == 4
  | 0x41 => n == 4
  | 0x42 => n == 8
  | 0x44 => n == 4
  | 0x46 => n == 12
  | 0x47 => n == 4
  | 0x50 => n == 8
  | 0x51 => n == 8
  | 0x60 => 4 ≤ n
  | 0x61 => 4 ≤ n
  | 0x70 => n == 4
  | 0x80 => n == 4
  | 0x81 => n == 32
  | 0x83 => n == 64
  | 0x92 => n == 4
  | 0xA0 => n == 4
  | 0xB0 => n == 4
  | _ => n == 0

/-- The status that refuses a request before it acts, 0 for none (R492). DESIGN CHOICE, log 25: unsafe. -/
def State.opRefusal (s : State) (x : Session) (op : Nat) (args : List Byte) : Nat :=
  if !opLife op s.lifecycle then 0xB
  else if opCtl op && s.kmp.controller != some x.num then 3
  else if !opArgs op args then 0xE
  else 0

/-- A request: taken in, refused, or acted on by `act`, which answers it. A mode request that the lifecycle or the session
does not allow shows in GLB_MODE_REQ. -/
def State.request (s : State) (op : Nat) (r : KmpReq) (act : State → Session → State) : State :=
  match s.takeRequest op r with
  | (s, none) => s
  | (s, some x) =>
    let k := s.opRefusal x op r.args
    if k = 0 then act s x
    else
      -- a change refused, but not with FULL (STORE_STAT)
      let s := if op = 0x20 then s.putBit F.STORE_STAT_FULL false else s
      (if op = 0x40 && (k = 3 || k = 0xB) then s.put F.GLB_MODE_REQ_STATUS 4 else s).reply x.num op r.reqId k []

/-- Answer with a status; results go with OK. -/
def State.status (s : State) (x : Session) (op : Nat) (r : KmpReq) (k : Nat) (results : List Byte := []) : State :=
  s.reply x.num op r.reqId k (if k = 0 then results else [])

/-! ## Identity, role, registers -/

/-- IDENTIFY. -/
def effIdentify (r : KmpReq) (s : State) : State :=
  s.request 0x01 r (fun s x => s.status x 0x01 r 0
    (beBytes 4 (s.view (.session x.num) GLB_ID) ++ beBytes 4 (s.rg GLB_FW_VER) ++ beBytes 4 s.lifecycleImage
      ++ beBytes 8 s.fuses.deviceId ++ beBytes 6 s.fuses.mac ++ [0, 0]))

/-- The client of a session may take the CONTROLLER role (R484). In OPEN, while ACCESS lists no client, every client may:
otherwise no first image could arrive (R73). DEDUCED, log 24: unsafe. -/
def State.mayControl (s : State) (x : Session) : Bool :=
  let life := s.lifecycle
  life = 0 || life = 3 || x.capable
    || (life = 1 && !((Cfg.items s.st.cfg secAccess).any (fun e => decide (0x100 ≤ e.1 ∧ e.1 < 0x140))))

/-- TAKE_CONTROL (R80). -/
def effTakeControl (r : KmpReq) (s : State) : State :=
  s.request 0x02 r (fun s x =>
    if s.kmp.controller = some x.num then s.status x 0x02 r 0
    else if !s.mayControl x then s.status x 0x02 r 0xC
    else if s.present then s.status x 0x02 r 2
    else
      let was := s.present
      let s := { s with kmp := { s.kmp with controller := some x.num } }
      (s.status x 0x02 r 0).presenceStep was)

/-- DROP_CONTROL. -/
def effDropControl (r : KmpReq) (s : State) : State :=
  s.request 0x03 r (fun s x =>
    let was := s.present
    let s := { s with kmp := { s.kmp with controller := none } }
    (s.status x 0x03 r 0).presenceStep was)

/-- The status that refuses an access of `n` words from an address, by its first word that cannot be reached.
DEDUCED, log 26: unsafe. -/
def State.rangeStatus (s : State) (m : Master) (a n : Nat) (write : Bool) : Nat :=
  if n = 0 || 256 < n || a % 4 != 0 then 5
  else
    let absent (b : Nat) : Bool := regionAt b = .unmapped || regionAt b = .exchange
    ((List.range n).find? (fun i => absent (a + 4 * i) || !s.mayReach m (a + 4 * i) write)).elim 0
      (fun i => if absent (a + 4 * i) then 5 else 0xC)

/-- Read words one after the other. -/
def State.readWords (s : State) (m : Master) : Nat → Nat → State × List Byte
  | 0, _ => (s, [])
  | n + 1, a =>
    let r := s.busRead m false a false
    let v := match r.2 with
      | .done v => v
      | _ => 0
    let t := r.1.readWords m n (a + 4)
    (t.1, leBytes 4 v ++ t.2)

/-- READ. DEDUCED, log 26: unsafe. -/
def effRead (r : KmpReq) (s : State) : State :=
  s.request 0x10 r (fun s x =>
    let a := beAt r.args 0 4
    let n := beAt r.args 4 2
    let k := s.rangeStatus (.session x.num) a n false
    if k ≠ 0 then s.status x 0x10 r k
    else
      let t := s.readWords (.session x.num) n a
      t.1.status x 0x10 r 0 t.2)

/-- WRITE: each word by the writer rules of its block; one without effect is answered OK. DEDUCED, log 26: unsafe. -/
def effWrite (r : KmpReq) (s : State) : State :=
  s.request 0x11 r (fun s x =>
    let a := beAt r.args 0 4
    let n := beAt r.args 4 2
    let m := Master.session x.num
    let k := s.rangeStatus m a n true
    if k ≠ 0 then s.status x 0x11 r k
    else
      let s := (List.range n).foldl (fun (s : State) i => (s.busWrite m (a + 4 * i) false (leAt r.args (8 + 4 * i) 4)).1) s
      s.status x 0x11 r 0)

/-! ## Store -/

/-- A whole journal group has arrived. DESIGN CHOICE, log 27: unsafe. -/
def State.groupArrived (s : State) (x : Session) (r : KmpReq) (bytes : List Byte) : State :=
  let refuse (k : Nat) : State := (s.putBit F.STORE_STAT_FULL false).status x 0x20 r k
  if s.kmp.transfer.isSome || s.imageStarting then refuse 2
  else if s.rg STORE_GENERATION = 0 then refuse 8
  else
    match parseRecs bytes.length bytes with
    | none => refuse 5
    | some recs =>
      let slow := s.nor || s.st.writing.isSome || (applyAtOf recs).isSome
      let t := s.submitGroup x.num r.reqId recs
      if !t.2 then refuse 2
      else if slow then ((s.status x 0x20 r 1).submitGroup x.num r.reqId recs).1
      else t.1

/-- GROUP: bytes of a journal group; the engine acts when they are all there. DESIGN CHOICE, log 27: unsafe. -/
def effGroup (r : KmpReq) (s : State) : State :=
  s.request 0x20 r (fun s x =>
    let ofs := beAt r.args 0 4
    let total := beAt r.args 4 4
    let had : List Byte := match s.kmp.groupBuf with
      | some (n, t, b) => if n = x.num && t = total && b.length = ofs then b else []
      | none => []
    let bytes := had ++ r.args.drop 8
    let refused := s.putBit F.STORE_STAT_FULL false
    if had.length ≠ ofs then refused.status x 0x20 r 0xE
    else if total < bytes.length then refused.status x 0x20 r 5
    else if bytes.length < total then
      ({ s with kmp := { s.kmp with groupBuf := some (x.num, total, bytes) } }).status x 0x20 r 0
    else ({ s with kmp := { s.kmp with groupBuf := none } }).groupArrived x r bytes)

/-- DAYMARK. -/
def effDaymark (r : KmpReq) (s : State) : State :=
  s.request 0x21 r (fun s x => s.status x 0x21 r 0 (Cfg.daymark s.st.cfg ++ beBytes 8 (s.rg STORE_JRN_SEQ)))

/-- A write of a register that does what a KMP operation does: its answer. -/
def State.viaReg (s : State) (m : Master) (a value : Nat) : State :=
  let r := s.busWrite m a false value
  match r.2 with
  | .done _ => r.1.emit .done
  | _ => r.1.emit .error

/-- COMPACT (R111). DESIGN CHOICE, log 27: unsafe. -/
def effCompact (v : Via) (s : State) : State :=
  match v with
  | .kmp r => s.request 0x22 r (fun s x =>
      if s.st.compaction.isSome then s.status x 0x22 r 2
      else if s.st.density = 0 || s.rg STORE_GENERATION = 0 then s.status x 0x22 r 8
      else (s.status x 0x22 r 1).startCompaction (some (x.num, r.reqId)))
  | .reg m _ value => s.viaReg m STORE_CTL (withField value 0 1 1)

/-- IMAGE_OPEN (R73, R75). -/
def effImageOpen (r : KmpReq) (s : State) : State :=
  s.request 0x30 r (fun s x =>
    let size := beAt r.args 0 4
    if s.node.mode ≠ .beacon then s.status x 0x30 r 8
    else if s.kmp.transfer.isSome then s.status x 0x30 r 2
    else if size = 0 || slotSize s.st.density < size || s.st.density = 0 then s.status x 0x30 r 5
    else (s.prepareStore x.num size).status x 0x30 r 0)

/-- The transfer a session has open. -/
def State.openTransfer (s : State) (x : Session) : Option Transfer := s.kmp.transfer.filter (fun t => t.session == x.num)

/-- IMAGE_DATA (R495): another OFFSET than the bytes received is answered with their number.
DESIGN CHOICE, log 27: unsafe. -/
def effImageData (r : KmpReq) (s : State) : State :=
  s.request 0x31 r (fun s x =>
    let bytes := r.args.drop 4
    match s.openTransfer x with
    | none => s.status x 0x31 r 8
    | some t =>
      if s.node.mode ≠ .beacon then s.status x 0x31 r 8
      else if beAt r.args 0 4 ≠ t.received then s.reply x.num 0x31 r.reqId 0xE (beBytes 4 t.received)
      else if t.size < t.received + bytes.length then s.status x 0x31 r 5
      else (s.imageBytes t bytes).status x 0x31 r 0 (beBytes 4 (t.received + bytes.length)))

/-- IMAGE_COMMIT (R74 steps 4 to 7). DESIGN CHOICE, log 27: unsafe. -/
def effImageCommit (r : KmpReq) (s : State) : State :=
  s.request 0x32 r (fun s x =>
    match s.openTransfer x with
    | none => s.status x 0x32 r 8
    | some t =>
      if s.node.mode ≠ .beacon then s.status x 0x32 r 8
      else if t.received < t.size then s.status x 0x32 r 0xA
      else
        let s := s.status x 0x32 r 1
        let k := s.imageFailStep t
        let c := s.commitImage t
        if k = 0 then c.1.status x 0x32 r 0 [BitVec.ofNat 8 c.2, 0, 0, 0]
        else
          let s := { s with kmp := { s.kmp with transfer := none } }
          let s := if k = 4 then (s.bump F.SEC_CNT_SIG_FAIL).latch 52 else s
          s.status x 0x32 r 0 [BitVec.ofNat 8 k, 0, 0, 0])

/-! ## Modes -/

/-- Modes from which Table 2.2 allows a mode request. -/
def reqModes (req : Nat) (m : Mode) : Bool :=
  match req, m with
  | 5, .beacon | 5, .lead | 5, .shadow | 5, .service | 5, .dormant => true
  | 6, .beacon | 6, .lead | 6, .shadow | 6, .hold => true
  | 8, .hold => true
  | 9, .service => true
  | 10, .lead | 10, .shadow => true
  | 15, _ => true
  | _, _ => false

/-- A mode request: MODE 0x0040 of a session, or a write of GLB_MODE_REQ.
DESIGN CHOICE, log 21: unsafe. DEDUCED, log 28: unsafe. -/
def State.modeOp (s : State) (req : Nat) (v : Via) : State :=
  match v with
  | .kmp r =>
    let r := { r with args := [BitVec.ofNat 8 req, 0, 0, 0] }
    s.request 0x40 r (fun s x =>
      if !reqModes req s.node.mode then (s.put F.GLB_MODE_REQ_STATUS 3).status x 0x40 r 8
      else if req = 15 then (s.status x 0x40 r 0 [2, 0, 0, 0]).modeRequest 15
      else
        let s := s.modeRequest req
        let st := s.get F.GLB_MODE_REQ_STATUS
        s.status x 0x40 r (if st = 3 then 0xA else 0) [BitVec.ofNat 8 st, 0, 0, 0])
  | .reg m _ value => s.viaReg m GLB_MODE_REQ (withField value 0 4 req)

/-- HOLD. -/
def effHold (v : Via) (s : State) : State := s.modeOp 5 v

/-- SERVICE. -/
def effService (v : Via) (s : State) : State := s.modeOp 6 v

/-- RELEASE. -/
def effRelease (v : Via) (s : State) : State := s.modeOp 8 v

/-- EXIT_SERVICE. -/
def effExitService (v : Via) (s : State) : State := s.modeOp 9 v

/-- SWAP. -/
def effSwap (v : Via) (s : State) : State := s.modeOp 10 v

/-- RESET: a full START. DEDUCED, log 28: unsafe. -/
def effReset (v : Via) (s : State) : State := s.modeOp 15 v

/-! ## Commands of the blocks -/

/-- RESTEP (R276). -/
def effRestep (v : Via) (s : State) : State :=
  match v with
  | .kmp r => s.request 0x41 r (fun s x =>
      let t := s.restep (beAt r.args 0 1)
      t.1.status x 0x41 r t.2)
  | .reg m _ value => s.viaReg m TMS_CMD value

/-- REALIGN (R298). DESIGN CHOICE, log 29: unsafe. -/
def effRealign (v : Via) (s : State) : State :=
  match v with
  | .kmp r => s.request 0x42 r (fun s x =>
      let n := beAt r.args 0 8
      if n % 8 ≠ 0 then s.status x 0x42 r 5
      else
        let s := s.realignAsk (n / 8)
        let st := s.get F.CLK_REALIGN_STATUS
        s.status x 0x42 r (if st = 3 then 0xA else 0) [BitVec.ofNat 8 st, 0, 0, 0])
  | .reg m _ value => s.viaReg m CLK_REALIGN (withField value 0 1 1)

/-- RESYNC (R324). -/
def effResync (v : Via) (s : State) : State :=
  match v with
  | .kmp r => s.request 0x43 r (fun s x =>
      if s.node.mode ≠ .shadow then s.status x 0x43 r 8
      else if !s.paired then s.status x 0x43 r 0xA
      else (s.status x 0x43 r 0).resync)
  | .reg m _ value => s.viaReg m PAIR_WC_CTL (withField value 0 1 1)

/-- REPLACE (R339). -/
def effReplace (v : Via) (s : State) : State :=
  match v with
  | .kmp r => s.request 0x44 r (fun s x =>
      let l := beAt r.args 0 1
      if nLogical ≤ l then s.status x 0x44 r 5
      else if !s.replaceOk l then s.status x 0x44 r 0xA
      else ((s.put F.PAIR_RELIEF_CTL_LOGICAL l).status x 0x44 r 0).failBrick l true)
  | .reg m _ value => s.viaReg m PAIR_RELIEF_CTL (withField value 31 1 1)

/-- WAKE (R475). -/
def effWake (v : Via) (s : State) : State :=
  match v with
  | .kmp r => s.request 0x45 r (fun s x => (s.status x 0x45 r 0).wakeCommand)
  | .reg m _ value => s.viaReg m PWR_CTL (withField value 0 1 1)

/-- DIAG (R377). DESIGN CHOICE, log 29: unsafe. -/
def effDiag (v : Via) (s : State) : State :=
  match v with
  | .kmp r => s.request 0x46 r (fun s x =>
      let mode := beAt r.args 0 1
      if 2 < mode then s.status x 0x46 r 5
      else if s.bit F.AMP_STAT_DIAG_BUSY then (s.put F.AMP_DIAG_CTL_STATUS 3).status x 0x46 r 0xA
      else
        let s := (s.setRg AMP_DIAG_MASK (beAt r.args 4 8)).put F.AMP_DIAG_CTL_MODE mode
        (s.ampTouched AMP_DIAG_CTL 1).status x 0x46 r 0)
  | .reg m _ value => s.viaReg m AMP_DIAG_CTL (withField value 0 1 1)

/-- RETEST (R369). DESIGN CHOICE, log 29: unsafe. -/
def effRetest (v : Via) (s : State) : State :=
  match v with
  | .kmp r => s.request 0x47 r (fun s x =>
      let c := beAt r.args 0 1
      if 64 ≤ c then s.status x 0x47 r 5
      else if (s.ch c).state ≠ .latched ∧ (s.ch c).state ≠ .locked then s.status x 0x47 r 0xA
      else (s.ampTouched (AMP_CH_CTL c) 1).status x 0x47 r 0)
  | .reg m c value => s.viaReg m (AMP_CH_CTL (c % 64)) (withField value 0 1 1)

/-- PROPOSAL_ANSWER (R82). -/
def effProposalAnswer (r : KmpReq) (s : State) : State :=
  s.request 0x50 r (fun s x =>
    let yes := beAt r.args 4 1
    match s.kmp.proposals.find? (fun (p : Proposal) => p.id == beAt r.args 0 4) with
    | none => s.status x 0x50 r 5
    | some p =>
      if 1 < yes then s.status x 0x50 r 5
      else
        let s := s.status x 0x50 r 0
        if yes = 1 then (s.closeProposal p 0).perform p.act else s.closeProposal p 1)

/-- SUBSCRIBE (R494). -/
def effSubscribe (r : KmpReq) (s : State) : State :=
  s.request 0x51 r (fun s x =>
    (s.mapSession x.num (fun y => { y with mask := BitVec.ofNat 64 (beAt r.args 0 8) })).status x 0x51 r 0)

/-- CBUS_SEND (R400): the frame's result answers it. DESIGN CHOICE, log 29: unsafe. -/
def effCbusSend (r : KmpReq) (s : State) : State :=
  s.request 0x60 r (fun s x =>
    let m := beAt r.args 0 1
    if 4 ≤ m then s.status x 0x60 r 5
    else match s.cbusSubmit m (beAt r.args 1 1) (r.args.drop 4) (some (x.num, r.reqId)) with
      | some t => t
      | none => s.status x 0x60 r 0xA)

/-- TW0_XFER (R404): the transaction's result answers it. DESIGN CHOICE, log 29: unsafe. -/
def effTw0Xfer (r : KmpReq) (s : State) : State :=
  s.request 0x61 r (fun s x =>
    let cmd := beAt r.args 0 4 % 2 ^ 31
    let bytes := r.args.drop 4
    if 64 < fieldOf cmd 15 7 || 64 < fieldOf cmd 8 7 then s.status x 0x61 r 5
    else if bytes.length ≠ fieldOf cmd 15 7 then s.status x 0x61 r 0xE
    else if !s.tw0On then s.status x 0x61 r 0xA
    else s.tw0Submit cmd bytes (some (x.num, r.reqId)))

/-- ENROLL (R484). DESIGN CHOICE, log 29: unsafe. -/
def effEnroll (r : KmpReq) (s : State) : State :=
  s.request 0x70 r (fun s x =>
    let i := beAt r.args 0 1
    match (if i < 64 then s.cfgItem secAccess (0x100 + i) else none) with
    | none => s.status x 0x70 r 5
    | some v => if s.keysUsable then s.status x 0x70 r 0 (s.clientKey (v.take 16)) else s.status x 0x70 r 0xB)

/-! ## Provisioning and the lifecycle (R480 to R482) -/

/-- SET_MEDIUM; `ok` tells whether the fuses read back. -/
def effSetMedium (r : KmpReq) (ok : Bool) (s : State) : State :=
  s.request 0x80 r (fun s x =>
    let t := s.setMedium (beAt r.args 0 1) ok
    t.1.status x 0x80 r t.2)

/-- SET_DEVICE_KEY. -/
def effSetDeviceKey (r : KmpReq) (ok : Bool) (s : State) : State :=
  s.request 0x81 r (fun s x =>
    let t := s.setDeviceKey r.args ok
    t.1.status x 0x81 r t.2)

/-- GEN_SIGN_KEY. -/
def effGenSignKey (r : KmpReq) (ok : Bool) (s : State) : State :=
  s.request 0x82 r (fun s x =>
    let t := s.genSignKey ok
    t.1.status x 0x82 r t.2 t.1.fuses.signPub)

/-- SET_OWNER_KEY. -/
def effSetOwnerKey (r : KmpReq) (ok : Bool) (s : State) : State :=
  s.request 0x83 r (fun s x =>
    let t := s.setOwnerKey r.args ok
    t.1.status x 0x83 r t.2)

/-- A lifecycle change asked for by a session. -/
def State.lifeOp (s : State) (op code : Nat) (r : KmpReq) : State :=
  s.request op r (fun s x =>
    let k := s.lifecycleRefusal code x.auth
    if k ≠ 0 then s.status x op r k else (s.status x op r 0).lifecycleChange code)

/-- COMMIT (R480). -/
def effCommit (v : Via) (s : State) : State :=
  match v with
  | .kmp r => s.lifeOp 0x84 1 r
  | .reg m _ value => s.viaReg m SEC_CMD (withField value 28 4 1)

/-- SEAL (Table 17.7). -/
def effSeal (v : Via) (s : State) : State :=
  match v with
  | .kmp r => s.lifeOp 0x90 2 r
  | .reg m _ value => s.viaReg m SEC_CMD (withField value 28 4 2)

/-- A lifecycle command through the debug port at FULL (Table 17.7). -/
def State.debugLife (s : State) (code : Nat) : State :=
  if s.tapOn && s.get F.DBG_LEVEL_LEVEL = 2 && (code = 3 || s.lifecycle = 3) && s.lifecycleRefusal code true = 0 then
    s.lifecycleChange code
  else s

/-- RETURN (R482). -/
def effReturn (v : LifeVia) (s : State) : State :=
  match v with
  | .kmp r => s.lifeOp 0x91 3 r
  | .reg m value => s.viaReg m SEC_CMD (withField value 28 4 3)
  | .debug => s.debugLife 3

/-- SCRAP: CONFIRM names the low word of DEVICE_ID. DESIGN CHOICE, log 29: unsafe. -/
def effScrap (v : LifeVia) (s : State) : State :=
  match v with
  | .kmp r => s.request 0x92 r (fun s x =>
      let k := s.lifecycleRefusal 4 x.auth
      if k ≠ 0 then s.status x 0x92 r k
      else if beAt r.args 0 4 ≠ s.fuses.deviceId % 2 ^ 32 then s.status x 0x92 r 5
      else (s.status x 0x92 r 0).lifecycleChange 4)
  | .reg m value => s.viaReg m SEC_CMD (withField value 28 4 4)
  | .debug => s.debugLife 4

/-- DEBUG_LEVEL (R498). DESIGN CHOICE, log 29: unsafe. -/
def effDebugLevel (v : Via) (s : State) : State :=
  match v with
  | .kmp r => s.request 0xA0 r (fun s x =>
      let l := beAt r.args 0 1
      if 2 < l then s.status x 0xA0 r 5
      else
        let s := s.debugControl l
        let st := s.get F.DBG_CTL_STATUS
        s.status x 0xA0 r (if st = 1 then 0 else 0xA) [BitVec.ofNat 8 st, 0, 0, 0])
  | .reg m _ value => s.viaReg m DBG_CTL value

/-! ## SDP (R269) -/

/-- A number in decimal digits. -/
def decText (n : Nat) : List Byte := ascii (toString n)

/-- One octet in upper-case hexadecimal. -/
def hexOctet (n : Nat) : List Byte :=
  let d (k : Nat) : Byte := BitVec.ofNat 8 (if k < 10 then 48 + k else 55 + k)
  [d (n / 16 % 16), d (n % 16)]

/-- A clock identity, its octets joined by hyphens. PRESUMED, log 30: unsafe. -/
def gmText (id : Nat) : List Byte :=
  (beBytes 8 id).zipIdx.flatMap (fun e => (if e.2 = 0 then [] else ascii "-") ++ hexOctet e.1.toNat)

/-- The end of a line. -/
def crlf : List Byte := [13, 10]

/-- The SDP text of a stream: the lines R269 states, in the text of the others. PRESUMED, log 30: unsafe. -/
def State.sdpText (s : State) (stream : Nat) (rx : Bool) : List Byte :=
  let tsofs := s.rg (if rx then STR_RX_TSOFS stream else STR_TX_TSOFS stream)
  let src := s.get F.TMS_STAT_STEP_SRC
  let d := src - 1
  let clock := if src = 0 then ascii "local"
    else ascii "ptp=IEEE1588-2008:" ++ gmText (s.rg (TMS_PTP_GMID d)) ++ ascii ":" ++ decText (s.get (F.TMS_PTP_CFG_DOMAIN_NUM d))
  Config.sdpBody (2 * stream + (if rx then 1 else 0)) ++ ascii "a=mediaclk:direct=" ++ decText tsofs ++ crlf
    ++ ascii "a=ts-refclk:" ++ clock ++ crlf

/-- SDP. -/
def effSdp (r : KmpReq) (s : State) : State :=
  s.request 0xB0 r (fun s x =>
    let k := beAt r.args 0 1
    let dir := beAt r.args 1 1
    if 1 < dir then s.status x 0xB0 r 5 else s.status x 0xB0 r 0 (s.sdpText k (dir == 1)))

/-! ## Meanings of the commands -/

/-- IDENTIFY (R492). -/
def execIdentify (r : KmpReq) (s : State) : Result :=
  runs s (effIdentify r)

/-- TAKE_CONTROL (R80). -/
def execTakeControl (r : KmpReq) (s : State) : Result :=
  runs s (effTakeControl r)

/-- DROP_CONTROL (R492). -/
def execDropControl (r : KmpReq) (s : State) : Result :=
  runs s (effDropControl r)

/-- READ (R487). -/
def execRead (r : KmpReq) (s : State) : Result :=
  runs s (effRead r)

/-- WRITE (R487). -/
def execWrite (r : KmpReq) (s : State) : Result :=
  runs s (effWrite r)

/-- GROUP (R106). -/
def execGroup (r : KmpReq) (s : State) : Result :=
  runs s (effGroup r)

/-- DAYMARK (R121). -/
def execDaymark (r : KmpReq) (s : State) : Result :=
  runs s (effDaymark r)

/-- COMPACT (R111). -/
def execCompact (v : Via) (s : State) : Result :=
  runs s (effCompact v)

/-- IMAGE_OPEN (R73). -/
def execImageOpen (r : KmpReq) (s : State) : Result :=
  runs s (effImageOpen r)

/-- IMAGE_DATA (R495). -/
def execImageData (r : KmpReq) (s : State) : Result :=
  runs s (effImageData r)

/-- IMAGE_COMMIT (R74). -/
def execImageCommit (r : KmpReq) (s : State) : Result :=
  runs s (effImageCommit r)

/-- HOLD (R59). -/
def execHold (v : Via) (s : State) : Result :=
  runs s (effHold v)

/-- SERVICE (R59). -/
def execService (v : Via) (s : State) : Result :=
  runs s (effService v)

/-- RELEASE (R60). -/
def execRelease (v : Via) (s : State) : Result :=
  runs s (effRelease v)

/-- EXIT_SERVICE (R59). -/
def execExitService (v : Via) (s : State) : Result :=
  runs s (effExitService v)

/-- SWAP (R333). -/
def execSwap (v : Via) (s : State) : Result :=
  runs s (effSwap v)

/-- RESET (R59). -/
def execReset (v : Via) (s : State) : Result :=
  runs s (effReset v)

/-- RESTEP (R276). -/
def execRestep (v : Via) (s : State) : Result :=
  runs s (effRestep v)

/-- REALIGN (R298). -/
def execRealign (v : Via) (s : State) : Result :=
  runs s (effRealign v)

/-- RESYNC (R324). -/
def execResync (v : Via) (s : State) : Result :=
  runs s (effResync v)

/-- REPLACE (R339). -/
def execReplace (v : Via) (s : State) : Result :=
  runs s (effReplace v)

/-- WAKE (R475). -/
def execWake (v : Via) (s : State) : Result :=
  runs s (effWake v)

/-- DIAG (R377). -/
def execDiag (v : Via) (s : State) : Result :=
  runs s (effDiag v)

/-- RETEST (R369). -/
def execRetest (v : Via) (s : State) : Result :=
  runs s (effRetest v)

/-- PROPOSAL_ANSWER (R82). -/
def execProposalAnswer (r : KmpReq) (s : State) : Result :=
  runs s (effProposalAnswer r)

/-- SUBSCRIBE (R494). -/
def execSubscribe (r : KmpReq) (s : State) : Result :=
  runs s (effSubscribe r)

/-- CBUS_SEND (R400). -/
def execCbusSend (r : KmpReq) (s : State) : Result :=
  runs s (effCbusSend r)

/-- TW0_XFER (R404). -/
def execTw0Xfer (r : KmpReq) (s : State) : Result :=
  runs s (effTw0Xfer r)

/-- ENROLL (R484). -/
def execEnroll (r : KmpReq) (s : State) : Result :=
  runs s (effEnroll r)

/-- SET_MEDIUM (R480). -/
def execSetMedium (r : KmpReq) (ok : Bool) (s : State) : Result :=
  runs s (effSetMedium r ok)

/-- SET_DEVICE_KEY (R480). -/
def execSetDeviceKey (r : KmpReq) (ok : Bool) (s : State) : Result :=
  runs s (effSetDeviceKey r ok)

/-- GEN_SIGN_KEY (R480). -/
def execGenSignKey (r : KmpReq) (ok : Bool) (s : State) : Result :=
  runs s (effGenSignKey r ok)

/-- SET_OWNER_KEY (R480). -/
def execSetOwnerKey (r : KmpReq) (ok : Bool) (s : State) : Result :=
  runs s (effSetOwnerKey r ok)

/-- COMMIT (R480). -/
def execCommit (v : Via) (s : State) : Result :=
  runs s (effCommit v)

/-- SEAL (R481). -/
def execSeal (v : Via) (s : State) : Result :=
  runs s (effSeal v)

/-- RETURN (R482). -/
def execReturn (v : LifeVia) (s : State) : Result :=
  runs s (effReturn v)

/-- SCRAP (R481). -/
def execScrap (v : LifeVia) (s : State) : Result :=
  runs s (effScrap v)

/-- DEBUG_LEVEL (R498). -/
def execDebugLevel (v : Via) (s : State) : Result :=
  runs s (effDebugLevel v)

/-- SDP (R269). -/
def execSdp (r : KmpReq) (s : State) : Result :=
  runs s (effSdp r)

end Sys2Proof.Machine
end

