-- ==== Sys2Proof/Machine/Collector.lean ====
section
/-! DEFINITION. Events of the fault collector (R447 to R463) and single register accesses (R21, R25, R533). -/

namespace Sys2Proof.Machine

/-! ## The pin and the bits -/

/-- ERR_N_PULSE_END (R454): FLT_PULSE_MIN has passed since the latest latch. -/
def effErrNPulseEnd (s : State) : State :=
  if s.flt.pulsing then s.pinStep { s with flt := { s.flt with pulsing := false } } else s

/-- An access's answer to its master. -/
def State.answer (r : State × Access) : State :=
  match r.2 with
  | .done v => r.1.emit (.data v)
  | _ => r.1.emit .error

/-- A write's answer to its master. -/
def State.answerWrite (r : State × Access) : State :=
  match r.2 with
  | .done _ => r.1.emit .done
  | _ => r.1.emit .error

/-- FAULT_CLEAR (R456): 1 is written to bits of FLT_STATUS; some lines may assert in the same PERI cycle. -/
def effFaultClear (m : Master) (c : ClearIn) (s : State) : State :=
  let r := { s with flt := { s.flt with asserted := c.asserted } }.busWrite m FLT_STATUS true c.mask.toNat
  State.answerWrite ({ r.1 with flt := { r.1.flt with asserted := 0 } }, r.2)

/-- FAULT_AUTO_CLEAR (R457): the cause of AUTO bit `k` has been absent for 1 s. -/
def effFaultAutoClear (k : Nat) (s : State) : State :=
  if !s.latched k || !s.bit (F.FLT_CFG_AUTO k) || s.causePresent k then s
  else if s.policyActs then
    let held := s.flt.hold.getLsbD k
    let s := (s.clearFault k).policyPin
    let s := if held && s.flt.hold = 0 && s.node.mode = .hold then { s with node := { s.node with released := true } } else s
    s.tryRelease
  else s.propose (.clearFault k)

/-- SOFT0: a write of 1 to FLT_SOFT.SOFT0. -/
def effSoft0 (m : Master) (s : State) : State := State.answerWrite (s.busWrite m FLT_SOFT false 1)

/-- SOFT1: a write of 1 to FLT_SOFT.SOFT1. -/
def effSoft1 (m : Master) (s : State) : State := State.answerWrite (s.busWrite m FLT_SOFT false 2)

/-! ## What the die measures -/

/-- KEEPER_WATCHDOG: the Keeper has not served its watchdog for 100 ms. DESIGN CHOICE, log 82: unsafe. -/
def effKeeperWatchdog (s : State) : State := s.latch 11

/-- Rows of an array: Brick memories (32,768 × Brick + row), delay pool, shared SRAM, patch table. -/
def scrubRows (a : Nat) : Nat :=
  match a with
  | 0 => 3145728
  | 1 => 4194304
  | 2 => 524288
  | _ => 16384

/-- The scrubber writes a row back corrected: the status bit and the CE source of its array (R462). -/
def State.scrubCorrected (s : State) (a row : Nat) : State :=
  match a with
  | 0 => ((s.mendRow (0x10000000 + 8 * row)).putBit (F.BRK_STAT_ECC_CE (row / 32768)) true).latch 1
  | 1 => (s.putBit F.DYN_STAT_ECC_CE true).latch 8
  | 2 => s.latch 10
  | _ => (s.putBit F.PATCH_STAT_ECC_CE true).latch 6

/-- The scrubber finds a row with an uncorrectable error: the UE source of its array and the effects of R336, R212, R461 and R199. -/
def State.scrubBad (s : State) (a row : Nat) : State :=
  match a with
  | 0 => effReliefTakeover (row / 32768) s
  | 1 => s.damageRow (8 * row)
  | 2 => (s.badRow row).latch 9
  | _ => s.damageEntry row

/-- SCRUB_PASS_START (R463): SCRUB_PERIOD expires for array `a`. `ended` tells whether the pass before has ended; since the period
began it corrected the rows `corrected` and found the rows `bad` uncorrectable. DEDUCED, log 80: unsafe. -/
def effScrubPassStart (a : Nat) (ended : Bool) (corrected bad : List Nat) (s : State) : State :=
  let here (l : List Nat) : List Nat := l.filter (fun r => decide (r < scrubRows a))
  let s := (s.bump (F.FLT_SCRUB_STAT_CORRECTED a) (here corrected).length).bump (F.FLT_SCRUB_STAT_UNCORR a) (here bad).length
  let s := (here corrected).foldl (fun s r => s.scrubCorrected a r) s
  let s := (here bad).foldl (fun s r => s.scrubBad a r) s
  if !s.flt.scrubbing.contains a then { s with flt := { s.flt with scrubbing := a :: s.flt.scrubbing } }
  else if ended then s.bumpWrap (F.FLT_SCRUB_STAT_PASSES a)
  else s.latch 57

/-- TJ_UPDATE: the die temperature, signed Q8.8. -/
def effTjUpdate (t : BitVec 16) (s : State) : State :=
  let s := s.put F.FLT_TJ_TEMP t.toNat
  let high := if (s.get F.FLT_TJ_HIGH_THR : Int) * 256 < s.tj then [54] else []
  let crit := if 115 * 256 < s.tj then [55] else []
  s.latchAll (high ++ crit)

/-- SUPPLY_MONITOR: an on-die supply monitor leaves its window. -/
def effSupplyMonitor (s : State) : State := ({ s with flt := { s.flt with supplyBad := true } }).latch 56

/-- SUPPLY_MONITOR_RETURN: it comes back. -/
def effSupplyMonitorReturn (s : State) : State := { s with flt := { s.flt with supplyBad := false } }

/-! ## Single register accesses -/

/-- Reads of the debug port below FULL go through its read tap, which has no side effects (R33, R496).
DEDUCED, log 36: unsafe. -/
def State.tapRead (s : State) (m : Master) : Bool := m = .debug && s.get F.DBG_LEVEL_LEVEL != 2

/-- REGISTER_WRITE (R21): 32 bits, or 64 bits, by a master. -/
def effRegisterWrite (m : Master) (a : Nat) (wide : Bool) (x : Nat) (s : State) : State :=
  State.answerWrite (s.busWrite m a wide x)

/-- REGISTER_READ_CLEAR (R21): a read returns the value and resets the RC fields. -/
def effRegisterReadClear (m : Master) (a : Nat) (wide : Bool) (s : State) : State :=
  State.answer (s.busRead m (s.tapRead m) a wide)

/-- CAPTURING_READ (R25): a 32-bit read; that of a lower word captures the upper word for the master. -/
def effCapturingRead (m : Master) (a : Nat) (s : State) : State := State.answer (s.busRead m (s.tapRead m) a false)

/-- TMS_NOW_CAPTURE (R533): a read of TMS_NOW_NS. DEDUCED, log 36: unsafe. -/
def effTmsNowCapture (m : Master) (wide : Bool) (s : State) : State :=
  State.answer (s.busRead m (s.tapRead m) TMS_NOW_NS wide)

/-! ## Meanings of the commands -/

/-- REGISTER_WRITE (R21). -/
def execRegisterWrite (m : Master) (a : Word32) (wide : Bool) (x : Word64) (s : State) : Result :=
  runs s (effRegisterWrite m a.toNat wide x.toNat)

/-- REGISTER_READ_CLEAR (R21). -/
def execRegisterReadClear (m : Master) (a : Word32) (wide : Bool) (s : State) : Result :=
  runs s (effRegisterReadClear m a.toNat wide)

/-- CAPTURING_READ (R25). -/
def execCapturingRead (m : Master) (a : Word32) (s : State) : Result :=
  runs s (effCapturingRead m a.toNat)

/-- TMS_NOW_CAPTURE (R533). -/
def execTmsNowCapture (m : Master) (wide : Bool) (s : State) : Result :=
  runs s (effTmsNowCapture m wide)

/-- ERR_N_PULSE_END (R454). -/
def execErrNPulseEnd (s : State) : Result :=
  runs s effErrNPulseEnd

/-- FAULT_CLEAR (R456). -/
def execFaultClear (m : Master) (mask : ClearIn) (s : State) : Result :=
  runs s (effFaultClear m mask)

/-- FAULT_AUTO_CLEAR (R457). -/
def execFaultAutoClear (k : Fin 64) (s : State) : Result :=
  runs s (effFaultAutoClear k.val)

/-- SOFT0 (R447). -/
def execSoft0 (m : Master) (s : State) : Result :=
  runs s (effSoft0 m)

/-- SOFT1 (R447). -/
def execSoft1 (m : Master) (s : State) : Result :=
  runs s (effSoft1 m)

/-- KEEPER_WATCHDOG (R447). -/
def execKeeperWatchdog (s : State) : Result :=
  runs s effKeeperWatchdog

/-- SCRUB_PASS_START (R463). -/
def execScrubPassStart (a : Fin 4) (ended : Bool) (corrected : List Nat) (bad : List Nat) (s : State) : Result :=
  runs s (effScrubPassStart a.val ended corrected bad)

/-- TJ_UPDATE (R447). -/
def execTjUpdate (t : BitVec 16) (s : State) : Result :=
  runs s (effTjUpdate t)

/-- SUPPLY_MONITOR (R447). -/
def execSupplyMonitor (s : State) : Result :=
  runs s effSupplyMonitor

/-- SUPPLY_MONITOR_RETURN (R447). -/
def execSupplyMonitorReturn (s : State) : Result :=
  runs s effSupplyMonitorReturn

end Sys2Proof.Machine
end

