-- ==== Sys2Proof/Machine/Tick.lean ====
section
/-! DEFINITION. SAMPLE_TICK: one sample period of the whole engine (R30 to R34, Table 1.3, R268). -/

namespace Sys2Proof.Machine

/-- A finite map of the operand as a sparse table; the last entry of a key counts. -/
def toTbl {n : Nat} {α : Type} (l : List (Fin n × α)) : Tbl α := l.foldl (fun m e => cins m e.1.val e.2) []

/-- Change every value of a table. -/
def tmapv {α β : Type} (f : α → β) (m : Tbl α) : Tbl β := m.map (fun (e : Nat × α) => (e.1, f e.2))

/-- The time counter moves to the first of its values that reaches T(n) (R266, R268). DESIGN CHOICE, log 6: unsafe. -/
def State.advance (s : State) (n : Nat) : State :=
  let c := s.counterFrom (s.tickTime n)
  { s with node := { s.node with
    n := BitVec.ofNat 64 n, fresh := false, holdNow := false, serviceNow := false, time := c.1, pattern := c.2, uptime := s.node.uptime + (c.1 - s.node.time) } }

/-- A wake that completes after the event that caused it (R476). -/
def State.checkLate (s : State) : State :=
  match s.pwr.due with
  | none => s
  | some t =>
    if s.node.mode = .dormant then s
    else
      let s := { s with pwr := { s.pwr with due := none } }
      if t < s.node.time then s.latch 62 else s

/-- What the checks found in the sample period.
DESIGN CHOICE, log 15: unsafe. DESIGN CHOICE, log 70: unsafe. DEDUCED, log 80: unsafe. -/
def State.tickErrors (s : State) (i : TickIn) : State :=
  let s := i.patchUe.foldl (fun s e => s.damageEntry e.val) s
  let s := i.poolUe.foldl (fun s e => s.damageRow (8 * e.val)) s
  let s := i.brickSoft.foldl (fun (s : State) r => s.softRow r.val) s
  let s := i.brickCe.foldl (fun (s : State) b => (s.putBit (F.BRK_STAT_ECC_CE b.val) true).latch 1) s
  let s := if i.patchCe then (s.putBit F.PATCH_STAT_ECC_CE true).latch 6 else s
  let s := if i.poolCe then (s.putBit F.DYN_STAT_ECC_CE true).latch 8 else s
  let s := if i.sramCe then s.latch 10 else s
  let s := i.sramUe.foldl (fun (s : State) r => s.badRow r.val) s
  i.fec.foldl (fun (s : State) e =>
    if !s.portUp e.1.val || !s.bit (F.NET_PORT_STAT_FEC_ON e.1.val) then s
    else
      let s := (s.bump (F.NET_CNT_COUNT e.1.val 10) e.2.1).bump (F.NET_CNT_COUNT e.1.val 11) e.2.2
      if e.2.2 = 0 then s else s.latch 25) s

/-- The audio blocks at tick `t`. DESIGN CHOICE, log 15: unsafe. -/
def State.audioTick (s : State) (t : Nat) (i : TickIn) : State :=
  let s := { s with pair := { s.pair with wrote := [] } }
  let s := (s.settleWrites.resumeOutputs t).yieldTick.wcBlockTick
  let before := s
  let r := s.rxTick t
  let tdm := r.1.tdmIn (tmapv BitVec.toNat (toTbl i.tdm))
  let s := (r.1.engineTick t r.2 tdm r.1.brickHeld).holdDsts before
  let s := s.wcMirrorTick
  let vals := s.outValues
  let s := (s.txTick t vals).collectDigest vals
  let s := s.outputTick t
  s.ckptTick t

/-- SAMPLE_TICK. The tick and N go on in every mode once N has its start (R31, R63); audio advances while it runs.
DESIGN CHOICE, log 6: unsafe. DESIGN CHOICE, log 15: unsafe. -/
def effSampleTick (i : TickIn) (s : State) : State :=
  let t := s.nextN
  let s := ((s.advance t).releaseLoads t).checkLate
  let was := s.audio.running
  let s := ((((s.quietTick.tickErrors i).boundaryTick).promoteTick).settleModes).groupsTick
  -- audio that starts at step 12's block boundary counts from that tick (R63)
  let s := if s.audio.running && !was then { s with audio := { s.audio with startN := t } } else s
  -- the Ts that ends is played out and sensed; what was written for the output stage takes effect, unless MOD is gated (R52)
  let s := if s.modGated then s else (s.playAll.settleAmpWrites.takeRole).senseTick (toTbl i.sense)
  let s := if s.audio.running then s.audioTick t i else s
  s.flashTick.outboxTick

/-! ## Meanings of the commands -/

/-- SAMPLE_TICK (R30). -/
def execSampleTick (i : TickIn) (s : State) : Result :=
  runs s (effSampleTick i)

end Sys2Proof.Machine
end

