-- ==== Sys2Proof/Machine/Dispatch.lean ====
section
/-! DEFINITION. What each command does: one arm per constructor of `Instr`, in the order of spec/opcode_table.json. -/

namespace Sys2Proof.Machine

/-- The effect of a command on everything but the queue of waiting commands. -/
def exec (instr : Instr) (s : State) : Host.Outcome State Fault Refusal :=
  match instr with
  | .powerOn straps density => Sys2Proof.Machine.execPowerOn straps density s
  | .resetNRise straps density => Sys2Proof.Machine.execResetNRise straps density s
  | .resetNLow group image => Sys2Proof.Machine.execResetNLow group image s
  | .listenWindowEnd => Sys2Proof.Machine.execListenWindowEnd s
  | .startGateTimeout => Sys2Proof.Machine.execStartGateTimeout s
  | .imageStart => Sys2Proof.Machine.execImageStart s
  | .resetFaultStart => Sys2Proof.Machine.execResetFaultStart s
  | .firmwareUpdateDone => Sys2Proof.Machine.execFirmwareUpdateDone s
  | .sampleTick i => Sys2Proof.Machine.execSampleTick i s
  | .brickOverrun b c => Sys2Proof.Machine.execBrickOverrun b c s
  | .gainRampEnd i => Sys2Proof.Machine.execGainRampEnd i s
  | .fadeEnd i => Sys2Proof.Machine.execFadeEnd i s
  | .programWaitEnd d => Sys2Proof.Machine.execProgramWaitEnd d s
  | .patchEntryRewrite i => Sys2Proof.Machine.execPatchEntryRewrite i s
  | .meterWindowEnd j => Sys2Proof.Machine.execMeterWindowEnd j s
  | .delayFadeStart d => Sys2Proof.Machine.execDelayFadeStart d s
  | .delayFadeEnd d => Sys2Proof.Machine.execDelayFadeEnd d s
  | .dynDetach i => Sys2Proof.Machine.execDynDetach i s
  | .lookaheadChange i => Sys2Proof.Machine.execLookaheadChange i s
  | .groupCommitted ok => Sys2Proof.Machine.execGroupCommitted ok s
  | .groupApply => Sys2Proof.Machine.execGroupApply s
  | .codeRunLoaded l index => Sys2Proof.Machine.execCodeRunLoaded l index s
  | .bankSwitch l index => Sys2Proof.Machine.execBankSwitch l index s
  | .compactionCommit ok => Sys2Proof.Machine.execCompactionCommit ok s
  | .compactionRetry => Sys2Proof.Machine.execCompactionRetry s
  | .norEraseDone a ok => Sys2Proof.Machine.execNorEraseDone a ok s
  | .sessionOpen client nonce auth => Sys2Proof.Machine.execSessionOpen client nonce auth s
  | .sessionClose h reason => Sys2Proof.Machine.execSessionClose h reason s
  | .keepalive h => Sys2Proof.Machine.execKeepalive h s
  | .notifyAck h seq => Sys2Proof.Machine.execNotifyAck h seq s
  | .sessionIdleTimeout n => Sys2Proof.Machine.execSessionIdleTimeout n s
  | .clientTimeout n => Sys2Proof.Machine.execClientTimeout n s
  | .proposalTimeout id => Sys2Proof.Machine.execProposalTimeout id s
  | .notifyResend n seq => Sys2Proof.Machine.execNotifyResend n seq s
  | .identify r => Sys2Proof.Machine.execIdentify r s
  | .takeControl r => Sys2Proof.Machine.execTakeControl r s
  | .dropControl r => Sys2Proof.Machine.execDropControl r s
  | .read r => Sys2Proof.Machine.execRead r s
  | .write r => Sys2Proof.Machine.execWrite r s
  | .group r => Sys2Proof.Machine.execGroup r s
  | .daymark r => Sys2Proof.Machine.execDaymark r s
  | .compact v => Sys2Proof.Machine.execCompact v s
  | .imageOpen r => Sys2Proof.Machine.execImageOpen r s
  | .imageData r => Sys2Proof.Machine.execImageData r s
  | .imageCommit r => Sys2Proof.Machine.execImageCommit r s
  | .imageTransferIdle => Sys2Proof.Machine.execImageTransferIdle s
  | .hold v => Sys2Proof.Machine.execHold v s
  | .service v => Sys2Proof.Machine.execService v s
  | .release v => Sys2Proof.Machine.execRelease v s
  | .exitService v => Sys2Proof.Machine.execExitService v s
  | .swap v => Sys2Proof.Machine.execSwap v s
  | .reset v => Sys2Proof.Machine.execReset v s
  | .restep v => Sys2Proof.Machine.execRestep v s
  | .realign v => Sys2Proof.Machine.execRealign v s
  | .realignExecute => Sys2Proof.Machine.execRealignExecute s
  | .resync v => Sys2Proof.Machine.execResync v s
  | .replace v => Sys2Proof.Machine.execReplace v s
  | .wake v => Sys2Proof.Machine.execWake v s
  | .diag v => Sys2Proof.Machine.execDiag v s
  | .retest v => Sys2Proof.Machine.execRetest v s
  | .proposalAnswer r => Sys2Proof.Machine.execProposalAnswer r s
  | .subscribe r => Sys2Proof.Machine.execSubscribe r s
  | .cbusSend r => Sys2Proof.Machine.execCbusSend r s
  | .tw0Xfer r => Sys2Proof.Machine.execTw0Xfer r s
  | .enroll r => Sys2Proof.Machine.execEnroll r s
  | .setMedium r ok => Sys2Proof.Machine.execSetMedium r ok s
  | .setDeviceKey r ok => Sys2Proof.Machine.execSetDeviceKey r ok s
  | .genSignKey r ok => Sys2Proof.Machine.execGenSignKey r ok s
  | .setOwnerKey r ok => Sys2Proof.Machine.execSetOwnerKey r ok s
  | .commit v => Sys2Proof.Machine.execCommit v s
  | .seal v => Sys2Proof.Machine.execSeal v s
  | .return_ v => Sys2Proof.Machine.execReturn v s
  | .scrap v => Sys2Proof.Machine.execScrap v s
  | .debugLevel v => Sys2Proof.Machine.execDebugLevel v s
  | .sdp r => Sys2Proof.Machine.execSdp r s
  | .zeroizeNLow still => Sys2Proof.Machine.execZeroizeNLow still s
  | .idcode => Sys2Proof.Machine.execIdcode s
  | .samplePreload bits v => Sys2Proof.Machine.execSamplePreload bits v s
  | .extest bits v => Sys2Proof.Machine.execExtest bits v s
  | .dbgStatus => Sys2Proof.Machine.execDbgStatus s
  | .dbgReq l => Sys2Proof.Machine.execDbgReq l s
  | .dbgChal => Sys2Proof.Machine.execDbgChal s
  | .dbgUnlock sig => Sys2Proof.Machine.execDbgUnlock sig s
  | .diagRead a => Sys2Proof.Machine.execDiagRead a s
  | .mortar q => Sys2Proof.Machine.execMortar q s
  | .bypass => Sys2Proof.Machine.execBypass s
  | .dbgTapReset => Sys2Proof.Machine.execDbgTapReset s
  | .dbgTckLoss => Sys2Proof.Machine.execDbgTckLoss s
  | .dbgChallengeExpiry => Sys2Proof.Machine.execDbgChallengeExpiry s
  | .dbgUnlockBackoffEnd => Sys2Proof.Machine.execDbgUnlockBackoffEnd s
  | .registerWrite m a wide x => Sys2Proof.Machine.execRegisterWrite m a wide x s
  | .registerReadClear m a wide => Sys2Proof.Machine.execRegisterReadClear m a wide s
  | .capturingRead m a => Sys2Proof.Machine.execCapturingRead m a s
  | .tmsNowCapture m wide => Sys2Proof.Machine.execTmsNowCapture m wide s
  | .pulseArm i cfg => Sys2Proof.Machine.execPulseArm i cfg s
  | .pulseDisarm i cfg => Sys2Proof.Machine.execPulseDisarm i cfg s
  | .pulseEdge i => Sys2Proof.Machine.execPulseEdge i s
  | .tcapEdge j fall t => Sys2Proof.Machine.execTcapEdge j fall t s
  | .pop j => Sys2Proof.Machine.execPop j s
  | .ptpSyncRx d m t2 => Sys2Proof.Machine.execPtpSyncRx d m t2 s
  | .ptpDelayRespRx d m => Sys2Proof.Machine.execPtpDelayRespRx d m s
  | .ptpAnnounceRx d m => Sys2Proof.Machine.execPtpAnnounceRx d m s
  | .ptpDelayReqRx d m t4 => Sys2Proof.Machine.execPtpDelayReqRx d m t4 s
  | .ptpSyncSend d t => Sys2Proof.Machine.execPtpSyncSend d t s
  | .ptpAnnounceSend d => Sys2Proof.Machine.execPtpAnnounceSend d s
  | .ptpDelayReqSend d t3 => Sys2Proof.Machine.execPtpDelayReqSend d t3 s
  | .announceReceiptTimeout d => Sys2Proof.Machine.execAnnounceReceiptTimeout d s
  | .timeStep => Sys2Proof.Machine.execTimeStep s
  | .rootUnlock => Sys2Proof.Machine.execRootUnlock s
  | .refEvent r t => Sys2Proof.Machine.execRefEvent r t s
  | .refLoss r => Sys2Proof.Machine.execRefLoss r s
  | .refFreqUpdate => Sys2Proof.Machine.execRefFreqUpdate s
  | .refQualified r => Sys2Proof.Machine.execRefQualified r s
  | .refSuspectMark => Sys2Proof.Machine.execRefSuspectMark s
  | .refSuspectClear => Sys2Proof.Machine.execRefSuspectClear s
  | .switchCommit => Sys2Proof.Machine.execSwitchCommit s
  | .switchComplete => Sys2Proof.Machine.execSwitchComplete s
  | .wtrExpiry r => Sys2Proof.Machine.execWtrExpiry r s
  | .holdoverTimeout => Sys2Proof.Machine.execHoldoverTimeout s
  | .forceSelect en r => Sys2Proof.Machine.execForceSelect en r s
  | .frameReceived f => Sys2Proof.Machine.execFrameReceived f s
  | .streamDeadline k => Sys2Proof.Machine.execStreamDeadline k s
  | .linkUp p => Sys2Proof.Machine.execLinkUp p s
  | .linkDown p => Sys2Proof.Machine.execLinkDown p s
  | .rateAttemptTimeout p => Sys2Proof.Machine.execRateAttemptTimeout p s
  | .addressAgeOut d mac => Sys2Proof.Machine.execAddressAgeOut d mac s
  | .groupAgeOut d g => Sys2Proof.Machine.execGroupAgeOut d g s
  | .txRingHead r head => Sys2Proof.Machine.execTxRingHead r head s
  | .flashReceived d addr mac bytes => Sys2Proof.Machine.execFlashReceived d addr mac bytes s
  | .handoverEffective => Sys2Proof.Machine.execHandoverEffective s
  | .swapAbandon => Sys2Proof.Machine.execSwapAbandon s
  | .partnerLost => Sys2Proof.Machine.execPartnerLost s
  | .flashDormantSend => Sys2Proof.Machine.execFlashDormantSend s
  | .standbyTurnHot => Sys2Proof.Machine.execStandbyTurnHot s
  | .wcPatch bytes => Sys2Proof.Machine.execWcPatch bytes s
  | .wcMirror bytes => Sys2Proof.Machine.execWcMirror bytes s
  | .wcBulk bytes => Sys2Proof.Machine.execWcBulk bytes s
  | .wcSwitch bytes => Sys2Proof.Machine.execWcSwitch bytes s
  | .wcStop bytes => Sys2Proof.Machine.execWcStop bytes s
  | .wcStatus bytes => Sys2Proof.Machine.execWcStatus bytes s
  | .wcAbort bytes => Sys2Proof.Machine.execWcAbort bytes s
  | .wcUnitJoined u => Sys2Proof.Machine.execWcUnitJoined u s
  | .wcRetry => Sys2Proof.Machine.execWcRetry s
  | .reliefTakeover b => Sys2Proof.Machine.execReliefTakeover b s
  | .reliefLoaded l => Sys2Proof.Machine.execReliefLoaded l s
  | .reliefRun l => Sys2Proof.Machine.execReliefRun l s
  | .reliefReady l => Sys2Proof.Machine.execReliefReady l s
  | .reliefDone l => Sys2Proof.Machine.execReliefDone l s
  | .currentTrip m k => Sys2Proof.Machine.execCurrentTrip m k s
  | .retestStart m => Sys2Proof.Machine.execRetestStart m s
  | .retestEnd m => Sys2Proof.Machine.execRetestEnd m s
  | .retriesReset m => Sys2Proof.Machine.execRetriesReset m s
  | .senseLost input k => Sys2Proof.Machine.execSenseLost input k s
  | .senseReturn input k => Sys2Proof.Machine.execSenseReturn input k s
  | .railUnderVoltage r => Sys2Proof.Machine.execRailUnderVoltage r s
  | .railOverVoltage r => Sys2Proof.Machine.execRailOverVoltage r s
  | .railRecover r => Sys2Proof.Machine.execRailRecover r s
  | .diagStepEnd m => Sys2Proof.Machine.execDiagStepEnd m s
  | .pilotWindowEnd m => Sys2Proof.Machine.execPilotWindowEnd m s
  | .cbusEnable m plca => Sys2Proof.Machine.execCbusEnable m plca s
  | .cbusDisable m => Sys2Proof.Machine.execCbusDisable m s
  | .cbusFrameRx f => Sys2Proof.Machine.execCbusFrameRx f s
  | .cbusFalseCarrier f => Sys2Proof.Machine.execCbusFalseCarrier f s
  | .cbusJabber f => Sys2Proof.Machine.execCbusJabber f s
  | .cbusTxData m w => Sys2Proof.Machine.execCbusTxData m w s
  | .cbusGo m len tag => Sys2Proof.Machine.execCbusGo m len tag s
  | .cbusFlush m => Sys2Proof.Machine.execCbusFlush m s
  | .cbusAttemptStart m deferred => Sys2Proof.Machine.execCbusAttemptStart m deferred s
  | .cbusCollision m late noCrs => Sys2Proof.Machine.execCbusCollision m late noCrs s
  | .cbusBackoffEnd m => Sys2Proof.Machine.execCbusBackoffEnd m s
  | .cbusTxEnd m noCrs => Sys2Proof.Machine.execCbusTxEnd m noCrs s
  | .cbusDeferTimeout m d => Sys2Proof.Machine.execCbusDeferTimeout m d s
  | .cbusClkLost m tx => Sys2Proof.Machine.execCbusClkLost m tx s
  | .cbusClkReturn m tx => Sys2Proof.Machine.execCbusClkReturn m tx s
  | .resPop m => Sys2Proof.Machine.execResPop m s
  | .rxPop m => Sys2Proof.Machine.execRxPop m s
  | .cbusRxData m => Sys2Proof.Machine.execCbusRxData m s
  | .mdioWrite m phy reg data => Sys2Proof.Machine.execMdioWrite m phy reg data s
  | .mdioRead m phy reg => Sys2Proof.Machine.execMdioRead m phy reg s
  | .mdioDone m ack data => Sys2Proof.Machine.execMdioDone m ack data s
  | .pollTimeout key => Sys2Proof.Machine.execPollTimeout key s
  | .tw0Enable how => Sys2Proof.Machine.execTw0Enable how s
  | .tw0Disable acked read => Sys2Proof.Machine.execTw0Disable acked read s
  | .tw0Txd w => Sys2Proof.Machine.execTw0Txd w s
  | .tw0Rxd => Sys2Proof.Machine.execTw0Rxd s
  | .tw0Go cmd => Sys2Proof.Machine.execTw0Go cmd s
  | .tw0ArbLost => Sys2Proof.Machine.execTw0ArbLost s
  | .tw0ArbRetry => Sys2Proof.Machine.execTw0ArbRetry s
  | .tw0Done b => Sys2Proof.Machine.execTw0Done b s
  | .tw0Timeout acked read how => Sys2Proof.Machine.execTw0Timeout acked read how s
  | .tw0Recover how => Sys2Proof.Machine.execTw0Recover how s
  | .tw0Abort acked read => Sys2Proof.Machine.execTw0Abort acked read s
  | .tw0RecoveryRepeat how => Sys2Proof.Machine.execTw0RecoveryRepeat how s
  | .tw1Write addr bytes => Sys2Proof.Machine.execTw1Write addr bytes s
  | .tw1Read addr n => Sys2Proof.Machine.execTw1Read addr n s
  | .tw1ProtocolError addr cut => Sys2Proof.Machine.execTw1ProtocolError addr cut s
  | .tw1Timeout addr cut => Sys2Proof.Machine.execTw1Timeout addr cut s
  | .mortarRequest qs => Sys2Proof.Machine.execMortarRequest qs s
  | .drainEnd m => Sys2Proof.Machine.execDrainEnd m s
  | .dmaDisable landed => Sys2Proof.Machine.execDmaDisable landed s
  | .dmaChannelEnable c => Sys2Proof.Machine.execDmaChannelEnable c s
  | .dmaCqEnable q => Sys2Proof.Machine.execDmaCqEnable q s
  | .ring c => Sys2Proof.Machine.execRing c s
  | .setIdx c i => Sys2Proof.Machine.execSetIdx c i s
  | .dmaAbort c landed => Sys2Proof.Machine.execDmaAbort c landed s
  | .dmaDescriptorFetched c how => Sys2Proof.Machine.execDmaDescriptorFetched c how s
  | .dmaDescriptorEnd c b => Sys2Proof.Machine.execDmaDescriptorEnd c b s
  | .dmaCqTail q tail => Sys2Proof.Machine.execDmaCqTail q tail s
  | .errNPulseEnd => Sys2Proof.Machine.execErrNPulseEnd s
  | .faultClear m mask => Sys2Proof.Machine.execFaultClear m mask s
  | .faultAutoClear k => Sys2Proof.Machine.execFaultAutoClear k s
  | .soft0 m => Sys2Proof.Machine.execSoft0 m s
  | .soft1 m => Sys2Proof.Machine.execSoft1 m s
  | .keeperWatchdog => Sys2Proof.Machine.execKeeperWatchdog s
  | .scrubPassStart a ended corrected bad => Sys2Proof.Machine.execScrubPassStart a ended corrected bad s
  | .tjUpdate t => Sys2Proof.Machine.execTjUpdate t s
  | .supplyMonitor => Sys2Proof.Machine.execSupplyMonitor s
  | .scheduleOccurrence => Sys2Proof.Machine.execScheduleOccurrence s
  | .dormantDecide timer => Sys2Proof.Machine.execDormantDecide timer s
  | .dormantEnter timer => Sys2Proof.Machine.execDormantEnter timer s
  | .powerRise timer => Sys2Proof.Machine.execPowerRise timer s
  | .keepaliveSend => Sys2Proof.Machine.execKeepaliveSend s
  | .mooredRelock => Sys2Proof.Machine.execMooredRelock s
  | .relockEnd => Sys2Proof.Machine.execRelockEnd s
  | .linkWake p => Sys2Proof.Machine.execLinkWake p s
  | .tcapWake j => Sys2Proof.Machine.execTcapWake j s
  | .leaveDormant => Sys2Proof.Machine.execLeaveDormant s
  | .returnEraseDone => Sys2Proof.Machine.execReturnEraseDone s
  | .nop sl => Sys2Proof.Machine.execNop sl s
  | .mac sl k al sa sb => Sys2Proof.Machine.execMac sl k al sa sb s
  | .msu sl k al sa sb => Sys2Proof.Machine.execMsu sl k al sa sb s
  | .mpy sl k al sa sb => Sys2Proof.Machine.execMpy sl k al sa sb s
  | .mpn sl k al sa sb => Sys2Proof.Machine.execMpn sl k al sa sb s
  | .aclr sl k => Sys2Proof.Machine.execAclr sl k s
  | .amov sl k j => Sys2Proof.Machine.execAmov sl k j s
  | .aadd sl k j => Sys2Proof.Machine.execAadd sl k j s
  | .asub sl k j => Sys2Proof.Machine.execAsub sl k j s
  | .aneg sl k j => Sys2Proof.Machine.execAneg sl k j s
  | .aabs sl k j => Sys2Proof.Machine.execAabs sl k j s
  | .ashl sl k j sh => Sys2Proof.Machine.execAshl sl k j sh s
  | .ashr sl k j sh => Sys2Proof.Machine.execAshr sl k j sh s
  | .aldx sl k xl => Sys2Proof.Machine.execAldx sl k xl s
  | .ares sl k xl xm xh => Sys2Proof.Machine.execAres sl k xl xm xh s
  | .add sl d sa sb => Sys2Proof.Machine.execAdd sl d sa sb s
  | .adds sl d sa sb => Sys2Proof.Machine.execAdds sl d sa sb s
  | .sub sl d sa sb => Sys2Proof.Machine.execSub sl d sa sb s
  | .subs sl d sa sb => Sys2Proof.Machine.execSubs sl d sa sb s
  | .and sl d sa sb => Sys2Proof.Machine.execAnd sl d sa sb s
  | .or sl d sa sb => Sys2Proof.Machine.execOr sl d sa sb s
  | .xor sl d sa sb => Sys2Proof.Machine.execXor sl d sa sb s
  | .shl sl d sa sb => Sys2Proof.Machine.execShl sl d sa sb s
  | .shr sl d sa sb => Sys2Proof.Machine.execShr sl d sa sb s
  | .asr sl d sa sb => Sys2Proof.Machine.execAsr sl d sa sb s
  | .min sl d sa sb => Sys2Proof.Machine.execMin sl d sa sb s
  | .max sl d sa sb => Sys2Proof.Machine.execMax sl d sa sb s
  | .abs sl d sa => Sys2Proof.Machine.execAbs sl d sa s
  | .neg sl d sa => Sys2Proof.Machine.execNeg sl d sa s
  | .cmp sl sa sb => Sys2Proof.Machine.execCmp sl sa sb s
  | .mpyx sl d al sa sb => Sys2Proof.Machine.execMpyx sl d al sa sb s
  | .ldi sl d imm => Sys2Proof.Machine.execLdi sl d imm s
  | .lsi sl d imm => Sys2Proof.Machine.execLsi sl d imm s
  | .cls sl d k => Sys2Proof.Machine.execCls sl d k s
  | .br sl cc rel => Sys2Proof.Machine.execBr sl cc rel s
  | .call sl cc rel => Sys2Proof.Machine.execCall sl cc rel s
  | .ret sl => Sys2Proof.Machine.execRet sl s
  | .jmpx sl x => Sys2Proof.Machine.execJmpx sl x s
  | .loop sl len count => Sys2Proof.Machine.execLoop sl len count s
  | .loopr sl len x => Sys2Proof.Machine.execLoopr sl len x s
  | .end_ sl => Sys2Proof.Machine.execEnd sl s
  | .ld sl dst ag => Sys2Proof.Machine.execLd sl dst ag s
  | .st sl src ag => Sys2Proof.Machine.execSt sl src ag s
  | .sta sl k fmt ag => Sys2Proof.Machine.execSta sl k fmt ag s
  | .cvt sl k fmt dst => Sys2Proof.Machine.execCvt sl k fmt dst s
  | .mov sl dst src => Sys2Proof.Machine.execMov sl dst src s
  | .mtg sl dest src => Sys2Proof.Machine.execMtg sl dest src s
  | .mfg sl fr dst => Sys2Proof.Machine.execMfg sl fr dst s
  | .powerLoss group image => Sys2Proof.Machine.execPowerLoss group image s
  | .ptpFollowUpRx d m => Sys2Proof.Machine.execPtpFollowUpRx d m s
  | .rootPllRelock => Sys2Proof.Machine.execRootPllRelock s
  | .supplyMonitorReturn => Sys2Proof.Machine.execSupplyMonitorReturn s
  | .carrierFall m => Sys2Proof.Machine.execCarrierFall m s
  | .tw0StuckClear sda => Sys2Proof.Machine.execTw0StuckClear sda s
  | .powerDeepen timer => Sys2Proof.Machine.execPowerDeepen timer s
  | .egressFrameSent p t => Sys2Proof.Machine.execEgressFrameSent p t s

end Sys2Proof.Machine
end

