-- ==== Sys2Proof/Machine/Balls.lean ====
section
/-! DEFINITION. The balls: the map of Table 18.1 (R504), the banks of Table 18.3 (R506) and what the engine's outputs drive
(R508). Nothing of the machine depends on them: they are what its pins show. -/

namespace Sys2Proof.Machine

/-- What a ball is for (Table 18.1). -/
inductive Ball where
  | netTxP (p : Nat) | netTxN (p : Nat) | netRxP (p : Nat) | netRxN (p : Nat) | serdesRcal (k : Nat)
  | tdmBclk (p : Nat) | tdmFs (p : Nat) | tdmSdo (p : Nat) | tdmSdi (p : Nat)
  | pulse (i : Nat) | tcap (j : Nat)
  | xspiCk | xspiCsN | xspiDqs | xspiDq (k : Nat) | xspiRstN
  | tck | tms | tdi | tdo | trstN | wclkIn | ref10mIn | ppsIn | thermP | thermN | oscIn
  /-- Signal `k` of MAC `m`: TX_CLK, TXD0 to TXD3, TX_EN, TX_ER, RX_CLK, RXD0 to RXD3, RX_DV, RX_ER, CRS, COL, MDC, MDIO. -/
  | mii (m k : Nat)
  | phyRstN (m : Nat)
  | tw0Scl | tw0Sda | tw1Scl | tw1Sda | resetN | errN | zeroizeN | refStat (k : Nat)
  | ampDefault | svcBoot | imgBypass | tw1Addr (k : Nat)
  /-- MOD_AH, MOD_AL, MOD_BH and MOD_BL: half-bridge B or A, its high or low output. -/
  | modOut (m : Nat) (b high : Bool)
  | snsV (m : Nat) | snsI (m : Nat) | railSns (r : Nat) | snsClk (q : Nat)
  | rsvd | vss | vcore | vsram | vserdes085 | vserdes12 | vana | vio18 | vio33
deriving DecidableEq, Repr

/-! ## The map (R504): rows A to AY are 1 to 38 -/

/-- The SerDes region. -/
def serdesBall (r c : Nat) : Ball :=
  if r = 4 && c ≤ 2 then .serdesRcal (c - 1)
  else if c < 2 || (r != 1 && r != 3) then .vss
  else match (c - 2) % 3, r with
    | 0, 1 => .netTxP ((c - 2) / 3)
    | 1, 1 => .netTxN ((c - 2) / 3)
    | 0, _ => .netRxP ((c - 2) / 3)
    | 1, _ => .netRxN ((c - 2) / 3)
    | _, _ => .vss

/-- The top edge: SerDes, TDM, time, store, clocks and JTAG. -/
def topBall (r c : Nat) : Ball :=
  if c ≤ 13 then serdesBall r c
  else if c ≤ 21 then (if r = 1 then .tdmBclk (c - 14) else if r = 2 then .tdmFs (c - 14) else if r = 3 then .tdmSdo (c - 14) else .tdmSdi (c - 14))
  else if c ≤ 29 then (if r = 1 then .pulse (c - 22) else if r = 2 then .tcap (c - 22) else if r = 3 then .tcap (c - 14) else .vio18)
  else if c ≤ 32 then
    (if r = 1 then (if c = 30 then .xspiCk else if c = 31 then .xspiCsN else .xspiDqs)
     else if r = 2 then .xspiDq (c - 30) else if r = 3 then .xspiDq (c - 27) else if c = 32 then .xspiRstN else .xspiDq (c - 24))
  else
    ((match r with
      | 1 => [Ball.tck, .tms, .tdi, .tdo, .trstN, .vio18]
      | 2 => [.wclkIn, .ref10mIn, .ppsIn, .vio18, .thermP, .thermN]
      | 3 => [.vana, .vana, .vana, .vana, .vio18, .vss]
      | _ => [.oscIn, .vana, .vana, .vana, .vana, .vio18]).getD (c - 33) .vss)

/-- The control balls of columns 3 and 36, rows G to AC. -/
def ctlBall (r c : Nat) : Ball :=
  if r % 2 = 1 then .vio33
  else if c = 3 then
    [Ball.tw0Scl, .tw0Sda, .tw1Scl, .tw1Sda, .resetN, .errN, .zeroizeN, .refStat 0].getD ((r - 8) / 2) .vss
  else [Ball.ampDefault, .svcBoot, .imgBypass, .tw1Addr 0, .tw1Addr 1, .tw1Addr 2, .refStat 1, .refStat 2].getD ((r - 8) / 2) .vss

/-- Rows E to AC: the control buses and control balls on the sides, the core supplies between. -/
def midBall (r c : Nat) : Ball :=
  if c ≤ 2 then .mii (c - 1) (r - 5)
  else if 37 ≤ c then .mii (if c = 37 then 3 else 2) (r - 5)
  else if c = 3 || c = 36 then (if r ≤ 6 then .phyRstN ((r - 5) + (if c = 36 then 2 else 0)) else ctlBall r c)
  else if r ≤ 6 then
    (if c ≤ 21 then (if r = 5 || c ≤ 9 then .vserdes085 else .vserdes12) else if c = 28 || c = 29 then .vcore else .vss)
  else if (r + c) % 2 = 0 then .vss
  else if c ≤ 7 || 32 ≤ c then .vsram else .vcore

/-- The cell of a modulator channel. -/
def cellBall (r c : Nat) : Ball :=
  let m := 16 * ((r - 23) / 4) + (c - 4) / 2
  let right := (c - 4) % 2 = 1
  match (r - 23) % 4 with
  | 0 => .modOut m false !right
  | 1 => .modOut m true !right
  | 2 => if right then .snsI m else .snsV m
  | _ => .vss

/-- The edges of the amplifier region. -/
def edgeBall (r c : Nat) : Ball :=
  if c = 1 then (if r % 2 = 1 then .railSns ((r - 23) / 2) else .rsvd)
  else if c = 38 then (if (r - 23) % 4 = 0 then .snsClk ((r - 23) / 4) else if [24, 25, 26, 28, 29, 30, 32].contains r then .rsvd else .vss)
  else if c = 2 || c = 37 then (if r % 2 = 0 then .vio18 else .vss)
  else if [23, 27, 31, 35].contains r then .vio18 else .vss

/-- The ball at a row and a column (Table 18.1). -/
def ballAt (r c : Nat) : Ball :=
  if r ≤ 4 then topBall r c
  else if r ≤ 22 then midBall r c
  else if 4 ≤ c && c ≤ 35 then cellBall r c else edgeBall r c

/-- A supply or ground ball. -/
def Ball.supply : Ball → Bool
  | .vss | .vcore | .vsram | .vserdes085 | .vserdes12 | .vana | .vio18 | .vio33 => true
  | _ => false

/-- Balls of the map that satisfy a test. -/
def ballCount (p : Ball → Bool) : Nat :=
  ((List.range 38).map (fun r => ((List.range 38).filter (fun c => p (ballAt (r + 1) (c + 1)))).length)).sum

/-- The I/O banks (Table 18.3). -/
inductive Bank where
  | amp | gen | ctl | osc | serdes
deriving DecidableEq, Repr

/-- The bank of a signal ball; a supply and an RSVD ball have none (R506). -/
def Ball.bank : Ball → Option Bank
  | .modOut _ _ _ | .snsV _ | .snsI _ | .railSns _ | .snsClk _ => some .amp
  | .tdmBclk _ | .tdmFs _ | .tdmSdo _ | .tdmSdi _ | .pulse _ | .tcap _ | .xspiCk | .xspiCsN | .xspiDqs | .xspiDq _ | .xspiRstN
  | .tck | .tms | .tdi | .tdo | .trstN | .wclkIn | .ref10mIn | .ppsIn => some .gen
  | .mii _ _ | .phyRstN _ | .tw0Scl | .tw0Sda | .tw1Scl | .tw1Sda | .resetN | .errN | .zeroizeN | .refStat _ | .ampDefault
  | .svcBoot | .imgBypass | .tw1Addr _ => some .ctl
  | .oscIn | .thermP | .thermN => some .osc
  | .netTxP _ | .netTxN _ | .netRxP _ | .netRxN _ | .serdesRcal _ => some .serdes
  | .rsvd | .vss | .vcore | .vsram | .vserdes085 | .vserdes12 | .vana | .vio18 | .vio33 => none

/-! ## What the outputs drive (R508, Table 18.5) -/

/-- The state of a ball: a level, high impedance, or following the block it belongs to. -/
inductive Drive where
  | low | high | highZ | active
deriving DecidableEq, Repr

/-- A level from a Bool. -/
def Drive.level (b : Bool) : Drive := if b then .high else .low

/-- Outputs of a MAC that Table 18.5 holds low: TXD0 to TXD3, TX_EN, TX_ER and MDC. -/
def miiDriven (k : Nat) : Bool := (1 ≤ k && k ≤ 6) || k = 16

/-- An output under RESET_N low, or of an unpowered engine (Table 18.5); none for a ball the table does not list. -/
def Ball.atReset : Ball → Option Drive
  | .modOut _ _ _ | .snsClk _ | .tdmBclk _ | .tdmFs _ | .tdmSdo _ | .pulse _ | .xspiCk | .xspiRstN | .phyRstN _ => some .low
  | .xspiCsN | .refStat _ => some .high
  | .xspiDq _ | .tw0Scl | .tw0Sda | .tw1Scl | .tw1Sda | .errN | .tdo => some .highZ
  | .mii _ k => if miiDriven k then some .low else none
  | _ => none

/-- What an output of the engine shows (Table 18.5); a ball that is no output shows nothing. The engine's step 2 and step 3 are
passed when it is out of reset and not halted. -/
def State.ball (s : State) (b : Ball) : Option Drive :=
  if !s.node.powered || s.node.inReset then b.atReset
  else match b with
    | .modOut m _ _ => some (if (s.ch m).plan.isEmpty && (s.ch m).idle then .low else .active)
    | .snsClk _ => some .active
    | .tdmBclk p | .tdmFs p | .tdmSdo p => some (if s.bit (F.GLB_TDM_CFG_EN p) then .active else .low)
    | .pulse i => some (if (tget s.tu.pulses i).isSome then .active else Drive.level (s.bit (F.TMS_PULSE_CFG_POL i)))
    | .xspiCk | .xspiCsN | .xspiDq _ => some .active
    | .xspiRstN => some (Drive.level s.alive)
    | .phyRstN m => some (Drive.level (!s.bit (F.CBUS_CFG_PHY_RST m)))
    | .mii m k => if miiDriven k then some (if s.bit (F.CBUS_CFG_EN m) then .active else .low) else none
    | .tw0Scl | .tw0Sda => some (if s.bit F.TW0_CFG_EN then .active else .highZ)
    | .tw1Scl | .tw1Sda => some (if s.alive then .active else .highZ)
    | .errN => some (if s.errLow then .low else .highZ)
    | .refStat k => some (Drive.level ((s.get F.REF_SEL_STAT_STATE).testBit k))
    | .tdo => some (if s.bit F.DBG_LEVEL_DISC then .highZ else .active)
    | _ => none

end Sys2Proof.Machine
end

