-- ==== Sys2Proof/Safety.lean ====
section
/-! DEFINITION. What counts as a safe run, and the terms the statements use: frames, what a Brick's bundle sees and leaves,
what an accepted request is. -/

namespace Sys2Proof.Machine

/-! ## Frames -/

/-- Registers outside `l` hold what they held. -/
def RegsBut (l : List Nat) (s t : State) : Prop := ∀ a, a ∉ l → t.rg a = s.rg a

/-- No register changes but those at `l`, and no other part of the state. -/
def OnlyRegs (l : List Nat) (s t : State) : Prop := t = { s with regs := t.regs } ∧ RegsBut l s t

/-- The bits of a field's register outside the field hold what they held. -/
def BitsBut (f : Fld) (s t : State) : Prop :=
  ∀ k, ¬ (f.lo ≤ k ∧ k < f.lo + f.width) → (t.rg f.addr).testBit k = (s.rg f.addr).testBit k

/-- The SRAM windows and the store are in canonical form. -/
def State.Canonical (s : State) : Prop := Memory.wf s.mem = true ∧ Store.wf s.store = true

/-! ## Safe engines -/

/-- The engine is SCRAPPED, halted, and no unlock reaches it (Table 17.5, R67, R482): lifecycle bit 4 is blown, nothing
runs, and no debug unlock is active. -/
def State.Scrapped (s : State) : Prop :=
  s.fuses.lifecycle.testBit 4 = true ∧ s.alive = false ∧ s.sec.unlocked = false

/-! ## Bricks -/

/-- A bundle issues and has its effect: the engine runs, the Brick is in service, the bundle holds to R160. -/
def State.Issues (s : State) (b : Fin 96) (bd : Bundle) : Prop :=
  s.alive = true ∧ s.outOfService b.val = false ∧ bundleOk bd = true

/-- The context of a Brick. -/
def State.ctxOf (s : State) (b : Fin 96) (c : CtxSel) : Ctx := (s.brick b.val).ctx c

/-- The address the field `g` of a bundle gives (R144, R156). -/
def State.fieldAddr (s : State) (b : Fin 96) (c : CtxSel) (bd : Bundle) (g : Ag) : Nat :=
  let r := agBoth (s.ctxOf b c) bd
  match g with
  | .a => r.1
  | .b => r.2.1

/-- The word a bundle accesses through the field `g`. -/
def State.fieldWord (s : State) (b : Fin 96) (c : CtxSel) (bd : Bundle) (g : Ag) : Word32 :=
  s.brickWord b.val (s.fieldAddr b c bd g)

/-- The operand a selector names (R157). -/
def State.operand (s : State) (b : Fin 96) (c : CtxSel) (bd : Bundle) : Sel → Word32
  | .x r => (s.ctxOf b c).x[r]
  | .mem g => s.fieldWord b c bd g

/-- The second operand of form R: a selector's, or the unsigned immediate (Table 5.6). -/
def State.operandB (s : State) (b : Fin 96) (c : CtxSel) (bd : Bundle) : SelB → Word32
  | .sel x => s.operand b c bd x
  | .imm v => v.zeroExtend 32

/-- A move that leaves F to the operation: it is no MTG into F. -/
def Move.keepsF (mv : Move) : Prop := ∀ r, mv ≠ .mtgF r

/-- Z and N describe `v`, V is `o` (Table 4.4). -/
def Flags.describe (f : Flags) (v : Int) (o : Bool) : Prop := f.z = decide (v = 0) ∧ f.n = decide (v < 0) ∧ f.v = o

/-- The accumulator `k` of a context takes `v`, the others stay; Z, N describe it, V shows `sat`, AS is set by `sat` and stays
set, unless the move writes F. -/
def AccTakes (o n : Ctx) (mv : Move) (k : Fin 4) (v : Int) (sat : Bool) : Prop :=
  n.a[k] = BitVec.ofInt 80 v ∧ (∀ j : Fin 4, j ≠ k → n.a[j] = o.a[j]) ∧
    (Move.keepsF mv → n.f.describe v sat ∧ n.f.asat = (o.f.asat || sat))

/-- The data register `d` takes `w`; every register that neither the operation nor the move writes stays. -/
def RegTakes (o n : Ctx) (mv : Move) (d : Fin 16) (w : Word32) : Prop :=
  n.x[d] = w ∧ (∀ r : Fin 16, r ≠ d → mv.dstX ≠ some r → n.x[r] = o.x[r]) ∧ ∀ k : Fin 4, n.a[k] = o.a[k]

/-- BRK_SAT_CNT.ACC_SAT of Brick `b` counts one when `sat`, and holds at its maximum. -/
def CountsAccSat (s t : State) (b : Fin 96) (sat : Bool) : Prop :=
  t.get (F.BRK_SAT_CNT_ACC_SAT b.val) =
    min (2 ^ (F.BRK_SAT_CNT_ACC_SAT b.val).width - 1) (s.get (F.BRK_SAT_CNT_ACC_SAT b.val) + (if sat then 1 else 0))

/-! ## KMP -/

/-- Request `r` of operation `op` is taken in on session `x` and not refused before it acts (R489 to R493); `u` is the state
that has recorded it. -/
def State.Accepts (s : State) (op : Nat) (r : KmpReq) (x : Session) (u : State) : Prop :=
  s.alive = true ∧ s.takeRequest op r = (u, some x) ∧ u.opRefusal x op r.args = 0

/-- The command `i` on `s` answers the next state `t`, the queue as it was. -/
def Gives (i : Instr) (s t : State) : Prop := exec i s = .next { t with pending := s.pending }

end Sys2Proof.Machine
end

