-- ==== Sys2Proof/Certificates/Slice0/Obligations.lean ====
section
/-! DEFINITION. The statements about the model, for the provers: each formalises rules of spec/ about the commands, by
chapter. -/

open Sys2Proof Sys2Proof.Machine

/-! ## The block -/

/-- A step carries out the command at the front of the queue on the state with the queue's rest; on an empty queue the block
idles (the model's choice, log 5). -/
def Obligations.StepRunsTheFrontCommand : Prop :=
  (∀ (c : Instr) (q : List Instr) (s : State), step { s with pending := c :: q } = exec c { s with pending := q }) ∧
  ∀ s : State, s.pending = [] → step s = .next s

/-- Every command completes, and leaves the queue of waiting commands as it was. -/
def Obligations.CommandsKeepTheQueue : Prop :=
  ∀ (c : Instr) (s : State), ∃ t, exec c s = .next t ∧ t.pending = s.pending

/-- R479, R481, Table 17.5: SCRAPPED is for ever. An engine that is SCRAPPED, halted and not unlocked is so after every step,
whatever command waits: no command of KMP, of the debug port, of the two-wire window or of a pin brings it back. -/
def Obligations.ScrappedEnginesStayScrapped : Prop :=
  ∀ s t : State, s.Scrapped → step s = .next t → t.Scrapped

/-- R67, Table 17.5: a full START of an engine whose lifecycle bit 4 is blown halts it: POWER_ON, RESET_N_RISE and the START after
an erasure leave it SCRAPPED, its fuse content and store as they were. -/
def Obligations.StartOfAScrappedEngineHalts : Prop :=
  (∀ (s : State) (st : Fin 128) (d : Fin 4), (s.node.powered && !s.node.inReset) = false → s.fuses.lifecycle.testBit 4 = true →
    ∃ t, exec (.powerOn st d) s = .next t ∧ t.Scrapped ∧ t.fuses = s.fuses ∧ t.store = s.store ∧ t.node.cause = .powerOn) ∧
  ∀ (s : State) (st : Fin 128) (d : Fin 4), s.node.powered = true → s.node.inReset = true → s.fuses.lifecycle.testBit 4 = true →
    ∃ t, exec (.resetNRise st d) s = .next t ∧ t.Scrapped ∧ t.fuses = s.fuses ∧ t.store = s.store ∧ t.node.cause = .resetN

/-- What the spec says of an engine held in RESET_N after power-on, as State.reset holds it: START, N and the time counter 0,
nothing latched, outputs muted, no session, the memories in canonical form, every register at its reset value. The supplies in
range and RESET_N low are the model's choice (log 10). R508, Table 18.5: what each output drives while RESET_N is low. -/
def Obligations.ResetStateIsAsTheSpecSays : Prop :=
  State.reset.node.mode = .start ∧ State.reset.node.n = 0 ∧ State.reset.node.time = 0 ∧ State.reset.alive = false ∧
  State.reset.kmp.sessions = [] ∧ State.reset.pending = [] ∧ State.reset.Canonical ∧ State.reset.audio.running = false ∧
  (∀ a, State.reset.rg a = (resetValue a).toNat) ∧ State.reset.rg FLT_STATUS = 0 ∧ (∀ k, State.reset.latched k = false) ∧
  ∀ s : State, (s.node.powered && !s.node.inReset) = false →
    (∀ m b h, s.ball (.modOut m b h) = some .low) ∧
    (∀ k, ∀ b ∈ [Ball.snsClk k, .tdmBclk k, .tdmFs k, .tdmSdo k, .pulse k, .xspiCk, .xspiRstN, .phyRstN k], s.ball b = some .low) ∧
    (∀ k, ∀ b ∈ [Ball.xspiCsN, .refStat k], s.ball b = some .high) ∧
    ∀ k, ∀ b ∈ [Ball.xspiDq k, .tw0Scl, .tw0Sda, .tw1Scl, .tw1Sda, .errN, .tdo], s.ball b = some .highZ

/-! ## Bricks (chapters 4 and 5) -/

/-- R129, R163: MAC, MSU, MPY, MPN, AADD, ASUB, ANEG, AABS and ASHL of an engine that runs, on a Brick in service, in a bundle that
holds to R160, answer a next state in which the accumulator holds the exact result limited to the 80-bit range, Z and N
describe it, V and AS show whether it left the range, ACC_SAT counts one then, and the other accumulators stay. -/
def Obligations.AccumulatesSaturate : Prop :=
  ∀ (s : State) (sl : Slot) (k j : Fin 4),
    let b := sl.brick
    let c := sl.ctx
    let o := s.ctxOf b c
    let bd (op : BrickOp) : Bundle := ⟨op, sl.aga, sl.agb, sl.mv⟩
    let gives (i : Instr) (op : BrickOp) (v : Int) : Prop :=
      s.Issues b (bd op) → ∃ t, exec i s = .next t ∧ AccTakes o (t.ctxOf b c) sl.mv k (sat80 v) (decide (sat80 v ≠ v)) ∧
        CountsAccSat s t b (decide (sat80 v ≠ v))
    (∀ (al : Fin 4) (sa sb : Sel),
      (gives (.mac sl k al sa sb) (.mac k al sa sb)
        (o.a[k].toInt + (s.operand b c (bd (.mac k al sa sb)) sa).toInt * (s.operand b c (bd (.mac k al sa sb)) sb).toInt * 2 ^ al.val)) ∧
      (gives (.msu sl k al sa sb) (.msu k al sa sb)
        (o.a[k].toInt - (s.operand b c (bd (.msu k al sa sb)) sa).toInt * (s.operand b c (bd (.msu k al sa sb)) sb).toInt * 2 ^ al.val)) ∧
      (gives (.mpy sl k al sa sb) (.mpy k al sa sb)
        ((s.operand b c (bd (.mpy k al sa sb)) sa).toInt * (s.operand b c (bd (.mpy k al sa sb)) sb).toInt * 2 ^ al.val)) ∧
      (gives (.mpn sl k al sa sb) (.mpn k al sa sb)
        (-((s.operand b c (bd (.mpn k al sa sb)) sa).toInt * (s.operand b c (bd (.mpn k al sa sb)) sb).toInt * 2 ^ al.val)))) ∧
    gives (.aadd sl k j) (.aadd k j) (o.a[k].toInt + o.a[j].toInt) ∧
    gives (.asub sl k j) (.asub k j) (o.a[k].toInt - o.a[j].toInt) ∧
    gives (.aneg sl k j) (.aneg k j) (-o.a[j].toInt) ∧
    gives (.aabs sl k j) (.aabs k j) (o.a[j].toInt.natAbs : Int) ∧
    ∀ sh : Fin 16, gives (.ashl sl k j sh) (.ashl k j sh) (o.a[j].toInt * 2 ^ sh.val)

/-- R128, R163: MPY, MPN, ACLR, AMOV, ASHR, ALDX and ARES leave the accumulator at the exact value of Table 5.7, which is
within the 80-bit range; Z and N describe it, V is cleared, AS and ACC_SAT stay. -/
def Obligations.AccumulatorLoadsAreExact : Prop :=
  ∀ (s : State) (sl : Slot) (k j : Fin 4),
    let b := sl.brick
    let c := sl.ctx
    let o := s.ctxOf b c
    let bd (op : BrickOp) : Bundle := ⟨op, sl.aga, sl.agb, sl.mv⟩
    let gives (i : Instr) (op : BrickOp) (v : Int) : Prop :=
      s.Issues b (bd op) → -2 ^ 79 ≤ v ∧ v < 2 ^ 79 ∧
        ∃ t, exec i s = .next t ∧ AccTakes o (t.ctxOf b c) sl.mv k v false ∧ CountsAccSat s t b false
    (∀ (al : Fin 4) (sa sb : Sel),
      (gives (.mpy sl k al sa sb) (.mpy k al sa sb)
        ((s.operand b c (bd (.mpy k al sa sb)) sa).toInt * (s.operand b c (bd (.mpy k al sa sb)) sb).toInt * 2 ^ al.val)) ∧
      (gives (.mpn sl k al sa sb) (.mpn k al sa sb)
        (-((s.operand b c (bd (.mpn k al sa sb)) sa).toInt * (s.operand b c (bd (.mpn k al sa sb)) sb).toInt * 2 ^ al.val)))) ∧
    gives (.aclr sl k) (.aclr k) 0 ∧
    gives (.amov sl k j) (.amov k j) o.a[j].toInt ∧
    (∀ sh : Fin 64, gives (.ashr sl k j sh) (.ashr k j sh) (o.a[j].toInt / 2 ^ sh.val)) ∧
    (∀ xl : Fin 16, gives (.aldx sl k xl) (.aldx k xl) (o.x[xl].toInt * 2 ^ 32)) ∧
    ∀ xl xm xh : Fin 16, gives (.ares sl k xl xm xh) (.ares k xl xm xh)
      ((o.x[xh].truncate 16 : BitVec 16).toInt * 2 ^ 64 + o.x[xm].toNat * 2 ^ 32 + o.x[xl].toNat)

/-- R163: the register operations. ADD, SUB, AND, OR, XOR, SHL, SHR, ASR, MIN and MAX write the 32-bit result of Table 5.7 and
clear V; ADDS, SUBS, ABS and NEG limit the exact result to 32 bits and V shows that they did; Z and N describe the
result. CMP writes no register: Z, N describe the exact difference. -/
def Obligations.RegisterOperations : Prop :=
  ∀ (s : State) (sl : Slot) (d : Fin 16) (sa : Sel) (sb : SelB),
    let b := sl.brick
    let c := sl.ctx
    let o := s.ctxOf b c
    let bd (op : BrickOp) : Bundle := ⟨op, sl.aga, sl.agb, sl.mv⟩
    let gives (i : Instr) (op : BrickOp) (w : Word32) (v : Int) (sat : Bool) : Prop :=
      s.Issues b (bd op) → ∃ t, exec i s = .next t ∧ RegTakes o (t.ctxOf b c) sl.mv d w ∧
        (Move.keepsF sl.mv → (t.ctxOf b c).f.describe v sat)
    let exact (i : Instr) (op : AluOp) (f : Word32 → Word32 → Word32) : Prop :=
      let w := f (s.operand b c (bd (.alu op d sa sb)) sa) (s.operandB b c (bd (.alu op d sa sb)) sb)
      gives i (.alu op d sa sb) w w.toInt false
    let limited (i : Instr) (op : BrickOp) (v : Int) : Prop :=
      gives i op (BitVec.ofInt 32 (sat32 v)) (sat32 v) (decide (sat32 v ≠ v))
    exact (.add sl d sa sb) .add (fun x y => x + y) ∧ exact (.sub sl d sa sb) .sub (fun x y => x - y) ∧
    exact (.and sl d sa sb) .and (fun x y => x &&& y) ∧ exact (.or sl d sa sb) .or (fun x y => x ||| y) ∧
    exact (.xor sl d sa sb) .xor (fun x y => x ^^^ y) ∧
    exact (.shl sl d sa sb) .shl (fun x y => BitVec.ofNat 32 (x.toNat * 2 ^ (y.toNat % 32))) ∧
    exact (.shr sl d sa sb) .shr (fun x y => BitVec.ofNat 32 (x.toNat / 2 ^ (y.toNat % 32))) ∧
    exact (.asr sl d sa sb) .asr (fun x y => BitVec.ofInt 32 (x.toInt / 2 ^ (y.toNat % 32))) ∧
    exact (.min sl d sa sb) .min (fun x y => BitVec.ofInt 32 (min x.toInt y.toInt)) ∧
    exact (.max sl d sa sb) .max (fun x y => BitVec.ofInt 32 (max x.toInt y.toInt)) ∧
    limited (.adds sl d sa sb) (.alu .adds d sa sb)
      ((s.operand b c (bd (.alu .adds d sa sb)) sa).toInt + (s.operandB b c (bd (.alu .adds d sa sb)) sb).toInt) ∧
    limited (.subs sl d sa sb) (.alu .subs d sa sb)
      ((s.operand b c (bd (.alu .subs d sa sb)) sa).toInt - (s.operandB b c (bd (.alu .subs d sa sb)) sb).toInt) ∧
    limited (.abs sl d sa) (.abs d sa) ((s.operand b c (bd (.abs d sa)) sa).toInt.natAbs : Int) ∧
    limited (.neg sl d sa) (.neg d sa) (-(s.operand b c (bd (.neg d sa)) sa).toInt) ∧
    (s.Issues b (bd (.cmp sa sb)) → ∃ t, exec (.cmp sl sa sb) s = .next t ∧
      (∀ r : Fin 16, sl.mv.dstX ≠ some r → (t.ctxOf b c).x[r] = o.x[r]) ∧
      (Move.keepsF sl.mv → (t.ctxOf b c).f.describe
        ((s.operand b c (bd (.cmp sa sb)) sa).toInt - (s.operandB b c (bd (.cmp sa sb)) sb).toInt) false))

/-- R163: MPYX writes the aligned product converted by cvt, and shows in V, SS and STORE_SAT that the conversion saturated (with
no move that converts beside it); LDI, LSI and CLS write their result and leave F to the move. -/
def Obligations.ProductsConstantsAndSigns : Prop :=
  ∀ (s : State) (sl : Slot) (d : Fin 16),
    let b := sl.brick
    let c := sl.ctx
    let o := s.ctxOf b c
    let bd (op : BrickOp) : Bundle := ⟨op, sl.aga, sl.agb, sl.mv⟩
    (∀ (al : Fin 4) (sa sb : Sel),
      let r := convert ((s.operand b c (bd (.mpyx d al sa sb)) sa).toInt * (s.operand b c (bd (.mpyx d al sa sb)) sb).toInt * 2 ^ al.val)
        (if al = 0 then .int32 else .q31)
      s.Issues b (bd (.mpyx d al sa sb)) → ∃ t, exec (.mpyx sl d al sa sb) s = .next t ∧
        RegTakes o (t.ctxOf b c) sl.mv d (BitVec.ofInt 32 r.1) ∧
        (Move.keepsF sl.mv → (t.ctxOf b c).f.describe r.1 r.2) ∧
        (sl.mv = .none → (t.ctxOf b c).f.ss = (o.f.ss || r.2) ∧
          t.get (F.BRK_SAT_CNT_STORE_SAT b.val) = min (2 ^ (F.BRK_SAT_CNT_STORE_SAT b.val).width - 1)
            (s.get (F.BRK_SAT_CNT_STORE_SAT b.val) + (if r.2 then 1 else 0)))) ∧
    (∀ imm : BitVec 12, s.Issues b (bd (.ldi d imm)) → ∃ t, exec (.ldi sl d imm) s = .next t ∧
      RegTakes o (t.ctxOf b c) sl.mv d (BitVec.ofInt 32 imm.toInt) ∧ (sl.mv = .none → (t.ctxOf b c).f = o.f)) ∧
    (∀ imm : BitVec 12, s.Issues b (bd (.lsi d imm)) → ∃ t, exec (.lsi sl d imm) s = .next t ∧
      RegTakes o (t.ctxOf b c) sl.mv d (BitVec.ofNat 32 (o.x[d].toNat * 4096 + imm.toNat)) ∧
      (sl.mv = .none → (t.ctxOf b c).f = o.f)) ∧
    ∀ k : Fin 4, s.Issues b (bd (.cls d k)) → ∃ t, exec (.cls sl d k) s = .next t ∧ ∃ n : Nat, n ≤ 79 ∧
      RegTakes o (t.ctxOf b c) sl.mv d (BitVec.ofNat 32 n) ∧ (sl.mv = .none → (t.ctxOf b c).f = o.f) ∧
      (∀ i : Nat, i < n → o.a[k].getLsbD (78 - i) = o.a[k].getLsbD 79) ∧
      (n < 79 → o.a[k].getLsbD (78 - n) ≠ o.a[k].getLsbD 79)

/-- R165, R166: a branch whose condition holds goes to PC + REL modulo 32,768, a CALL pushing PC + 1 on a stack of four from
which the oldest falls; RET goes to the newest entry and drops it, and with the stack empty it acts as END; JMPX goes to the low 15 bits of its register. A branch or
call whose condition fails goes on in sequence and keeps the stack. -/
def Obligations.BranchesAndCalls : Prop :=
  ∀ (s : State) (sl : Slot),
    let b := sl.brick
    let c := sl.ctx
    let o := s.ctxOf b c
    let bd (op : BrickOp) : Bundle := ⟨op, sl.aga, sl.agb, sl.mv⟩
    (∀ (cc : Cond) (rel : BitVec 12), s.Issues b (bd (.br cc rel)) → ∃ t, exec (.br sl cc rel) s = .next t ∧
      (t.ctxOf b c).rets = o.rets ∧
      (o.f.test cc = true → (t.ctxOf b c).pc = BitVec.ofInt 15 (o.pc.toNat + rel.toInt)) ∧
      (o.f.test cc = false → (t.ctxOf b c).pc = (sequential o.pc o.loops).1)) ∧
    (∀ (cc : Cond) (rel : BitVec 12), s.Issues b (bd (.call cc rel)) → ∃ t, exec (.call sl cc rel) s = .next t ∧
      (o.f.test cc = true → (t.ctxOf b c).pc = BitVec.ofInt 15 (o.pc.toNat + rel.toInt) ∧
        (t.ctxOf b c).rets = ((o.pc + 1) :: o.rets).take 4 ∧ (t.ctxOf b c).loops = o.loops) ∧
      (o.f.test cc = false → (t.ctxOf b c).pc = (sequential o.pc o.loops).1 ∧ (t.ctxOf b c).rets = o.rets)) ∧
    (∀ (q : BitVec 15) (rest : List (BitVec 15)), o.rets = q :: rest → s.Issues b (bd .ret) →
      ∃ t, exec (.ret sl) s = .next t ∧ (t.ctxOf b c).pc = q ∧ (t.ctxOf b c).rets = rest ∧ (t.ctxOf b c).loops = o.loops) ∧
    (o.rets = [] → exec (.ret sl) s = exec (.end_ sl) s) ∧
    ∀ x : Fin 16, s.Issues b (bd (.jmpx x)) → ∃ t, exec (.jmpx sl x) s = .next t ∧
      (t.ctxOf b c).pc = BitVec.ofNat 15 o.x[x].toNat ∧ (t.ctxOf b c).rets = o.rets

/-- R167, Table 5.9: with fewer than two loops active LOOP and LOOPR push a body of the next LEN bundles with its count (COUNT 0
means 1,024), and go on with its first bundle; with two active they push nothing; LOOPR with count 0 skips the body. At the
last bundle of a body the next run begins while runs are due, and the loop ends after the last one (for bodies whose last
bundle no enclosing one shares, as R167 has them): shown by NOP.
The model's own choices here: log 17. -/
def Obligations.LoopsRunTheirCount : Prop :=
  ∀ (s : State) (sl : Slot),
    let b := sl.brick
    let c := sl.ctx
    let o := s.ctxOf b c
    let bd (op : BrickOp) : Bundle := ⟨op, sl.aga, sl.agb, sl.mv⟩
    let enters (t : State) (len : BitVec 6) (n : Nat) : Prop :=
      (t.ctxOf b c).pc = o.pc + 1 ∧ (t.ctxOf b c).rets = o.rets ∧
        (o.loops.length < 2 → (t.ctxOf b c).loops =
          ⟨(o.pc.toNat + 1) % 32768, (o.pc.toNat + len.toNat) % 32768, n⟩ :: o.loops) ∧
        (2 ≤ o.loops.length → (t.ctxOf b c).loops = o.loops)
    (∀ (len : BitVec 6) (count : BitVec 10), s.Issues b (bd (.loop len count)) → ∃ t, exec (.loop sl len count) s = .next t ∧
      enters t len (if count = 0 then 1024 else count.toNat)) ∧
    (∀ (len : BitVec 6) (x : Fin 16), s.Issues b (bd (.loopr len x)) → ∃ t, exec (.loopr sl len x) s = .next t ∧
      (o.x[x].toNat % 65536 ≠ 0 → enters t len (o.x[x].toNat % 65536)) ∧
      (o.x[x].toNat % 65536 = 0 → (t.ctxOf b c).pc = BitVec.ofNat 15 (o.pc.toNat + len.toNat + 1) ∧ (t.ctxOf b c).loops = o.loops)) ∧
    (s.Issues b (bd .nop) → ∃ t, exec (.nop sl) s = .next t ∧ (t.ctxOf b c).rets = o.rets ∧
      (∀ k : Fin 4, (t.ctxOf b c).a[k] = o.a[k]) ∧
      (∀ (fr : LoopFrame) (rest : List LoopFrame), o.loops = fr :: rest → o.pc.toNat = fr.last → 1 < fr.left →
        (t.ctxOf b c).pc = BitVec.ofNat 15 fr.first ∧ (t.ctxOf b c).loops = ⟨fr.first, fr.last, fr.left - 1⟩ :: rest) ∧
      (∀ (fr : LoopFrame) (rest : List LoopFrame), o.loops = fr :: rest → o.pc.toNat = fr.last → fr.left ≤ 1 →
        (∀ outer ∈ rest, outer.last ≠ fr.last) →
        (t.ctxOf b c).pc = o.pc + 1 ∧ (t.ctxOf b c).loops = rest) ∧
      (∀ (fr : LoopFrame) (rest : List LoopFrame), o.loops = fr :: rest → o.pc.toNat ≠ fr.last →
        (t.ctxOf b c).pc = o.pc + 1 ∧ (t.ctxOf b c).loops = o.loops) ∧
      (o.loops = [] → (t.ctxOf b c).pc = o.pc + 1 ∧ (t.ctxOf b c).loops = []))

/-- R146, R166, Table 5.9: END, and RET on an empty stack, end the program's run: both stacks are cleared; when no entry of the
trigger is left the context's work is done, else the next entry starts at its ENTRY with TN as it is. -/
def Obligations.EndEndsTheRun : Prop :=
  ∀ (s : State) (sl : Slot) (i : Instr) (op : BrickOp),
    let b := sl.brick
    let c := sl.ctx
    let o := s.ctxOf b c
    (i = .end_ sl ∧ op = .endp ∨ i = .ret sl ∧ op = .ret ∧ o.rets = []) → s.Issues b ⟨op, sl.aga, sl.agb, sl.mv⟩ →
    ∃ t, exec i s = .next t ∧ (t.ctxOf b c).rets = [] ∧ (t.ctxOf b c).loops = [] ∧ (t.ctxOf b c).tn = o.tn ∧
      (∀ w, (s.brick b.val).work c = some w → w.rest = [] → (t.brick b.val).work c = none) ∧
      (∀ w k rest, (s.brick b.val).work c = some w → w.rest = k :: rest →
        (t.ctxOf b c).pc = BitVec.ofNat 15 (s.get (F.BRK_TRIG_ENTRY b.val k)) ∧
        ∃ w', (t.brick b.val).work c = some w' ∧ w'.rest = rest)

/-- R132, R158, R159, R164: the moves. LD, MOV and MFG write a data register, MTG a generator register or F, each from the
values before the bundle; ST stores a data register unchanged, STA and CVT the accumulator converted, through the address of
their field. The stored word reads back; a conversion of CVT or STA that saturates counts in STORE_SAT beside an operation
that converts nothing. -/
def Obligations.MovesMoveOldValues : Prop :=
  ∀ (s : State) (sl : MvSlot),
    let b := sl.brick
    let c := sl.ctx
    let o := s.ctxOf b c
    let bd (mv : Move) : Bundle := ⟨sl.op, sl.aga, sl.agb, mv⟩
    let quiet : Prop := ∀ (d : Fin 16) (al : Fin 4) (sa sb : Sel), sl.op ≠ .mpyx d al sa sb
    let counts (t : State) (sat : Bool) : Prop := quiet →
      t.get (F.BRK_SAT_CNT_STORE_SAT b.val) = min (2 ^ (F.BRK_SAT_CNT_STORE_SAT b.val).width - 1)
        (s.get (F.BRK_SAT_CNT_STORE_SAT b.val) + (if sat then 1 else 0))
    (∀ (d : Fin 16) (g : Ag), s.Issues b (bd (.ld d g)) → ∃ t, exec (.ld sl d g) s = .next t ∧
      (t.ctxOf b c).x[d] = s.fieldWord b c (bd (.ld d g)) g ∧ t.mem = s.mem) ∧
    (∀ d r : Fin 16, s.Issues b (bd (.mov d r)) → ∃ t, exec (.mov sl d r) s = .next t ∧
      (t.ctxOf b c).x[d] = o.x[r] ∧ t.mem = s.mem) ∧
    (∀ (r : Fin 16) (g : Ag), s.Issues b (bd (.st r g)) → ∃ t, exec (.st sl r g) s = .next t ∧
      t.brickWord b.val (s.fieldAddr b c (bd (.st r g)) g) = o.x[r] ∧ counts t false) ∧
    (∀ (k : Fin 4) (fmt : Fmt) (g : Ag), s.Issues b (bd (.sta k fmt g)) → ∃ t, exec (.sta sl k fmt g) s = .next t ∧
      t.brickWord b.val (s.fieldAddr b c (bd (.sta k fmt g)) g) = BitVec.ofInt 32 (convert o.a[k].toInt fmt).1 ∧
      counts t (convert o.a[k].toInt fmt).2) ∧
    (∀ (k : Fin 4) (fmt : Fmt) (d : Fin 16), s.Issues b (bd (.cvt k fmt d)) → ∃ t, exec (.cvt sl k fmt d) s = .next t ∧
      (t.ctxOf b c).x[d] = BitVec.ofInt 32 (convert o.a[k].toInt fmt).1 ∧ counts t (convert o.a[k].toInt fmt).2 ∧ t.mem = s.mem) ∧
    (∀ (file : GenFile) (g : Fin 8) (r : Fin 16), s.Issues b (bd (.mtg file g r)) →
      ∃ t, exec (.mtg sl (.gen file g) r) s = .next t ∧ (t.ctxOf b c).gen file g = BitVec.ofNat 16 o.x[r].toNat ∧ t.mem = s.mem) ∧
    (∀ r : Fin 16, s.Issues b (bd (.mtgF r)) → ∃ t, exec (.mtg sl .flags r) s = .next t ∧
      (t.ctxOf b c).f = ⟨o.x[r].getLsbD 0, o.x[r].getLsbD 1, o.x[r].getLsbD 2, o.x[r].getLsbD 3, o.x[r].getLsbD 4⟩ ∧ t.mem = s.mem) ∧
    (∀ (file : GenFile) (g : Fin 8) (d : Fin 16), s.Issues b (bd (.mfg file g d)) →
      ∃ t, exec (.mfg sl (.gen file g) d) s = .next t ∧ (t.ctxOf b c).x[d] = BitVec.ofNat 32 (o.gen file g).toNat ∧ t.mem = s.mem) ∧
    ∀ d : Fin 16, s.Issues b (bd (.mfgTN d)) → ∃ t, exec (.mfg sl .tn d) s = .next t ∧ (t.ctxOf b c).x[d] = o.tn ∧ t.mem = s.mem

/-- R168: a bundle's frame. Whatever bundle a Brick issues, nothing changes but that Brick's state, its own memory window, the
registers of its BRICK control range, and what is kept of the rows of that window (R138, R326): every other Brick, every byte outside
the window, every register outside the range and every other part of the state stay. The other context of the Brick stays too.
The stored bytes of a bundle: the only bytes of memory that change are the four of the word an ST or STA names, at the
address its field gives; a bundle with no store changes no byte. -/
def Obligations.BundlesStayInTheirBrick : Prop :=
  (∀ (s t : State) (b : Fin 96) (c : CtxSel) (bd : Bundle), issueBundle b.val c bd s = t →
    t = { s with
      regs := t.regs, mem := t.mem, bricks := t.bricks
      mortar := { s.mortar with softRows := t.mortar.softRows }, pair := { s.pair with wrote := t.pair.wrote } } ∧
    (∀ r, ¬ (0x10000000 + 0x40000 * b.val ≤ 8 * r ∧ 8 * r < 0x10000000 + 0x40000 * (b.val + 1)) →
      (r ∈ t.mortar.softRows ↔ r ∈ s.mortar.softRows) ∧ (8 * r ∈ t.pair.wrote ↔ 8 * r ∈ s.pair.wrote)) ∧
    (∀ b' : Fin 96, b' ≠ b → t.brick b'.val = s.brick b'.val) ∧
    (∀ c' : CtxSel, c' ≠ c → t.ctxOf b c' = s.ctxOf b c' ∧ (t.brick b.val).work c' = (s.brick b.val).work c') ∧
    (∀ a, ¬ (0x2000000 + 0x10000 * b.val ≤ a ∧ a < 0x2000000 + 0x10000 * (b.val + 1)) → t.rg a = s.rg a) ∧
    ∀ a, ¬ (0x10000000 + 0x40000 * b.val ≤ a ∧ a < 0x10000000 + 0x40000 * (b.val + 1)) → t.rdByte a = s.rdByte a) ∧
  (∀ (s t : State) (b : Fin 96) (c : CtxSel) (bd : Bundle), s.Issues b bd → issueBundle b.val c bd s = t →
    (bd.stores .a = false → bd.stores .b = false → t.mem = s.mem) ∧
    ∀ g : Ag, bd.stores g = true → ∀ a,
      ¬ (brickWordAddr b.val (s.fieldAddr b c bd g) ≤ a ∧ a < brickWordAddr b.val (s.fieldAddr b c bd g) + 4) → t.rdByte a = s.rdByte a)

/-- R168, R143: what a Brick's bundle leaves in the Brick depends on nothing but that Brick: two engines that agree on the
Brick's registers and work, on its memory window, and on its BRICK control registers agree on them after the same bundle. -/
def Obligations.BricksSeeOnlyThemselves : Prop :=
  ∀ (s u : State) (b : Fin 96) (c : CtxSel) (bd : Bundle),
    let win (a : Nat) : Prop := 0x10000000 + 0x40000 * b.val ≤ a ∧ a < 0x10000000 + 0x40000 * (b.val + 1)
    let ctl (a : Nat) : Prop := 0x2000000 + 0x10000 * b.val ≤ a ∧ a < 0x2000000 + 0x10000 * (b.val + 1)
    let agree (x y : State) : Prop := x.brick b.val = y.brick b.val ∧ (∀ a, win a → x.rdByte a = y.rdByte a) ∧
      ∀ a, ctl a → x.rg a = y.rg a
    agree s u → agree (issueBundle b.val c bd s) (issueBundle b.val c bd u)

/-- R145: circular addressing stays inside the buffer when the three conditions hold. -/
def Obligations.CircularAddressesStayInTheBuffer : Prop :=
  ∀ p st b l : Int, 0 ≤ b → 0 < l → b ≤ p → p < b + l → (st.natAbs : Int) ≤ l → b + l ≤ 65536 →
    b ≤ (wrap p st b l : Int) ∧ (wrap p st b l : Int) < b + l ∧ ((wrap p st b l : Int) - (p + st)) % l = 0

/-- R131: the three spill words of an accumulator, put together as ARES does, give the accumulator exactly, and no spill
saturates. -/
def Obligations.SpillAndRestoreAreExact : Prop :=
  ∀ a : Acc,
    let w (f : Fmt) : Word32 := BitVec.ofInt 32 (convert a.toInt f).1
    BitVec.ofInt 80 (((w .spill2).truncate 16 : BitVec 16).toInt * 2 ^ 64 + (w .spill1).toNat * 2 ^ 32 + (w .spill0).toNat) = a ∧
      (convert a.toInt .spill0).2 = false ∧ (convert a.toInt .spill1).2 = false ∧ (convert a.toInt .spill2).2 = false

/-- R126, R160: on a Brick out of service a bundle has no effect at all; a bundle that breaks R160 runs as NOP, none of its
operation, move or address updates taking effect. R151: work of the foreground that its tick overtakes, and of the background
the second tick after, is stopped: the context has no work left and both its stacks are clear (Table 5.9), its OVR bit is set, its
BRK_OVR_CNT field counts, and fault source 2 latches; a context without work is left alone. That its cycles are recorded is the
model's choice (log 13).
The model's own choices here: log 14, 16. -/
def Obligations.StoppedBricksBadBundlesAndOverruns : Prop :=
  (∀ (s : State) (b : Fin 96) (c : CtxSel) (bd : Bundle), s.outOfService b.val = true → issueBundle b.val c bd s = s) ∧
  (∀ (s : State) (b : Fin 96) (c : CtxSel) (bd : Bundle), bundleOk bd = false →
    issueBundle b.val c bd s = issueBundle b.val c ⟨.nop, .none, .none, .none⟩ s) ∧
  ∀ (s : State) (b : Fin 96), s.alive = true →
    (∀ c : CtxSel, (s.brick b.val).work c = none → Gives (.brickOverrun b c) s s) ∧
    (∀ w, (s.brick b.val).work .fg = some w →
      let br := (((s.brick b.val).setWork none .fg).clearStacks .fg)
      let r := (s.setBrick b.val { br with ready := br.ready.filter (fun e => !w.rest.contains e.1) }).recordCycles b.val .fg w.cycles
      Gives (.brickOverrun b .fg) s
        ((((r.putBit (F.BRK_STAT_OVR_FG b.val) true).bump (F.BRK_OVR_CNT_FG b.val)).showBrick b.val).latch 2)) ∧
    ∀ w, (s.brick b.val).work .bg = some w →
      let br := (((s.brick b.val).setWork none .bg).clearStacks .bg)
      let r := (s.setBrick b.val { br with ready := br.ready.filter (fun e => !w.rest.contains e.1) }).recordCycles b.val .bg w.cycles
      (2 ≤ w.age → Gives (.brickOverrun b .bg) s
        ((((r.putBit (F.BRK_STAT_OVR_BG b.val) true).bump (F.BRK_OVR_CNT_BG b.val)).showBrick b.val).latch 2)) ∧
      (w.age < 2 → Gives (.brickOverrun b .bg) s s)

/-! ## KMP (chapters 2 and 17) -/

/-- R485, R489, R491: a REQUEST on an open session is taken in when the session is not authenticated or its TAG is right, no
reply to it is stored, and its SEQ is above the last accepted one; the session then records its SEQ and its body. A request with
a wrong TAG, or with an old SEQ and no stored reply, is not taken in; it counts in SEC_CNT and latches SEC_AUTH.
The model's own choices here: log 22. -/
def Obligations.RequestsAreAuthenticAndNew : Prop :=
  ∀ (s : State) (op : Nat) (r : KmpReq) (x : Session), s.kmpUp = true → s.session r.head.session = some x →
    let body := beBytes 2 op ++ beBytes 2 r.reqId ++ r.args
    let right := x.auth = false ∨ r.head.tag = some (kmpTag x.key x.num 0x10 r.head.seq body)
    let stored := ∃ e ∈ x.replies, e.seq = r.head.seq ∧ e.request = body
    (right → ¬ stored → x.rxSeq < r.head.seq → s.takeRequest op r =
      (s.mapSession x.num (fun y => { y with
        rxSeq := r.head.seq, replies := ⟨r.head.seq, body, []⟩ :: y.replies.take 15 }), some x)) ∧
    (right → ¬ stored → r.head.seq ≤ x.rxSeq → s.takeRequest op r = ((s.bump F.SEC_CNT_REPLAY).latch 51, none)) ∧
    (¬ right → s.takeRequest op r = ((s.bump F.SEC_CNT_AUTH_FAIL).latch 51, none))

/-- R491, R466: a reply goes out as one datagram with the session's next SEQ, but in P4, and nothing but the session and the outputs
changes.
The model's own choices here: log 45. -/
def Obligations.RepliesGoOutOnce : Prop :=
  ∀ (s : State) (n op reqId status : Nat) (results : List Byte) (x : Session), s.session n = some x → x.num = n →
    let body := beBytes 2 op ++ beBytes 2 reqId ++ beBytes 2 status ++ [0, 0] ++ results
    let t := s.reply n op reqId status results
    t = { s with kmp := t.kmp, out := s.out ++ (if s.get F.PWR_STAT_STATE = 4 then [] else [.kmp n 0x11 (x.txSeq + 1) body
      (if x.auth then kmpTag x.key n 0x11 (x.txSeq + 1) body else [])]) } ∧
    (∃ y, t.session n = some y ∧ y.txSeq = x.txSeq + 1) ∧
    t.kmp.controller = s.kmp.controller ∧ t.kmp.proposals = s.kmp.proposals ∧
    ∀ m, m ≠ n → t.session m = s.session m

/-- R490, R80, R494: SESSION_OPEN that nothing refuses opens the lowest free session number with both SEQ at 0, every event
subscribed, and answers SESSION_OK with SESSION, LIFECYCLE, N_e and DEVICE_ID. KEEPALIVE, NOTIFY_ACK and SESSION_CLOSE of an
accepted SEQ mark the client alive, drop the named notification, and close the session.
R485, R83, R82, R494: when its time-out ends, an idle session closes with REASON 3, a silent client is no longer alive, an
open proposal lapses and may be made again once the time-out has passed once more, and a notification goes out again until its tenth
resend drops it, but in P4 (R466).
The model's own choices here: log 7, 31, 45. -/
def Obligations.SessionsOpenAndClose : Prop :=
  ((∀ (s : State) (client nonce : Vector Byte 16) (auth : Bool) (n : Nat), s.alive = true → s.kmpUp = true →
    s.openRefusal client.toList auth = 0 → s.freeSession = some n →
    ∃ t, exec (.sessionOpen client nonce auth) s = .next t ∧
      (1 ≤ n ∧ n ≤ 8 ∧ s.session n = none) ∧
      (∃ x, t.kmp.sessions = s.kmp.sessions ++ [x] ∧ x.num = n ∧ x.client = client.toList ∧ x.auth = auth ∧ x.rxSeq = 0 ∧ x.txSeq = 1
        ∧ x.mask = BitVec.allOnes 64 ∧ x.alive = false) ∧
      (s.get F.PWR_STAT_STATE ≠ 4 → ∃ tag, t.out = s.out ++ [.kmp n 0x02 1 ([BitVec.ofNat 8 n, BitVec.ofNat 8 s.lifecycle, 0, 0] ++ s.randomBytes 16
        ++ beBytes 8 s.fuses.deviceId) tag])) ∧
  ∀ (s u : State) (h : KmpHead) (x : Session), s.alive = true →
    (s.accept h 0x04 [] = (u, some x) →
      Gives (.keepalive h) s ((u.mapSession x.num (fun y => { y with alive := true })).presenceStep u.present)) ∧
    (∀ seq, s.accept h 0x21 (beBytes 8 seq) = (u, some x) → ∃ t, exec (.notifyAck h seq) s = .next t ∧
      (∀ y, t.session x.num = some y → ∀ a ∈ y.unacked, a.seq ≠ seq) ∧ t = { u with kmp := t.kmp, pending := s.pending }) ∧
    ∀ reason, s.accept h 0x03 (beBytes 2 reason ++ [0, 0]) = (u, some x) →
      Gives (.sessionClose h reason) s (u.dropSession x.num)) ∧
  (∀ s : State, s.alive = true →
    (∀ n x, s.session n = some x → Gives (.sessionIdleTimeout n) s ((s.sendKmp n 0x03 [0, 3, 0, 0]).dropSession n)) ∧
    (∀ n, Gives (.clientTimeout n) s ((s.mapSession n (fun y => { y with alive := false })).presenceStep s.present)) ∧
    (∀ id p, s.kmp.proposals.find? (fun (q : Proposal) => q.id == id) = some p →
      Gives (.proposalTimeout id) s ((s.endProposal p 2).latch 59)) ∧
    (∀ id, s.kmp.proposals.find? (fun (q : Proposal) => q.id == id) = none →
      Gives (.proposalTimeout id) s { s with kmp := { s.kmp with barred := s.kmp.barred.filter (fun b => b.1 != id) } }) ∧
    (∀ n seq x u, s.session n = some x → x.unacked.find? (fun (v : Unacked) => v.seq == seq) = some u →
      (s.get F.PWR_STAT_STATE = 4 → Gives (.notifyResend n seq) s s) ∧
      (s.get F.PWR_STAT_STATE ≠ 4 → ∃ t, exec (.notifyResend n seq) s = .next t ∧
        t.out = s.out ++ [.kmp n 0x20 u.seq u.body (if x.auth then kmpTag x.key n 0x20 u.seq u.body else [])] ∧
        (9 ≤ u.resends → ∀ y, t.session n = some y → ∀ v ∈ y.unacked, v.seq ≠ seq) ∧
        t = { s with kmp := t.kmp, out := t.out })))

/-- Table 17.13: accepted requests that only tell or subscribe. IDENTIFY answers the identity, DAYMARK the digest with the
journal's SEQ, SDP a description, ENROLL the key of a listed client, SUBSCRIBE sets the session's mask.
R80, R484: TAKE_CONTROL of a client that may take the role, while no client is present, gives it the role; DROP_CONTROL
leaves no session in it. -/
def Obligations.TellingAndControlRequests : Prop :=
  (∀ (s u : State) (r : KmpReq) (x : Session),
    (s.Accepts 0x01 r x u → Gives (.identify r) s (u.reply x.num 0x01 r.reqId 0
      (beBytes 4 (u.view (.session x.num) GLB_ID) ++ beBytes 4 (u.rg GLB_FW_VER) ++ beBytes 4 u.lifecycleImage
        ++ beBytes 8 u.fuses.deviceId ++ beBytes 6 u.fuses.mac ++ [0, 0]))) ∧
    (s.Accepts 0x21 r x u → Gives (.daymark r) s (u.reply x.num 0x21 r.reqId 0
      (Cfg.daymark u.st.cfg ++ beBytes 8 (u.rg STORE_JRN_SEQ)))) ∧
    (s.Accepts 0xB0 r x u → beAt r.args 1 1 ≤ 1 →
      Gives (.sdp r) s (u.reply x.num 0xB0 r.reqId 0 (u.sdpText (beAt r.args 0 1) (beAt r.args 1 1 == 1)))) ∧
    (∀ v, s.Accepts 0x70 r x u → beAt r.args 0 1 < 64 → u.cfgItem secAccess (0x100 + beAt r.args 0 1) = some v →
      u.keysUsable = true → Gives (.enroll r) s (u.reply x.num 0x70 r.reqId 0
        (hmac u.fuses.kDev (ascii "KAMYAN-CLIENT-1" ++ v.take 16)))) ∧
    (s.Accepts 0x51 r x u → Gives (.subscribe r) s
      ((u.mapSession x.num (fun y => { y with mask := BitVec.ofNat 64 (beAt r.args 0 8) })).reply x.num 0x51 r.reqId 0 []))) ∧
  (∀ (s u : State) (r : KmpReq) (x : Session),
    (s.Accepts 0x02 r x u → u.kmp.controller ≠ some x.num → u.mayControl x = true → u.present = false →
      Gives (.takeControl r) s ((({ u with kmp := { u.kmp with controller := some x.num } }).reply x.num 0x02 r.reqId 0 []).presenceStep
        false)) ∧
    (s.Accepts 0x02 r x u → u.kmp.controller ≠ some x.num → u.mayControl x = false →
      Gives (.takeControl r) s (u.reply x.num 0x02 r.reqId 0xC [])) ∧
    (s.Accepts 0x02 r x u → u.kmp.controller ≠ some x.num → u.mayControl x = true → u.present = true →
      Gives (.takeControl r) s (u.reply x.num 0x02 r.reqId 2 [])) ∧
    (s.Accepts 0x03 r x u →
      Gives (.dropControl r) s ((({ u with kmp := { u.kmp with controller := none } }).reply x.num 0x03 r.reqId 0 []).presenceStep
        u.present)))

/-- R487: READ and WRITE of a range that is mapped, aligned and open to the session answer OK, READ with one little-endian word
for each address in order; a range that is not is refused whole, and changes nothing but the answer.
The model's own choices here: log 26. -/
def Obligations.ReadsAndWritesOfRanges : Prop :=
  ∀ (s u : State) (r : KmpReq) (x : Session),
    let a := beAt r.args 0 4
    let n := beAt r.args 4 2
    let m := Master.session x.num
    (s.Accepts 0x10 r x u → u.rangeStatus m a n false = 0 →
      Gives (.read r) s ((u.readWords m n a).1.reply x.num 0x10 r.reqId 0 (u.readWords m n a).2) ∧
        (u.readWords m n a).2.length = 4 * n) ∧
    (s.Accepts 0x11 r x u → u.rangeStatus m a n true = 0 →
      Gives (.write r) s (((List.range n).foldl (fun (s : State) i =>
        (s.busWrite m (a + 4 * i) false (leAt r.args (8 + 4 * i) 4)).1) u).reply x.num 0x11 r.reqId 0 [])) ∧
    (s.Accepts 0x10 r x u → u.rangeStatus m a n false ≠ 0 →
      Gives (.read r) s (u.reply x.num 0x10 r.reqId (u.rangeStatus m a n false) [])) ∧
    (s.Accepts 0x11 r x u → u.rangeStatus m a n true ≠ 0 →
      Gives (.write r) s (u.reply x.num 0x11 r.reqId (u.rangeStatus m a n true) []))

/-- R106, R111, R73, R495, R74: GROUP keeps the bytes of a group until they are all there; COMPACT, IMAGE_OPEN, IMAGE_DATA
and IMAGE_COMMIT act where the store and the mode allow them: a compaction begins, the idle slot is prepared, bytes at the
expected OFFSET are stored and answered with the number received, and a whole image that passes every check is committed; one
that fails a check ends the transfer, and the answer names the step of R74.
The model's own choices here: log 27. -/
def Obligations.StoreRequestsAct : Prop :=
  ∀ (s u : State) (r : KmpReq) (x : Session),
    (s.Accepts 0x20 r x u → u.kmp.groupBuf = none → beAt r.args 0 4 = 0 → (r.args.drop 8).length < beAt r.args 4 4 →
      Gives (.group r) s (({ u with kmp := { u.kmp with
        groupBuf := some (x.num, beAt r.args 4 4, r.args.drop 8) } }).reply x.num 0x20 r.reqId 0 [])) ∧
    (s.Accepts 0x20 r x u → u.kmp.groupBuf = none → beAt r.args 0 4 = 0 → (r.args.drop 8).length = beAt r.args 4 4 →
      Gives (.group r) s (u.groupArrived x r (r.args.drop 8))) ∧
    (s.Accepts 0x22 r x u → u.st.compaction = none → u.st.density ≠ 0 → u.rg STORE_GENERATION ≠ 0 →
      Gives (.compact (.kmp r)) s ((u.reply x.num 0x22 r.reqId 1 []).startCompaction (some (x.num, r.reqId)))) ∧
    (s.Accepts 0x30 r x u → u.node.mode = .beacon → u.kmp.transfer = none → u.st.density ≠ 0 → 0 < beAt r.args 0 4 →
      beAt r.args 0 4 ≤ slotSize u.st.density →
      Gives (.imageOpen r) s ((u.prepareStore x.num (beAt r.args 0 4)).reply x.num 0x30 r.reqId 0 [])) ∧
    (∀ tr, s.Accepts 0x31 r x u → u.node.mode = .beacon → u.kmp.transfer = some tr → tr.session = x.num → beAt r.args 0 4 = tr.received →
      tr.received + (r.args.drop 4).length ≤ tr.size →
      Gives (.imageData r) s ((u.imageBytes tr (r.args.drop 4)).reply x.num 0x31 r.reqId 0
        (beBytes 4 (tr.received + (r.args.drop 4).length)))) ∧
    (∀ tr, s.Accepts 0x31 r x u → u.node.mode = .beacon → u.kmp.transfer = some tr → tr.session = x.num → beAt r.args 0 4 ≠ tr.received →
      Gives (.imageData r) s (u.reply x.num 0x31 r.reqId 0xE (beBytes 4 tr.received))) ∧
    (∀ tr, s.Accepts 0x32 r x u → u.node.mode = .beacon → u.kmp.transfer = some tr → tr.session = x.num → tr.size ≤ tr.received →
      let v := u.reply x.num 0x32 r.reqId 1 []
      (v.imageFailStep tr = 0 → Gives (.imageCommit r) s
        ((v.commitImage tr).1.reply x.num 0x32 r.reqId 0 [BitVec.ofNat 8 (v.commitImage tr).2, 0, 0, 0])) ∧
      (v.imageFailStep tr ≠ 0 → v.imageFailStep tr ≠ 4 → Gives (.imageCommit r) s
        (({ v with kmp := { v.kmp with transfer := none } } : State).reply x.num 0x32 r.reqId 0
          [BitVec.ofNat 8 (v.imageFailStep tr), 0, 0, 0])))

/-- Table 2.2, Table 17.13: an accepted MODE request from a mode that allows it is acted on and answered with the STATUS that
GLB_MODE_REQ then shows, OK unless it shows refused; from any other mode it is answered MODE (8) and shows refused. RESET is
answered before the full START.
The model's own choices here: log 28. -/
def Obligations.ModeRequestsAct : Prop :=
  ∀ (s u : State) (r : KmpReq) (x : Session) (i : Via → Instr) (req : Nat),
    ((i, req) ∈ [(Instr.hold, 5), (Instr.service, 6), (Instr.release, 8), (Instr.exitService, 9), (Instr.swap, 10)] →
      s.Accepts 0x40 { r with args := [BitVec.ofNat 8 req, 0, 0, 0] } x u → reqModes req u.node.mode = true →
      let v := u.modeRequest req
      let st := v.get F.GLB_MODE_REQ_STATUS
      Gives (i (.kmp r)) s (v.reply x.num 0x40 r.reqId (if st = 3 then 0xA else 0)
        (if st = 3 then [] else [BitVec.ofNat 8 st, 0, 0, 0]))) ∧
    ((i, req) ∈ [(Instr.hold, 5), (Instr.service, 6), (Instr.release, 8), (Instr.exitService, 9), (Instr.swap, 10)] →
      s.Accepts 0x40 { r with args := [BitVec.ofNat 8 req, 0, 0, 0] } x u → reqModes req u.node.mode = false →
      Gives (i (.kmp r)) s ((u.put F.GLB_MODE_REQ_STATUS 3).reply x.num 0x40 r.reqId 8 [])) ∧
    (s.Accepts 0x40 { r with args := [15, 0, 0, 0] } x u →
      Gives (.reset (.kmp r)) s ((u.reply x.num 0x40 r.reqId 0 [2, 0, 0, 0]).fullStart .kmpReset))

/-- R276, R298, R324, R339, R475, R377, R369: accepted requests to the blocks act where their block allows it, and are
answered OK.
R82, R400, R404, R498: PROPOSAL_ANSWER carries out an accepted proposal and closes it; CBUS_SEND and TW0_XFER hand the frame
and the transaction to their bus, whose result answers them; DEBUG_LEVEL is answered with the STATUS of DBG_CTL.
The model's own choices here: log 29. -/
def Obligations.BlockRequestsAct : Prop :=
  (∀ (s u : State) (r : KmpReq) (x : Session),
    (s.Accepts 0x41 r x u → Gives (.restep (.kmp r)) s
      ((u.restep (beAt r.args 0 1)).1.reply x.num 0x41 r.reqId (u.restep (beAt r.args 0 1)).2 [])) ∧
    (s.Accepts 0x42 r x u → beAt r.args 0 8 % 8 = 0 → (u.realignAsk (beAt r.args 0 8 / 8)).get F.CLK_REALIGN_STATUS ≠ 3 →
      Gives (.realign (.kmp r)) s ((u.realignAsk (beAt r.args 0 8 / 8)).reply x.num 0x42 r.reqId 0
        [BitVec.ofNat 8 ((u.realignAsk (beAt r.args 0 8 / 8)).get F.CLK_REALIGN_STATUS), 0, 0, 0])) ∧
    (s.Accepts 0x43 r x u → u.node.mode = .shadow → u.paired = true →
      Gives (.resync (.kmp r)) s ((u.reply x.num 0x43 r.reqId 0 []).resync)) ∧
    (s.Accepts 0x44 r x u → beAt r.args 0 1 < nLogical → u.replaceOk (beAt r.args 0 1) = true →
      Gives (.replace (.kmp r)) s
        (((u.put F.PAIR_RELIEF_CTL_LOGICAL (beAt r.args 0 1)).reply x.num 0x44 r.reqId 0 []).failBrick (beAt r.args 0 1) true)) ∧
    (s.Accepts 0x45 r x u → Gives (.wake (.kmp r)) s ((u.reply x.num 0x45 r.reqId 0 []).wakeCommand)) ∧
    (s.Accepts 0x46 r x u → beAt r.args 0 1 ≤ 2 → u.bit F.AMP_STAT_DIAG_BUSY = false →
      Gives (.diag (.kmp r)) s
        ((((u.setRg AMP_DIAG_MASK (beAt r.args 4 8)).put F.AMP_DIAG_CTL_MODE (beAt r.args 0 1)).ampTouched AMP_DIAG_CTL 1).reply
          x.num 0x46 r.reqId 0 [])) ∧
    (s.Accepts 0x47 r x u → beAt r.args 0 1 < 64 →
      ((u.ch (beAt r.args 0 1)).state = .latched ∨ (u.ch (beAt r.args 0 1)).state = .locked) →
      Gives (.retest (.kmp r)) s ((u.ampTouched (AMP_CH_CTL (beAt r.args 0 1)) 1).reply x.num 0x47 r.reqId 0 []))) ∧
  (∀ (s u : State) (r : KmpReq) (x : Session),
    (∀ p, s.Accepts 0x50 r x u → u.kmp.proposals.find? (fun (q : Proposal) => q.id == beAt r.args 0 4) = some p →
      (beAt r.args 4 1 = 1 →
        Gives (.proposalAnswer r) s ((((u.reply x.num 0x50 r.reqId 0 []).closeProposal p 0)).perform p.act)) ∧
      (beAt r.args 4 1 = 0 → Gives (.proposalAnswer r) s ((u.reply x.num 0x50 r.reqId 0 []).closeProposal p 1))) ∧
    (∀ t, s.Accepts 0x60 r x u → beAt r.args 0 1 < 4 →
      u.cbusSubmit (beAt r.args 0 1) (beAt r.args 1 1) (r.args.drop 4) (some (x.num, r.reqId)) = some t →
      Gives (.cbusSend r) s t) ∧
    (s.Accepts 0x61 r x u →
      let cmd := beAt r.args 0 4 % 2 ^ 31
      fieldOf cmd 15 7 ≤ 64 → fieldOf cmd 8 7 ≤ 64 → (r.args.drop 4).length = fieldOf cmd 15 7 → u.tw0On = true →
      Gives (.tw0Xfer r) s (u.tw0Submit cmd (r.args.drop 4) (some (x.num, r.reqId)))) ∧
    (s.Accepts 0xA0 r x u → beAt r.args 0 1 ≤ 2 → (u.debugControl (beAt r.args 0 1)).get F.DBG_CTL_STATUS = 1 →
      Gives (.debugLevel (.kmp r)) s ((u.debugControl (beAt r.args 0 1)).reply x.num 0xA0 r.reqId 0 [1, 0, 0, 0])))

/-- R480: in BLANK an accepted provisioning request writes its bank, once: the fuses take the value and mark the bank written,
and the request is answered OK.
R480 to R482, Table 17.7: lifecycle requests that nothing refuses are answered OK and blow their fuse: COMMIT bit 0, SEAL bit 1
and SCRAP bit 4 before a full START, RETURN bit 2 with the erasure begun. -/
def Obligations.ProvisioningAndLifecycleRequests : Prop :=
  (∀ (s u : State) (r : KmpReq) (x : Session), u.lifecycle = 0 →
    (s.Accepts 0x80 r x u → (beAt r.args 0 1 = 1 ∨ beAt r.args 0 1 = 2) → u.bankFree 0 = true →
      Gives (.setMedium r true) s (({ u with fuses := { u.fuses with
        medium := beAt r.args 0 1, written := 0 :: u.fuses.written } }).reply x.num 0x80 r.reqId 0 [])) ∧
    (s.Accepts 0x81 r x u → u.bankFree 1 = true →
      Gives (.setDeviceKey r true) s (({ u with fuses := { u.fuses with
        kDev := r.args, written := 1 :: u.fuses.written } }).reply x.num 0x81 r.reqId 0 [])) ∧
    (s.Accepts 0x82 r x u → u.bankFree 2 = true → ∃ t, exec (.genSignKey r true) s = .next t ∧
      2 ∈ t.fuses.written ∧ t.fuses.kSign.length = 32 ∧ t.fuses = { u.fuses with
        kSign := t.fuses.kSign, signPub := t.fuses.signPub, written := 2 :: u.fuses.written }) ∧
    (s.Accepts 0x83 r x u → u.bankFree 3 = true →
      Gives (.setOwnerKey r true) s (({ u with fuses := { u.fuses with
        ownerPub := r.args, written := 3 :: u.fuses.written } }).reply x.num 0x83 r.reqId 0 [])) ∧
    (s.Accepts 0x80 r x u → (beAt r.args 0 1 = 1 ∨ beAt r.args 0 1 = 2) → u.bankFree 0 = false →
      Gives (.setMedium r true) s (u.reply x.num 0x80 r.reqId 0xA [])) ∧
    (s.Accepts 0x81 r x u → u.bankFree 1 = true →
      Gives (.setDeviceKey r false) s (({ u with fuses := { u.fuses with failed := 1 :: u.fuses.failed } }).reply x.num 0x81 r.reqId 9 []))) ∧
  (∀ (s u : State) (r : KmpReq) (x : Session),
    (s.Accepts 0x84 r x u → u.lifecycleRefusal 1 x.auth = 0 →
      Gives (.commit (.kmp r)) s (let v := u.reply x.num 0x84 r.reqId 0 []
        (({ v with fuses := { v.fuses with keyChk := v.fuses.check } }).blow 0).fullStart .lifecycle)) ∧
    (s.Accepts 0x90 r x u → u.lifecycleRefusal 2 x.auth = 0 →
      Gives (.seal (.kmp r)) s (((u.reply x.num 0x90 r.reqId 0 []).blow 1).fullStart .lifecycle)) ∧
    (s.Accepts 0x91 r x u → u.lifecycleRefusal 3 x.auth = 0 → ∃ t, exec (.return_ (.kmp r)) s = .next t ∧
      t.fuses.lifecycle.testBit 2 = true ∧ t.sec.erasing = true ∧ t.fuses = { u.fuses with lifecycle := t.fuses.lifecycle } ∧
      t.node = u.node ∧ t.regs = u.regs ∧ t.store = u.store) ∧
    (s.Accepts 0x92 r x u → u.lifecycleRefusal 4 x.auth = 0 → beAt r.args 0 4 = u.fuses.deviceId % 2 ^ 32 →
      Gives (.scrap (.kmp r)) s (((u.reply x.num 0x92 r.reqId 0 []).blow 4).fullStart .lifecycle)) ∧
    (s.Accepts 0x92 r x u → u.lifecycleRefusal 4 x.auth = 0 → beAt r.args 0 4 ≠ u.fuses.deviceId % 2 ^ 32 →
      Gives (.scrap (.kmp r)) s (u.reply x.num 0x92 r.reqId 5 [])))

/-- The register form of a request that a register also takes: the write of that register by the master, with the bits that ask
for it, answered done, or with an error response where the access fails or is refused. -/
def Obligations.RegisterFormsWriteTheirRegister : Prop :=
  ∀ (s : State) (m : Master) (i v : Nat), s.alive = true →
    let at_ (a x : Nat) (c : Instr) : Prop :=
      let w := s.busWrite m a false x
      Gives c s (w.1.emit (match w.2 with
        | .done _ => Output.done
        | _ => Output.error))
    at_ GLB_MODE_REQ (withField v 0 4 5) (.hold (.reg m i v)) ∧ at_ GLB_MODE_REQ (withField v 0 4 6) (.service (.reg m i v)) ∧
    at_ GLB_MODE_REQ (withField v 0 4 8) (.release (.reg m i v)) ∧ at_ GLB_MODE_REQ (withField v 0 4 9) (.exitService (.reg m i v)) ∧
    at_ GLB_MODE_REQ (withField v 0 4 10) (.swap (.reg m i v)) ∧ at_ GLB_MODE_REQ (withField v 0 4 15) (.reset (.reg m i v)) ∧
    at_ TMS_CMD v (.restep (.reg m i v)) ∧ at_ CLK_REALIGN (withField v 0 1 1) (.realign (.reg m i v)) ∧
    at_ PAIR_WC_CTL (withField v 0 1 1) (.resync (.reg m i v)) ∧ at_ PAIR_RELIEF_CTL (withField v 31 1 1) (.replace (.reg m i v)) ∧
    at_ PWR_CTL (withField v 0 1 1) (.wake (.reg m i v)) ∧ at_ AMP_DIAG_CTL (withField v 0 1 1) (.diag (.reg m i v)) ∧
    at_ (AMP_CH_CTL (i % 64)) (withField v 0 1 1) (.retest (.reg m i v)) ∧ at_ STORE_CTL (withField v 0 1 1) (.compact (.reg m i v)) ∧
    at_ SEC_CMD (withField v 28 4 1) (.commit (.reg m i v)) ∧ at_ SEC_CMD (withField v 28 4 2) (.seal (.reg m i v)) ∧
    at_ SEC_CMD (withField v 28 4 3) (.return_ (.reg m v)) ∧ at_ SEC_CMD (withField v 28 4 4) (.scrap (.reg m v)) ∧
    at_ DBG_CTL v (.debugLevel (.reg m i v))

/-! ## Modes, START and the sample tick (chapters 1 and 2) -/

/-- R64, R67: POWER_ON of an engine without power or in reset, and RESET_N_RISE of one in reset, begin a full START with the straps
and the store device given.
R515, R516, R115: RESET_N low and a loss of power stop the engine. Fuses stay, the mode is START, no audio runs, no session
is open, every register but SEC_ZEROIZE is at its reset value, which RESET_N low keeps and a loss of power clears; an erasure
goes on while the supplies stand.
The model's own choices here: log 4, 53. -/
def Obligations.PowerAndResetPins : Prop :=
  (∀ (s : State) (st : Fin 128) (d : Fin 4),
    ((s.node.powered && !s.node.inReset) = false → Gives (.powerOn st d) s
      (({ s with
          node := { s.node with powered := true, inReset := false, uptime := 0, strapPins := st.val }
          st := { s.st with density := d.val } }).fullStart .powerOn)) ∧
    (s.node.powered = true → s.node.inReset = true → Gives (.resetNRise st d) s
      (({ s with
          node := { s.node with inReset := false, strapPins := st.val }
          st := { s.st with density := d.val } }).fullStart .resetN))) ∧
  ((∀ (s : State) (g im : Nat), s.node.powered = true → s.node.inReset = false →
    ∃ t, exec (.resetNLow g im) s = .next t ∧ t.alive = false ∧ t.node.powered = true ∧ t.node.inReset = true ∧ t.node.mode = .start ∧
      t.fuses = s.fuses ∧ t.audio = State.reset.audio ∧ t.kmp = State.reset.kmp ∧ t.mem = [] ∧ t.sec.erasing = s.sec.erasing ∧
      (∀ a, a ≠ SEC_ZEROIZE → t.rg a = (resetValue a).toNat) ∧ t.rg SEC_ZEROIZE = s.rg SEC_ZEROIZE) ∧
  ∀ (s : State) (g im : Nat), s.node.powered = true →
    ∃ t, exec (.powerLoss g im) s = .next t ∧ t.alive = false ∧ t.node.powered = false ∧ t.node.mode = .start ∧
      t.fuses = s.fuses ∧ t.audio = State.reset.audio ∧ t.kmp = State.reset.kmp ∧ t.mem = [] ∧ t.sec.erasing = false ∧
      (∀ a, a ≠ SEC_ZEROIZE → t.rg a = (resetValue a).toNat) ∧ t.rg SEC_ZEROIZE = 0)

/-- R478, R115: fuses, and whatever the command queue holds, survive a full START; power is on, RESET_N is released and START_CAUSE
shows what began it. -/
def Obligations.FullStartKeepsFuses : Prop :=
  ∀ (s : State) (cause : StartCause), (s.fullStart cause).fuses = s.fuses ∧ (s.fullStart cause).pending = s.pending ∧
    (s.fullStart cause).node.powered = true ∧ (s.fullStart cause).node.inReset = false ∧ (s.fullStart cause).node.cause = cause

/-- R59: a change of mode shows in GLB_MODE as the new and the previous mode, in GLB_TRANS_CNT, which counts it and holds at its
maximum, and in GLB_MODE_TIME, which takes N; a change to the mode that stands is none. -/
def Obligations.ModeChangesAreRecorded : Prop :=
  ∀ (s : State) (m : Mode), (s.node.mode = m → s.setMode m = s) ∧
    (s.node.mode ≠ m →
      let t := s.setMode m
      t.node = { s.node with mode := m, prevMode := s.node.mode } ∧
      t.get F.GLB_TRANS_CNT_TRANS_CNT = min (2 ^ (F.GLB_TRANS_CNT_TRANS_CNT).width - 1) (s.get F.GLB_TRANS_CNT_TRANS_CNT + 1) ∧
      t.get F.GLB_MODE_TIME_N_LAST = s.node.n.toNat % 2 ^ (F.GLB_MODE_TIME_N_LAST).width ∧
      t = { s with
        regs := t.regs, node := t.node, kmp := t.kmp, pair := t.pair, out := t.out, free := t.free
        net := { s.net with outbox := t.net.outbox } })

/-- R57, R60, R61, R84: a HOLD request from a mode that allows it enters HOLD and shows DONE; RELEASE leaves HOLD at once when no
NODE_HOLD bit stands and no unlock is active, for SHADOW in a pair and LEAD without one, or for the mode START was to enter;
a request that Table 2.2 does not allow shows REFUSED and changes no mode. -/
def Obligations.HoldAndReleaseChangeMode : Prop :=
  ∀ s : State,
    (s.node.mode ∈ [Mode.beacon, .lead, .shadow, .service, .dormant] →
      (s.modeRequest 5).node.mode = .hold ∧ (s.modeRequest 5).get F.GLB_MODE_REQ_STATUS = 2) ∧
    (s.node.mode ∈ [Mode.start, .replay, .hold] → s.modeRequest 5 = s.put F.GLB_MODE_REQ_STATUS 3) ∧
    (s.node.mode = .hold → s.flt.hold = 0 → s.sec.unlocked = false → ∀ m, m ≠ Mode.hold →
      s.node.releaseTo.getD (if s.paired then .shadow else .lead) = m → (s.modeRequest 8).node.mode = m) ∧
    (s.node.mode = .hold → s.flt.hold ≠ 0 → (s.modeRequest 8).node.mode = .hold ∧ (s.modeRequest 8).node.released = true) ∧
    (s.node.mode ≠ .hold → s.modeRequest 8 = s.put F.GLB_MODE_REQ_STATUS 3) ∧
    (s.node.mode ≠ .service → s.modeRequest 9 = s.put F.GLB_MODE_REQ_STATUS 3)

/-- R69, R63, R109, R311, R331, R333, R449: each event of START and of the exchange of roles completes with its own effect.
START_GATE_TIMEOUT opens the gate: audio runs from the next N. FIRMWARE_UPDATE_DONE in SERVICE, before the start gate has
opened too, asks for an image START, whose mute begins at once or, during another transition, waits. RESET_FAULT_START runs a full START with cause RESET_FAULT and N = 0.
LISTEN_WINDOW_END enters the mode START was to enter, SHADOW if a LEAD was heard, or HOLD while a NODE_HOLD bit stands, and
brings up audio or the gate; out of DORMANT it enters LEAD or SHADOW with audio. IMAGE_START, once every output is mute and no
group is being written, stops the audio, loads the configuration with N, time and fuses as they are, and waits for the block
boundary. HANDOVER_EFFECTIVE exchanges LEAD and SHADOW at the announced tick,
unless the LEAD had to stay meanwhile (R332); SWAP_ABANDON ends an exchange that was not echoed,
as refused. Each changes nothing of its own where what it ends is not under way; what waited for the end of a transition is
then acted on (settleModes), which changes nothing when nothing waits.
The model's own choices here: log 8, 47, 55. -/
def Obligations.StartEventsAct : Prop :=
  (∀ u : State, u.node.asked = [] → u.node.startAsked = none → u.settleModes = u) ∧
  ∀ s : State, s.alive = true →
    (s.node.phase = .gate → ∃ t, exec .startGateTimeout s = .next t ∧ t.audio.running = true ∧ t.audio.startN = s.nextN ∧
      t.node = { s.node with phase := .none } ∧ t.st = s.st ∧ t.store = s.store ∧ t.mem = s.mem ∧ t.fuses = s.fuses) ∧
    (s.node.phase ≠ .gate → Gives .startGateTimeout s s) ∧
    (s.node.mode = .service →
      (s.inTransition = false → ∃ t, exec .firmwareUpdateDone s = .next t ∧
        t.node = { s.node with phase := .imageMute .firmwareUpdate, startAsked := none } ∧
        (∀ d, t.muteOf d = (s.muteOf d).add .imageStart s.ms5 ∧ .imageStart ∈ (t.muteOf d).reasons) ∧
        t = { s with node := t.node, audio := { s.audio with
          muteNet := t.audio.muteNet, muteOut := t.audio.muteOut, mutes := t.audio.mutes } }) ∧
      ((∀ c, s.node.phase ≠ .imageMute c) → s.inTransition = true →
        Gives .firmwareUpdateDone s { s with node := { s.node with startAsked := some .firmwareUpdate } }) ∧
      (∀ c, s.node.phase = .imageMute c → Gives .firmwareUpdateDone s s)) ∧
    (s.node.mode ≠ .service → Gives .firmwareUpdateDone s s) ∧
    (∀ k, s.flt.resetPending = some k → (s.flt.pulsing && (s.get F.FLT_PIN_CTL_CLASS_EN).testBit 4) = false →
      ∃ t, exec .resetFaultStart s = .next t ∧ t = { s.fullStart .resetFault with pending := s.pending } ∧
        t.node.cause = .resetFault ∧ t.node.n = 0 ∧ t.kmp.sessions = [] ∧ t.fuses = s.fuses) ∧
    (s.flt.resetPending = none ∨ (s.flt.pulsing && (s.get F.FLT_PIN_CTL_CLASS_EN).testBit 4) = true →
      Gives .resetFaultStart s s) ∧
    (∀ dest image, s.node.phase = .listen dest image → s.pwr.waking = none →
      let mode : Mode := if dest = .lead ∧ s.node.heard = true then .shadow else dest
      let gated : Prop := Cfg.image s.st.cfg secGlobal 3 0 0 = 1 ∧ s.node.lockedOnce = false
      ∃ u : State, Gives .listenWindowEnd s u.settleModes ∧
        u.node.mode = (if s.flt.hold = 0 then mode else .hold) ∧
        (gated → u.node.phase = .gate) ∧ (¬ gated → u.node.phase = .none ∧ u.audio.running = true ∧ u.audio.startN = s.nextN)) ∧
    (∀ dest image c i, s.node.phase = .listen dest image → s.pwr.waking = some (c, i) →
      ∃ u : State, Gives .listenWindowEnd s u.settleModes ∧ u.node.mode = (if s.node.heard then .shadow else .lead) ∧
        u.node.phase = .none ∧ u.audio.running = true ∧ u.audio.startN = s.nextN ∧ u.pwr.waking = none ∧
        u.get F.PWR_STAT_STATE = 0 ∧ u.get F.PWR_WAKE_STAT_CAUSE = c % 2 ^ (F.PWR_WAKE_STAT_CAUSE).width ∧
        u.get F.PWR_WAKE_STAT_INDEX = i % 2 ^ (F.PWR_WAKE_STAT_INDEX).width) ∧
    ((∀ dest image, s.node.phase ≠ .listen dest image) → Gives .listenWindowEnd s s.settleModes) ∧
    (∀ cause, s.node.phase = .imageMute cause → s.allMuted = true → s.st.writing = none → ∃ t, exec .imageStart s = .next t ∧
      (t.node.phase = .boundary .lead ∨ t.node.phase = .boundary .beacon) ∧ (t.node.mode = .start ∨ t.node.mode = .replay) ∧
      t.node.cause = cause ∧ t.node.n = s.node.n ∧ t.node.time = s.node.time ∧ t.audio.running = false ∧ t.fuses = s.fuses ∧
      t.st.waiting = [] ∧ t.st.committed = []) ∧
    ((∀ cause, s.node.phase ≠ .imageMute cause) ∨ s.allMuted = false ∨ s.st.writing ≠ none → Gives .imageStart s s.settleModes) ∧
    (let due (h : HandOver) : Bool := decide (8 * h.blk ≤ s.node.n.toNat + 1) && !(h.mine && h.swap && !h.echoed);
      (s.pair.ho = none → Gives .handoverEffective s s.settleModes ∧ Gives .swapAbandon s s.settleModes) ∧
      ∀ h, s.pair.ho = some h →
        (due h = false → Gives .handoverEffective s s.settleModes) ∧
        (due h = true → ∃ u : State, Gives .handoverEffective s u.settleModes ∧ u.pair.ho = none ∧
          u.bit F.PAIR_STAT_HANDOVER = false ∧ u.get F.PAIR_HO_HO_BLK = 0 ∧
          u.node.mode = (if s.node.mode = .shadow ∨ (s.node.mode = .lead ∧ (s.promoteDue = true ∨ h.void = true)) then .lead
            else if s.node.mode = .lead then .shadow else s.node.mode) ∧
          u.get F.GLB_MODE_REQ_STATUS =
            if h.mine && h.swap && decide (s.get F.GLB_MODE_REQ_STATUS = 1) then 2 else s.get F.GLB_MODE_REQ_STATUS) ∧
        (let off := h.mine && h.swap && !h.echoed && decide (h.blk ≤ s.blk + 1);
          (off = false → Gives .swapAbandon s s.settleModes) ∧
          (off = true → ∃ u : State, Gives .swapAbandon s u.settleModes ∧ u.pair = { s.pair with ho := none, echo := none } ∧
            u = { s with pair := u.pair, regs := u.regs } ∧ u.bit F.PAIR_STAT_HANDOVER = false ∧ u.get F.PAIR_HO_HO_BLK = 0 ∧
            u.get F.GLB_MODE_REQ_STATUS = if s.get F.GLB_MODE_REQ_STATUS = 1 then 3 else s.get F.GLB_MODE_REQ_STATUS)))

/-- R31, R268: a tick counts N up by one, modulo 2^64, unless N has just been set; the time counter goes to the first TIME cycle,
of 160,000 units counted from where it stood, at which it reaches T(N), and never back. R266: in P4 it goes by REF5 cycles, of
40 ns and 45,227, 45,227 and 45,226 units in turn.
R30, R34, R61, R332, Table 1.3: a SAMPLE_TICK brings time and N forward, writes what waits for the tick, takes the errors found, lets an
image START that waits for the block boundary go on, promotes a SHADOW without its LEAD and acts on what waited, plays out and senses
the Ts that ends, then advances the audio blocks while audio runs, and sends the Flash of a block that ends and what the pair unit
has to send.
The model's own choices here: log 6, 15. -/
def Obligations.SampleTicks : Prop :=
  (∀ (s : State),
    let n := s.nextN
    let t := s.advance n
    n < 2 ^ 64 ∧ (s.node.fresh = false → n = (s.node.n.toNat + 1) % 2 ^ 64) ∧ (s.node.fresh = true → n = s.node.n.toNat) ∧
    t.node.n.toNat = n ∧ t.node.fresh = false ∧ s.tickTime n ≤ t.node.time ∧ s.node.time ≤ t.node.time ∧
    (s.get F.PWR_STAT_STATE < 4 →
      (t.node.time - s.node.time) % 160000 = 0 ∧ (s.node.time < t.node.time → t.node.time < s.tickTime n + 160000)) ∧
    (4 ≤ s.get F.PWR_STAT_STATE → s.node.pattern < 3 →
      (∃ m, s.node.pattern ≤ m ∧ t.node.pattern = m % 3 ∧ t.node.time = s.node.time + (refUnits m - refUnits s.node.pattern)) ∧
      (s.node.time < t.node.time → t.node.time < s.tickTime n + 2666667)) ∧
    (∀ m, refUnits (m + 1) = refUnits m + (40 * 65536 + if m % 3 = 2 then 45226 else 45227)) ∧
    t.node.uptime - s.node.uptime = t.node.time - s.node.time ∧ t = { s with node := t.node }) ∧
  (∀ (s : State) (i : TickIn), s.alive = true →
    let t := ((s.advance s.nextN).releaseLoads s.nextN).checkLate
    let u := ((((t.quietTick.tickErrors i).boundaryTick).promoteTick).settleModes).groupsTick
    let v : State := if u.audio.running && !t.audio.running then { u with audio := { u.audio with startN := s.nextN } } else u
    let w := if v.modGated then v else (v.playAll.settleAmpWrites.takeRole).senseTick (toTbl i.sense)
    let x := if w.audio.running then w.audioTick s.nextN i else w
    Gives (.sampleTick i) s (x.flashTick.outboxTick) ∧
    (x.flashes = false ∨ x.node.n.toNat % 8 ≠ 7 → x.flashTick = x) ∧ (x.net.outbox = [] → x.outboxTick = x))

/-! ## The register bus (chapters 0, 1 and 17) -/

/-- R24, R26: an access whose address is not a multiple of its width, and one to an address no block maps, complete with an error
response and, for a write, change no register but what records the error; for the debug port below FULL a read changes
nothing.
R424, R425: an access to the sample exchange area, 0x303F_8000 to 0x303F_FFFF, fails, shows in NO_PATH and MORTAR_ERR and latches bit 13.
R21, R26: a write that Table 17.8 lets the master make, to a register, is answered done; where no register is defined it
changes nothing; a read of such an offset returns 0.
R21, R25: a read of a register that hands no data on, by a master that may, answers its value, fields of type WO as 0, and sets its RC
fields to their reset values; a 32-bit read of the lower word of a 64-bit register captures the upper word for the master. -/
def Obligations.RegisterAccesses : Prop :=
  (∀ (s : State) (m : Master) (a : Word32) (wide : Bool) (x : Word64), s.alive = true →
    (a.toNat % (if wide then 8 else 4) ≠ 0 →
      Gives (.registerWrite m a wide x) s (s.emit .error) ∧ Gives (.registerReadClear m a wide) s (s.emit .error)) ∧
    (a.toNat % (if wide then 8 else 4) = 0 → regionAt a.toNat = .unmapped →
      ∃ t, exec (.registerWrite m a wide x) s = .next t ∧ t.out = s.out ++ [.error] ∧
        t = { s with regs := t.regs, out := t.out, free := t.free } ∧
        RegsBut [MORTAR_ERR, (F.MORTAR_MST_CNT_ERRS (masterCode m)).addr] s t) ∧
    (a.toNat % (if wide then 8 else 4) = 0 → regionAt a.toNat = .unmapped ∨ regionAt a.toNat = .exchange → s.tapRead m = true →
      Gives (.registerReadClear m a wide) s (s.emit .error)) ∧
    (a.toNat % (if wide then 8 else 4) = 0 → regionAt a.toNat = .exchange →
      let u := s.noPath (masterCode m) 0 a.toNat
      u.latched 13 = true ∧ u.bit F.MORTAR_STAT_NO_PATH = true ∧
        u.rg MORTAR_ERR = 2 ^ 60 + masterCode m * 2 ^ 48 + a.toNat ∧
        Gives (.registerWrite m a wide x) s (u.emit .error) ∧
        (s.tapRead m = false → Gives (.registerReadClear m a wide) s (u.emit .error)))) ∧
  (∀ (s : State) (m : Master) (a : Word32) (x : Word64), s.alive = true → a.toNat % 4 = 0 → regionAt a.toNat = .regs →
    (s.mayReach m a.toNat true = true → Gives (.registerWrite m a false x) s ((s.writeReg m a.toNat false x.toNat).emit .done)) ∧
    (s.mayReach m a.toNat true = false → Gives (.registerWrite m a false x) s (s.emit .error)) ∧
    (s.mayReach m a.toNat true = true → findReg a.toNat = none → Gives (.registerWrite m a false x) s (s.emit .done)) ∧
    (s.mayReach m a.toNat false = true → findReg a.toNat = none → Gives (.registerReadClear m a false) s (s.emit (.data 0)) ∧
      Gives (.capturingRead m a) s (s.emit (.data 0)))) ∧
  ∀ (s : State) (m : Master) (a : Word32) (d : RegDef) (i j : Nat), s.alive = true → a.toNat % (d.bits / 8) = 0 →
    regionAt a.toNat = .regs → s.mayReach m a.toNat false = true → s.tapRead m = false → findReg a.toNat = some (d, i, j) →
    d.instAddr i j = a.toNat → isNow a.toNat = false → s.readData m a.toNat = none →
    let v := d.fields.foldl (fun (n : Nat) (f : FieldDef) => if f.ty == .wo then withField n f.lo f.width 0 else n) (s.view m a.toNat)
    let u := s.captureUpper m a.toNat v
    (∀ x : State, RegsBut [a.toNat] x (x.clearRc d a.toNat i j) ∧
      ∀ f ∈ d.fields, f.ty = .rc → (x.clearRc d a.toNat i j).get ⟨a.toNat, f.lo, f.width⟩ = fieldOf (d.resetAt i j) f.lo f.width) ∧
    u.capture m = some (a.toNat, BitVec.ofNat 32 (v / 2 ^ 32)) ∧
    (d.bits = 32 → Gives (.registerReadClear m a false) s ((s.clearRc d a.toNat i j).emit (.data (v % 2 ^ 32))) ∧
      Gives (.capturingRead m a) s ((s.clearRc d a.toNat i j).emit (.data (v % 2 ^ 32)))) ∧
    (d.bits = 64 → Gives (.registerReadClear m a true) s ((s.clearRc d a.toNat i j).emit (.data (v % 2 ^ 64))) ∧
      Gives (.registerReadClear m a false) s ((u.clearRc d a.toNat i j).emit (.data (v % 2 ^ 32))) ∧
      Gives (.capturingRead m a) s ((u.clearRc d a.toNat i j).emit (.data (v % 2 ^ 32))))

/-- R25: a 32-bit read of the lower word of a 64-bit register captures the upper word for the master, whose next read of the upper
word returns the capture whatever the register has become; a master that has made none reads 0. -/
def Obligations.UpperWordsAreCaptured : Prop :=
  ∀ (s : State) (m : Master) (d : RegDef) (i j a : Nat), findReg a = some (d, i, j) → d.instAddr i j = a → d.bits = 64 →
    findReg (a + 4) = some (d, i, j) → isNow a = false → s.readData m a = none →
    let u := (s.readReg m false a false).1
    (∀ v : State, v.caps = u.caps → (v.readReg m false (a + 4) false).2 =
      d.fields.foldl (fun (n : Nat) (f : FieldDef) => if f.ty == .wo then withField n f.lo f.width 0 else n) (s.view m a) / 2 ^ 32 % 2 ^ 32) ∧
    (s.capture m = none → s.readReg m false (a + 4) false = (s, 0)) ∧
    ∀ m' : Master, m' ≠ m → u.capture m' = s.capture m'

/-- R533: a read of TMS_NOW_NS, or of its lower word, captures the whole counter and the N of the last tick for the master; until
its next capture its reads of TMS_NOW_SEC, TMS_NOW_WNS, TMS_NOW_N and the upper word of TMS_NOW_NS return the captured
values, whatever the counter shows by then; a master that has made none since the last full START reads 0. -/
def Obligations.TimeReadsCapture : Prop :=
  (∀ (s : State) (m : Master) (wide : Bool), s.alive = true → s.mayReach m TMS_NOW_NS false = true → s.tapRead m = false →
    ∃ t, exec (.tmsNowCapture m wide) s = .next t ∧ tget t.tu.now (masterKey m) = some (s.node.time, s.node.n.toNat) ∧
      t = { s with tu := t.tu, out := t.out }) ∧
  (∀ (s : State) (cause : StartCause) (m : Master), tget (s.fullStart cause).tu.now (masterKey m) = none) ∧
  ∀ (s : State) (m : Master),
    (tget s.tu.now (masterKey m) = none →
      s.view m TMS_NOW_SEC = 0 ∧ s.view m TMS_NOW_WNS = 0 ∧ s.view m TMS_NOW_N = 0 ∧
      s.readReg m false (TMS_NOW_NS + 4) false = (s, 0)) ∧
    ∀ x n, tget s.tu.now (masterKey m) = some (x, n) →
      s.view m TMS_NOW_SEC = x / (65536 * 1000000000) % 2 ^ 48 ∧ s.view m TMS_NOW_WNS = x / 65536 % 2 ^ 64 ∧
      s.view m TMS_NOW_N = n ∧ s.readReg m false (TMS_NOW_NS + 4) false = (s, x / 65536 % 1000000000)

/-- R33, R496: the debug port's read tap has no side effect: DIAG_READ at level DIAG changes nothing but what the port shows of
itself and the bits it shifts out; below DIAG, and in SCRAPPED, it acts as BYPASS.
R33, Table 17.8: at DIAG the debug port writes nothing and reads nothing outside the register space; at OFF it reaches nothing;
the TW1 window never writes outside the register space. -/
def Obligations.DebugPortRights : Prop :=
  (∀ (s : State) (a : Word32), s.node.powered = true → s.node.inReset = false →
    ∃ t, exec (.diagRead a) s = .next t ∧ t = { s with regs := t.regs, out := t.out, sec := t.sec, free := t.free } ∧
      RegsBut [DBG_LEVEL] s t ∧ t.sec = { s.sec with extest := t.sec.extest } ∧
      (s.bit F.DBG_LEVEL_DISC = true → t = s) ∧ (s.bit F.DBG_LEVEL_DISC = false → ∃ o, t.out = s.out ++ [o]) ∧
      (s.bit F.DBG_LEVEL_DISC = false → (s.lifecycle = 4 ∨ s.get F.DBG_LEVEL_LEVEL = 0) → t.out = s.out ++ [.tdo 1 0])) ∧
  (∀ (s : State) (a : Nat) (wide : Bool) (x : Nat),
    (s.get F.DBG_LEVEL_LEVEL < 2 → a % (if wide then 8 else 4) = 0 → regionAt a ≠ .unmapped → regionAt a ≠ .exchange → s.busWrite .debug a wide x = (s, .denied)) ∧
    (s.get F.DBG_LEVEL_LEVEL = 1 → a % (if wide then 8 else 4) = 0 → regionAt a ≠ .unmapped → regionAt a ≠ .exchange → regionAt a ≠ .regs →
      s.busRead .debug true a wide = (s, .denied)) ∧
    (s.get F.DBG_LEVEL_LEVEL = 0 → a % (if wide then 8 else 4) = 0 → regionAt a ≠ .unmapped → regionAt a ≠ .exchange → s.busRead .debug true a wide = (s, .denied)) ∧
    (a % (if wide then 8 else 4) = 0 → regionAt a ≠ .unmapped → regionAt a ≠ .exchange → regionAt a ≠ .regs → s.busWrite .tw1 a wide x = (s, .denied)))

/-! ## Faults (chapter 16) -/

/-- R448, R451, R452: a line that asserts latches its bit and no other; when the word was zero FLT_FIRST takes the bit and the
time; the latch counts in FLT_CNT.LATCHES; a line whose bit is set already latches nothing and counts nothing. -/
def Obligations.LinesLatchOnce : Prop :=
  ∀ (s : State) (k : Nat), k < 64 →
    (∀ j, (s.latch k).latched j = (s.latched j || decide (j = k))) ∧
    (s.latched k = false → (s.latch k).get F.FLT_CNT_LATCHES =
      min (2 ^ (F.FLT_CNT_LATCHES).width - 1) (s.get F.FLT_CNT_LATCHES + 1)) ∧
    (s.latched k = true → (s.latch k).rg FLT_CNT = s.rg FLT_CNT ∧ (s.latch k).rg FLT_FIRST = s.rg FLT_FIRST) ∧
    (s.rg FLT_STATUS = 0 → (s.latch k).get F.FLT_FIRST_SRC = k ∧ (s.latch k).get F.FLT_FIRST_VALID = 1) ∧
    (s.rg FLT_STATUS ≠ 0 → (s.latch k).rg FLT_FIRST = s.rg FLT_FIRST)

/-- R456: clearing a bit whose cause is absent clears it and no other; one whose cause is present stays, and a write that meets such
bits counts once in FLT_CNT.REFUSED; a bit that is clear stays so and counts nothing. A bit whose line asserts in the cycle of its
clear stays set and counts as a new latch. -/
def Obligations.ClearsRespectCauses : Prop :=
  ∀ (s : State) (k : Nat), k < 64 →
    (s.latched k = true → s.causePresent k = false →
      (s.clearFault k).latched k = false ∧ (s.clearFault k).flt.hold.getLsbD k = false ∧ ∀ j, j ≠ k → (s.clearFault k).latched j = s.latched j) ∧
    (s.latched k = true → s.causePresent k = true → s.clearFault k = s) ∧
    (s.latched k = false → s.clearFault k = s) ∧
    (∀ mask : Nat, s.flt.asserted = 0 → mask.testBit k = true → s.latched k = true → s.causePresent k = true →
      (s.clearFaults mask).get F.FLT_CNT_REFUSED = min (2 ^ (F.FLT_CNT_REFUSED).width - 1) (s.get F.FLT_CNT_REFUSED + 1)) ∧
    (∀ mask : Nat, s.flt.asserted = 0 → (∀ j, mask.testBit j = true → s.latched j = true → s.causePresent j = false) →
      (s.clearFaults mask).get F.FLT_CNT_REFUSED = s.get F.FLT_CNT_REFUSED) ∧
    (s.latched k = true → s.flt.asserted.getLsbD k = true → (s.clearFaults (2 ^ k)).latched k = true ∧
      (s.clearFaults (2 ^ k)).get F.FLT_CNT_LATCHES = min (2 ^ (F.FLT_CNT_LATCHES).width - 1) (s.get F.FLT_CNT_LATCHES + 1))

/-- R457, R456: FAULT_CLEAR is a write of FLT_STATUS by its master, with its answer; FAULT_AUTO_CLEAR of an AUTO bit whose cause
is absent is proposed to a present client and done by the policy without one; otherwise it has no effect.
R447, R463, Table 16.1: what the collector's own events latch: SOFT0 and SOFT1 through FLT_SOFT by a master that may write it,
the Keeper's watchdog, a supply monitor, the die temperature above its thresholds, and a scrub pass that has not ended. A pass that
starts counts the one before it, with the rows that one corrected and those it found uncorrectable, each row taken in as R462 has it. -/
def Obligations.CollectorCommands : Prop :=
  (∀ s : State, s.alive = true →
    (∀ (m : Master) (c : ClearIn), s.mayReach m FLT_STATUS true = true → s.mayWrite m FLT_STATUS 0 = true →
      let u := (({ s with flt := { s.flt with asserted := c.asserted } } : State).clearFaults c.mask.toNat).tryRelease
      Gives (.faultClear m c) s (({ u with flt := { u.flt with asserted := 0 } } : State).emit .done)) ∧
    (∀ k : Fin 64, s.latched k.val = true → s.bit (F.FLT_CFG_AUTO k.val) = true → s.causePresent k.val = false → s.present = true →
      Gives (.faultAutoClear k) s (s.propose (.clearFault k.val))) ∧
    (∀ k : Fin 64, s.latched k.val = true → s.bit (F.FLT_CFG_AUTO k.val) = true → s.causePresent k.val = false → s.present = false →
      ∃ t, exec (.faultAutoClear k) s = .next t ∧ t.latched k.val = false ∧ ∀ j, j ≠ k.val → t.latched j = s.latched j) ∧
    (∀ k : Fin 64, (s.latched k.val = false ∨ s.bit (F.FLT_CFG_AUTO k.val) = false ∨ s.causePresent k.val = true) →
      Gives (.faultAutoClear k) s s)) ∧
  (∀ s : State, s.alive = true →
    (∀ m : Master, s.mayReach m FLT_SOFT true = true → s.mayWrite m FLT_SOFT 0 = true →
      Gives (.soft0 m) s ((s.latch 61).emit .done) ∧ Gives (.soft1 m) s ((s.latch 63).emit .done)) ∧
    Gives .keeperWatchdog s (s.latch 11) ∧
    Gives .supplyMonitor s (({ s with flt := { s.flt with supplyBad := true } }).latch 56) ∧
    Gives .supplyMonitorReturn s { s with flt := { s.flt with supplyBad := false } } ∧
    (∀ t : BitVec 16, t.toInt ≤ (s.get F.FLT_TJ_HIGH_THR : Int) * 256 → t.toInt ≤ 115 * 256 →
      ∃ u, exec (.tjUpdate t) s = .next u ∧ OnlyRegs [FLT_TJ] s u ∧ u.get F.FLT_TJ_TEMP = t.toNat) ∧
    (∀ t : BitVec 16, (s.get F.FLT_TJ_HIGH_THR : Int) * 256 < t.toInt → t.toInt ≤ 115 * 256 →
      Gives (.tjUpdate t) s ((s.put F.FLT_TJ_TEMP t.toNat).latch 54)) ∧
    (∀ (a : Fin 4) (ended : Bool) (fixed bad : List Nat),
      let here (l : List Nat) : List Nat := l.filter (fun r => decide (r < scrubRows a.val))
      let u := (here bad).foldl (fun u r => u.scrubBad a.val r) ((here fixed).foldl (fun u r => u.scrubCorrected a.val r)
        ((s.bump (F.FLT_SCRUB_STAT_CORRECTED a.val) (here fixed).length).bump (F.FLT_SCRUB_STAT_UNCORR a.val) (here bad).length))
      (u.flt.scrubbing.contains a.val = false → Gives (.scrubPassStart a ended fixed bad) s
        { u with flt := { u.flt with scrubbing := a.val :: u.flt.scrubbing } }) ∧
      (u.flt.scrubbing.contains a.val = true → ended = true → Gives (.scrubPassStart a ended fixed bad) s
        (u.bumpWrap (F.FLT_SCRUB_STAT_PASSES a.val))) ∧
      (u.flt.scrubbing.contains a.val = true → ended = false → Gives (.scrubPassStart a ended fixed bad) s (u.latch 57))) ∧
    (∀ (a : Fin 4), s.flt.scrubbing.contains a.val = true → ∃ t, exec (.scrubPassStart a true [] []) s = .next t ∧
      OnlyRegs [(F.FLT_SCRUB_STAT_PASSES a.val).addr] s t ∧
      t.get (F.FLT_SCRUB_STAT_PASSES a.val) = (s.get (F.FLT_SCRUB_STAT_PASSES a.val) + 1) % 2 ^ (F.FLT_SCRUB_STAT_PASSES a.val).width ∧
      t.get (F.FLT_SCRUB_STAT_CORRECTED a.val) = s.get (F.FLT_SCRUB_STAT_CORRECTED a.val) ∧
      t.get (F.FLT_SCRUB_STAT_UNCORR a.val) = s.get (F.FLT_SCRUB_STAT_UNCORR a.val)) ∧
    (s.flt.pulsing = true → ∃ t, exec .errNPulseEnd s = .next t ∧ t.flt = { s.flt with pulsing := false } ∧ t.regs = s.regs ∧
      t.out = s.out ++ (if s.bit F.FLT_PIN_CTL_DRIVE then [] else [.errN false])))

/-! ## Overruns, ramps, fades, meters, delay lines and dynamics (chapters 5 to 7) -/

/-- R188, R189, R192, R196, R199: a gain ramp ends when its samples have run, the entry staying at its table value; a fade ends
when both its halves have run, its shadow entry is freed, and a change that waited for it is made; a wait for programs ends
at a block boundary where every source that the values of one wait into the destination name is ready; a damaged entry is rewritten
from the stored PATCH section and fades in when it sounds. Where what ends is not under way, nothing changes.
The model's own choices here: log 8. -/
def Obligations.PatchRampsAndFadesEnd : Prop :=
  ∀ (s : State), s.alive = true →
    (∀ i : Fin 16384, ((s.pe i.val).ramp = none → Gives (.gainRampEnd i) s s) ∧
      ∀ r, (s.pe i.val).ramp = some r →
        (r.k < r.len → Gives (.gainRampEnd i) s s) ∧
        (r.len ≤ r.k → Gives (.gainRampEnd i) s (s.setPe i.val { s.pe i.val with ramp := none }))) ∧
    (∀ i : Fin 16384, let p := s.pe i.val
      ((p.fade = none → p.shadow = none → Gives (.fadeEnd i) s s.endClassFades.settleRole) ∧
      (∀ f, p.fade = some f → f.k < f.len → Gives (.fadeEnd i) s s.endClassFades.settleRole) ∧
      (∀ f, p.fade = some f → f.len ≤ f.k → p.shadow = none → p.waiting = none →
        Gives (.fadeEnd i) s ((s.setPe i.val { p with fade := none }).takeShadows.showPatch.endClassFades.settleRole)) ∧
      (∀ f x g w new, p.fade = some f → f.len ≤ f.k → p.shadow = some x → x.fade = some g → g.len ≤ g.k →
        p.waiting = some (.fade w, new) →
        Gives (.fadeEnd i) s
          (((s.setPe i.val { p with fade := none, shadow := none }).resumeChange i.val (.fade w) new).takeShadows.showPatch.endClassFades.settleRole)))) ∧
    (∀ w, s.waitReady w = true ↔ ∀ e ∈ s.audio.patch, ∀ v, e.2.inWait w = some v → s.valueWaits v = false) ∧
    (∀ d : Fin 3648,
      ((s.node.n.toNat + 1) % 8 ≠ 0 → Gives (.programWaitEnd d) s s) ∧
      ((s.node.n.toNat + 1) % 8 = 0 → (∀ w ∈ s.waitsInto d.val, s.waitReady w = false) → Gives (.programWaitEnd d) s s.showPatch) ∧
      ∀ w, (s.node.n.toNat + 1) % 8 = 0 → s.waitsInto d.val = [w] → s.waitReady w = true →
        Gives (.programWaitEnd d) s (((s.waiters w).foldl (fun u e => u.releaseWait e.1 e.2) s).showPatch)) ∧
    ∀ i : Fin 16384, ((s.pe i.val).damaged = false → Gives (.patchEntryRewrite i) s s) ∧
      ((s.pe i.val).damaged = true →
        let w : Word64 := match s.cfgItem secPatch i.val with
          | some bs => BitVec.ofNat 64 (leAt bs 0 8)
          | none => 0
        let u := s.setRg (PATCH_ENTRY i.val) w.toNat
        let v := u.playImage i.val
        (sounding v = true → Gives (.patchEntryRewrite i) s
          (((u.countFades 1).setPe i.val ⟨v, none, some ⟨false, 0, u.rampLen (peRamp v)⟩, none, none, false, none⟩).takeShadows.showPatch)) ∧
        (sounding v = false → Gives (.patchEntryRewrite i) s
          ((u.setPe i.val ⟨v, none, none, none, none, false, none⟩).takeShadows.showPatch)))

/-- R188, R189: a gain ramp stands at g0 at sample 0 and at g1 from sample K on, never leaving the range between them; the factor
of a fade in stands at 0 at sample 0 and at 1.0 (2^30) at sample K, that of a fade out the other way round. R18: rounding is to
the nearest, ties to even. R275, R293: the correction of ROOT stays within 50 ppm and moves by no more than 0.2 ppm in a second. -/
def Obligations.RampsFadesAndRatesStayInBounds : Prop :=
  (∀ r : Ramp, (r.len ≤ r.k → r.gain = r.g1) ∧ (r.k = 0 → 0 < r.len → r.gain = r.g0) ∧
    (min r.g0 r.g1 ≤ r.gain ∧ r.gain ≤ max r.g0 r.g1)) ∧
  (∀ n : Nat, 0 < n → (⟨false, 0, n⟩ : Fade).factor = 0 ∧ (⟨false, n, n⟩ : Fade).factor = 2 ^ 30 ∧
    (⟨true, 0, n⟩ : Fade).factor = 2 ^ 30 ∧ (⟨true, n, n⟩ : Fade).factor = 0) ∧
  (∀ (x : Int) (d : Nat), 0 < d → 2 * ((x - rhe x d * d).natAbs : Int) ≤ d ∧ (2 * ((x - rhe x d * d).natAbs : Int) = d → rhe x d % 2 = 0)) ∧
  ∀ s : State,
    let y := s.getS F.CLK_RATE_Y
    let y' := s.rootRate.getS F.CLK_RATE_Y;
    -214748 ≤ y' ∧ y' ≤ 214748 ∧ (-214748 ≤ y → y ≤ 214748 → y - 858 ≤ y' ∧ y' ≤ y + 858)

/-- R202: a meter window that has ended shows its RMS and is done with; R210, R211: the cross-fade of a delay line starts once the
new buffer holds D_new samples, and at its end the old buffer is freed and a change that waited starts; R219: an instance
detaches when it and its make-up stand at 0 dB; R220: a look-ahead change is made when the destinations muted for it are
mute, and they fade in again. -/
def Obligations.MetersDelaysAndDynamicsEnd : Prop :=
  ∀ (s : State), s.alive = true →
    (∀ j : Fin 256, ((tget s.audio.meters j.val).bind (fun m => m.done) = none → Gives (.meterWindowEnd j) s s) ∧
      (∀ sum w, (tget s.audio.meters j.val).bind (fun m => m.done) = some (sum, w) → ∃ t, exec (.meterWindowEnd j) s = .next t ∧
        (sum = 0 → t.get (F.METER_RMS_RMS_DB j.val) = 0x8000) ∧
        (sum ≠ 0 → t.getS (F.METER_RMS_RMS_DB j.val) =
          satTo (-32767) 32767 (rhe ((fxLnNat sum - fxLnNat (w * 2 ^ 62)) * 2560) fxLn10)) ∧
        (tget t.audio.meters j.val).bind (fun m => m.done) = none ∧ RegsBut [(F.METER_RMS_RMS_DB j.val).addr] s t ∧
        t = { s with regs := t.regs, audio := { s.audio with meters := t.audio.meters } })) ∧
    (∀ d : Fin 3392, let l := s.line d.val
      (l.next = none → Gives (.delayFadeStart d) s s ∧ Gives (.delayFadeEnd d) s s) ∧
      (∀ b, l.next = some (b, none) → Gives (.delayFadeEnd d) s s ∧
        (b.cnt < b.delay → Gives (.delayFadeStart d) s s) ∧
        (b.delay ≤ b.cnt → Gives (.delayFadeStart d) s
          (s.setLine d.val { l with next := some (b, some ⟨false, 0, s.rampLen b.ramp⟩) }))) ∧
      (∀ b f, l.next = some (b, some f) → Gives (.delayFadeStart d) s s ∧
        (f.k < f.len → Gives (.delayFadeEnd d) s s) ∧
        (f.len ≤ f.k → l.pend = none → Gives (.delayFadeEnd d) s (s.setLine d.val ⟨b, none, none⟩)) ∧
        (f.len ≤ f.k → ∀ img, l.pend = some img →
          Gives (.delayFadeEnd d) s ((s.setLine d.val ⟨b, none, none⟩).changeLine d.val img.toNat)))) ∧
    (∀ i : Fin 1280, ∃ t, exec (.dynDetach i) s = .next t ∧ t = { s with audio := { s.audio with detaching := t.audio.detaching } } ∧
      ∀ e, e ∈ t.audio.detaching ↔ e ∈ s.audio.detaching ∧
        ¬ (e.1 = i.val ∧ e.2.g = 0 ∧ e.2.makeup.len ≤ e.2.makeup.k)) ∧
    ∀ i : Fin 1280, (tget s.audio.lookWait i.val = none → Gives (.lookaheadChange i) s s) ∧
      ((∃ d ∈ s.lookMuted i.val, (s.muteOf d).ended = false) → Gives (.lookaheadChange i) s s) ∧
      ∀ c, tget s.audio.lookWait i.val = some c → (∀ d ∈ s.lookMuted i.val, (s.muteOf d).ended = true) →
        ∃ t u, exec (.lookaheadChange i) s = .next t ∧
          u = ({ s with audio := { s.audio with lookWait := cdel s.audio.lookWait i.val } } : State).makeInstChange i.val c ∧
          t = { u with audio := t.audio, pending := s.pending } ∧ tget t.audio.lookWait i.val = none ∧
          (∀ d ∈ s.lookMuted i.val, MuteReason.lookahead i.val ∉ (t.muteOf d).reasons) ∧
          ∀ d, d ∉ s.lookMuted i.val → t.muteOf d = u.muteOf d

/-! ## The store at work, and the security lifecycle (chapters 3 and 17) -/

/-- R106, R107, R108, R109: a group whose records read back, with no erase of their sectors under way and its tick no less than 2 ms
ahead, is committed: its bytes are on the store, it joins the committed groups, the journal and STORE_JRN_SEQ go to its END
record. A group that fails the read-back, or is late, is dropped with its status. At the tick before which it is due, the oldest
committed group changes the configuration and is answered. R110, R107: a sector whose erase verified holds erased bytes; one that
did not is a write error, and drops the group that needs it. R114, R73: a retry starts a compaction; an idle image transfer is
abandoned.
The model's own choices here: log 51, 53, 54. -/
def Obligations.GroupsCommitAndApply : Prop :=
  ∀ (s : State), s.alive = true →
    (s.st.writing = none → (∀ ok, Gives (.groupCommitted ok) s s)) ∧
    (∀ g, s.st.writing = some g →
      let busy : Prop := ∃ w ∈ g.endCommit :: g.writes, ∃ e ∈ s.st.erasing, e < w.1 + w.2.length ∧ w.1 < e + 4096
      let w (ok : Bool) := s.writeRecs ok false (g.placed (jrnBase s.st.density))
      let late : Prop := ∃ a, g.applyAt = some a ∧ signedDiff a s.node.n.toNat * 1000 < 2 * s.fs
      (busy → ∀ ok, Gives (.groupCommitted ok) s s) ∧
      (¬ busy → ∀ ok a, (w ok).2 = some a → Gives (.groupCommitted ok) s (((w ok).1.storeWriteErr 8 a).dropGroup g 9)) ∧
      (∀ o r rest, g.recs = (o, r) :: rest → (w false).2 = some (jrnBase s.st.density + o)) ∧
      (¬ busy → ∀ ok, (w ok).2 = none → late → Gives (.groupCommitted ok) s ((w ok).1.dropGroup g 7)) ∧
      (¬ busy → (w true).2 = none → ¬ late → ∃ t u : State, exec (.groupCommitted true) s = .next t ∧
        u.st = { s.st with
          writing := none, committed := s.st.committed ++ [g], journal := s.st.journal ++ g.recs
          lastSeq := g.endSeq, lastCrc := g.lastCrc } ∧
        u.rg STORE_JRN_SEQ = g.endSeq % 2 ^ 64 ∧ u.rg STORE_JRN_WPTR = g.nextPos % 2 ^ 32 ∧
        u.store = ((w true).1.progAll s.nor [g.endCommit]).store ∧
        u = { s with regs := u.regs, st := u.st, store := u.store } ∧
        (groupChanges g.plain [] = none →
          t = { (((u.eraseAhead 0).showStore.fillCheck).nextGroup 18) with pending := s.pending }) ∧
        ∀ chs, groupChanges g.plain [] = some chs →
          t = { ((((u.beginLoads (s.cfgBefore g.applyAt) (Cfg.apply (s.cfgBefore g.applyAt) chs) chs g.endSeq
            g.applyAt.isSome).eraseAhead 0).showStore.fillCheck).nextGroup 18) with pending := s.pending })) ∧
    (let due (g : GroupRun) : Bool := match g.applyAt with
        | some a => decide (signedDiff a ((s.node.n.toNat + 1) % 2 ^ 64) ≤ 0)
        | none => s.banksWritten g.endSeq
      (s.st.committed.find? due = none → Gives .groupApply s s) ∧
      ∀ g chs, s.st.committed.find? due = some g → groupChanges g.plain [] = some chs →
        let u : State := { s with st := { s.st with committed := s.st.committed.filter (fun h => h.endSeq != g.endSeq) } }
        let c := Cfg.apply s.st.cfg chs
        let fsChange := (touched chs secGlobal).contains 1 && Cfg.fs96 c != s.node.fs96
        let r := u.applyChanges chs g.endSeq g.applyAt.isSome
        (fsChange = false → Gives .groupApply s ((r.1.changedUnits (r.1.unitsTouched u chs)).showDaymark.groupDone g r.2)) ∧
        (fsChange = true → Gives .groupApply s
          ((({ u with st := { u.st with cfg := c } } : State).showDaymark.groupDone g false).askImageStart s.node.cause))) ∧
    (∀ a ok, a ∉ s.st.erasing → Gives (.norEraseDone a ok) s s) ∧
    (∀ a, a ∈ s.st.erasing → ∃ t, exec (.norEraseDone a true) s = .next t ∧
      t = { s with st := { s.st with erasing := s.st.erasing.filter (· != a) }, store := t.store } ∧
      (∀ x, cget storeDefault t.store x = if a / 4096 * 4096 ≤ x ∧ x < a / 4096 * 4096 + 4096 then 0xFF else cget storeDefault s.store x)) ∧
    (∀ a, a ∈ s.st.erasing →
      let u := ({ s with st := { s.st with erasing := s.st.erasing.filter (· != a) } } : State).storeWriteErr 9 a
      (s.st.writing = none → Gives (.norEraseDone a false) s u) ∧
      ∀ g, s.st.writing = some g →
        (g.meets a = false → Gives (.norEraseDone a false) s u) ∧
        (g.meets a = true → Gives (.norEraseDone a false) s (u.dropGroup g 9))) ∧
    (s.st.compactRetry = true → s.st.compaction = none → Gives .compactionRetry s
      (({ s with st := { s.st with compactTries := s.st.compactTries + 1 } } : State).startCompaction none)) ∧
    (s.st.compactRetry = false ∨ s.st.compaction ≠ none → Gives .compactionRetry s s) ∧
    Gives .imageTransferIdle s { s with kmp := { s.kmp with transfer := none } }

/-- R111, R113, R114: a compaction whose new image checked is committed by its marker: the generation, the journal start, the active
slot and the compaction count follow, the records the image holds leave the journal, and the request is answered OK. One
that did not check is a write error at the slot, and is tried again until the third time. R194, R174: the last word of a
CODE run lets the trigger entries that waited take their values; the words of all the banks of a group are written before its
selectors.
The model's own choices here: log 53. -/
def Obligations.CompactionsAndLoadsEnd : Prop :=
  ∀ (s : State), s.alive = true →
    (s.st.compaction = none → ∀ ok, Gives (.compactionCommit ok) s s) ∧
    (∀ c, s.st.compaction = some c →
      let w := s.writeRecs true true c.recs
      let m := s.compactMarker c
      let v := w.1.writeRecs true true [m]
      w.2 = none → w.1.slotFault c = none → v.2 = none →
      ∃ t u : State, exec (.compactionCommit true) s = .next t ∧
      t = { (u.showStore.finish c.session 0x22 0 []).fillCheck with pending := s.pending } ∧
      u.rg STORE_JRN_START = (c.s + 1) % 2 ^ 64 ∧ u.rg STORE_GENERATION = m.2.seq % 2 ^ 64 ∧
      u.st.compaction = none ∧ u.st.compactTries = 0 ∧ u.st.compactRetry = false ∧
      u.st.journal = s.st.journal.filter (fun r => decide (c.s < r.2.seq)) ∧
      u.st.base = mergeGroups s.st.base (s.st.journal.filter (fun r => decide (r.2.seq ≤ c.s))) ∧
      u = { s with regs := u.regs, st := u.st, store := u.store, flt := { s.flt with compactBad := false } }) ∧
    (∀ c ok, s.st.compaction = some c →
      let w := s.writeRecs ok true c.recs
      let v := w.1.writeRecs ok true [s.compactMarker c]
      let fails (x : State) (a : Nat) : State :=
        let e := (x.storeWriteErr 8 a).zeroMagic (slotBase x.st.density c.slot)
        let again := decide (e.st.compactTries < 3)
        let u : State := { e with
          st := { e.st with compaction := none, compactRetry := again }
          flt := { e.flt with compactBad := e.flt.compactBad || !again } }
        (if again then u else u.latch 17).showStore.finish c.session 0x22 9 []
      (∀ a, w.2 = some a → Gives (.compactionCommit ok) s (fails w.1 a)) ∧
      (∀ a, w.2 = none → w.1.slotFault c = some a → Gives (.compactionCommit ok) s (fails w.1 a)) ∧
      ∀ a, w.2 = none → w.1.slotFault c = none → v.2 = some a → Gives (.compactionCommit ok) s (fails v.1 a)) ∧
    (∀ (l : Fin 92) (k : Nat),
      (s.st.codeLoads.find? (fun r => r.l == l.val && r.index == k) = none → Gives (.codeRunLoaded l k) s s) ∧
      (∀ r, s.st.codeLoads.find? (fun r => r.l == l.val && r.index == k) = some r →
        let u := s.loadWords l.val [(2 * k, r.bytes)]
        Gives (.codeRunLoaded l k) s (({ u with st := { u.st with
          codeLoads := u.st.codeLoads.filter (fun q => !(q.l == l.val && q.index == k))
          trigWaits := u.st.trigWaits.map (fun w =>
            if w.l = l.val ∧ w.run = k then { w with due := some (u.nextPlace w.block) } else w) } } : State).releaseLoads
              (u.node.n.toNat + 1))) ∧
      (s.st.bankLoads.find? (fun b => b.l == l.val && b.index == k && !b.written) = none → Gives (.bankSwitch l k) s s) ∧
      (∀ b, s.st.bankLoads.find? (fun b => b.l == l.val && b.index == k && !b.written) = some b →
        let u := s.loadWords l.val b.words
        let v : State := { u with st := { u.st with bankLoads := u.st.bankLoads.map (fun q => if q = b then { q with written := true } else q) } }
        let w : State := if v.banksWritten b.seq then { v with st := { v.st with bankLoads := v.st.bankLoads.map (fun q =>
          if q.applied && q.seq == b.seq then { q with due := some (v.nextPlace q.block) } else q) } } else v
        Gives (.bankSwitch l k) s (w.releaseLoads (w.node.n.toNat + 1))))

/-- R482, R516: ZEROIZE_N held low for 100 ms in DEVELOPMENT or SEALED begins the erasure, blows RETURN_BEGIN and shows EVENT; the
erasure's end leaves both keys all ones, blows RETURN and starts the engine anew. Each acts in every state with power. -/
def Obligations.ZeroizeErasesKeys : Prop :=
  (∀ (s : State) (b : Bool), s.node.powered = false → Gives (.zeroizeNLow b) s s) ∧
  (∀ (s : State) (b : Bool), s.node.powered = true → s.lifecycle ∈ [1, 2] → s.fuses.lifecycle.testBit 2 = false →
    ∃ t, exec (.zeroizeNLow b) s = .next t ∧ t.fuses = { s.fuses with lifecycle := s.fuses.lifecycle + 4 } ∧
      t.sec = { s.sec with erasing := true } ∧ t.get F.SEC_ZEROIZE_EVENT = 1 ∧ t.get F.SEC_ZEROIZE_LEVEL = (if b then 1 else 0) ∧
      t = { s with regs := t.regs, fuses := t.fuses, sec := t.sec }) ∧
  (∀ (s : State) (b : Bool), s.node.powered = true → s.lifecycle ∉ [1, 2] →
    Gives (.zeroizeNLow b) s (s.putBit F.SEC_ZEROIZE_LEVEL b)) ∧
  (∀ (s : State), s.node.powered = true → s.fuses.lifecycle.testBit 2 = true → s.fuses.lifecycle.testBit 3 = false →
    ∃ t, exec .returnEraseDone s = .next t ∧ t.fuses.kDev = List.replicate 32 0xFF ∧ t.fuses.kSign = List.replicate 32 0xFF ∧
      t.fuses.lifecycle = s.fuses.lifecycle + 8 ∧ (s.node.inReset = true → t.sec.erasing = false ∧ t.node = s.node) ∧
      (s.node.inReset = false → t.node.cause = .lifecycle)) ∧
  (∀ (s : State), (s.node.powered && s.fuses.lifecycle.testBit 2 && !s.fuses.lifecycle.testBit 3) = false → Gives .returnEraseDone s s)

/-- R496, R498, R499, R500, R525: what the instructions of the TAP do, on an engine with power and out of reset whose port is
connected. IDCODE shifts out 0x210249AB; BYPASS, and an instruction the level or the lifecycle does not allow, one 0;
DBG_STATUS the DBG_LEVEL image; SAMPLE_PRELOAD and EXTEST load the boundary cells; DBG_REQ sets a level that Table 17.10
allows and counts one it refuses; DBG_CHAL draws a challenge; DBG_UNLOCK takes a good signature, and a bad one costs the
challenge and counts; a TAP reset and the loss of TCK end an unlock.
The model's own choices here: log 42. -/
def Obligations.TapInstructionsAct : Prop :=
  (∀ s : State, (s.node.powered && !s.node.inReset) = false → Gives .idcode s s ∧ Gives .bypass s s) ∧
  ∀ s : State, s.node.powered = true → s.node.inReset = false → s.bit F.DBG_LEVEL_DISC = false →
    let level := s.get F.DBG_LEVEL_LEVEL
    Gives .idcode s (s.tapSeen.tdo 32 0x210249AB) ∧
    Gives .bypass s (s.tapSeen.tdo 1 0) ∧
    (s.lifecycle ≠ 4 → Gives .dbgStatus s (s.tapSeen.tdo 32 (s.tapSeen.rg DBG_LEVEL))) ∧
    (s.lifecycle = 4 → Gives .dbgStatus s (s.tapSeen.tdo 1 0)) ∧
    (∀ n v, (s.lifecycle = 4 ∨ level ≠ 2 → Gives (.samplePreload n v) s (s.tapSeen.tdo 1 0) ∧ Gives (.extest n v) s (s.tapSeen.tdo 1 0)) ∧
      (s.lifecycle ≠ 4 → level = 2 → ∃ t x, exec (.samplePreload n v) s = .next t ∧ x < 2 ^ n ∧ t.sec.boundary = some (v % 2 ^ n) ∧
        t.sec.extest = false ∧ t.free = s.free + 1 ∧ t.out = s.out ++ [.tdo n x]) ∧
      (s.lifecycle ≠ 4 → level = 2 → s.node.mode ∉ [Mode.service, .hold] → Gives (.extest n v) s (s.tapSeen.tdo 1 0)) ∧
      (s.lifecycle ≠ 4 → level = 2 → s.node.mode ∈ [Mode.service, .hold] → ∃ t x, exec (.extest n v) s = .next t ∧ x < 2 ^ n ∧
        t.sec.boundary = some (v % 2 ^ n) ∧ t.sec.extest = true ∧ t.free = s.free + 1 ∧ t.out = s.out ++ [.tdo n x])) ∧
    (∀ l : Fin 4, s.lifecycle ≠ 4 →
      (levelAllowed s.lifecycle l.val false = false → Gives (.dbgReq l) s ((s.tapSeen.bump F.DBG_CNT_REQ_REFUSED).tdo 2 0)) ∧
      (levelAllowed s.lifecycle l.val false = true → s.sec.unlocked = false → Gives (.dbgReq l) s ((s.tapSeen.setLevel l.val).tdo 2 0)) ∧
      (levelAllowed s.lifecycle l.val false = true → s.sec.unlocked = true → l.val < 2 →
        Gives (.dbgReq l) s ((s.tapSeen.endUnlock l.val).tdo 2 0))) ∧
    (s.lifecycle ≠ 2 → Gives .dbgChal s (s.tapSeen.tdo 1 0)) ∧
    (s.lifecycle = 2 → s.sec.backoff = true → Gives .dbgChal s (s.tapSeen.tdo 256 0)) ∧
    (s.lifecycle = 2 → s.sec.backoff = false → ∃ t c, exec .dbgChal s = .next t ∧ t.sec.challenge = some c ∧ c.length = 32 ∧
      t.out = s.out ++ [.tdo 256 (beNat c)]) ∧
    (∀ sig : Vector Byte 64,
      (s.lifecycle ≠ 2 ∨ 16 ≤ s.sec.failures → Gives (.dbgUnlock sig) s (s.tapSeen.tdo 1 0)) ∧
      (s.lifecycle = 2 → s.sec.failures < 16 → s.unlockGood sig.toList = true → Gives (.dbgUnlock sig) s s.tapSeen.unlock) ∧
      (s.lifecycle = 2 → s.sec.failures < 16 → s.unlockGood sig.toList = false → ∃ t, exec (.dbgUnlock sig) s = .next t ∧
        t.sec = { s.sec with extest := false, challenge := none, backoff := true, failures := s.sec.failures + 1 } ∧
        t.get F.DBG_CNT_UNLOCK_FAIL = min (2 ^ (F.DBG_CNT_UNLOCK_FAIL).width - 1) (s.get F.DBG_CNT_UNLOCK_FAIL + 1))) ∧
    Gives .dbgTapReset s (s.tapSeen.endUnlock (debugDefault s.lifecycle)) ∧
    Gives .dbgTckLoss s ((s.putBit F.DBG_LEVEL_CONNECTED false).endUnlock (debugDefault s.lifecycle)) ∧
    Gives .dbgChallengeExpiry s { s with sec := { s.sec with challenge := none } } ∧
    Gives .dbgUnlockBackoffEnd s { s with sec := { s.sec with backoff := false } }

/-! ## Time: pulses, captures, PTP, references (chapters 9 and 10) -/

/-- R277, R278: arming takes START and PERIOD as they stand: a target far enough ahead arms the output, one that is not shows LATE and
arms a periodic output at its first target ahead, a single one not at all; EN = 0 disarms and takes the output to its
inactive level at once; a WIDTH of 0, reserved, leaves the field as it was (R23; log 94 for the reserved periods); an edge that falls due counts in FIRED and arms the next target, or disarms. R280, R281: an edge of
the selected kind whose level holds for FILT + 1 cycles joins a queue of 8, one that meets a full queue is counted in OVF and lost; a pop takes the oldest entry,
and nothing from an empty queue.
The model's own choices here: log 6, 7. -/
def Obligations.PulsesAndCaptures : Prop :=
  ∀ s : State, s.alive = true →
    (∀ (i : Fin 8) (cfg : Word32), Gives (.pulseArm i cfg) s (((s.pulseCfg i.val cfg).putBit (F.TMS_PULSE_CFG_EN i.val) true).pulseArm i.val) ∧
      (∃ t, exec (.pulseDisarm i cfg) s = .next t ∧ tget t.tu.pulses i.val = none ∧ t.bit (F.TMS_PULSE_STAT_ARMED i.val) = false ∧
        t.bit (F.TMS_PULSE_CFG_EN i.val) = false ∧
        (cfg.toNat % 2 ^ 28 = 0 → t.get (F.TMS_PULSE_CFG_WIDTH i.val) = s.get (F.TMS_PULSE_CFG_WIDTH i.val)) ∧
        (cfg.toNat % 2 ^ 28 ≠ 0 → cfg.getLsbD 30 = false ∨ periodOk (cfg.getLsbD 29) (s.rg (TMS_PULSE_PERIOD i.val)) = true →
          t.rg (TMS_PULSE_CFG i.val) = withField cfg.toNat 31 1 0) ∧
        t.out = s.out ++ [.pulse i.val (cfg.getLsbD (F.TMS_PULSE_CFG_POL i.val).lo) s.node.time 0])) ∧
    (∀ (i : Fin 8), (tget s.tu.pulses i.val = none → Gives (.pulseEdge i) s s) ∧
      ∀ p, tget s.tu.pulses i.val = some p →
        let due : Prop := if p.tick = true then s.pulseAhead p ≤ 1
          else s.pulseAhead p ≤ wideDiff (s.tickTime (s.node.n.toNat + 1)) s.node.time
        (¬ due → Gives (.pulseEdge i) s s) ∧
        (due → ∃ t len, exec (.pulseEdge i) s = .next t ∧ t.out = s.out ++ [.pulse i.val (s.pulseLevel i.val true) (s.edgeAt p) len] ∧
          len = (s.get (F.TMS_PULSE_CFG_WIDTH i.val) * 65536 + 159999) / 160000 ∧
          t.get (F.TMS_PULSE_STAT_FIRED i.val) = min (2 ^ (F.TMS_PULSE_STAT_FIRED i.val).width - 1) (s.get (F.TMS_PULSE_STAT_FIRED i.val) + 1) ∧
          tget t.tu.pulses i.val = if p.periodic then some { p with k := p.k + 1 } else none)) ∧
    ∀ (j : Fin 16), let q := tgetD s.tu.caps j.val ⟨[], false⟩
      (∀ (fall : Bool) (at_ held : Nat), let kind := s.get (F.TMS_CAP_CFG_EDGE j.val)
        let counts : Prop := s.bit (F.TMS_CAP_CFG_EN j.val) = true ∧ ((kind = 0 ∧ fall = false) ∨ (kind = 1 ∧ fall = true) ∨ kind = 2) ∧
          s.get (F.TMS_CAP_CFG_FILT j.val) + 1 ≤ held
        let shown := if s.get F.PWR_STAT_STATE < 4 ∨ at_ ≤ s.node.time then at_ else (s.counterFrom at_).1
        (¬ counts → kind < 4 → Gives (.tcapEdge j fall ⟨at_, held⟩) s s) ∧
        (counts → q.entries.length < 8 →
          ∃ t, exec (.tcapEdge j fall ⟨at_, held⟩) s = .next t ∧
            tgetD t.tu.caps j.val ⟨[], false⟩ = ⟨q.entries ++ [⟨shown, fall, q.lost, false⟩], false⟩ ∧
            t.get (F.TMS_CAP_STAT_LEVEL j.val) = q.entries.length + 1) ∧
        (counts → 8 ≤ q.entries.length →
          Gives (.tcapEdge j fall ⟨at_, held⟩) s ((s.bump (F.TMS_CAP_STAT_OVF j.val)).setCap j.val { q with lost := true }))) ∧
      (q.entries = [] → Gives (.pop j) s s) ∧
      (∀ e es, q.entries = e :: es → ∃ t, exec (.pop j) s = .next t ∧
        (tgetD t.tu.caps j.val ⟨[], false⟩).entries = es ∧ t.get (F.TMS_CAP_STAT_LEVEL j.val) = es.length % 2 ^ (F.TMS_CAP_STAT_LEVEL j.val).width ∧
        t.rg (TMS_CAP_WNS j.val) = (es.head?.map (fun x => x.t / 65536 % 2 ^ 64)).getD 0)

/-- R271, R272, R532, R534: PTP messages that come from the master an instance follows, in its domain, are used: a one-step Sync gives
its offset, a two-step one waits for its Follow_Up, an answer to the instance's own Delay_Req gives a path delay. A message
of another domain, or of any other port, changes nothing. An Announce joins the foreign masters and the choice is made anew.
A master sends Sync, Announce and Delay_Resp, a slave Delay_Req, each with the next sequence number, over UDP to 224.0.1.129 and
port 319 or 320; the receipt time-out, once it is due, is counted and the master lost.
The model's own choices here: log 71. -/
def Obligations.PtpMessagesAct : Prop :=
  ∀ (s : State) (d : Fin 2), s.alive = true →
    (∀ (m : PtpMsg) (t2 : Nat),
      (s.fromMaster d.val m = false → Gives (.ptpSyncRx d m t2) s s ∧ Gives (.ptpFollowUpRx d m) s s ∧ Gives (.ptpDelayRespRx d m) s s) ∧
      (s.fromMaster d.val m = true →
        (m.twoStep = false → Gives (.ptpSyncRx d m t2) s (s.useSync d.val (m.ns * 65536) m.cf t2)) ∧
        (m.twoStep = true → Gives (.ptpSyncRx d m t2) s (s.mapInst d.val (fun v => { v with waitFollow := some (m.seq, t2, m.cf) }))) ∧
        (∀ q a cf, (s.inst d.val).waitFollow = some (q, a, cf) →
          (q = m.seq → Gives (.ptpFollowUpRx d m) s (s.useSync d.val (m.ns * 65536) (cf + m.cf) a)) ∧
          (q ≠ m.seq → Gives (.ptpFollowUpRx d m) s s)) ∧
        (m.reqPort ≠ s.ownPort → Gives (.ptpDelayRespRx d m) s s) ∧
        (∀ q t3 ms, m.reqPort = s.ownPort → (s.inst d.val).req = some (q, t3) → (s.inst d.val).ms = some ms → q = m.seq →
          let x := rhe (ms + (m.ns * 65536 - t3 - m.cf)) 2
          ∃ t, exec (.ptpDelayRespRx d m) s = .next t ∧
            ((s.inst d.val).delays = [] → (t.inst d.val).delays = [x]) ∧
            (∀ p, (s.inst d.val).mpd = some p → ((x - p).natAbs : Int) ≤ 1000 * 65536 →
              (t.inst d.val).delays = (x :: (s.inst d.val).delays).take 8) ∧
            (∀ p, (s.inst d.val).mpd = some p → 1000 * 65536 < ((x - p).natAbs : Int) →
              (t.inst d.val).delays = if (s.inst d.val).aside.length < 3 then (s.inst d.val).delays else x :: (s.inst d.val).aside))) ∧
      (m.domainNum ≠ s.get (F.TMS_PTP_CFG_DOMAIN_NUM d.val) → Gives (.ptpAnnounceRx d m) s s ∧ Gives (.ptpDelayReqRx d m t2) s s) ∧
      (s.ptpOn d.val = true → m.domainNum = s.get (F.TMS_PTP_CFG_DOMAIN_NUM d.val) → m.src / 2 ^ 16 ≠ s.ownPort / 2 ^ 16 →
        let v := s.inst d.val
        let known := v.foreign.any (fun f => f.src = m.src)
        let heard : List Foreign :=
          if known then v.foreign.map (fun f => if f.src = m.src then ⟨f.src, m.clock, m.logIntv, (s.node.uptime :: f.heard).take 2⟩ else f)
          else v.foreign.take 15 ++ [⟨m.src, m.clock, m.logIntv, [s.node.uptime]⟩]
        let u := (s.setInst d.val { v with foreign := heard }).bmcDecide d.val
        let w := if (u.inst d.val).master = none ∨ (u.inst d.val).master = some m.src then
            u.mapInst d.val (fun v => { v with heardAt := u.node.uptime }) else u
        let x := w.setRg (TMS_PTP_UTC d.val) (m.utc % 2 ^ 21)
        Gives (.ptpAnnounceRx d m) s (if (w.inst d.val).master = some m.src then
          (if m.utc.testBit 16 = true ∧ d.val ∉ x.tu.utc then { x with tu := { x.tu with utc := d.val :: x.tu.utc } } else x) else w)) ∧
      (s.ptpOn d.val = true → m.domainNum = s.get (F.TMS_PTP_CFG_DOMAIN_NUM d.val) → s.servo d.val = 7 →
        ∃ t w, exec (.ptpDelayReqRx d m t2) s = .next t ∧ t = { s with out := s.out ++ [.ptp d.val .delayResp 0xE0000181 320 w] } ∧
          w.seq = m.seq % 65536 ∧ w.reqPort = m.src ∧ w.src = s.ownPort ∧ (w.ns : Int) * 65536 - w.cf = t2 - m.cf)) ∧
    (s.ptpOn d.val = true → s.servo d.val = 7 → ∀ x,
      (∃ t w, exec (.ptpSyncSend d x) s = .next t ∧ t.out = s.out ++ [.ptp d.val .sync 0xE0000181 319 w] ∧ w.seq = (s.inst d.val).seqSync % 65536 ∧
        w.twoStep = false ∧ (w.ns : Int) * 65536 + w.cf = x ∧ (t.inst d.val).seqSync = ((s.inst d.val).seqSync + 1) % 65536) ∧
      (∃ t w, exec (.ptpAnnounceSend d) s = .next t ∧ t.out = s.out ++ [.ptp d.val .announce 0xE0000181 320 w] ∧ w.seq = (s.inst d.val).seqAnn % 65536 ∧
        w.clock = s.ownClock d.val ∧ (t.inst d.val).seqAnn = ((s.inst d.val).seqAnn + 1) % 65536)) ∧
    (s.ptpOn d.val = true → (s.inst d.val).master ≠ none → ∀ x : Nat, ∃ t w, exec (.ptpDelayReqSend d x) s = .next t ∧
      t.out = s.out ++ [.ptp d.val .delayReq 0xE0000181 319 w] ∧ (t.inst d.val).req = some ((s.inst d.val).seqReq, (x : Int))) ∧
    (s.ptpOn d.val = false → ∀ x, Gives (.ptpSyncSend d x) s s ∧ Gives (.ptpAnnounceSend d) s s ∧ Gives (.ptpDelayReqSend d x) s s ∧
      Gives (.announceReceiptTimeout d) s s) ∧
    (s.servo d.val = 7 ∨ s.receiptDue d.val = false → Gives (.announceReceiptTimeout d) s s) ∧
    (s.ptpOn d.val = true → s.servo d.val ≠ 7 → s.receiptDue d.val = true →
      let u := s.bump (F.TMS_PTP_CNT_TIMEOUTS d.val)
      ((s.inst d.val).master ≠ none → Gives (.announceReceiptTimeout d) s (u.loseMaster d.val)) ∧
      ((s.inst d.val).master = none → Gives (.announceReceiptTimeout d) s
        (if s.bit (F.TMS_PTP_CFG_SLAVE_ONLY d.val) then u else u.becomeMaster d.val)))

/-- R70, R273, R298, R447: the step is taken once every output is muted: work on the old N ends, the counter steps, a warm copy
begins again and, at the start gate, audio begins behind the mute that ends at a block boundary (R274). A re-alignment at its
N_AT whose conditions still hold zeroes the bias of REF0, REF1 and REF3 at once, and mutes first for REF2 and REF4, whose bias
is zeroed and whose ticks move when the mute has ended; one whose conditions fail is refused. The loss of ROOT's lock is shown,
counted and latched once.
The model's own choices here: log 72, 73. -/
def Obligations.StepsAndRealignments : Prop :=
  ∀ s : State, s.alive = true →
    (s.node.stepping = none → Gives .timeStep s s) ∧
    (∀ d, s.node.stepping = some d →
      (s.allMuted = false → Gives .timeStep s s) ∧
      (s.allMuted = true →
        let u := ((s.endWork.applyStep d).endClassFades).restartCopy
        (u.node.phase ≠ .gate → Gives .timeStep s u) ∧
        (u.node.phase = .gate → Gives .timeStep s
          (u.mapMuteAll (fun m => (⟨m.reasons ++ [MuteReason.firstLock], 0, 1, 0, 0⟩ : Mute))).firstAudio))) ∧
    (s.tu.sel.realign = none → Gives .realignExecute s s) ∧
    (∀ a, s.tu.sel.realign = some (a, none) →
      (s.node.n.toNat + 1 < a → Gives .realignExecute s s) ∧
      (a ≤ s.node.n.toNat + 1 → s.realignOk = false → Gives .realignExecute s s.realignRefuse) ∧
      (a ≤ s.node.n.toNat + 1 → s.realignOk = true → s.selRef = 2 ∨ s.selRef = 4 →
        Gives .realignExecute s ((s.mapSel (fun c => { c with realign := some (a, some s.selRef) })).muteAllOuts .realign)) ∧
      (a ≤ s.node.n.toNat + 1 → s.realignOk = true → s.selRef ≠ 2 → s.selRef ≠ 4 →
        ∃ t, exec .realignExecute s = .next t ∧ t.rg (REF_BIAS s.selRef) = 0 ∧ t.tu.sel.realign = none ∧
          t.get F.CLK_REALIGN_STATUS = 2 ∧ t.bit F.CLK_STAT_REALIGN_BUSY = false ∧ t.node = s.node)) ∧
    (∀ a r, r < 6 → s.tu.sel.realign = some (a, some r) →
      ((s.audio.muteNet.ended && s.audio.muteOut.ended) = false → Gives .realignExecute s s) ∧
      ((s.audio.muteNet.ended && s.audio.muteOut.ended) = true →
        let v := s.moveTicks (s.bias r)
        let next := v.tickAtOrAfter (s.tickTime s.node.n.toNat + s.tsUnits)
        ∃ t, exec .realignExecute s = .next t ∧ t.node = { v.node with n := BitVec.ofNat 64 (next - 1) } ∧
          t.rg (REF_BIAS r) = 0 ∧ t.tu.sel.realign = none ∧ t.get F.CLK_REALIGN_STATUS = 2 ∧
          t.bit F.CLK_STAT_REALIGN_BUSY = false ∧ .realign ∉ t.audio.muteOut.reasons)) ∧
    (s.bit F.CLK_STAT_ROOT_LOCK = true →
      Gives .rootUnlock s (((s.putBit F.CLK_STAT_ROOT_LOCK false).bump F.CLK_CNT_ROOT_UNLOCK).latch 33)) ∧
    (s.bit F.CLK_STAT_ROOT_LOCK = false → Gives .rootUnlock s s) ∧
    ∃ t, exec .rootPllRelock s = .next t ∧ t.bit F.CLK_STAT_ROOT_LOCK = true ∧ OnlyRegs [CLK_STAT] s t

/-- R283, R286 to R297, Tables 10.1 to 10.4: the events of the reference selector, which act while it runs and what they end is under
way: an edge of REF2 to REF4 is measured, a REF4 edge out of its time is a loss; loss and qualification of a reference; the frequencies of
each second and the correction of ROOT; the marks and their clearing; the two ends of a switch, the wait-to-restore, the holdover
limit, the force.
The model's own choices here: log 73. -/
def Obligations.ReferenceEventsAct : Prop :=
  ∀ s : State, s.alive = true →
    (s.selRuns = false → ∀ (r : Fin 6) (x : Nat), Gives (.refEvent r x) s s ∧ Gives (.refLoss r) s s ∧ Gives .refFreqUpdate s s ∧
      Gives (.refQualified r) s s ∧ Gives .refSuspectMark s s ∧ Gives .refSuspectClear s s ∧ Gives .switchCommit s s ∧
      Gives .switchComplete s s ∧ Gives (.wtrExpiry r) s s ∧ Gives .holdoverTimeout s s) ∧
    (s.selRuns = true →
      let lost (r : Nat) : State := s.selStep (fun s =>
        let a := (s.putBit (F.REF_STAT_PRESENT r) false).putBit (F.REF_STAT_LOST r) true
        let b := a.setRf r { a.rf r with last := none, snaps := [], run := 0 }
        let c := if b.rank r != 0 then b.latch 32 else b
        (if c.qualified r then c else c.bump (F.REF_CNT_LOSSES r)).disqualify r)
      (∀ (r : Fin 6) (x : Nat),
        (r.val < 2 ∨ r.val = 5 ∨ s.rank r.val = 0 → Gives (.refEvent r x) s s) ∧
        (r.val = 4 → s.rank 4 ≠ 0 → (s.rf 4).offTime x = true →
          let u := if s.bit (F.REF_STAT_PRESENT 4) then lost 4 else s
          Gives (.refEvent r x) s (u.setRf 4 { u.rf 4 with last := some (x, (u.edgePhase 4 x).2, u.ySumAt x) })) ∧
        (2 ≤ r.val → r.val ≤ 4 → s.rank r.val ≠ 0 → (r.val = 4 → (s.rf 4).offTime x = false) →
          let g := s.edgePhase r.val x
          let acc : Int := match (s.rf r.val).last with
            | some (_, a, _) => a + wrapNear (g.2 - a) g.1
            | none => g.2
          let v := ((s.setRf r.val { s.rf r.val with last := some (x, acc, s.ySumAt x) }).putBit (F.REF_STAT_PRESENT r.val) true).windowAdd
            r.val g.2 (some g.1)
          let w := if r.val = 4 ∨ x / (1000000 * 65536) ≠ (s.rf r.val).upd then
              (v.setRf r.val { v.rf r.val with upd := x / (1000000 * 65536) }).refUpdate r.val (wrapNear (g.2 - v.bias r.val) g.1)
            else v
          Gives (.refEvent r x) s (s.selStep (fun _ => w.checkRef r.val))) ∧
        (r.val = 5 ∨ s.bit (F.REF_STAT_PRESENT r.val) = false → Gives (.refLoss r) s s) ∧
        (r.val ≠ 5 → s.bit (F.REF_STAT_PRESENT r.val) = true → Gives (.refLoss r) s (lost r.val)) ∧
        (r.val = 5 ∨ s.qualified r.val = true ∨ (s.rf r.val).ok = false → Gives (.refQualified r) s s) ∧
        (r.val ≠ 5 → s.qualified r.val = false → (s.rf r.val).ok = true →
          let q := ((s.setQualified r.val true).put (F.REF_STAT_TIMER r.val) 0).unbar (.refSelect r.val)
          (q.selBase ≠ 4 → q.following = true → ¬ (q.forced = some r.val ∧ q.selRef ≠ r.val) →
            Gives (.refQualified r) s (s.selStep (fun _ => q.startWtr r.val))) ∧
          (q.selBase ≠ 4 → q.following = true → q.forced = some r.val → q.selRef ≠ r.val →
            Gives (.refQualified r) s (s.selStep (fun _ => q.startSwitch r.val))) ∧
          (q.selBase ≠ 4 → q.following = false → Gives (.refQualified r) s (s.selStep (fun _ => q.choose))) ∧
          (q.selBase = 4 → Gives (.refQualified r) s (s.selStep (fun _ =>
            if !q.bit F.REF_SEL_STAT_COMMITTED && decide (q.rank r.val < q.rank (q.get F.REF_SEL_STAT_TARGET)) && !q.suspect r.val
                && q.forced.isNone then
              (match q.abortSwitch.bestRef with
                | some b => q.abortSwitch.goSwitch b
                | none => q.abortSwitch)
            else q)))) ∧
        (s.bit (F.REF_STAT_WTR_RUN r.val) = false ∨ s.following = false ∨ s.forced ≠ none → Gives (.wtrExpiry r) s s) ∧
        (s.bit (F.REF_STAT_WTR_RUN r.val) = true → s.following = true → s.forced = none → Gives (.wtrExpiry r) s (s.selStep (fun s =>
          let u := (s.putBit (F.REF_STAT_WTR_RUN r.val) false).put (F.REF_STAT_TIMER r.val) 0
          if u.qualified r.val && !u.suspect r.val && u.rank r.val < u.rank u.selRef then u.goSwitch r.val else u)))) ∧
      (let r := s.get F.REF_SEL_STAT_TARGET;
        (s.selBase = 4 → s.bit F.REF_SEL_STAT_COMMITTED = false → windowLen r ≤ (s.rf r).winN →
          Gives .switchCommit s (s.selStep (fun s => ((s.put (F.REF_BIAS_BIAS r)
            (unsigned 64 (rhe (s.rf r).winSum (s.rf r).winN))).put (F.REF_PHASE_ERR r) 0).putBit F.REF_SEL_STAT_COMMITTED true))) ∧
        (s.selBase ≠ 4 ∨ s.bit F.REF_SEL_STAT_COMMITTED = true ∨ (s.rf r).winN < windowLen r → Gives .switchCommit s s) ∧
        (s.selBase ≠ 4 ∨ s.tu.sel.updated = false → Gives .switchComplete s s) ∧
        (s.selBase = 4 → s.tu.sel.updated = true → Gives .switchComplete s (s.selStep (fun s =>
          let a := s.mapSel (fun c => { c with base := 2, updated := false })
          let b := ((a.put F.REF_SEL_STAT_SEL r).put F.REF_SEL_STAT_TARGET 7).putBit F.REF_SEL_STAT_COMMITTED false
          let c := (b.bump F.REF_EVT_CNT_SWITCHES).bump (F.REF_CNT_SELECTED r)
          (if c.forced.isSome then c.forceAct else c).startWtrs)))) ∧
      (s.selBase ≠ 5 → Gives .holdoverTimeout s s) ∧
      (s.selBase = 5 → Gives .holdoverTimeout s (s.selStep (fun s =>
        ((s.mapSel (fun c => { c with base := 1 })).latch 30).put F.REF_SEL_STAT_SEL
          (if s.rank 5 ≠ 0 ∧ (s.forced = none ∨ s.forced = some 5) then 5 else 7)))) ∧
      Gives .refFreqUpdate s (s.selStep (fun s =>
        let yh := s.getS F.CLK_MODEL_Y_H
        let a := (s.put F.CLK_MODEL_Y_H (unsigned 32 (yh + rhe (s.getS F.CLK_RATE_Y - yh) 300))).bump F.CLK_MODEL_AGE_AGE
        let b := if s.get F.REF_SEL_STAT_STATE = 3 then a.putBit F.CLK_STAT_HIST (decide (60 ≤ a.get F.CLK_MODEL_AGE_AGE)) else s
        let c := (((List.range 6).foldl (fun s r => s.freqOf r) b).pairCounts).agreeTest
        (if c.selBase = 5 ∨ c.selBase = 1 then c.bump F.CLK_HOLD_TIME_SECONDS else c.put F.CLK_HOLD_TIME_SECONDS 0).rootRate)) ∧
      (let disagrees (r q : Nat) : Bool := decide (10 ≤ pairCount s.tu.sel.dis r q)
        let partners (r : Nat) : List Nat :=
          s.equalPairs.filterMap (fun e => if e.1 = r then some e.2 else if e.2 = r then some e.1 else none)
        let marks := (List.range 6).filter (fun r => !s.suspect r && !(partners r).isEmpty && (partners r).all (disagrees r))
        let clears := (List.range 6).filter (fun r => s.suspect r && s.equalPairs.any (fun e =>
          (e.1 = r || e.2 = r) && decide (10 ≤ pairCount s.tu.sel.agr e.1 e.2)))
        Gives .refSuspectMark s (s.selStep (fun s =>
          let u := marks.foldl (fun s r => ((s.setSuspect r true).bump F.REF_EVT_CNT_DISAGREES).latch 31) s
          (marks.foldl (fun s r =>
            let v := if s.bit (F.REF_STAT_WTR_RUN r) then (s.putBit (F.REF_STAT_WTR_RUN r) false).put (F.REF_STAT_TIMER r) 0 else s
            if v.selBase = 4 ∧ v.get F.REF_SEL_STAT_TARGET = r then v.unusable r else v) u).agreeTest)) ∧
        Gives .refSuspectClear s (s.selStep (fun s =>
          clears.foldl (fun s r => if s.following then s.startWtr r else s.choose) (clears.foldl (fun s r => s.setSuspect r false) s))))) ∧
    ∀ (en : Bool) (r : Fin 6),
      let u := (s.put F.REF_SEL_CTL_FORCE_REF r.val).putBit F.REF_SEL_CTL_FORCE_EN en
      (u.selRuns = false → Gives (.forceSelect en r) s u) ∧
      (u.selRuns = true → Gives (.forceSelect en r) s (u.selStep (fun s =>
        (if s.selBase = 4 ∧ s.bit F.REF_SEL_STAT_COMMITTED = false then s.abortSwitch else s).forceAct)))

/-! ## The network (chapter 8) -/

/-- R225 to R239, R254, R255, R259, R260, Tables 8.2, 8.3, 8.8 and 8.9: links, the switch, the rings and the deadlines of streams; each
command completes with its own effect. LINK_UP shows rate and FEC of the attempt; LINK_DOWN empties the port, stomps the frame being
sent, is counted and latched; RATE_ATTEMPT_TIMEOUT goes on to the next attempt. FRAME_RECEIVED counts the frame at its port, counts
a bad one apart and stomps it where it was cut through, and learns, forwards and delivers a good one. EGRESS_FRAME_SENT counts the
frame, shows its time in its descriptor and starts the next. ADDRESS_AGE_OUT takes one entry out of its table
and no other; GROUP_AGE_OUT takes the external ports out of one entry and no other, so that what the engine's legs name stays. TX_RING_HEAD sets HEAD and sends the descriptors up to it. STREAM_DEADLINE checks the copies at hand, plays the best
one that passed, or shows, counts and latches the packet as lost.
The model's own choices here: log 65, 66, 67, 70. -/
def Obligations.NetworkEventsAct : Prop :=
  ∀ s : State, s.alive = true →
    (∀ p : Fin 4,
      (s.attempt p.val = none → Gives (.linkUp p) s s) ∧
      (∀ rate fec, s.attempt p.val = some (rate, fec) →
        let ready := s.bit (F.NET_PORT_CFG_EN p.val) && decide (s.get F.PWR_STAT_STATE < 3 ∨ (s.get F.PWR_STAT_STATE = 3 ∧ p.val = s.pwr.p3port))
        (ready = true → ∃ t, exec (.linkUp p) s = .next t ∧ t.bit (F.NET_PORT_STAT_LINK p.val) = true ∧
          t.get (F.NET_PORT_STAT_RATE_NOW p.val) = rate % 2 ^ (F.NET_PORT_STAT_RATE_NOW p.val).width ∧
          t.bit (F.NET_PORT_STAT_FEC_ON p.val) = fec ∧ OnlyRegs [NET_PORT_STAT p.val] s t) ∧
        (ready = false → Gives (.linkUp p) s s)) ∧
      (s.bit (F.NET_PORT_STAT_LINK p.val) = false → Gives (.linkDown p) s s) ∧
      (s.bit (F.NET_PORT_STAT_LINK p.val) = true →
        let a := if (s.port p.val).sending.isSome then (s.cnt p.val 6).emit (.stomped p.val) else s
        let b := a.setPort p.val { s.port p.val with queues := Vector.replicate 4 [], sending := none, attempt := 0 }
        let c := (b.put (F.NET_PORT_STAT_RATE_NOW p.val) 0).putBit (F.NET_PORT_STAT_FEC_ON p.val) false
        let d := (c.putBit (F.NET_PORT_STAT_LINK p.val) false).putBit (F.NET_PORT_STAT_LINK_LOST p.val) true
        let e := (List.range 8).foldl (fun v r => v.settleTail r) (d.cnt p.val 9)
        Gives (.linkDown p) s (e.latch (21 + p.val)) ∧ e.bit (F.NET_PORT_STAT_LINK p.val) = false ∧
          e.bit (F.NET_PORT_STAT_LINK_LOST p.val) = true ∧ e.get (F.NET_PORT_STAT_RATE_NOW p.val) = 0 ∧
          (e.port p.val).sending = none ∧ (∀ q < 4, (e.port p.val).queue q = []) ∧
          e.out = s.out ++ (if (s.port p.val).sending.isSome then [.stomped p.val] else [])) ∧
      (s.bit (F.NET_PORT_CFG_EN p.val) = true → s.bit (F.NET_PORT_STAT_LINK p.val) = false →
        ∃ t, exec (.rateAttemptTimeout p) s = .next t ∧ t = { s with net := { s.net with ports := t.net.ports } } ∧
          (t.port p.val).attempt = ((s.port p.val).attempt + 1) % max 1 (s.attempts p.val).length) ∧
      ((s.bit (F.NET_PORT_CFG_EN p.val) && !s.bit (F.NET_PORT_STAT_LINK p.val)) = false → Gives (.rateAttemptTimeout p) s s) ∧
      (∀ x, let u := s.creditTo p.val x;
        ((s.port p.val).sending = none → Gives (.egressFrameSent p x) s (u.startNext p.val x)) ∧
        (∀ f q y, (s.port p.val).sending = some (f, q, y) →
          let v := ((u.setPort p.val { u.port p.val with sending := none }).cnt p.val 5).emit (.frame p.val f.bytes)
          (f.desc = none → Gives (.egressFrameSent p x) s (v.startNext p.val x)) ∧
          ∀ r i, f.desc = some (r, i) → Gives (.egressFrameSent p x) s
            (((v.wrShared 4 (v.txDesc r i + 8) (leBytes 8 (y / 65536) ++ leBytes 2 y)).settleTail r).startNext p.val x)))) ∧
    (∀ f : FrameIn, let p := f.port.val;
      (s.portUp p = false ∨ s.get F.PWR_STAT_STATE = 4 → Gives (.frameReceived f) s s) ∧
      (s.portUp p = true → s.get F.PWR_STAT_STATE ≠ 4 →
        let c := s.cnt p 0
        let d := c.portDomain p
        let rt := c.route d (some p) f.bytes
        ((f.fcsOk = false ∨ f.cut = true ∨ misshapen f = true) →
          let u := if misshapen f then c.cnt p 2 else if f.fcsOk then c else c.cnt p 1
          let leaves := rt.ext.any (fun q => u.portUp q && u.cutsThrough p q)
          let v := if rt.limited && leaves then u.admits p f.ts else (true, u)
          Gives (.frameReceived f) s (if u.forwards ∧ f.alignOk = true ∧ 60 ≤ f.bytes.length then
            (if v.1 = true then v.2.stompAt f rt.ext else v.2) else u)) ∧
        (f.fcsOk = true → f.cut = false → misshapen f = false →
          let a := if rt.limited then c.admits p f.ts else (true, c)
          let b := a.2.learn d p (viewFrame f.bytes).src
          let u := match (viewFrame f.bytes).ip f.bytes with
            | some ip => b.snoop d p f.bytes ip
            | none => b
          (a.1 = false → Gives (.frameReceived f) s u) ∧
          (a.1 = true →
            let w := if u.forwards then
                (rt.ext.foldl (fun v e => v.enqueue e (u.queueOf p f.bytes) ⟨f.bytes, some f.ts, none⟩
                  (f.ts + v.residence p e f.dur)) u).nextFree
              else u
            Gives (.frameReceived f) s (if rt.int then w.deliver d p f.bytes f.ts (f.ts + f.dur) else w))))) ∧
    (∀ (d : Fin 2) (a : Nat), (∃ t, exec (.addressAgeOut d a) s = .next t ∧ tget t.net.addrs (d.val * 2 ^ 48 + a) = none ∧
        (∀ k, k ≠ d.val * 2 ^ 48 + a → tget t.net.addrs k = tget s.net.addrs k) ∧ t.net.groups = s.net.groups ∧ t.net.ports = s.net.ports) ∧
      ∃ t, exec (.groupAgeOut d a) s = .next t ∧
        ((tget s.net.groups (d.val * 2 ^ 32 + a)).isSome = true → tgetD t.net.groups (d.val * 2 ^ 32 + a) 0 =
          tgetD s.net.groups (d.val * 2 ^ 32 + a) 0 &&& 16) ∧
        (tget s.net.groups (d.val * 2 ^ 32 + a) = none → tget t.net.groups (d.val * 2 ^ 32 + a) = none) ∧ (∀ k, k ≠ d.val * 2 ^ 32 + a → tget t.net.groups k = tget s.net.groups k) ∧ t.net.addrs = s.net.addrs ∧ t.net.ports = s.net.ports) ∧
    (∀ (r : Fin 8) (h : Nat), let u := s.put (F.NET_TXR_PTR_HEAD r.val) h;
      (s.bit (F.NET_TXR_CFG_EN r.val) = false ∨ s.get F.PWR_STAT_STATE = 4 → Gives (.txRingHead r h) s u) ∧
      (s.bit (F.NET_TXR_CFG_EN r.val) = true → s.get F.PWR_STAT_STATE ≠ 4 →
        let size := 2 ^ s.get (F.NET_TXR_CFG_SIZE r.val)
        let old := s.get (F.NET_TXR_PTR_HEAD r.val)
        let send (v : State) (k : Nat) : State :=
          let i := (old + k) % size
          let da := ringDesc (v.rg (NET_TXR_CFG r.val)) i
          let len := v.rdShared 2 (da + 4)
          let a := 0x30000000 + v.rdShared 4 da
          let q := v.sharedPath 4 (0x30000000 + da) 32
          let w := v.sharedPath 4 a len
          if q.2 = false then q.1 else if w.2 = false then w.1
          else if v.sramFails (0x30000000 + da) 8 || v.sramFails a len then v.latch 9
          else v.sendFrame (if (v.rdShared 1 (da + 7)).testBit 1 then 1 else 0) (v.rdShared 1 (da + 6)) (v.rdBytes len a)
            (some (r.val, i)) v.node.time
        Gives (.txRingHead r h) s (((List.range ((h + size - old % size) % size)).foldl send u).settleTail r.val) ∧
        (h % size = old % size → Gives (.txRingHead r h) s (u.settleTail r.val)))) ∧
    ∀ k : Fin 256,
      let po := cfgPo (s.rg (STR_RX_CFG k.val))
      let n := s.packetLen (s.rg (STR_RX_CFG k.val))
      let now := s.node.n.toNat + 1
      let n0 := now - po
      let st := s.rxs k.val
      let open_ : Prop := s.bit (F.STR_RX_CFG_EN k.val) = true ∧ n ≠ 0 ∧ po ≤ now ∧ s.audio.running = true ∧
        ∀ c, st.closed = some c → c < now
      let checks := s.checkCopies k.val [] (st.held.filter (fun c => decide (s.copyN0 k.val c + po ≤ now)))
      let good := checks.filterMap (fun e => if e.2.isNone && decide (s.copyN0 k.val e.1 = n0) then some e.1 else none)
      let left : RxStream :=
        { st with held := st.held.filter (fun c => decide ((now : Int) < s.copyN0 k.val c + po)), closed := some now }
      let u := (checks.foldl (fun s e => match e.2 with
        | some f => s.countCopy f
        | none => s) s).setRxs k.val left
      let due : Prop := ((n0 : Int) - u.get (F.STR_RX_MISC_PHASE k.val)) % (n : Int) = 0 ∧ ∀ p ∈ st.packets, p.n0 ≠ n0
      let played (sel : Option (Nat × List Byte)) : State :=
        (u.setRxs k.val { left with packets := ⟨n0, sel⟩ :: st.packets.take 2 }).put (F.STR_RX_STAT_LEGS_OK k.val)
          (bitsNat ((List.range 4).map (fun j => good.any (fun c => c.leg = j))))
      (¬ open_ → Gives (.streamDeadline k) s s) ∧
      (open_ →
        (¬ due → Gives (.streamDeadline k) s u) ∧
        (due → bestCopy good = none → Gives (.streamDeadline k) s
          ((((played none).putBit (F.STR_RX_STAT_LOST_LAST k.val) true).bump (F.STR_RX_CNT0_LOST k.val)).latch 27)) ∧
        (due → ∀ c, bestCopy good = some c → ∃ t, exec (.streamDeadline k) s = .next t ∧
          (t.rxs k.val).packets.head? = some ⟨n0, some ((viewRtp c.rtp).claim, (viewRtp c.rtp).payload)⟩ ∧
          t.bit (F.STR_RX_STAT_LOST_LAST k.val) = false ∧
          t.get (F.STR_RX_STAT_LEG k.val) = c.leg % 2 ^ (F.STR_RX_STAT_LEG k.val).width ∧
          t.get (F.STR_RX_STAT_CLAIM k.val) = (viewRtp c.rtp).claim % 2 ^ (F.STR_RX_STAT_CLAIM k.val).width ∧
          t = { (played (some ((viewRtp c.rtp).claim, (viewRtp c.rtp).payload))) with regs := t.regs, pending := s.pending }))

/-- R230, Table 8.2: no frame of the switch goes back to the port it came in on, nor to a port of the other domain, and a frame
addressed to the engine goes to no external port. R255, Table 8.9: of the copies at hand at a deadline one of the highest claim
is taken, and of those the one on the lowest leg; none is taken only when there is none. R396, Table 13.3: the wire form of a
control-bus frame begins with the frame, is at least 64 bytes long, and its FCS checks. -/
def Obligations.FramesAndCopiesKeepTheirRules : Prop :=
  (∀ (s : State) (d : Nat) (i : Option Nat) (b : List Byte),
    (∀ p ∈ (s.route d i b).ext, p < 4 ∧ s.portDomain p = d ∧ i ≠ some p) ∧
    ((viewFrame b).dst = s.fuses.mac → (s.route d i b).ext = [])) ∧
  (∀ b : List Byte, 64 ≤ (cbusWire b).length ∧ fcsGood (cbusWire b) = true ∧ (cbusWire b).take b.length = b) ∧
  ∀ cs : List RxCopy, (bestCopy cs = none ↔ cs = []) ∧ ∀ c, bestCopy cs = some c → c ∈ cs ∧ ∀ e ∈ cs,
    (viewRtp e.rtp).claim < (viewRtp c.rtp).claim ∨ ((viewRtp e.rtp).claim = (viewRtp c.rtp).claim ∧ c.leg ≤ e.leg)

/-! ## Pairs, warm copy, Relief (chapter 11) -/

/-- R308 to R310, R318: the pair's events. FLASH_RECEIVED drops and counts a Flash that does not parse, is not the partner's or is out
of order, drops a repeated one, and takes any other; PARTNER_LOST shows, counts and latches the loss and promotes a SHADOW;
FLASH_DORMANT_SEND sends the Flash of an engine in DORMANT; STANDBY_TURN_HOT sets HOT and sends the last packet of every stream.
R324 to R330, Table 11.12: a warm-copy frame is taken in its unit's FSEQ order and by the copy it names: one that cannot be read is
counted, one out of order asks for the unit again, the next one in order has its effect; a unit verified for sixteen blocks joins,
and the last one to join ends the copy; a failed copy is asked for again and starts once it can. R336 to R343, Table 11.10: a Brick's
uncorrectable error starts its takeover, whose steps follow one another.
The model's own choices here: log 74, 75, 76. -/
def Obligations.PairCopyAndReliefEventsAct : Prop :=
  (∀ s : State, s.alive = true →
    (∀ (d : Fin 2) (a : Word32) (m : BitVec 48) (b : List Byte),
      let bad : State := s.bump F.PAIR_CNT_FLASH_BAD
      (s.paired = false → Gives (.flashReceived d a m b) s s) ∧
      (s.paired = true → parseFlash b = none → Gives (.flashReceived d a m b) s bad) ∧
      ∀ f, s.paired = true → parseFlash b = some f →
        let known : Prop := a.toNat ≠ 0 ∧ s.rg (PAIR_PARTNER_ADDR d.val) = a.toNat ∧
          (s.pairAuth = false ∨ b.drop 0xA8 = (hmac s.pairKey (b.take 0xA8)).take 8)
        (¬ known → Gives (.flashReceived d a m b) s bad) ∧
        (known → s.pair.lastBlk = some f.blk → Gives (.flashReceived d a m b) s s) ∧
        (known → ∀ x, s.pair.lastBlk = some x → f.blk < x → Gives (.flashReceived d a m b) s bad) ∧
        (known → (∀ x, s.pair.lastBlk = some x → x < f.blk) →
          let u := ((s.adoptFlash f).flashHandover f).flashCopy f
          let v := if f.classless = true then u.voidHandover else u
          let w : State := if v.node.mode = .lead ∧ f.mode = 3 ∧ v.outranked f m.toNat = true
            then { v with pair := { v.pair with yield := true } } else v
          let x := w.compareAll.tryRevert
          let y := if x.pairImage = s.pairImage then x else x.notify 9 (beBytes 4 x.pairImage)
          Gives (.flashReceived d a m b) s (y.serveCopy f).tryCopy)) ∧
    (let silent : Prop := ∃ f, s.pair.last = some f ∧
        (if f.mode = 7 then 30 * s.fs else 8 * s.get F.PAIR_TIMING_FLASH_LOSS) ≤ s.pair.quiet;
      (s.paired = false ∨ s.pair.lostNow = true ∨ ¬ silent → Gives .partnerLost s s) ∧
      (s.paired = true → s.pair.lostNow = false → silent →
        let d := s.voidHandover.dropCopy
        let u : State := { d with pair := { d.pair with lostNow := true, lastBlk := none } }
        let v := ((u.putBit F.PAIR_STAT_LOST true).bump F.PAIR_CNT_LOSSES).putBit F.PAIR_STAT_SEEN false
        let w := v.latch 35
        Gives .partnerLost s (w.notify 9 (beBytes 4 w.pairImage)) ∧ v.pair.wc = none ∧ v.pair.src = none ∧ v.pair.lostNow = true)) ∧
    (s.paired = true → s.pair.lostNow = true → s.node.mode = .shadow → s.otherTransition = false →
      s.promoteTick.node.mode = .lead ∧ s.promoteTick.pair.ho = none) ∧
    (let on := decide (s.node.mode = .dormant) && s.paired && decide (s.get F.PWR_STAT_STATE < 4);
      (on = false → Gives .flashDormantSend s s) ∧
      (on = true →
        let u : State := { s with pwr := { s.pwr with flashAt := s.node.uptime } }
        let sent (d : Nat) : List Output :=
          if u.rg (PAIR_PARTNER_ADDR d) ≠ 0 ∧ u.nodeAddr d ≠ 0 ∧ u.domainUp d = true then
            [.flash d (u.rg (PAIR_PARTNER_ADDR d)) (u.get F.PAIR_FLASH_PORT_UDP_PORT) (u.flashBytes (s.ownFlash s.blk 0 [] false))]
          else []
        ∃ t fs, exec .flashDormantSend s = .next t ∧ t.out = s.out ++ sent 0 ++ sent 1 ∧ t.net.outbox = s.net.outbox ++ fs ∧
          fs.length = (sent 0 ++ sent 1).length ∧
          (∀ e ∈ fs, u.flashBytes (s.ownFlash s.blk 0 [] false) <:+ e.2) ∧
          t = { u with out := t.out, net := { s.net with outbox := t.net.outbox }, free := t.free })) ∧
    (let n := s.packetLen (s.rg (STR_TX_CFG (s.get F.PAIR_CFG_WATCH)))
     let due := (s.node.n.toNat + 1) / max 1 n * n
     let missing := n != 0 && decide (n ≤ due) && !s.str.watched.contains (due - n)
     let turns := decide (s.node.mode = .shadow) && s.bit F.PAIR_CFG_STANDBY && !s.bit F.PAIR_STAT_HOT && (missing || s.pair.lostNow);
      (turns = false → Gives .standbyTurnHot s s) ∧
      (turns = true →
        let u : State := { s.putBit F.PAIR_STAT_HOT true with pair := { s.pair with hot := true } }
        Gives .standbyTurnHot s (s.str.tx.foldl (fun v e => v.sendPacket e.2.last) u) ∧ u.bit F.PAIR_STAT_HOT = true)) ∧
    (∀ b : List Byte,
      (s.pair.wc = none → ∀ i ∈ [Instr.wcPatch b, .wcMirror b, .wcBulk b, .wcSwitch b, .wcStop b],
        Gives i s (if s.paired = true then s.bump F.PAIR_CNT_FLASH_BAD else s)) ∧
      (∀ c, s.pair.wc = some c → s.readWc c.copyId b = none → ∀ i ∈ [Instr.wcPatch b, .wcMirror b, .wcBulk b, .wcSwitch b, .wcStop b],
        Gives i s (s.bump F.PAIR_CNT_FLASH_BAD)) ∧
      (∀ c f x, s.pair.wc = some c → s.readWc c.copyId b = some f → c.unit f.unit = some x →
        ∀ i k, (i, k) ∈ [(Instr.wcPatch b, 1), (.wcMirror b, 2), (.wcBulk b, 3), (.wcSwitch b, 4)] → f.kind = k →
          f.fseq ≠ tgetD x.fseq k 0 → Gives i s (if x.st = .restart then s else s.restartUnit f.unit)) ∧
      (∀ c f x, s.pair.wc = some c → s.readWc c.copyId b = some f → c.unit f.unit = some x → f.fseq = tgetD x.fseq f.kind 0 →
        let y : WcUnit := { x with fseq := cins x.fseq f.kind ((tgetD x.fseq f.kind 0 + 1) % 65536) }
        let e := c.mapUnit f.unit (fun _ => y)
        let u := s.setWc e
        (f.kind = 1 → Gives (.wcPatch b) s (u.setWc (({ e with
            descr := (if x.st = .copying then e.descr else []) ++ (List.range f.count).map (fun i => (f.body.drop (32 * i)).take 32)
            whole := f.last, descrBlk := f.blk } : WarmCopy).mapUnit 0 (fun z => { z with st := .copying })))) ∧
        (f.kind = 2 → Gives (.wcMirror b) s ((u.setWc (e.beginUnit f.unit)).applyRecords f.unit true (x.st = .verifying) f.records)) ∧
        (f.kind = 3 → Gives (.wcBulk b) s ((u.setWc (e.beginUnit f.unit)).applyRecords f.unit false false f.records)) ∧
        (f.kind = 4 → Gives (.wcSwitch b) s (u.setWc (e.mapUnit f.unit (fun z => { z with runAt := some f.blk }))))) ∧
      (∀ c f, s.pair.wc = some c → s.readWc c.copyId b = some f → f.kind = 5 →
        (f.last = true → Gives (.wcStop b) s (s.setWc (c.mapUnit f.unit (fun x => { x with st := .joined }))).endCopy) ∧
        (f.last = false → ∃ t, exec (.wcStop b) s = .next t ∧ t.pair = { s.pair with wc := none, wcAsked := true } ∧
          t.get F.PAIR_STAT_WC_PHASE = 0 ∧ t.get F.PAIR_WC_STAT_UNITS_LEFT = 0 ∧ t = { s with regs := t.regs, pair := t.pair })) ∧
      (s.pair.src = none → ∀ i ∈ [Instr.wcStatus b, .wcAbort b], Gives i s (if s.paired = true then s.bump F.PAIR_CNT_FLASH_BAD else s)) ∧
      (∀ c f, s.pair.src = some c → s.readWc c.copyId b = some f →
        (f.kind = 16 → Gives (.wcStatus b) s (((List.range f.count).map (fun i => (f.body.drop (4 * i)).take 4)).foldl State.statusEntry s)) ∧
        (f.kind = 17 → Gives (.wcAbort b) s { s with pair := { s.pair with src := none, countFrom := s.blk + 1 } }))) ∧
    (∀ n, (s.pair.wc.bind (fun c => c.unit n) = none → Gives (.wcUnitJoined n) s s) ∧
      ∀ c x, s.pair.wc = some c → c.unit n = some x →
        let u := s.setWc (c.mapUnit n (fun y => { y with st := .joined }))
        let all := (c.mapUnit n (fun y => { y with st := .joined })).units.all (fun y => y.st = .joined)
        (¬ (x.st = .verifying ∧ 16 ≤ x.clean) → Gives (.wcUnitJoined n) s s) ∧
        (x.st = .verifying → 16 ≤ x.clean → all = false → Gives (.wcUnitJoined n) s u) ∧
        (x.st = .verifying → 16 ≤ x.clean → all = true → Gives (.wcUnitJoined n) s
          (({ u with pair := { u.pair with wc := none, countFrom := u.blk + 1 } } : State).put F.PAIR_STAT_WC_PHASE 2).showCopy)) ∧
    (s.pair.wcRetry = true → s.node.mode = .shadow →
      let u : State := { s with pair := { s.pair with wcRetry := false, wcAsked := true } }
      let starts (f : FlashInfo) : Bool := u.pair.wc.isNone && !u.pair.lostNow && u.copyPossible f && !u.bit F.PAIR_RELIEF_BUSY
      ((∀ f, s.pair.last = some f → starts f = false) → Gives .wcRetry s u) ∧
      ∀ f, s.pair.last = some f → starts f = true →
        let v := ({ u with pair := { u.pair with wcAsked := false, wcRetry := false } } : State).put F.PAIR_STAT_WC_PHASE 1
        let w := (v.bump F.PAIR_WC_CNT_STARTS)
        Gives .wcRetry s (w.clearMatch.setWc ⟨w.rg PAIR_EPOCH, w.wcUnits.map WcUnit.fresh, [], false, 0, 0⟩)) ∧
    (s.pair.wcRetry = false ∨ s.node.mode ≠ .shadow → Gives .wcRetry s s)) ∧
  ∀ s : State, s.alive = true →
    (∀ b : Fin 96, (s.outOfService b.val = true → Gives (.reliefTakeover b) s s) ∧
      (s.outOfService b.val = false →
        let u := (s.putBit (F.BRK_STAT_ECC_UE b.val) true).latch 0
        let spare := decide (b.val % 24 = 23) && decide (u.get F.PAIR_RELIEF_FREE / 2 ^ (b.val / 24) % 2 = 1)
        (spare = true → Gives (.reliefTakeover b) s ((u.putMask F.PAIR_RELIEF_FREE (b.val / 24) false).retire b.val)) ∧
        (spare = false → u.logicalOf b.val = none → Gives (.reliefTakeover b) s u) ∧
        ∀ l, spare = false → u.logicalOf b.val = some l →
          Gives (.reliefTakeover b) s (if u.flt.reliefNone.contains l then u else u.failBrick l false))) ∧
    ∀ l : Fin 92,
      (s.takeover l.val = none → Gives (.reliefLoaded l) s s ∧ Gives (.reliefRun l) s s ∧ Gives (.reliefReady l) s s ∧ Gives (.reliefDone l) s s) ∧
      ∀ k, s.takeover l.val = some k →
        (k.loaded = true → Gives (.reliefLoaded l) s s) ∧
        (k.loaded = false →
          let u := (s.zeroMem (brickWordAddr k.relief 0) 0x40000).placeWords l.val k.relief
          let q := match u.stateArea l.val, u.lastCkpt l.val with
            | some (_, len, _), some a => u.sharedPath 6 a (4 * len)
            | _, _ => (u, true)
          let v := if u.ckptFails l.val then q.1.latch 9 else q.1
          let lost := v.ckptFails l.val || !q.2
          let w := match v.stateArea l.val with
            | some (first, len, _) => v.writeWords k.relief first (match v.lastCkpt l.val with
                | some a => if lost = true then List.replicate (4 * len) 0 else v.rdBytes (4 * len) a
                | none => List.replicate (4 * len) 0)
            | none => v
          let x := (Cfg.progItems w.st.cfg 4 l.val).foldl (fun x e =>
            x.writeWords k.relief (16 * fieldOf (leAt e.2 0 4) 4 12) (List.replicate 64 0)) w
          Gives (.reliefLoaded l) s (x.mapTakeover l.val (fun y => { y with loaded := true })) ∧
            (u.ckptFails l.val = false → q.2 = true → ∀ a, ¬ (brickWordAddr k.relief 0 ≤ a ∧ a < brickWordAddr k.relief 0 + 0x40000) → x.rdByte a = s.rdByte a)) ∧
        (k.loaded = false ∨ k.runs = true ∨ (s.node.n.toNat + 1) % 8 ≠ 0 → Gives (.reliefRun l) s s) ∧
        (k.loaded = true → k.runs = false → (s.node.n.toNat + 1) % 8 = 0 →
          let a := s.mapTakeover l.val (fun x => { x with runs := true })
          let b := if k.commanded then a else a.retire k.failed
          let c : State := { b with pair := { b.pair with carried := cins b.pair.carried l.val k.relief } }
          Gives (.reliefRun l) s (((c.idleBrick k.relief).placeTables l.val k.relief).put (F.BRK_ROLE_REPLACES k.relief) k.failed)) ∧
        (k.runs = false ∨ k.ready = true ∨ s.reliefPlays k.relief = false → Gives (.reliefReady l) s s) ∧
        (k.runs = true → k.ready = false → s.reliefPlays k.relief = true →
          let u := s.mapTakeover l.val (fun x => { x with ready := true })
          Gives (.reliefReady l) s (u.liveEntries.foldl (fun v e =>
            let p := e.2.keepShadow (s.outputsOf k.relief) k.failed
            if sounding p.cur && fromOutputs (s.outputsOf k.relief) p.cur then
              v.fadeRelief e.1 p (if k.commanded then some k.failed else none)
            else v.setPe e.1 p) u).showPatch) ∧
        (let busy := s.audio.patch.any (fun e => e.2.busyFor (s.outputsOf k.relief) k.failed);
          (k.ready = false ∨ busy = true → Gives (.reliefDone l) s s) ∧
          (k.ready = true → busy = false →
            let a := if k.commanded then s.retire k.failed else s
            let b : State := { a with pair := { a.pair with takeovers := a.pair.takeovers.filter (fun x => x.logical != l.val) } }
            let c : State := if b.node.mode = .lead ∧ b.pair.ho = none ∧ b.proposed .pairSwap = false
              then { b with pair := { b.pair with owed := false } } else b
            Gives (.reliefDone l) s (c.putBit F.PAIR_RELIEF_BUSY (!c.pair.takeovers.isEmpty)).tryCopy))

/-! ## Modulators and loudspeaker protection (chapter 12) -/

/-- R355, R359, R364 to R369, R374, R379: the events of the modulator channels. A trip, of a fast estimate at or above the limit, in a
period not yet counted ends the pulse, is shown and counted, fails a retest at once, and the fourth within 16 periods latches the
channel; a channel latched for 2 s retests when nothing stands in its way; a retest that passed plays, one that failed counts, and
the third locks; a rail limit that is crossed is shown and acts, and clears by its 5 %; a sense input is lost, which a diagnostic run notes, and returns, but in
the PROCESSING role (R2); a diagnostic step and a pilot window end, each with its result.
R354: the fast estimate lies between -I_FS and I_FS, which all zeros and all ones give. R347: between the times at which the two
outputs of a half-bridge conduct, DEAD cycles pass in which neither does.
The model's own choices here: log 19, 77, 87. -/
def Obligations.AmplifierEventsAct : Prop :=
  (∀ bits : BitVec 15, -32 ≤ fastEstimate bits ∧ fastEstimate bits ≤ 32 ∧ fastEstimate (BitVec.allOnes 15) = 32 ∧ fastEstimate 0 = -32) ∧
  (∀ (dead : Nat) (h : HalfBridge) (want : List (Nat × Option Bool)) (pre mid post : List (Nat × Option Bool)) (n k : Nat) (w : Bool),
    (h.wave dead want).2 = pre ++ [(n, some w)] ++ mid ++ [(k, some (!w))] ++ post → (∀ e ∈ mid, e.2 = none) →
      dead ≤ mid.foldl (fun (c : Nat) e => c + e.1) 0) ∧
  ∀ s : State, s.alive = true →
    (∀ (m : Fin 64) (k : Fin 16) (bits : BitVec 15) (cycle : Nat), let c := s.ch m.val;
      let period := s.node.n.toNat * 16 + k.val
      let counts := !s.modGated && decide (s.bridgeOf m.val = .pulses) && !s.iLost m.val && !c.trips.contains period
        && decide (s.get (F.AMP_CH_PROT_ILIM m.val) ≤ (fastEstimate bits).natAbs)
      let trips := (period :: c.trips).filter (fun x => decide (period < x + 16))
      let u := (((s.setCh m.val { c.endPulse k.val (min cycle s.carrierLen) with trips := trips }).putBit (F.AMP_CH_STAT_TRIP m.val) true).bump
        (F.AMP_CH_CNT_TRIPS m.val)).latch 44 [m.val]
      (counts = false → Gives (.currentTrip m ⟨k, bits, cycle⟩) s s) ∧
      (counts = true → c.state ≠ .retest → Gives (.currentTrip m ⟨k, bits, cycle⟩) s (if 4 ≤ trips.length then (u.latchCh m.val).settleCh m.val else u)) ∧
      (s.chEnabled m.val = true → (u.latchCh m.val).chEnabled m.val = true → ((u.latchCh m.val).settleCh m.val).ch m.val = (u.latchCh m.val).ch m.val) ∧
      (counts = true → c.state = .retest →
        let n := u.get (F.AMP_CH_STAT_RETRIES m.val) + 1
        let v := u.put (F.AMP_CH_STAT_RETRIES m.val) (min 3 n)
        Gives (.currentTrip m ⟨k, bits, cycle⟩) s (if 3 ≤ n then v.lockCh m.val false
          else ((v.setCh m.val { v.ch m.val with state := .latched, retest := none }).showCh m.val).gatesLow m.val))) ∧
    (∀ m : Fin 64, let c := s.ch m.val;
      (¬ (c.state = .latched ∧ s.retestClear m.val = true) → Gives (.retestStart m) s s) ∧
      (c.state = .latched → s.retestClear m.val = true → Gives (.retestStart m) s
        ((s.setCh m.val { c with state := .retest, lockedDc := false, retest := some (0, Corr.zero), trips := [] }).showCh m.val)) ∧
      (c.retest = none → Gives (.retestEnd m) s s) ∧
      (∀ k corr, c.retest = some (k, corr) →
        (c.state ≠ .retest ∨ k < s.ms10 → Gives (.retestEnd m) s s) ∧
        (c.state = .retest → s.ms10 ≤ k →
          let passes : Prop := ∃ z, s.zMag m.val corr = some z ∧ s.zNom m.val ≤ 4 * z
          let n := s.get (F.AMP_CH_STAT_RETRIES m.val) + 1
          let u := s.put (F.AMP_CH_STAT_RETRIES m.val) (min 3 n)
          (passes → Gives (.retestEnd m) s ((s.setCh m.val { c with retest := none, state := .off }).settleCh m.val)) ∧
          (¬ passes → 3 ≤ n → Gives (.retestEnd m) s (u.lockCh m.val false)) ∧
          (¬ passes → n < 3 → Gives (.retestEnd m) s
            (((u.setCh m.val { u.ch m.val with state := .latched, retest := none }).showCh m.val).gatesLow m.val)))) ∧
      (c.state = .playing → ∃ t, exec (.retriesReset m) s = .next t ∧ t.get (F.AMP_CH_STAT_RETRIES m.val) = 0 ∧ OnlyRegs [AMP_CH_STAT m.val] s t) ∧
      (c.state ≠ .playing → Gives (.retriesReset m) s s) ∧
      (c.diag = none → Gives (.diagStepEnd m) s s) ∧
      (∀ d, c.diag = some d →
        (d.k < d.len → Gives (.diagStepEnd m) s s) ∧
        (d.len ≤ d.k → d.step = .dcHold →
          let r := s.rdcOf m.val d.corr
          let u := s.put (F.AMP_CH_RDC_V m.val) r
          let v := if d.start = true ∧ c.rdcBase = none ∧ r ≠ 2 ^ 32 - 1 then u.setCh m.val { u.ch m.val with rdcBase := some r } else u
          Gives (.diagStepEnd m) s (v.diagGo m.val { d with rdc := some r } (some (.dcFall, v.ms 20)))) ∧
        (d.len ≤ d.k → ∀ k, d.step = .sweep k → ∀ z, s.zMag m.val d.corr = some z →
          let u := ((s.put (F.AMP_CH_SWEEP_ZMAG m.val k) z).put (F.AMP_CH_SWEEP_PHASE m.val k) (unsigned 16 d.corr.zArg)).put
            (F.AMP_CH_SWEEP_VALID m.val k) 1
          Gives (.diagStepEnd m) s (u.diagGo m.val d (u.sweepFrom d.mode (k + 1)))) ∧
        (d.len ≤ d.k → ∀ k, d.step = .sweep k → s.zMag m.val d.corr = none → ∃ z < 2 ^ 32,
          let u := ((s.nextFree.put (F.AMP_CH_SWEEP_ZMAG m.val k) z).put (F.AMP_CH_SWEEP_PHASE m.val k) (unsigned 16 d.corr.zArg)).put
            (F.AMP_CH_SWEEP_VALID m.val k) 1
          Gives (.diagStepEnd m) s (u.diagGo m.val d (u.sweepFrom d.mode (k + 1)))) ∧
        (d.step ≠ .dcHold → (∀ k, d.step ≠ .sweep k) → Gives (.diagStepEnd m) s s)) ∧
      (c.pilotDone = none → Gives (.pilotWindowEnd m) s s) ∧
      (∀ a b, c.pilotDone = some (a, b) → let u := s.setCh m.val { c with pilotDone := none };
        let w := a.add b
        let v := (u.put (F.AMP_CH_ZMAG_V m.val) ((u.zMag m.val w).getD 0)).put (F.AMP_CH_ZPH_PHASE m.val) (unsigned 16 w.zArg)
        let alpha := v.get (F.AMP_CH_HF_ALPHA m.val)
        let shows (v : State) (temp : Int) : State :=
          let x := v.put (F.AMP_CH_ZPH_TCOIL m.val) (unsigned 16 temp)
          (if x.coilHot m.val then x.latch 45 [m.val] else x).freeChans
        (u.pilotValid m.val a b = false → Gives (.pilotWindowEnd m) s (u.bump (F.AMP_CH_CNT_DISCARDS m.val))) ∧
        (u.pilotValid m.val a b = true → c.zRef = none →
          let z := (satTo 0 (2 ^ 32 - 1) (u.zReal m.val w)).toNat
          Gives (.pilotWindowEnd m) s ((v.setCh m.val { v.ch m.val with zRef := some z }).put (F.AMP_CH_ZBASE_V m.val) z)) ∧
        (u.pilotValid m.val a b = true → ∀ z, c.zRef = some z → z ≠ 0 → alpha ≠ 0 → Gives (.pilotWindowEnd m) s
          (shows v (satTo (-32768) 32767 (c.tRef + rhe ((u.zReal m.val w - z) * 256000000) (z * alpha))))) ∧
        (u.pilotValid m.val a b = true → ∀ z, c.zRef = some z → z = 0 ∨ alpha = 0 → ∃ x : Int, -32768 ≤ x ∧ x ≤ 32767 ∧
          Gives (.pilotWindowEnd m) s (shows v.nextFree x)))) ∧
    (s.node.role = .processing → ∀ (input : Fin 3) (k : Fin 64), Gives (.senseLost input k) s s ∧ Gives (.senseReturn input k) s s) ∧
    (s.node.role ≠ .processing → ∀ k : Fin 64,
      (let u := ((s.setCh k.val (s.ch k.val).noteLoss).putBit (F.AMP_CH_STAT_I_LOST k.val) true).showRails;
        Gives (.senseLost 0 k) s (if u.bit (F.AMP_CH_CFG_EN k.val) && u.bit (F.AMP_CH_CFG_SENSE_EN k.val) then u.latch 42 [k.val] else u).settleSense) ∧
      (let u := ((s.setCh k.val (s.ch k.val).noteLoss).putBit (F.AMP_CH_STAT_V_LOST k.val) true).showRails;
        Gives (.senseLost 1 k) s (if u.bit (F.AMP_CH_CFG_EN k.val) && u.bit (F.AMP_CH_CFG_SENSE_EN k.val) then u.latch 42 [k.val] else u).settleSense) ∧
      (let u := (((s.putBit (F.AMP_RAIL_STAT_LOST k.val) true).put (F.AMP_RAIL_STAT_UV k.val) 0).put (F.AMP_RAIL_STAT_OV k.val) 0).showRails;
        (k.val < 8 → Gives (.senseLost 2 k) s (if u.bit (F.AMP_RAIL_CFG_EN k.val) then u.latch 42 (u.railChans k.val) else u).settleSense)) ∧
      Gives (.senseReturn 0 k) s ((s.putBit (F.AMP_CH_STAT_I_LOST k.val) false).showRails.settleSense).freeChans ∧
      Gives (.senseReturn 1 k) s ((s.putBit (F.AMP_CH_STAT_V_LOST k.val) false).showRails.settleSense).freeChans ∧
      (k.val < 8 → Gives (.senseReturn 2 k) s ((s.putBit (F.AMP_RAIL_STAT_LOST k.val) false).showRails.settleSense).freeChans) ∧
      (8 ≤ k.val → Gives (.senseLost 2 k) s s ∧ Gives (.senseReturn 2 k) s s)) ∧
    ∀ r : Fin 8, let v := s.get (F.AMP_RAIL_V_V r.val);
      let uv := s.get (F.AMP_RAIL_LIM_UV r.val)
      let ov := s.get (F.AMP_RAIL_LIM_OV r.val)
      let below := s.railWatched r.val && decide (uv ≠ 0 ∧ v < uv) && !s.bit (F.AMP_RAIL_STAT_UV r.val)
      let above := s.railWatched r.val && decide (ov ≠ 0 ∧ ov < v) && !s.bit (F.AMP_RAIL_STAT_OV r.val)
      (below = false → Gives (.railUnderVoltage r) s s) ∧
      (below = true → Gives (.railUnderVoltage r) s (s.railOut r.val (F.AMP_RAIL_STAT_UV r.val))) ∧
      (above = false → Gives (.railOverVoltage r) s s) ∧
      (above = true →
        let u := s.railOut r.val (F.AMP_RAIL_STAT_OV r.val)
        Gives (.railOverVoltage r) s ((List.range 64).foldl (fun s m =>
          if s.railOf m = r.val && ((s.ch m).state = .railHold || (s.ch m).state = .off) then
            (s.setCh m { s.ch m with prot := Mute.silent .gate }).gatesLow m
          else s) u)) ∧
      let a := if s.bit (F.AMP_RAIL_STAT_UV r.val) ∧ 105 * uv ≤ 100 * v then s.putBit (F.AMP_RAIL_STAT_UV r.val) false else s
      let b := if a.bit (F.AMP_RAIL_STAT_OV r.val) ∧ 100 * v ≤ 95 * ov then a.putBit (F.AMP_RAIL_STAT_OV r.val) false else a
      Gives (.railRecover r) s ((b.showRails.settleSense).freeChans) ∧
        b.bit (F.AMP_RAIL_STAT_UV r.val) = (s.bit (F.AMP_RAIL_STAT_UV r.val) && decide (100 * v < 105 * uv)) ∧
        b.bit (F.AMP_RAIL_STAT_OV r.val) = (s.bit (F.AMP_RAIL_STAT_OV r.val) && decide (95 * ov < 100 * v)) ∧
        OnlyRegs [AMP_RAIL_STAT r.val] s b

/-! ## Control buses (chapter 13) -/

/-- R384 to R398, Tables 13.3 and 13.4: the commands of a control-bus MAC. The transmit side fills a slot, queues it or refuses it,
attempts it, backs off after a collision and gives it up at the sixteenth attempt, after DEFER_MAX, without a clock or on a flush, each with
its result and its count, a flushed frame after the attempt in progress; the receive side classifies what it hears, delivers and pops;
CRS and COL show carrier and collision; MDIO runs one frame at a time on a MAC that is enabled; each request of which a partner misses
the answer counts, to three and no further.
The model's own choices here: log 61, 62, 96. -/
def Obligations.ControlBusesAct : Prop :=
  ∀ (s : State) (m : Fin 4), s.alive = true →
    let c := s.mac m.val
    let en := s.bit (F.CBUS_CFG_EN m.val)
    (∀ p : Option Bool, (en = true → Gives (.cbusEnable m p) s s) ∧
      (en = false → s.bit (F.CBUS_CFG_PLCA_OFF m.val) = false → Gives (.cbusEnable m p) s
        ((s.setMac m.val { c with gen := Config.backoffSeed s.node.time, enabling := false }).putBit (F.CBUS_CFG_EN m.val) true)) ∧
      (en = false → s.bit (F.CBUS_CFG_PLCA_OFF m.val) = true → s.node.mode = .dormant →
        Gives (.cbusEnable m p) s (s.setMac m.val { c with enabling := true })) ∧
      (en = false → s.bit (F.CBUS_CFG_PLCA_OFF m.val) = true → s.node.mode ≠ .dormant → let u := (s.plcaFrames m.val).plcaRead m.val p
        let refused := (u.setMac m.val { u.mac m.val with enabling := false }).putBit (F.CBUS_STAT_PHY_ERR m.val) true
        (p = some false → Gives (.cbusEnable m p) s
          ((u.setMac m.val { u.mac m.val with gen := Config.backoffSeed u.node.time, enabling := false }).putBit (F.CBUS_CFG_EN m.val) true)) ∧
        (p = some true → Gives (.cbusEnable m p) s refused) ∧
        (p = none → Gives (.cbusEnable m p) s refused ∧
          u.get (F.CBUS_MDIO_DATA m.val) = 0xFFFF ∧ u.bit (F.CBUS_MDIO_NO_ACK m.val) = true ∧
          u.rg (CBUS_CNT m.val 27) = min 0xFFFFFFFF (s.rg (CBUS_CNT m.val 27) + 1)))) ∧
    (en = false → Gives (.cbusDisable m) s s) ∧
    (en = true → let u := (s.putBit (F.CBUS_CFG_EN m.val) false).macStop m.val
      let t := u.setMac m.val { u.mac m.val with enabling := false }
      Gives (.cbusDisable m) s t ∧ t.bit (F.CBUS_CFG_EN m.val) = false ∧ (t.mac m.val).fill = none ∧
      (t.mac m.val).rx = [] ∧ (t.mac m.val).jabber = false ∧ (t.mac m.val).mdio = none ∧ t.bit (F.CBUS_MDIO_BUSY m.val) = false) ∧
    (s.macOn m.val = false → ∀ w, Gives (.cbusTxData m w) s s) ∧
    (∀ f : FalseCarrier, f.mac = m →
      (s.macOn m.val = false ∨ c.rxLost = true ∨ c.phase = .attempt ∨ (c.jabber = true ∧ f.quiet = false) → Gives (.cbusFalseCarrier f) s s) ∧
      (s.macOn m.val = true → c.rxLost = false → c.phase ≠ .attempt → (c.jabber = false ∨ f.quiet = true) →
        Gives (.cbusFalseCarrier f) s ((s.setMac m.val { c with jabber := false }).cbusCount m.val 30))) ∧
    (s.macOn m.val = true → ∀ w : Word32,
      (c.fill = none → c.queue.length < 4 → Gives (.cbusTxData m w) s (s.setMac m.val { c with fill := some (leBytes 4 w.toNat) })) ∧
      (c.fill = none → 4 ≤ c.queue.length → Gives (.cbusTxData m w) s s) ∧
      ∀ b, c.fill = some b → (b.length + 4 ≤ 2048 → Gives (.cbusTxData m w) s (s.setMac m.val { c with fill := some (b ++ leBytes 4 w.toNat) })) ∧
        (2048 < b.length + 4 → Gives (.cbusTxData m w) s s)) ∧
    (∀ (len : BitVec 12) (tag : BitVec 8),
      let bad := decide (len.toNat < 14) || decide (s.get (F.CBUS_CFG_MAX_LEN m.val) - 4 < len.toNat)
        || decide ((c.fill.getD []).length < len.toNat) || c.fill.isNone || c.txLost
      (8 ≤ c.results.length → Gives (.cbusGo m len tag) s s) ∧
      (c.results.length < 8 → bad = true → Gives (.cbusGo m len tag) s
        ((s.setMac m.val { c with fill := none }).setMac m.val { c with
          fill := none, results := c.results ++ [⟨tag.toNat, 5, 0, none⟩] })) ∧
      (c.results.length < 8 → bad = false → Gives (.cbusGo m len tag) s
        ((s.setMac m.val { c with fill := none }).setMac m.val { c with
          fill := none, queue := c.queue ++ [⟨tag.toNat, (c.fill.getD []).take len.toNat, 0, 0, none⟩] }))) ∧
    (c.phase = .attempt → ∀ f fs, c.queue = f :: fs → Gives (.cbusFlush m) s (s.setMac m.val { c with flush := some fs.length })) ∧
    (c.phase ≠ .attempt → Gives (.cbusFlush m) s
      (iterate (fun u => u.cbusDiscard m.val 4) c.queue.length (s.setMac m.val { c with flush := none }))) ∧
    (∀ d : Bool, (c.queue = [] → Gives (.cbusAttemptStart m d) s s) ∧
      ∀ f fs, c.queue = f :: fs →
        let may := s.macOn m.val && decide (c.phase = .defer) && !s.bit (F.CBUS_STAT_CRS m.val) && !c.txLost
        (may = false → Gives (.cbusAttemptStart m d) s s) ∧
        (may = true → ∃ t, exec (.cbusAttemptStart m d) s = .next t ∧
          t.mac m.val = { c with phase := .attempt, queue := { f with attempts := f.attempts + 1 } :: fs } ∧ t.bit (F.CBUS_STAT_COL m.val) = false ∧
          t.rg (CBUS_CNT m.val 22) = if f.attempts = 0 ∧ d = true then min 0xFFFFFFFF (s.rg (CBUS_CNT m.val 22) + 1) else s.rg (CBUS_CNT m.val 22))) ∧
    (∀ late quiet : Bool, (c.queue = [] ∨ c.phase ≠ .attempt ∨ s.macLoop m.val = true → Gives (.cbusCollision m late quiet) s s) ∧
      ∀ f fs, c.queue = f :: fs → c.phase = .attempt → s.macLoop m.val = false →
        let a := (s.cbusCount m.val 19).cbusCount m.val 31
        let b := if late then a.cbusCount m.val 20 else a
        let e := (((if quiet then b.cbusCount m.val 26 else b).emit (.jam m.val)).putBit (F.CBUS_STAT_COL m.val) true).putBit
          (F.CBUS_STAT_CRS m.val) (!quiet)
        let u := e.setMac m.val { c with
          phase := .backoff (c.backoffSlots (f.collisions + 1)), gen := Config.backoffNext c.gen
          queue := { f with collisions := f.collisions + 1 } :: fs }
        c.backoffSlots (f.collisions + 1) < 2 ^ min (f.collisions + 1) 10 ∧
        (16 ≤ f.attempts → Gives (.cbusCollision m late quiet) s ((u.cbusDiscard m.val 1).flushRest m.val)) ∧
        (f.attempts < 16 → c.flush ≠ none → Gives (.cbusCollision m late quiet) s ((u.cbusDiscard m.val 4).flushRest m.val)) ∧
        (f.attempts < 16 → c.flush = none → Gives (.cbusCollision m late quiet) s u)) ∧
    (∀ k, c.phase = .backoff k → Gives (.cbusBackoffEnd m) s
      ((s.setMac m.val { c with phase := .defer }).putBit (F.CBUS_STAT_COL m.val) false)) ∧
    ((∀ k, c.phase ≠ .backoff k) → Gives (.cbusBackoffEnd m) s s) ∧
    (∀ quiet : Bool, (c.queue = [] ∨ c.phase ≠ .attempt → Gives (.cbusTxEnd m quiet) s s) ∧
      (c.phase = .attempt → s.macLoop m.val = false → ∀ f fs, c.queue = f :: fs → ∃ t, exec (.cbusTxEnd m quiet) s = .next t ∧
        t.out = s.out ++ [.cbus m.val (cbusWire f.bytes)] ∧
        t.mac m.val = { c with
          queue := fs.drop (c.flush.getD 0), phase := .defer, flush := none
          results := c.results ++ [⟨f.tag, 0, f.attempts, f.owner⟩] ++ (fs.take (c.flush.getD 0)).map (fun g => ⟨g.tag, 4, g.attempts, g.owner⟩) } ∧
        t.rg (CBUS_CNT m.val 14) = min 0xFFFFFFFF (s.rg (CBUS_CNT m.val 14) + 1) ∧
        t.rg (CBUS_CNT m.val 15) = min 0xFFFFFFFF (s.rg (CBUS_CNT m.val 15) + (cbusWire f.bytes).length)) ∧
      (c.phase = .attempt → s.macLoop m.val = true → c.flush = none → ∀ f fs, c.queue = f :: fs → ∃ t, exec (.cbusTxEnd m quiet) s = .next t ∧
        t.out = s.out ∧ (t.mac m.val).queue = fs ∧ (t.mac m.val).phase = .defer ∧
        (t.mac m.val).results = c.results ++ [⟨f.tag, 0, f.attempts, f.owner⟩])) ∧
    (s.macOn m.val = false → (∀ d, Gives (.cbusDeferTimeout m d) s s) ∧ ∀ b, Gives (.cbusClkLost m b) s s) ∧
    ((s.macOn m.val = true → let u := (s.cbusDiscard m.val 2).flushRest m.val
        let stuck (v : State) : State := (((v.setMac m.val { v.mac m.val with stuck := true }).putBit
          (F.CBUS_STAT_CRS m.val) true).putBit (F.CBUS_STAT_CRS_STUCK m.val) true).latch 48
        Gives (.cbusDeferTimeout m .head) s u ∧ Gives (.cbusDeferTimeout m .carrier) s (stuck s) ∧
        Gives (.cbusDeferTimeout m .held) s (stuck u)) ∧
      (c.txLost = true → Gives (.cbusClkLost m true) s s) ∧ (c.rxLost = true → Gives (.cbusClkLost m false) s s) ∧
      (s.macOn m.val = true →
        let u := iterate (fun u => u.cbusDiscard m.val 3) c.queue.length (s.setMac m.val { c with flush := none })
        (c.txLost = false → Gives (.cbusClkLost m true) s
          (((u.setMac m.val { u.mac m.val with txLost := true }).putBit (F.CBUS_STAT_CLK_LOST m.val) true).latch 48)) ∧
        (c.rxLost = false → Gives (.cbusClkLost m false) s
          ((((s.setMac m.val { c with rxLost := true }).cbusCount m.val 13).putBit (F.CBUS_STAT_CLK_LOST m.val) true).latch 48)))) ∧
    Gives (.cbusClkReturn m true) s (s.setMac m.val { c with txLost := false }) ∧
    Gives (.cbusClkReturn m false) s (s.setMac m.val { c with rxLost := false }) ∧
    Gives (.carrierFall m) s (((s.setMac m.val { c with stuck := false }).putBit (F.CBUS_STAT_CRS m.val) false).putBit
      (F.CBUS_STAT_COL m.val) false) ∧
    (c.results = [] → Gives (.resPop m) s s) ∧
    (∀ r rs, c.results = r :: rs → Gives (.resPop m) s ((s.setMac m.val { c with results := rs }).finish r.owner 0x60 0 (beBytes 4 r.image))) ∧
    (c.rx = [] → Gives (.rxPop m) s s ∧ Gives (.cbusRxData m) s (s.emit (.data 0))) ∧
    (∀ r rs, c.rx = r :: rs →
      Gives (.rxPop m) s ((s.setMac m.val { c with rx := rs }).notify 7
        ([BitVec.ofNat 8 m.val, 0, 0, 0] ++ beBytes 4 r.stat ++ beBytes 8 r.ts ++ r.bytes)) ∧
      ∃ t, exec (.cbusRxData m) s = .next t ∧ t.out = s.out ++ [.data (leAt r.bytes r.pos 4)] ∧
        t.mac m.val = { c with rx := { r with pos := min r.bytes.length (r.pos + 4) } :: rs }) ∧
    (∀ f : CbusRx, f.mac = m →
      (s.macOn m.val = false ∨ c.rxLost = true ∨ c.phase = .attempt ∨ (c.jabber = true ∧ f.quiet = false) → Gives (.cbusFrameRx f) s s) ∧
      (s.macOn m.val = true → c.rxLost = false → c.phase ≠ .attempt → (c.jabber = false ∨ f.quiet = true) →
        Gives (.cbusFrameRx f) s ((s.setMac m.val { c with jabber := false }).cbusReceive f)) ∧
      (s.macOn m.val = false ∨ c.rxLost = true ∨ c.phase = .attempt ∨ (c.jabber = true ∧ f.quiet = false) → Gives (.cbusJabber f) s s) ∧
      (s.macOn m.val = true → c.rxLost = false → c.phase ≠ .attempt → (c.jabber = false ∨ f.quiet = true) →
        let u := (s.cbusReceive f).cbusCount m.val 12;
        Gives (.cbusJabber f) s ((((u.setMac m.val { u.mac m.val with jabber := true }).putBit (F.CBUS_STAT_CRS m.val) true).putBit
          (F.CBUS_STAT_JABBER m.val) true).latch 48))) ∧
    (∀ (p r : Fin 32) (d : BitVec 16),
      (c.mdio ≠ none → Gives (.mdioWrite m p r d) s s ∧ Gives (.mdioRead m p r) s s) ∧
      (c.mdio = none → s.macOn m.val = false →
        (∃ t, exec (.mdioWrite m p r d) s = .next t ∧ t.out = s.out ∧ t.get (F.CBUS_MDIO_PHYAD m.val) = p.val ∧
          t.get (F.CBUS_MDIO_REGAD m.val) = r.val ∧ t.get (F.CBUS_MDIO_DATA m.val) = d.toNat ∧ OnlyRegs [CBUS_MDIO m.val] s t) ∧
        ∃ t, exec (.mdioRead m p r) s = .next t ∧ t.out = s.out ∧ t.get (F.CBUS_MDIO_PHYAD m.val) = p.val ∧
          t.get (F.CBUS_MDIO_REGAD m.val) = r.val ∧ OnlyRegs [CBUS_MDIO m.val] s t) ∧
      (c.mdio = none → s.macOn m.val = true →
        (∃ t, exec (.mdioWrite m p r d) s = .next t ∧ t.out = s.out ++ [.mdio m.val true p.val r.val d.toNat] ∧ (t.mac m.val).mdio = some (true, d.toNat) ∧
          t.bit (F.CBUS_MDIO_BUSY m.val) = true ∧ t.get (F.CBUS_MDIO_PHYAD m.val) = p.val ∧ t.get (F.CBUS_MDIO_REGAD m.val) = r.val) ∧
        ∃ t, exec (.mdioRead m p r) s = .next t ∧ t.out = s.out ++ [.mdio m.val false p.val r.val 0] ∧
          (t.mac m.val).mdio = some (false, s.get (F.CBUS_MDIO_DATA m.val)) ∧
          t.bit (F.CBUS_MDIO_BUSY m.val) = true ∧ t.get (F.CBUS_MDIO_PHYAD m.val) = p.val ∧ t.get (F.CBUS_MDIO_REGAD m.val) = r.val)) ∧
    (∀ (ack : Bool) (d : BitVec 16), (c.mdio = none → Gives (.mdioDone m ack d) s s) ∧
      (∀ x, c.mdio = some (true, x) → Gives (.mdioDone m ack d) s ((s.setMac m.val { c with mdio := none }).putBit (F.CBUS_MDIO_BUSY m.val) false)) ∧
      (∀ x, c.mdio = some (false, x) → ∃ t, exec (.mdioDone m ack d) s = .next t ∧ (t.mac m.val).mdio = none ∧
        t.get (F.CBUS_MDIO_DATA m.val) = (if ack then d.toNat else 0xFFFF) ∧ t.bit (F.CBUS_MDIO_NO_ACK m.val) = !ack ∧
        t.bit (F.CBUS_MDIO_BUSY m.val) = false)) ∧
    ∀ key, let waits := partnerKey key && (s.cfgItem secPeripherals key).isSome && (s.partner key).asked;
      (waits = false → Gives (.pollTimeout key) s s) ∧
      (waits = true → ∃ t, exec (.pollTimeout key) s = .next t ∧
        tget t.cbus.partners key = some ⟨min 3 ((s.partner key).misses + 1), false, (s.partner key).reading⟩ ∧
        ∀ k, k ≠ key → tget t.cbus.partners k = tget s.cbus.partners k)

/-! ## Two-wire ports (chapter 14) -/

/-- R404 to R413, R414 to R422: TW0's commands, the events of its transaction and its recovery; a bus that another controller has won
is waited for; TW1's transactions, which the target takes when it acknowledges, and answers with a NACK when it does not, as it
does the bytes of a write beyond those it holds.
The model's own choices here: log 40, 63. -/
def Obligations.TwoWirePortsAct : Prop :=
  ∀ s : State, s.alive = true →
    (∀ how : Recovery,
      (s.bit F.TW0_CFG_EN = true → Gives (.tw0Enable how) s s) ∧
      (s.bit F.TW0_CFG_EN = false → Gives (.tw0Enable how) s ((s.putBit F.TW0_CFG_EN true).tw0Recover how).tw0Next) ∧
      (s.tw0On = true → Gives (.tw0Recover how) s (s.tw0Recover how)) ∧
      (s.tw0On = false → Gives (.tw0Recover how) s s ∧ Gives (.tw0RecoveryRepeat how) s s) ∧
      (s.tw0On = true → (s.tw0.sdaLow || s.tw0.sclLow) = true → Gives (.tw0RecoveryRepeat how) s (s.tw0Recover how)) ∧
      ((s.tw0.sdaLow || s.tw0.sclLow) = false → Gives (.tw0RecoveryRepeat how) s s) ∧
      let u := s.bump F.TW0_CNT_RECOVERIES
      (s.tw0.taken = false → s.tw0Recover .freed = u.emit .tw0Recovery) ∧
      s.tw0Recover .sdaStuck = ((((u.emit .tw0Recovery).setTw0 { u.tw0 with sdaLow := true }).putBit F.TW0_STAT_SDA_STUCK true).latch 49).tw0End 7 0 [] ∧
      s.tw0Recover .sclStuck = (((u.setTw0 { u.tw0 with sclLow := true }).putBit F.TW0_STAT_SCL_STUCK true).latch 49).tw0End 8 0 []) ∧
    Gives (.tw0StuckClear true) s (s.setTw0 { s.tw0 with sdaLow := false }) ∧
    Gives (.tw0StuckClear false) s (s.setTw0 { s.tw0 with sclLow := false }) ∧
    (∀ w : Word32, ∃ t, exec (.tw0Txd w) s = .next t ∧ t.tw0 = { s.tw0 with tx := (s.tw0.tx ++ leBytes 4 w.toNat).take 64 } ∧ OnlyRegs [TW0_STAT] { s with tw0 := t.tw0 } t) ∧
    (∃ t, exec .tw0Rxd s = .next t ∧ t.out = s.out ++ [.data (leAt s.tw0.rx s.tw0.pos 4)] ∧
      t.tw0 = { s.tw0 with pos := min s.tw0.rx.length (s.tw0.pos + 4) }) ∧
    (∀ cmd : BitVec 31, let u := s.tw0Cmd cmd.toNat;
      (s.tw0On = false ∨ s.tw0.run ≠ none → Gives (.tw0Go cmd) s u) ∧
      (s.tw0On = true → s.tw0.run = none → ∃ t r, exec (.tw0Go cmd) s = .next t ∧ t.tw0.run = some r ∧ r.cmd = u.rg TW0_CMD ∧
        r.data.length = u.get F.TW0_CMD_WLEN ∧ (∀ i, i < s.tw0.tx.length → i < r.data.length → r.data[i]? = s.tw0.tx[i]?) ∧
        r.tries = 0 ∧ r.lost = false ∧ t.bit F.TW0_RES_VALID = false)) ∧
    (∀ (cmd : Nat) (bytes : List Byte) (o : Option (Nat × Nat)) (rest : List (Nat × List Byte × Option (Nat × Nat))),
      s.tw0.waits = (cmd, bytes, o) :: rest → s.tw0On = true → s.tw0.run = none →
      s.tw0Next = (s.setTw0 { s.tw0 with waits := rest, tx := bytes }).tw0Go cmd o) ∧
    (s.tw0.waits = [] ∨ s.tw0On = false ∨ s.tw0.run ≠ none → s.tw0Next = s) ∧
    (s.tw0.taken = false → Gives .tw0ArbRetry s s) ∧
    (s.tw0.taken = true → s.tw0.run = none → Gives .tw0ArbRetry s (s.setTw0 { s.tw0 with taken := false })) ∧
    (s.tw0.run = none → ∀ (n : Nat) (l : List Byte) (how : Recovery) (b : Tw0Bus),
      Gives .tw0ArbLost s s ∧ Gives (.tw0Done b) s s ∧ Gives (.tw0Abort n l) s s ∧ Gives (.tw0Timeout n l how) s s) ∧
    (∀ (n : Nat) (l : List Byte), (s.bit F.TW0_CFG_EN = false → Gives (.tw0Disable n l) s s) ∧
      (s.bit F.TW0_CFG_EN = true → s.tw0.run = none → Gives (.tw0Disable n l) s (s.putBit F.TW0_CFG_EN false))) ∧
    (∀ r, s.tw0.run = some r →
      let addr := fieldOf r.cmd 22 7
      let wlen := fieldOf r.cmd 15 7
      let rlen := fieldOf r.cmd 8 7
      (∀ (n : Nat) (l : List Byte) (how : Recovery), Gives (.tw0Abort n l) s (s.tw0End 9 (min n wlen) l) ∧
        (s.bit F.TW0_CFG_EN = true → Gives (.tw0Disable n l) s ((s.putBit F.TW0_CFG_EN false).tw0End 9 (min n wlen) l)) ∧
        Gives (.tw0Timeout n l how) s ((s.tw0End 4 (min n wlen) l).tw0Recover how)) ∧
      (s.tw0.taken = true → Gives .tw0ArbLost s s ∧ ∀ b, Gives (.tw0Done b) s s) ∧
      (s.tw0.taken = true → r.lost = true → Gives .tw0ArbRetry s
        (s.setTw0 { s.tw0 with taken := false, run := some { r with lost := false, tries := r.tries + 1 } })) ∧
      (s.tw0.taken = true → r.lost = false → Gives .tw0ArbRetry s (s.setTw0 { s.tw0 with taken := false, run := some r })) ∧
      (s.tw0.taken = false →
        (let u := (s.putBit F.TW0_STAT_ARB_LOST true).bump F.TW0_CNT_ARB_LOSSES;
          Gives .tw0ArbLost s (if u.get F.TW0_CFG_ARB_RETRY ≤ r.tries then (u.setTw0 { u.tw0 with taken := true }).tw0End 3 0 []
            else u.setTw0 { u.tw0 with run := some { r with lost := true }, taken := true }) ∧
          (u.get F.TW0_CFG_ARB_RETRY ≤ r.tries → s.tw0.waits = [] →
            ((u.setTw0 { u.tw0 with taken := true }).tw0End 3 0 []).bit F.TW0_STAT_BUS_BUSY = true))) ∧
      (s.tw0.taken = false → s.tw0.sdaLow = false → s.tw0.sclLow = false → ∀ b : Tw0Bus,
        let addrW : Byte := BitVec.ofNat 8 (2 * addr)
        let addrR : Byte := BitVec.ofNat 8 (2 * addr + 1)
        let writes := wlen ≠ 0 ∨ rlen = 0
        let sent := r.data ++ (if fieldOf r.cmd 30 1 = 1 ∧ rlen = 0 ∧ wlen ≠ 0 then [pec (addrW :: r.data)] else [])
        let w := if writes then s.emit (.tw0 (2 * addr) (if b.ackW then sent.take (b.acked + 1) else [])) else s
        (writes → b.ackW = false → Gives (.tw0Done b) s (w.tw0End 1 0 [])) ∧
        ((¬ writes ∨ b.ackW = true) →
          (b.acked < sent.length → Gives (.tw0Done b) s (w.tw0End 2 (min b.acked wlen) [])) ∧
          (sent.length ≤ b.acked → rlen = 0 → Gives (.tw0Done b) s (w.tw0End 0 wlen [])) ∧
          (sent.length ≤ b.acked → rlen ≠ 0 → b.ackR = false → Gives (.tw0Done b) s ((w.emit (.tw0 (2 * addr + 1) [])).tw0End 1 wlen [])) ∧
          (sent.length ≤ b.acked → rlen ≠ 0 → b.ackR = true →
            let bus := (if writes then addrW :: r.data else []) ++ [addrR]
            let res := tw0Read r.cmd bus b.read
            Gives (.tw0Done b) s ((w.emit (.tw0 (2 * addr + 1) [])).tw0End res.1 wlen res.2) ∧
            (fieldOf r.cmd 29 1 = 0 → res.2 = padRead rlen b.read ∧
              (fieldOf r.cmd 30 1 = 0 → res.1 = 0) ∧
              (fieldOf r.cmd 30 1 = 1 → ∀ d p, b.read = d ++ [p] → d.length = rlen → res = (if p = pec (bus ++ d) then 0 else 5, d))) ∧
            (fieldOf r.cmd 29 1 = 1 → ∀ c d, b.read = c :: d →
              (c = 0 ∨ rlen < c.toNat → res = (6, [c])) ∧
              (c ≠ 0 → c.toNat ≤ rlen → (fieldOf r.cmd 30 1 = 0 → res = (0, padRead (c.toNat + 1) b.read)) ∧
                (fieldOf r.cmd 30 1 = 1 → ∀ e p, d = e ++ [p] → e.length = c.toNat →
                  res = (if p = pec (bus ++ c :: e) then 0 else 5, c :: e)))))))) ∧
    ∀ a : BitVec 7,
      (s.tw1Acks a.toNat = false → ∀ (l : List Byte) (n : Nat) (c : Tw1Cut) (i : Instr),
        i ∈ [Instr.tw1Write a l, .tw1Read a n, .tw1ProtocolError a c, .tw1Timeout a c] →
        ∃ t, exec i s = .next t ∧ t = { s with tw1 := ⟨false⟩, out := s.out ++ [.tw1Nack] }) ∧
      (s.tw1Acks a.toNat = true →
        (∀ l : List Byte, (s.bit F.TW1_CFG_PEC_EN = false ∨ l.length ≤ 66 → Gives (.tw1Write a l) s (s.tw1Write a.toNat l)) ∧
          (s.bit F.TW1_CFG_PEC_EN = true → Gives (.tw1Write a l) s
            (({ s with out := s.out ++ List.replicate (l.length - 66) .tw1Nack } : State).tw1Write a.toNat l))) ∧
        (∀ n : Nat, let r := s.tw1Read none [] n; Gives (.tw1Read a n) s (r.1.emit (.tw1 r.2))) ∧
        (∀ l : List Byte, let u := if s.bit F.TW1_CFG_PEC_EN then s.tw1Holds l else s.tw1Write a.toNat l;
          Gives (.tw1Timeout a (.write l)) s (((u.putBit F.TW1_STAT_TIMEOUT true).bump F.TW1_CNT_TIMEOUTS).latch 50) ∧
          ∃ t, exec (.tw1ProtocolError a (.write l)) s = .next t ∧
            t = { ((u.bump F.TW1_CNT_TW_PROTO_ERR).latch 50) with tw1 := ⟨true⟩, pending := s.pending }) ∧
        ∀ n : Nat, let r := s.tw1Read none [] n; let u := r.1.emit (.tw1 r.2);
          Gives (.tw1Timeout a (.read n)) s (((u.putBit F.TW1_STAT_TIMEOUT true).bump F.TW1_CNT_TIMEOUTS).latch 50) ∧
          ∃ t, exec (.tw1ProtocolError a (.read n)) s = .next t ∧
            t = { ((u.bump F.TW1_CNT_TW_PROTO_ERR).latch 50) with tw1 := ⟨true⟩, pending := s.pending })

/-! ## Mortar and DMA (chapter 15) -/

/-- R424 to R434: the requests of masters that are not resetting are routed and served, those of a resetting one are held until it
has drained; the debug port's requests are those of master 7, which has a path at FULL alone. R435 to R444: DMA channels stand IDLE when
enabled, a doorbell starts them, a descriptor read is legal, denied or run, one that no path of the shared SRAM takes ends with status 6,
every beat that fails counts (R429), an END moves its data and answers by its beats, an ABORT keeps what landed, and a channel that goes
OFF begins again at descriptor 0; a completion queue starts empty, and its TAIL lets waiting records in. R461: a Mortar read beat of shared SRAM that meets
a row with an uncorrectable error fails and latches SHRAM_UE, until a write to the row.
The model's own choices here: log 64. -/
def Obligations.MortarAndDmaAct : Prop :=
  (∀ (s : State) (x : MortarRun), s.drains x.req = false → x.req.badBeats.contains x.done = false → reqRegs x.req = false →
    x.req.aim = .address → x.req.write = false →
    s.sramFails (x.req.addr.toNat + (reqBeat x.req x.done).1) (reqBeat x.req x.done).2 = true →
    (s.runBeat x).1 = s.latch 9 ∧ (s.runBeat x).2.bad = x.bad + 1) ∧
  (∀ (s : State) (a n : Nat), (s.healRows a n).sramFails a n = false ∧
    (s.healRows a n).mortar.badRows = s.mortar.badRows.filter (fun r => !(decide (0x30000000 + 8 * r < a + n) && decide (a < 0x30000000 + 8 * r + 8)))) ∧
  ∀ s : State, s.alive = true →
    (∀ rs : List MortarReq, (∀ r ∈ rs, s.drains r = false) →
      Gives (.mortarRequest rs) s (s.mortarServe (rs.filter (fun r => reqFits r)))) ∧
    (∀ r : MortarReq, s.drains r = true → reqFits r = true →
      Gives (.mortarRequest [r]) s { s with mortar := { s.mortar with held := s.mortar.held ++ [r] } }) ∧
    (∀ m : Fin 20, (s.bit (F.MORTAR_MST_STAT_RESETTING m.val) = false → Gives (.drainEnd m) s s) ∧
      (s.bit (F.MORTAR_MST_STAT_RESETTING m.val) = true →
        let u := s.putBit (F.MORTAR_MST_STAT_RESETTING m.val) false
        let v : State := { u with mortar := { u.mortar with
          held := u.mortar.held.filter (fun r => r.master.val != m.val), drains := u.mortar.drains.filter (fun b => 8 + b / 8 != m.val) } }
        Gives (.drainEnd m) s (v.mortarServe (u.mortar.held.filter (fun r => r.master.val == m.val))) ∧
        ∀ r : MortarReq, r.master = m → v.drains r = false)) ∧
    (∀ q : MortarReq, s.tapOn = true →
      Gives (.mortar q) s (effMortarRequest [{ q with master := 7 }] s.tapSeen) ∧
      (s.get F.DBG_LEVEL_LEVEL ≠ 2 → ∀ t, s.hasPath { q with master := 7 } t = false)) ∧
    (∀ c : Fin 32, let st := s.dmaState c.val;
      (s.bit (F.DMA_CH_CFG_EN c.val) = true → Gives (.dmaChannelEnable c) s s) ∧
      (s.bit (F.DMA_CH_CFG_EN c.val) = false →
        let u := s.putBit (F.DMA_CH_CFG_EN c.val) true
        (s.bit F.DMA_CFG_EN = false → Gives (.dmaChannelEnable c) s u) ∧
        (s.bit F.DMA_CFG_EN = true → Gives (.dmaChannelEnable c) s (u.dmaIdleAt c.val false))) ∧
      (st = dmaOff → Gives (.ring c) s s) ∧
      (st ≠ dmaOff → Gives (.ring c) s ((s.bump (F.DMA_CH_STAT_PEND c.val)).dmaWake c.val)) ∧
      (∀ i : BitVec 12,
        let u := s.put (F.DMA_CH_CTL_NEW_IDX c.val) i.toNat
        let v := (u.put (F.DMA_CH_STAT_IDX c.val) i.toNat).put (F.DMA_CH_STAT_PEND c.val) 0
        (st = dmaOff → Gives (.setIdx c i) s v) ∧ (st = dmaIdle ∨ st = dmaHalted → Gives (.setIdx c i) s (v.dmaIdleAt c.val false)) ∧
        (st ≠ dmaOff → st ≠ dmaIdle → st ≠ dmaHalted → Gives (.setIdx c i) s u)) ∧
      (∀ n : Nat, ((s.dch c.val).desc = none ∨ st ≠ dmaRun → Gives (.dmaAbort c n) s s) ∧
        (st = dmaRun → ∀ x, (s.dch c.val).desc = some x →
          let k := if (s.dch c.val).part then min n (beatsOf x.dst x.len).length else 0
          let off := ((beatsOf x.dst x.len).getD k (x.len, 0)).1
          Gives (.dmaAbort c n) s ((s.dmaMove x ⟨none, [], k, false⟩).dmaEnd c.val 7 x off (if off < x.len then x.dst + off else 0) .aborted))) ∧
      (st ≠ dmaFetch → ∀ how, Gives (.dmaDescriptorFetched c how) s s) ∧
      (st = dmaFetch →
        let a := s.descAddr c.val (s.get (F.DMA_CH_STAT_IDX c.val))
        let at_ := if (s.dch c.val).reread then (a + 8, 8) else (a, 32)
        let fails := s.sramFails at_.1 at_.2
        let w := s.sharedPath 1 at_.1 at_.2
        let bad := fun (u : State) =>
          let v := ((((u.put (F.DMA_CH_STAT_LAST c.val) 6).bump (F.DMA_CH_CNT_DONE c.val)).bump (F.DMA_CH_CNT_BAD c.val)).bump
            F.DMA_CNT_BAD).latch 14
          v.cqAppend c.val (v.get (F.DMA_CH_CFG_ERR_CQ c.val)) (v.dmaRecord c.val 6 0 0 at_.1) .halt
        (a + 32 ≤ 0x303F8000 → 0x30000000 ≤ a → w = (s, true)) ∧
        (w.2 = true → fails = true → ∀ how, Gives (.dmaDescriptorFetched c how) s (bad ((w.1.latch 9).bump (F.MORTAR_MST_CNT_ERRS 1)))) ∧
        (w.2 = true → fails = false → Gives (.dmaDescriptorFetched c .error) s (bad (w.1.bump (F.MORTAR_MST_CNT_ERRS 1)))) ∧
        (w.2 = true → fails = false → Gives (.dmaDescriptorFetched c .parity) s
          (bad ((w.1.bump (F.MORTAR_MST_CNT_ERRS 1)).mortarParity 1 (memTarget at_.1) at_.1))) ∧
        (w.2 = false → ∀ how, Gives (.dmaDescriptorFetched c how) s (bad (if fails then w.1.latch 9 else w.1))) ∧
        (w.2 = true → fails = false → (s.dch c.val).reread = true → Gives (.dmaDescriptorFetched c .done) s
          (if (leAt (w.1.winBytes 8 (a + 8)) 4 4).testBit 31 then w.1.dmaIdleAt c.val true
           else (w.1.put (F.DMA_CH_STAT_IDX c.val) (w.1.dmaNext c.val)).dmaIssue c.val false)) ∧
        (w.2 = true → fails = false → (s.dch c.val).reread = false →
          let d := w.1.readDesc a
          (descLegal d.1 d.2 = false → Gives (.dmaDescriptorFetched c .done) s (w.1.dmaEnd c.val 4 d.1 0 0 d.1.after)) ∧
          (descLegal d.1 d.2 = true → w.1.descDenied c.val d.1 = true →
            Gives (.dmaDescriptorFetched c .done) s (w.1.dmaEnd c.val 5 d.1 0 0 d.1.after)) ∧
          (descLegal d.1 d.2 = true → w.1.descDenied c.val d.1 = false → Gives (.dmaDescriptorFetched c .done) s
            ((w.1.setDch c.val { w.1.dch c.val with desc := some d.1, part := false }).dmaTo c.val dmaRun).giveParts))) ∧
      (∀ b : DmaBeats,
        ((s.dch c.val).desc = none ∨ st ≠ dmaRun ∨ (s.dch c.val).part = false → Gives (.dmaDescriptorEnd c b) s s) ∧
        (st = dmaRun → (s.dch c.val).part = true → ∀ x, (s.dch c.val).desc = some x →
          let e := beatsIssued x b
          let f := { e with readBad := (s.sourceRow x e).or e.readBad }
          let r := dmaStatus x f
          let off := fun (l : List (Nat × Nat)) (k : Nat) => (l.getD k (0, 0)).1
          (s.mortar.badRows = [] → s.sourceRow x e = none) ∧
          (∀ k, s.sourceRow x e = some k → s.sramFails (x.src + off (beatsOf x.src x.len) k) ((beatsOf x.src x.len).getD k (0, 0)).2 = true →
            e.writeBad = [] → s.beatsFail x e = (s.latch 9).bump (F.MORTAR_MST_CNT_ERRS 1)) ∧
          (s.sourceRow x e = none → e.readBad = none →
            s.beatsFail x e = e.writeBad.foldl (fun u k => u.beatFails 2 (x.dst + off (beatsOf x.dst x.len) k) e.parity) s) ∧
          (s.sourceRow x e = none → ∀ k, e.readBad = some k → e.writeBad = [] →
            s.beatsFail x e = s.beatFails 1 (x.src + off (beatsOf x.src x.len) k) e.parity) ∧
          Gives (.dmaDescriptorEnd c b) s (((s.beatsFail x e).dmaMove x f).dmaEnd c.val r.1 x r.2.1 r.2.2 x.after)))) ∧
    (∀ l, (s.bit F.DMA_CFG_EN = false → Gives (.dmaDisable l) s s) ∧
      (s.bit F.DMA_CFG_EN = true →
        let r := l.foldl (fun (s : State) (e : Fin 32 × Nat) => match (s.dch e.1.val).desc with
          | some x => if s.dmaState e.1.val == dmaRun && (s.dch e.1.val).part then s.dmaMove x ⟨none, [], e.2, false⟩ else s
          | none => s) (s.putBit F.DMA_CFG_EN false)
        let u := (List.range 32).foldl (fun (s : State) (c : Nat) => s.dmaStop c) r
        Gives (.dmaDisable l) s ((u.masterReset 1).masterReset 2) ∧ u.bit F.DMA_CFG_EN = false ∧
        (∀ c : Fin 32, u.dch c.val = DmaCh.rest ∧ u.dmaState c.val = dmaOff ∧ u.get (F.DMA_CH_STAT_IDX c.val) = 0) ∧ (l = [] → u.mem = s.mem))) ∧
    ∀ q : Fin 16, (s.bit (F.DMA_CQ_CFG_EN q.val) = true → Gives (.dmaCqEnable q) s s) ∧
      (s.bit (F.DMA_CQ_CFG_EN q.val) = false →
        let t := ((s.putBit (F.DMA_CQ_CFG_EN q.val) true).setRg (DMA_CQ_PTR q.val) 0).put (F.DMA_CQ_STAT_GEN q.val) 1
        Gives (.dmaCqEnable q) s t ∧ t.bit (F.DMA_CQ_CFG_EN q.val) = true ∧
        t.get (F.DMA_CQ_PTR_HEAD q.val) = 0 ∧ t.get (F.DMA_CQ_PTR_TAIL q.val) = 0 ∧ t.get (F.DMA_CQ_STAT_GEN q.val) = 1) ∧
      ∀ x : BitVec 12, Gives (.dmaCqTail q x) s ((s.put (F.DMA_CQ_PTR_TAIL q.val) x.toNat).cqServe q.val)

/-! ## Power states and DORMANT (chapter 17) -/

/-- R468 to R476, Tables 17.1 to 17.4: DORMANT is decided, entered once every output is mute, deepened and left as the events of the
power unit say: each acts in the state it belongs to and changes nothing in another.
The model's own choices here: log 7, 46. -/
def Obligations.PowerEventsAct : Prop :=
  ∀ s : State, s.alive = true →
    Gives .scheduleOccurrence s (s.unbar .dormant).checkDormant ∧
    (∀ timer : Option Nat,
      (let u := s.setTimer timer
        let may := decide (u.pwrBlock = 0) && !u.inTransition && u.enterable 2;
        (may = false → Gives (.dormantDecide timer) s u) ∧
        (may = true → Gives (.dormantDecide timer) s (if u.policyActs then
          (let t := ({ u with pwr := { u.pwr with entering := true } }).muteAllOuts .dormant
           if t.rg STORE_JRN_START ≤ t.rg STORE_JRN_SEQ then t.ownCompaction else t)
        else u.propose .dormant))) ∧
      (s.pwr.entering = false ∨ s.allMuted = false → Gives (.dormantEnter timer) s s) ∧
      (s.pwr.entering = true → s.allMuted = true → let port := if s.bit F.PWR_CFG_P3_AUTO then (s.linkedPorts.head?).getD (s.get F.PWR_CFG_P3_PORT) else s.get F.PWR_CFG_P3_PORT
        let r := { s with
          pwr := { s.pwr with
            entering := false, flashAt := s.node.uptime, keepAt := s.node.uptime
            waking := none, due := none, p3port := port }
          audio := { s.audio with running := false } }
        let q := (((r.gatesStop.setMode .dormant).put F.PWR_STAT_STATE 2).bump F.PWR_CNT_ENTRIES).settleAmp
        let u := (List.range 4).foldl (fun s m => if s.bit (F.CBUS_CFG_EN m) then s.macStop m else s) q
        Gives (.dormantEnter timer) s (u.setTimer timer).deepen ∧ u.node.mode = .dormant ∧ u.get F.PWR_STAT_STATE = 2 ∧
        u.pwr.entering = false ∧ u.audio.running = false) ∧
      (s.resting = false → Gives (.powerDeepen timer) s s ∧ Gives (.powerRise timer) s s) ∧
      (s.resting = true → Gives (.powerDeepen timer) s (s.setTimer timer).deepen ∧ Gives (.powerRise timer) s (s.setTimer timer).rise)) ∧
    (s.sinkTarget = s.get F.PWR_STAT_STATE → s.deepen = s) ∧
    (s.sinkTarget ≠ s.get F.PWR_STAT_STATE → s.policyActs = true → s.deepen = s.goState s.sinkTarget) ∧
    (s.permitted (s.get F.PWR_STAT_STATE) = true → s.rise = s) ∧
    (s.node.mode ≠ .dormant ∨ 4 ≤ s.get F.PWR_STAT_STATE → Gives .keepaliveSend s s) ∧
    (s.node.mode = .dormant → s.get F.PWR_STAT_STATE < 4 → ∃ t, exec .keepaliveSend s = .next t ∧
      (let host := match s.cfgItem secNode 1 with
          | some v => if v.isEmpty then s.hostName else v
          | none => s.hostName
       let reports := s.legsOn.map (fun e => Output.igmp (s.get (F.STR_RX_LEG_CFG_PATH e.1 e.2)) (s.rg (STR_RX_LEG_GRP e.1 e.2))
          (s.rg (STR_RX_LEG_SRC e.1 e.2)) true)
       t = { s with pwr := { s.pwr with keepAt := s.node.uptime }, out := (s.reportWatch (fun _ => true)).out ++ reports ++
          [.dnssd host host 47100 ((List.range 256).filter (fun k => s.bit (F.STR_TX_CFG_EN k))), .presence] }) ∧
      ∀ k j, k < 256 → j < 4 → s.bit (F.STR_RX_LEG_CFG_EN k j) = true →
        .igmp (s.get (F.STR_RX_LEG_CFG_PATH k j)) (s.rg (STR_RX_LEG_GRP k j)) (s.rg (STR_RX_LEG_SRC k j)) true ∈ t.out) ∧
    (let moored := s.resting && decide (s.get F.PWR_STAT_STATE = 4);
      ((moored && s.pwr.moored.isSome) = false → Gives .mooredRelock s s) ∧
      ((moored && s.pwr.moored.isSome) = true → Gives .mooredRelock s (s.doze 1 0)) ∧
      (∀ p : Fin 4, let wakes := moored && s.bit (F.NET_PORT_CFG_EN p.val) && (s.get F.PWR_WAKE_CFG_LINK).testBit p.val;
        (wakes = false → Gives (.linkWake p) s s) ∧ (wakes = true → Gives (.linkWake p) s (s.doze 3 p.val).floor30)) ∧
      ∀ j : Fin 16, let wakes := moored && (s.get F.PWR_WAKE_CFG_TCAP).testBit j.val;
        (wakes = false → Gives (.tcapWake j) s s) ∧ (wakes = true → Gives (.tcapWake j) s (s.doze 4 j.val).floor30)) ∧
    (s.pwr.relock = none ∨ s.relocking = true → Gives .relockEnd s s) ∧
    (s.pwr.relock ≠ none → s.relocking = false →
      Gives .relockEnd s { s with pwr := { s.pwr with relock := none, moored := none } }) ∧
    (let fails := s.resting && s.blockRest.any (fun b => b);
      (fails = false → Gives .leaveDormant s s) ∧
      (fails = true → s.paired = false → Gives .leaveDormant s (s.awaken 6 0 false)) ∧
      (fails = true → s.paired = true →
        let r := s.forgetBlk.goState 2
        Gives .leaveDormant s { r with
          pwr := { r.pwr with waking := some (6, 0) }, node := { r.node with phase := .listen .lead false, heard := false } }))
end

