-- ==== Sys2Proof/Laws/Dispatch.lean ====
section
/-! SUPPORT. The meaning each command is given: `exec` of a constructor is the call of its arm. -/

namespace Sys2Proof.Machine

theorem exec_powerOn {straps} {density} (s : State) :
    exec (.powerOn straps density) s = execPowerOn straps density s := rfl
theorem exec_resetNRise {straps} {density} (s : State) :
    exec (.resetNRise straps density) s = execResetNRise straps density s := rfl
theorem exec_resetNLow {group} {image} (s : State) :
    exec (.resetNLow group image) s = execResetNLow group image s := rfl
theorem exec_listenWindowEnd (s : State) :
    exec (.listenWindowEnd) s = execListenWindowEnd s := rfl
theorem exec_startGateTimeout (s : State) :
    exec (.startGateTimeout) s = execStartGateTimeout s := rfl
theorem exec_imageStart (s : State) :
    exec (.imageStart) s = execImageStart s := rfl
theorem exec_resetFaultStart (s : State) :
    exec (.resetFaultStart) s = execResetFaultStart s := rfl
theorem exec_firmwareUpdateDone (s : State) :
    exec (.firmwareUpdateDone) s = execFirmwareUpdateDone s := rfl
theorem exec_sampleTick {i} (s : State) :
    exec (.sampleTick i) s = execSampleTick i s := rfl
theorem exec_brickOverrun {b} {c} (s : State) :
    exec (.brickOverrun b c) s = execBrickOverrun b c s := rfl
theorem exec_gainRampEnd {i} (s : State) :
    exec (.gainRampEnd i) s = execGainRampEnd i s := rfl
theorem exec_fadeEnd {i} (s : State) :
    exec (.fadeEnd i) s = execFadeEnd i s := rfl
theorem exec_programWaitEnd {d} (s : State) :
    exec (.programWaitEnd d) s = execProgramWaitEnd d s := rfl
theorem exec_patchEntryRewrite {i} (s : State) :
    exec (.patchEntryRewrite i) s = execPatchEntryRewrite i s := rfl
theorem exec_meterWindowEnd {j} (s : State) :
    exec (.meterWindowEnd j) s = execMeterWindowEnd j s := rfl
theorem exec_delayFadeStart {d} (s : State) :
    exec (.delayFadeStart d) s = execDelayFadeStart d s := rfl
theorem exec_delayFadeEnd {d} (s : State) :
    exec (.delayFadeEnd d) s = execDelayFadeEnd d s := rfl
theorem exec_dynDetach {i} (s : State) :
    exec (.dynDetach i) s = execDynDetach i s := rfl
theorem exec_lookaheadChange {i} (s : State) :
    exec (.lookaheadChange i) s = execLookaheadChange i s := rfl
theorem exec_groupCommitted {ok} (s : State) :
    exec (.groupCommitted ok) s = execGroupCommitted ok s := rfl
theorem exec_groupApply (s : State) :
    exec (.groupApply) s = execGroupApply s := rfl
theorem exec_codeRunLoaded {l} {index} (s : State) :
    exec (.codeRunLoaded l index) s = execCodeRunLoaded l index s := rfl
theorem exec_bankSwitch {l} {index} (s : State) :
    exec (.bankSwitch l index) s = execBankSwitch l index s := rfl
theorem exec_compactionCommit {ok} (s : State) :
    exec (.compactionCommit ok) s = execCompactionCommit ok s := rfl
theorem exec_compactionRetry (s : State) :
    exec (.compactionRetry) s = execCompactionRetry s := rfl
theorem exec_norEraseDone {a} {ok} (s : State) :
    exec (.norEraseDone a ok) s = execNorEraseDone a ok s := rfl
theorem exec_sessionOpen {client} {nonce} {auth} (s : State) :
    exec (.sessionOpen client nonce auth) s = execSessionOpen client nonce auth s := rfl
theorem exec_sessionClose {h} {reason} (s : State) :
    exec (.sessionClose h reason) s = execSessionClose h reason s := rfl
theorem exec_keepalive {h} (s : State) :
    exec (.keepalive h) s = execKeepalive h s := rfl
theorem exec_notifyAck {h} {seq} (s : State) :
    exec (.notifyAck h seq) s = execNotifyAck h seq s := rfl
theorem exec_sessionIdleTimeout {n} (s : State) :
    exec (.sessionIdleTimeout n) s = execSessionIdleTimeout n s := rfl
theorem exec_clientTimeout {n} (s : State) :
    exec (.clientTimeout n) s = execClientTimeout n s := rfl
theorem exec_proposalTimeout {id} (s : State) :
    exec (.proposalTimeout id) s = execProposalTimeout id s := rfl
theorem exec_notifyResend {n} {seq} (s : State) :
    exec (.notifyResend n seq) s = execNotifyResend n seq s := rfl
theorem exec_identify {r} (s : State) :
    exec (.identify r) s = execIdentify r s := rfl
theorem exec_takeControl {r} (s : State) :
    exec (.takeControl r) s = execTakeControl r s := rfl
theorem exec_dropControl {r} (s : State) :
    exec (.dropControl r) s = execDropControl r s := rfl
theorem exec_read {r} (s : State) :
    exec (.read r) s = execRead r s := rfl
theorem exec_write {r} (s : State) :
    exec (.write r) s = execWrite r s := rfl
theorem exec_group {r} (s : State) :
    exec (.group r) s = execGroup r s := rfl
theorem exec_daymark {r} (s : State) :
    exec (.daymark r) s = execDaymark r s := rfl
theorem exec_compact {v} (s : State) :
    exec (.compact v) s = execCompact v s := rfl
theorem exec_imageOpen {r} (s : State) :
    exec (.imageOpen r) s = execImageOpen r s := rfl
theorem exec_imageData {r} (s : State) :
    exec (.imageData r) s = execImageData r s := rfl
theorem exec_imageCommit {r} (s : State) :
    exec (.imageCommit r) s = execImageCommit r s := rfl
theorem exec_imageTransferIdle (s : State) :
    exec (.imageTransferIdle) s = execImageTransferIdle s := rfl
theorem exec_hold {v} (s : State) :
    exec (.hold v) s = execHold v s := rfl
theorem exec_service {v} (s : State) :
    exec (.service v) s = execService v s := rfl
theorem exec_release {v} (s : State) :
    exec (.release v) s = execRelease v s := rfl
theorem exec_exitService {v} (s : State) :
    exec (.exitService v) s = execExitService v s := rfl
theorem exec_swap {v} (s : State) :
    exec (.swap v) s = execSwap v s := rfl
theorem exec_reset {v} (s : State) :
    exec (.reset v) s = execReset v s := rfl
theorem exec_restep {v} (s : State) :
    exec (.restep v) s = execRestep v s := rfl
theorem exec_realign {v} (s : State) :
    exec (.realign v) s = execRealign v s := rfl
theorem exec_realignExecute (s : State) :
    exec (.realignExecute) s = execRealignExecute s := rfl
theorem exec_resync {v} (s : State) :
    exec (.resync v) s = execResync v s := rfl
theorem exec_replace {v} (s : State) :
    exec (.replace v) s = execReplace v s := rfl
theorem exec_wake {v} (s : State) :
    exec (.wake v) s = execWake v s := rfl
theorem exec_diag {v} (s : State) :
    exec (.diag v) s = execDiag v s := rfl
theorem exec_retest {v} (s : State) :
    exec (.retest v) s = execRetest v s := rfl
theorem exec_proposalAnswer {r} (s : State) :
    exec (.proposalAnswer r) s = execProposalAnswer r s := rfl
theorem exec_subscribe {r} (s : State) :
    exec (.subscribe r) s = execSubscribe r s := rfl
theorem exec_cbusSend {r} (s : State) :
    exec (.cbusSend r) s = execCbusSend r s := rfl
theorem exec_tw0Xfer {r} (s : State) :
    exec (.tw0Xfer r) s = execTw0Xfer r s := rfl
theorem exec_enroll {r} (s : State) :
    exec (.enroll r) s = execEnroll r s := rfl
theorem exec_setMedium {r} {ok} (s : State) :
    exec (.setMedium r ok) s = execSetMedium r ok s := rfl
theorem exec_setDeviceKey {r} {ok} (s : State) :
    exec (.setDeviceKey r ok) s = execSetDeviceKey r ok s := rfl
theorem exec_genSignKey {r} {ok} (s : State) :
    exec (.genSignKey r ok) s = execGenSignKey r ok s := rfl
theorem exec_setOwnerKey {r} {ok} (s : State) :
    exec (.setOwnerKey r ok) s = execSetOwnerKey r ok s := rfl
theorem exec_commit {v} (s : State) :
    exec (.commit v) s = execCommit v s := rfl
theorem exec_seal {v} (s : State) :
    exec (.seal v) s = execSeal v s := rfl
theorem exec_return_ {v} (s : State) :
    exec (.return_ v) s = execReturn v s := rfl
theorem exec_scrap {v} (s : State) :
    exec (.scrap v) s = execScrap v s := rfl
theorem exec_debugLevel {v} (s : State) :
    exec (.debugLevel v) s = execDebugLevel v s := rfl
theorem exec_sdp {r} (s : State) :
    exec (.sdp r) s = execSdp r s := rfl
theorem exec_zeroizeNLow {still} (s : State) :
    exec (.zeroizeNLow still) s = execZeroizeNLow still s := rfl
theorem exec_idcode (s : State) :
    exec (.idcode) s = execIdcode s := rfl
theorem exec_samplePreload {bits} {v} (s : State) :
    exec (.samplePreload bits v) s = execSamplePreload bits v s := rfl
theorem exec_extest {bits} {v} (s : State) :
    exec (.extest bits v) s = execExtest bits v s := rfl
theorem exec_dbgStatus (s : State) :
    exec (.dbgStatus) s = execDbgStatus s := rfl
theorem exec_dbgReq {l} (s : State) :
    exec (.dbgReq l) s = execDbgReq l s := rfl
theorem exec_dbgChal (s : State) :
    exec (.dbgChal) s = execDbgChal s := rfl
theorem exec_dbgUnlock {sig} (s : State) :
    exec (.dbgUnlock sig) s = execDbgUnlock sig s := rfl
theorem exec_diagRead {a} (s : State) :
    exec (.diagRead a) s = execDiagRead a s := rfl
theorem exec_mortar {q} (s : State) :
    exec (.mortar q) s = execMortar q s := rfl
theorem exec_bypass (s : State) :
    exec (.bypass) s = execBypass s := rfl
theorem exec_dbgTapReset (s : State) :
    exec (.dbgTapReset) s = execDbgTapReset s := rfl
theorem exec_dbgTckLoss (s : State) :
    exec (.dbgTckLoss) s = execDbgTckLoss s := rfl
theorem exec_dbgChallengeExpiry (s : State) :
    exec (.dbgChallengeExpiry) s = execDbgChallengeExpiry s := rfl
theorem exec_dbgUnlockBackoffEnd (s : State) :
    exec (.dbgUnlockBackoffEnd) s = execDbgUnlockBackoffEnd s := rfl
theorem exec_registerWrite {m} {a} {wide} {x} (s : State) :
    exec (.registerWrite m a wide x) s = execRegisterWrite m a wide x s := rfl
theorem exec_registerReadClear {m} {a} {wide} (s : State) :
    exec (.registerReadClear m a wide) s = execRegisterReadClear m a wide s := rfl
theorem exec_capturingRead {m} {a} (s : State) :
    exec (.capturingRead m a) s = execCapturingRead m a s := rfl
theorem exec_tmsNowCapture {m} {wide} (s : State) :
    exec (.tmsNowCapture m wide) s = execTmsNowCapture m wide s := rfl
theorem exec_pulseArm {i} {cfg} (s : State) :
    exec (.pulseArm i cfg) s = execPulseArm i cfg s := rfl
theorem exec_pulseDisarm {i} {cfg} (s : State) :
    exec (.pulseDisarm i cfg) s = execPulseDisarm i cfg s := rfl
theorem exec_pulseEdge {i} (s : State) :
    exec (.pulseEdge i) s = execPulseEdge i s := rfl
theorem exec_tcapEdge {j} {fall} {t} (s : State) :
    exec (.tcapEdge j fall t) s = execTcapEdge j fall t s := rfl
theorem exec_pop {j} (s : State) :
    exec (.pop j) s = execPop j s := rfl
theorem exec_ptpSyncRx {d} {m} {t2} (s : State) :
    exec (.ptpSyncRx d m t2) s = execPtpSyncRx d m t2 s := rfl
theorem exec_ptpDelayRespRx {d} {m} (s : State) :
    exec (.ptpDelayRespRx d m) s = execPtpDelayRespRx d m s := rfl
theorem exec_ptpAnnounceRx {d} {m} (s : State) :
    exec (.ptpAnnounceRx d m) s = execPtpAnnounceRx d m s := rfl
theorem exec_ptpDelayReqRx {d} {m} {t4} (s : State) :
    exec (.ptpDelayReqRx d m t4) s = execPtpDelayReqRx d m t4 s := rfl
theorem exec_ptpSyncSend {d} {t} (s : State) :
    exec (.ptpSyncSend d t) s = execPtpSyncSend d t s := rfl
theorem exec_ptpAnnounceSend {d} (s : State) :
    exec (.ptpAnnounceSend d) s = execPtpAnnounceSend d s := rfl
theorem exec_ptpDelayReqSend {d} {t3} (s : State) :
    exec (.ptpDelayReqSend d t3) s = execPtpDelayReqSend d t3 s := rfl
theorem exec_announceReceiptTimeout {d} (s : State) :
    exec (.announceReceiptTimeout d) s = execAnnounceReceiptTimeout d s := rfl
theorem exec_timeStep (s : State) :
    exec (.timeStep) s = execTimeStep s := rfl
theorem exec_rootUnlock (s : State) :
    exec (.rootUnlock) s = execRootUnlock s := rfl
theorem exec_refEvent {r} {t} (s : State) :
    exec (.refEvent r t) s = execRefEvent r t s := rfl
theorem exec_refLoss {r} (s : State) :
    exec (.refLoss r) s = execRefLoss r s := rfl
theorem exec_refFreqUpdate (s : State) :
    exec (.refFreqUpdate) s = execRefFreqUpdate s := rfl
theorem exec_refQualified {r} (s : State) :
    exec (.refQualified r) s = execRefQualified r s := rfl
theorem exec_refSuspectMark (s : State) :
    exec (.refSuspectMark) s = execRefSuspectMark s := rfl
theorem exec_refSuspectClear (s : State) :
    exec (.refSuspectClear) s = execRefSuspectClear s := rfl
theorem exec_switchCommit (s : State) :
    exec (.switchCommit) s = execSwitchCommit s := rfl
theorem exec_switchComplete (s : State) :
    exec (.switchComplete) s = execSwitchComplete s := rfl
theorem exec_wtrExpiry {r} (s : State) :
    exec (.wtrExpiry r) s = execWtrExpiry r s := rfl
theorem exec_holdoverTimeout (s : State) :
    exec (.holdoverTimeout) s = execHoldoverTimeout s := rfl
theorem exec_forceSelect {en} {r} (s : State) :
    exec (.forceSelect en r) s = execForceSelect en r s := rfl
theorem exec_frameReceived {f} (s : State) :
    exec (.frameReceived f) s = execFrameReceived f s := rfl
theorem exec_streamDeadline {k} (s : State) :
    exec (.streamDeadline k) s = execStreamDeadline k s := rfl
theorem exec_linkUp {p} (s : State) :
    exec (.linkUp p) s = execLinkUp p s := rfl
theorem exec_linkDown {p} (s : State) :
    exec (.linkDown p) s = execLinkDown p s := rfl
theorem exec_rateAttemptTimeout {p} (s : State) :
    exec (.rateAttemptTimeout p) s = execRateAttemptTimeout p s := rfl
theorem exec_addressAgeOut {d} {mac} (s : State) :
    exec (.addressAgeOut d mac) s = execAddressAgeOut d mac s := rfl
theorem exec_groupAgeOut {d} {g} (s : State) :
    exec (.groupAgeOut d g) s = execGroupAgeOut d g s := rfl
theorem exec_txRingHead {r} {head} (s : State) :
    exec (.txRingHead r head) s = execTxRingHead r head s := rfl
theorem exec_flashReceived {d} {addr} {mac} {bytes} (s : State) :
    exec (.flashReceived d addr mac bytes) s = execFlashReceived d addr mac bytes s := rfl
theorem exec_handoverEffective (s : State) :
    exec (.handoverEffective) s = execHandoverEffective s := rfl
theorem exec_swapAbandon (s : State) :
    exec (.swapAbandon) s = execSwapAbandon s := rfl
theorem exec_partnerLost (s : State) :
    exec (.partnerLost) s = execPartnerLost s := rfl
theorem exec_flashDormantSend (s : State) :
    exec (.flashDormantSend) s = execFlashDormantSend s := rfl
theorem exec_standbyTurnHot (s : State) :
    exec (.standbyTurnHot) s = execStandbyTurnHot s := rfl
theorem exec_wcPatch {bytes} (s : State) :
    exec (.wcPatch bytes) s = execWcPatch bytes s := rfl
theorem exec_wcMirror {bytes} (s : State) :
    exec (.wcMirror bytes) s = execWcMirror bytes s := rfl
theorem exec_wcBulk {bytes} (s : State) :
    exec (.wcBulk bytes) s = execWcBulk bytes s := rfl
theorem exec_wcSwitch {bytes} (s : State) :
    exec (.wcSwitch bytes) s = execWcSwitch bytes s := rfl
theorem exec_wcStop {bytes} (s : State) :
    exec (.wcStop bytes) s = execWcStop bytes s := rfl
theorem exec_wcStatus {bytes} (s : State) :
    exec (.wcStatus bytes) s = execWcStatus bytes s := rfl
theorem exec_wcAbort {bytes} (s : State) :
    exec (.wcAbort bytes) s = execWcAbort bytes s := rfl
theorem exec_wcUnitJoined {u} (s : State) :
    exec (.wcUnitJoined u) s = execWcUnitJoined u s := rfl
theorem exec_wcRetry (s : State) :
    exec (.wcRetry) s = execWcRetry s := rfl
theorem exec_reliefTakeover {b} (s : State) :
    exec (.reliefTakeover b) s = execReliefTakeover b s := rfl
theorem exec_reliefLoaded {l} (s : State) :
    exec (.reliefLoaded l) s = execReliefLoaded l s := rfl
theorem exec_reliefRun {l} (s : State) :
    exec (.reliefRun l) s = execReliefRun l s := rfl
theorem exec_reliefReady {l} (s : State) :
    exec (.reliefReady l) s = execReliefReady l s := rfl
theorem exec_reliefDone {l} (s : State) :
    exec (.reliefDone l) s = execReliefDone l s := rfl
theorem exec_currentTrip {m} {k} (s : State) :
    exec (.currentTrip m k) s = execCurrentTrip m k s := rfl
theorem exec_retestStart {m} (s : State) :
    exec (.retestStart m) s = execRetestStart m s := rfl
theorem exec_retestEnd {m} (s : State) :
    exec (.retestEnd m) s = execRetestEnd m s := rfl
theorem exec_retriesReset {m} (s : State) :
    exec (.retriesReset m) s = execRetriesReset m s := rfl
theorem exec_senseLost {input} {k} (s : State) :
    exec (.senseLost input k) s = execSenseLost input k s := rfl
theorem exec_senseReturn {input} {k} (s : State) :
    exec (.senseReturn input k) s = execSenseReturn input k s := rfl
theorem exec_railUnderVoltage {r} (s : State) :
    exec (.railUnderVoltage r) s = execRailUnderVoltage r s := rfl
theorem exec_railOverVoltage {r} (s : State) :
    exec (.railOverVoltage r) s = execRailOverVoltage r s := rfl
theorem exec_railRecover {r} (s : State) :
    exec (.railRecover r) s = execRailRecover r s := rfl
theorem exec_diagStepEnd {m} (s : State) :
    exec (.diagStepEnd m) s = execDiagStepEnd m s := rfl
theorem exec_pilotWindowEnd {m} (s : State) :
    exec (.pilotWindowEnd m) s = execPilotWindowEnd m s := rfl
theorem exec_cbusEnable {m} {plca} (s : State) :
    exec (.cbusEnable m plca) s = execCbusEnable m plca s := rfl
theorem exec_cbusDisable {m} (s : State) :
    exec (.cbusDisable m) s = execCbusDisable m s := rfl
theorem exec_cbusFrameRx {f} (s : State) :
    exec (.cbusFrameRx f) s = execCbusFrameRx f s := rfl
theorem exec_cbusFalseCarrier {f} (s : State) :
    exec (.cbusFalseCarrier f) s = execCbusFalseCarrier f s := rfl
theorem exec_cbusJabber {f} (s : State) :
    exec (.cbusJabber f) s = execCbusJabber f s := rfl
theorem exec_cbusTxData {m} {w} (s : State) :
    exec (.cbusTxData m w) s = execCbusTxData m w s := rfl
theorem exec_cbusGo {m} {len} {tag} (s : State) :
    exec (.cbusGo m len tag) s = execCbusGo m len tag s := rfl
theorem exec_cbusFlush {m} (s : State) :
    exec (.cbusFlush m) s = execCbusFlush m s := rfl
theorem exec_cbusAttemptStart {m} {deferred} (s : State) :
    exec (.cbusAttemptStart m deferred) s = execCbusAttemptStart m deferred s := rfl
theorem exec_cbusCollision {m} {late} {noCrs} (s : State) :
    exec (.cbusCollision m late noCrs) s = execCbusCollision m late noCrs s := rfl
theorem exec_cbusBackoffEnd {m} (s : State) :
    exec (.cbusBackoffEnd m) s = execCbusBackoffEnd m s := rfl
theorem exec_cbusTxEnd {m} {noCrs} (s : State) :
    exec (.cbusTxEnd m noCrs) s = execCbusTxEnd m noCrs s := rfl
theorem exec_cbusDeferTimeout {m} {d} (s : State) :
    exec (.cbusDeferTimeout m d) s = execCbusDeferTimeout m d s := rfl
theorem exec_cbusClkLost {m} {tx} (s : State) :
    exec (.cbusClkLost m tx) s = execCbusClkLost m tx s := rfl
theorem exec_cbusClkReturn {m} {tx} (s : State) :
    exec (.cbusClkReturn m tx) s = execCbusClkReturn m tx s := rfl
theorem exec_resPop {m} (s : State) :
    exec (.resPop m) s = execResPop m s := rfl
theorem exec_rxPop {m} (s : State) :
    exec (.rxPop m) s = execRxPop m s := rfl
theorem exec_cbusRxData {m} (s : State) :
    exec (.cbusRxData m) s = execCbusRxData m s := rfl
theorem exec_mdioWrite {m} {phy} {reg} {data} (s : State) :
    exec (.mdioWrite m phy reg data) s = execMdioWrite m phy reg data s := rfl
theorem exec_mdioRead {m} {phy} {reg} (s : State) :
    exec (.mdioRead m phy reg) s = execMdioRead m phy reg s := rfl
theorem exec_mdioDone {m} {ack} {data} (s : State) :
    exec (.mdioDone m ack data) s = execMdioDone m ack data s := rfl
theorem exec_pollTimeout {key} (s : State) :
    exec (.pollTimeout key) s = execPollTimeout key s := rfl
theorem exec_tw0Enable {how} (s : State) :
    exec (.tw0Enable how) s = execTw0Enable how s := rfl
theorem exec_tw0Disable {acked} {read} (s : State) :
    exec (.tw0Disable acked read) s = execTw0Disable acked read s := rfl
theorem exec_tw0Txd {w} (s : State) :
    exec (.tw0Txd w) s = execTw0Txd w s := rfl
theorem exec_tw0Rxd (s : State) :
    exec (.tw0Rxd) s = execTw0Rxd s := rfl
theorem exec_tw0Go {cmd} (s : State) :
    exec (.tw0Go cmd) s = execTw0Go cmd s := rfl
theorem exec_tw0ArbLost (s : State) :
    exec (.tw0ArbLost) s = execTw0ArbLost s := rfl
theorem exec_tw0ArbRetry (s : State) :
    exec (.tw0ArbRetry) s = execTw0ArbRetry s := rfl
theorem exec_tw0Done {b} (s : State) :
    exec (.tw0Done b) s = execTw0Done b s := rfl
theorem exec_tw0Timeout {acked} {read} {how} (s : State) :
    exec (.tw0Timeout acked read how) s = execTw0Timeout acked read how s := rfl
theorem exec_tw0Recover {how} (s : State) :
    exec (.tw0Recover how) s = execTw0Recover how s := rfl
theorem exec_tw0Abort {acked} {read} (s : State) :
    exec (.tw0Abort acked read) s = execTw0Abort acked read s := rfl
theorem exec_tw0RecoveryRepeat {how} (s : State) :
    exec (.tw0RecoveryRepeat how) s = execTw0RecoveryRepeat how s := rfl
theorem exec_tw1Write {addr} {bytes} (s : State) :
    exec (.tw1Write addr bytes) s = execTw1Write addr bytes s := rfl
theorem exec_tw1Read {addr} {n} (s : State) :
    exec (.tw1Read addr n) s = execTw1Read addr n s := rfl
theorem exec_tw1ProtocolError {addr} {cut} (s : State) :
    exec (.tw1ProtocolError addr cut) s = execTw1ProtocolError addr cut s := rfl
theorem exec_tw1Timeout {addr} {cut} (s : State) :
    exec (.tw1Timeout addr cut) s = execTw1Timeout addr cut s := rfl
theorem exec_mortarRequest {qs} (s : State) :
    exec (.mortarRequest qs) s = execMortarRequest qs s := rfl
theorem exec_drainEnd {m} (s : State) :
    exec (.drainEnd m) s = execDrainEnd m s := rfl
theorem exec_dmaDisable {landed} (s : State) :
    exec (.dmaDisable landed) s = execDmaDisable landed s := rfl
theorem exec_dmaChannelEnable {c} (s : State) :
    exec (.dmaChannelEnable c) s = execDmaChannelEnable c s := rfl
theorem exec_dmaCqEnable {q} (s : State) :
    exec (.dmaCqEnable q) s = execDmaCqEnable q s := rfl
theorem exec_ring {c} (s : State) :
    exec (.ring c) s = execRing c s := rfl
theorem exec_setIdx {c} {i} (s : State) :
    exec (.setIdx c i) s = execSetIdx c i s := rfl
theorem exec_dmaAbort {c} {landed} (s : State) :
    exec (.dmaAbort c landed) s = execDmaAbort c landed s := rfl
theorem exec_dmaDescriptorFetched {c} {how} (s : State) :
    exec (.dmaDescriptorFetched c how) s = execDmaDescriptorFetched c how s := rfl
theorem exec_dmaDescriptorEnd {c} {b} (s : State) :
    exec (.dmaDescriptorEnd c b) s = execDmaDescriptorEnd c b s := rfl
theorem exec_dmaCqTail {q} {tail} (s : State) :
    exec (.dmaCqTail q tail) s = execDmaCqTail q tail s := rfl
theorem exec_errNPulseEnd (s : State) :
    exec (.errNPulseEnd) s = execErrNPulseEnd s := rfl
theorem exec_faultClear {m} {mask} (s : State) :
    exec (.faultClear m mask) s = execFaultClear m mask s := rfl
theorem exec_faultAutoClear {k} (s : State) :
    exec (.faultAutoClear k) s = execFaultAutoClear k s := rfl
theorem exec_soft0 {m} (s : State) :
    exec (.soft0 m) s = execSoft0 m s := rfl
theorem exec_soft1 {m} (s : State) :
    exec (.soft1 m) s = execSoft1 m s := rfl
theorem exec_keeperWatchdog (s : State) :
    exec (.keeperWatchdog) s = execKeeperWatchdog s := rfl
theorem exec_scrubPassStart {a} {ended} {corrected} {bad} (s : State) :
    exec (.scrubPassStart a ended corrected bad) s = execScrubPassStart a ended corrected bad s := rfl
theorem exec_tjUpdate {t} (s : State) :
    exec (.tjUpdate t) s = execTjUpdate t s := rfl
theorem exec_supplyMonitor (s : State) :
    exec (.supplyMonitor) s = execSupplyMonitor s := rfl
theorem exec_scheduleOccurrence (s : State) :
    exec (.scheduleOccurrence) s = execScheduleOccurrence s := rfl
theorem exec_dormantDecide {timer} (s : State) :
    exec (.dormantDecide timer) s = execDormantDecide timer s := rfl
theorem exec_dormantEnter {timer} (s : State) :
    exec (.dormantEnter timer) s = execDormantEnter timer s := rfl
theorem exec_powerRise {timer} (s : State) :
    exec (.powerRise timer) s = execPowerRise timer s := rfl
theorem exec_keepaliveSend (s : State) :
    exec (.keepaliveSend) s = execKeepaliveSend s := rfl
theorem exec_mooredRelock (s : State) :
    exec (.mooredRelock) s = execMooredRelock s := rfl
theorem exec_relockEnd (s : State) :
    exec (.relockEnd) s = execRelockEnd s := rfl
theorem exec_linkWake {p} (s : State) :
    exec (.linkWake p) s = execLinkWake p s := rfl
theorem exec_tcapWake {j} (s : State) :
    exec (.tcapWake j) s = execTcapWake j s := rfl
theorem exec_leaveDormant (s : State) :
    exec (.leaveDormant) s = execLeaveDormant s := rfl
theorem exec_returnEraseDone (s : State) :
    exec (.returnEraseDone) s = execReturnEraseDone s := rfl
theorem exec_nop {sl} (s : State) :
    exec (.nop sl) s = execNop sl s := rfl
theorem exec_mac {sl} {k} {al} {sa} {sb} (s : State) :
    exec (.mac sl k al sa sb) s = execMac sl k al sa sb s := rfl
theorem exec_msu {sl} {k} {al} {sa} {sb} (s : State) :
    exec (.msu sl k al sa sb) s = execMsu sl k al sa sb s := rfl
theorem exec_mpy {sl} {k} {al} {sa} {sb} (s : State) :
    exec (.mpy sl k al sa sb) s = execMpy sl k al sa sb s := rfl
theorem exec_mpn {sl} {k} {al} {sa} {sb} (s : State) :
    exec (.mpn sl k al sa sb) s = execMpn sl k al sa sb s := rfl
theorem exec_aclr {sl} {k} (s : State) :
    exec (.aclr sl k) s = execAclr sl k s := rfl
theorem exec_amov {sl} {k} {j} (s : State) :
    exec (.amov sl k j) s = execAmov sl k j s := rfl
theorem exec_aadd {sl} {k} {j} (s : State) :
    exec (.aadd sl k j) s = execAadd sl k j s := rfl
theorem exec_asub {sl} {k} {j} (s : State) :
    exec (.asub sl k j) s = execAsub sl k j s := rfl
theorem exec_aneg {sl} {k} {j} (s : State) :
    exec (.aneg sl k j) s = execAneg sl k j s := rfl
theorem exec_aabs {sl} {k} {j} (s : State) :
    exec (.aabs sl k j) s = execAabs sl k j s := rfl
theorem exec_ashl {sl} {k} {j} {sh} (s : State) :
    exec (.ashl sl k j sh) s = execAshl sl k j sh s := rfl
theorem exec_ashr {sl} {k} {j} {sh} (s : State) :
    exec (.ashr sl k j sh) s = execAshr sl k j sh s := rfl
theorem exec_aldx {sl} {k} {xl} (s : State) :
    exec (.aldx sl k xl) s = execAldx sl k xl s := rfl
theorem exec_ares {sl} {k} {xl} {xm} {xh} (s : State) :
    exec (.ares sl k xl xm xh) s = execAres sl k xl xm xh s := rfl
theorem exec_add {sl} {d} {sa} {sb} (s : State) :
    exec (.add sl d sa sb) s = execAdd sl d sa sb s := rfl
theorem exec_adds {sl} {d} {sa} {sb} (s : State) :
    exec (.adds sl d sa sb) s = execAdds sl d sa sb s := rfl
theorem exec_sub {sl} {d} {sa} {sb} (s : State) :
    exec (.sub sl d sa sb) s = execSub sl d sa sb s := rfl
theorem exec_subs {sl} {d} {sa} {sb} (s : State) :
    exec (.subs sl d sa sb) s = execSubs sl d sa sb s := rfl
theorem exec_and {sl} {d} {sa} {sb} (s : State) :
    exec (.and sl d sa sb) s = execAnd sl d sa sb s := rfl
theorem exec_or {sl} {d} {sa} {sb} (s : State) :
    exec (.or sl d sa sb) s = execOr sl d sa sb s := rfl
theorem exec_xor {sl} {d} {sa} {sb} (s : State) :
    exec (.xor sl d sa sb) s = execXor sl d sa sb s := rfl
theorem exec_shl {sl} {d} {sa} {sb} (s : State) :
    exec (.shl sl d sa sb) s = execShl sl d sa sb s := rfl
theorem exec_shr {sl} {d} {sa} {sb} (s : State) :
    exec (.shr sl d sa sb) s = execShr sl d sa sb s := rfl
theorem exec_asr {sl} {d} {sa} {sb} (s : State) :
    exec (.asr sl d sa sb) s = execAsr sl d sa sb s := rfl
theorem exec_min {sl} {d} {sa} {sb} (s : State) :
    exec (.min sl d sa sb) s = execMin sl d sa sb s := rfl
theorem exec_max {sl} {d} {sa} {sb} (s : State) :
    exec (.max sl d sa sb) s = execMax sl d sa sb s := rfl
theorem exec_abs {sl} {d} {sa} (s : State) :
    exec (.abs sl d sa) s = execAbs sl d sa s := rfl
theorem exec_neg {sl} {d} {sa} (s : State) :
    exec (.neg sl d sa) s = execNeg sl d sa s := rfl
theorem exec_cmp {sl} {sa} {sb} (s : State) :
    exec (.cmp sl sa sb) s = execCmp sl sa sb s := rfl
theorem exec_mpyx {sl} {d} {al} {sa} {sb} (s : State) :
    exec (.mpyx sl d al sa sb) s = execMpyx sl d al sa sb s := rfl
theorem exec_ldi {sl} {d} {imm} (s : State) :
    exec (.ldi sl d imm) s = execLdi sl d imm s := rfl
theorem exec_lsi {sl} {d} {imm} (s : State) :
    exec (.lsi sl d imm) s = execLsi sl d imm s := rfl
theorem exec_cls {sl} {d} {k} (s : State) :
    exec (.cls sl d k) s = execCls sl d k s := rfl
theorem exec_br {sl} {cc} {rel} (s : State) :
    exec (.br sl cc rel) s = execBr sl cc rel s := rfl
theorem exec_call {sl} {cc} {rel} (s : State) :
    exec (.call sl cc rel) s = execCall sl cc rel s := rfl
theorem exec_ret {sl} (s : State) :
    exec (.ret sl) s = execRet sl s := rfl
theorem exec_jmpx {sl} {x} (s : State) :
    exec (.jmpx sl x) s = execJmpx sl x s := rfl
theorem exec_loop {sl} {len} {count} (s : State) :
    exec (.loop sl len count) s = execLoop sl len count s := rfl
theorem exec_loopr {sl} {len} {x} (s : State) :
    exec (.loopr sl len x) s = execLoopr sl len x s := rfl
theorem exec_end_ {sl} (s : State) :
    exec (.end_ sl) s = execEnd sl s := rfl
theorem exec_ld {sl} {dst} {ag} (s : State) :
    exec (.ld sl dst ag) s = execLd sl dst ag s := rfl
theorem exec_st {sl} {src} {ag} (s : State) :
    exec (.st sl src ag) s = execSt sl src ag s := rfl
theorem exec_sta {sl} {k} {fmt} {ag} (s : State) :
    exec (.sta sl k fmt ag) s = execSta sl k fmt ag s := rfl
theorem exec_cvt {sl} {k} {fmt} {dst} (s : State) :
    exec (.cvt sl k fmt dst) s = execCvt sl k fmt dst s := rfl
theorem exec_mov {sl} {dst} {src} (s : State) :
    exec (.mov sl dst src) s = execMov sl dst src s := rfl
theorem exec_mtg {sl} {dest} {src} (s : State) :
    exec (.mtg sl dest src) s = execMtg sl dest src s := rfl
theorem exec_mfg {sl} {fr} {dst} (s : State) :
    exec (.mfg sl fr dst) s = execMfg sl fr dst s := rfl
theorem exec_powerLoss {group} {image} (s : State) :
    exec (.powerLoss group image) s = execPowerLoss group image s := rfl
theorem exec_ptpFollowUpRx {d} {m} (s : State) :
    exec (.ptpFollowUpRx d m) s = execPtpFollowUpRx d m s := rfl
theorem exec_rootPllRelock (s : State) :
    exec (.rootPllRelock) s = execRootPllRelock s := rfl
theorem exec_supplyMonitorReturn (s : State) :
    exec (.supplyMonitorReturn) s = execSupplyMonitorReturn s := rfl
theorem exec_carrierFall {m} (s : State) :
    exec (.carrierFall m) s = execCarrierFall m s := rfl
theorem exec_tw0StuckClear {sda} (s : State) :
    exec (.tw0StuckClear sda) s = execTw0StuckClear sda s := rfl
theorem exec_powerDeepen {timer} (s : State) :
    exec (.powerDeepen timer) s = execPowerDeepen timer s := rfl
theorem exec_egressFrameSent {p} {t} (s : State) :
    exec (.egressFrameSent p t) s = execEgressFrameSent p t s := rfl

end Sys2Proof.Machine
end

