-- ==== Sys2Proof/Laws/Sparse.lean ====
section
/-! SUPPORT. Laws of the sparse maps in canonical form: what a key reads as after an insertion, a removal or a write, and
that each keeps the canonical form. -/

namespace Sys2Proof.Machine

variable {α : Type}

@[simp] theorem cget_nil (d : Nat → α) (a : Nat) : cget d [] a = d a := rfl

theorem cget_cons (d : Nat → α) (b : Nat) (v : α) (m : List (Nat × α)) (a : Nat) :
    cget d ((b, v) :: m) a = if a = b then v else cget d m a := rfl

@[simp] theorem cget_cins_same (d : Nat → α) (m : List (Nat × α)) (a : Nat) (v : α) : cget d (cins m a v) a = v := by
  induction m with
  | nil => simp [cins, cget]
  | cons e m ih =>
    obtain ⟨b, w⟩ := e
    unfold cins
    split
    · simp [cget]
    · split
      · simp [cget]
      · rename_i _ hne
        simp [cget, hne, ih]

theorem cget_cins_ne (d : Nat → α) (m : List (Nat × α)) {a c : Nat} (v : α) (h : c ≠ a) :
    cget d (cins m a v) c = cget d m c := by
  induction m with
  | nil => simp [cins, cget, h]
  | cons e m ih =>
    obtain ⟨b, w⟩ := e
    unfold cins
    split
    · simp [cget, h]
    · split
      · rename_i _ hab
        subst hab
        simp [cget, h]
      · simp [cget, ih]

@[simp] theorem cget_cdel_same (d : Nat → α) (m : List (Nat × α)) (a : Nat) : cget d (cdel m a) a = d a := by
  induction m with
  | nil => rfl
  | cons e m ih =>
    obtain ⟨b, w⟩ := e
    by_cases hb : b = a
    · subst hb; simpa [cdel, List.filter] using ih
    · have : (!((b, w).1 == a)) = true := by simp [hb]
      simp only [cdel, List.filter, this] at ih ⊢
      rw [cget_cons, if_neg (fun h => hb h.symm)]
      exact ih

theorem cget_cdel_ne (d : Nat → α) (m : List (Nat × α)) {a c : Nat} (h : c ≠ a) :
    cget d (cdel m a) c = cget d m c := by
  induction m with
  | nil => rfl
  | cons e m ih =>
    obtain ⟨b, w⟩ := e
    by_cases hb : b = a
    · subst hb
      have : (!((b, w).1 == b)) = false := by simp
      simp only [cdel, List.filter, this] at ih ⊢
      rw [cget_cons, if_neg h]
      exact ih
    · have : (!((b, w).1 == a)) = true := by simp [hb]
      simp only [cdel, List.filter, this] at ih ⊢
      rw [cget_cons, cget_cons, ih]

/-- What a key reads as after a write. -/
theorem cget_cset [DecidableEq α] (d : Nat → α) (m : List (Nat × α)) (a c : Nat) (v : α) :
    cget d (cset d m a v) c = if c = a then v else cget d m c := by
  unfold cset
  split
  · rename_i hv
    by_cases h : c = a
    · subst h; simp [hv]
    · simp [h, cget_cdel_ne d m h]
  · by_cases h : c = a
    · subst h; simp
    · simp [h, cget_cins_ne d m v h]

@[simp] theorem tget_nil (a : Nat) : tget ([] : Tbl α) a = none := rfl

@[simp] theorem tget_cins_same (m : Tbl α) (a : Nat) (v : α) : tget (cins m a v) a = some v := by
  induction m with
  | nil => simp [cins, tget]
  | cons e m ih =>
    obtain ⟨b, w⟩ := e
    unfold cins
    split
    · simp [tget]
    · split
      · simp [tget]
      · rename_i _ hne
        simp [tget, hne, ih]

theorem tget_cins_ne (m : Tbl α) {a c : Nat} (v : α) (h : c ≠ a) : tget (cins m a v) c = tget m c := by
  induction m with
  | nil => simp [cins, tget, h]
  | cons e m ih =>
    obtain ⟨b, w⟩ := e
    unfold cins
    split
    · simp [tget, h]
    · split
      · rename_i _ hab
        subst hab
        simp [tget, h]
      · simp [tget, ih]

@[simp] theorem tget_cdel_same (m : Tbl α) (a : Nat) : tget (cdel m a) a = none := by
  induction m with
  | nil => rfl
  | cons e m ih =>
    obtain ⟨b, w⟩ := e
    by_cases hb : b = a
    · subst hb; simpa [cdel, List.filter] using ih
    · have : (!((b, w).1 == a)) = true := by simp [hb]
      simp only [cdel, List.filter, this] at ih ⊢
      show (if a = b then some w else _) = none
      rw [if_neg (fun h => hb h.symm)]
      exact ih

theorem tget_cdel_ne (m : Tbl α) {a c : Nat} (h : c ≠ a) : tget (cdel m a) c = tget m c := by
  induction m with
  | nil => rfl
  | cons e m ih =>
    obtain ⟨b, w⟩ := e
    by_cases hb : b = a
    · subst hb
      have : (!((b, w).1 == b)) = false := by simp
      simp only [cdel, List.filter, this] at ih ⊢
      show _ = (if c = b then some w else _)
      rw [if_neg h]
      exact ih
    · have : (!((b, w).1 == a)) = true := by simp [hb]
      simp only [cdel, List.filter, this] at ih ⊢
      show (if c = b then some w else _) = (if c = b then some w else _)
      rw [ih]

/-- What a key of a table holds after an entry is set or removed. -/
theorem tget_tput (m : Tbl α) (a c : Nat) (o : Option α) : tget (tput m a o) c = if c = a then o else tget m c := by
  cases o with
  | none =>
    by_cases h : c = a
    · subst h; simp [tput]
    · simp [tput, h, tget_cdel_ne m h]
  | some v =>
    by_cases h : c = a
    · subst h; simp [tput]
    · simp [tput, h, tget_cins_ne m v h]

/-! ## The canonical form -/

theorem rising_cons {e : Nat × α} {m : List (Nat × α)} :
    rising (e :: m) = true ↔ (∀ f ∈ m, e.1 < f.1) ∧ rising m = true := by
  induction m generalizing e with
  | nil => simp [rising]
  | cons f m ih =>
    rw [show rising (e :: f :: m) = (decide (e.1 < f.1) && rising (f :: m)) from rfl, Bool.and_eq_true,
      decide_eq_true_eq]
    constructor
    · rintro ⟨h1, h2⟩
      refine ⟨?_, h2⟩
      intro g hg
      rcases List.mem_cons.1 hg with rfl | hg
      · exact h1
      · exact Nat.lt_trans h1 ((ih.1 h2).1 g hg)
    · rintro ⟨h1, h2⟩
      exact ⟨h1 f List.mem_cons_self, h2⟩

theorem mem_cins {m : List (Nat × α)} {a : Nat} {v : α} {e : Nat × α} (h : e ∈ cins m a v) : e = (a, v) ∨ e ∈ m := by
  induction m with
  | nil => simpa [cins] using h
  | cons f m ih =>
    obtain ⟨b, w⟩ := f
    unfold cins at h
    split at h
    · simpa using h
    · split at h
      · rcases List.mem_cons.1 h with h | h
        · exact .inl h
        · exact .inr (List.mem_cons_of_mem _ h)
      · rcases List.mem_cons.1 h with h | h
        · exact .inr (h ▸ List.mem_cons_self)
        · rcases ih h with h | h
          · exact .inl h
          · exact .inr (List.mem_cons_of_mem _ h)

theorem rising_cins {m : List (Nat × α)} (a : Nat) (v : α) (h : rising m = true) : rising (cins m a v) = true := by
  induction m with
  | nil => rfl
  | cons f m ih =>
    obtain ⟨b, w⟩ := f
    obtain ⟨h1, h2⟩ := rising_cons.1 h
    unfold cins
    split
    · rename_i hlt
      refine rising_cons.2 ⟨?_, h⟩
      intro g hg
      rcases List.mem_cons.1 hg with rfl | hg
      · exact hlt
      · exact Nat.lt_trans hlt (h1 g hg)
    · split
      · rename_i _ hab
        subst hab
        exact rising_cons.2 ⟨h1, h2⟩
      · rename_i hnlt hne
        refine rising_cons.2 ⟨?_, ih h2⟩
        intro g hg
        rcases mem_cins hg with rfl | hg
        · show b < a; omega
        · exact h1 g hg

theorem rising_filter {m : List (Nat × α)} (p : Nat × α → Bool) (h : rising m = true) : rising (m.filter p) = true := by
  induction m with
  | nil => rfl
  | cons f m ih =>
    obtain ⟨h1, h2⟩ := rising_cons.1 h
    rw [List.filter_cons]
    split
    · exact rising_cons.2 ⟨fun g hg => h1 g (List.mem_filter.1 hg).1, ih h2⟩
    · exact ih h2

theorem cwf_iff [DecidableEq α] {d : Nat → α} {m : List (Nat × α)} :
    cwf d m = true ↔ rising m = true ∧ ∀ e ∈ m, e.2 ≠ d e.1 := by
  simp [cwf]

/-- Keeping only some entries keeps the canonical form. -/
theorem cwf_filter [DecidableEq α] {d : Nat → α} {m : List (Nat × α)} (p : Nat × α → Bool) (h : cwf d m = true) :
    cwf d (m.filter p) = true := by
  obtain ⟨h1, h2⟩ := cwf_iff.1 h
  exact cwf_iff.2 ⟨rising_filter p h1, fun e he => h2 e (List.mem_filter.1 he).1⟩

/-- A write keeps the canonical form. -/
theorem cwf_cset [DecidableEq α] {d : Nat → α} {m : List (Nat × α)} (a : Nat) (v : α) (h : cwf d m = true) :
    cwf d (cset d m a v) = true := by
  unfold cset
  split
  · exact cwf_filter _ h
  · rename_i hv
    obtain ⟨h1, h2⟩ := cwf_iff.1 h
    refine cwf_iff.2 ⟨rising_cins a v h1, ?_⟩
    intro e he
    rcases mem_cins he with rfl | he
    · exact hv
    · exact h2 e he

end Sys2Proof.Machine
end

