-- ==== Sys2Proof/Laws/Fields.lean ====
section
/-! SUPPORT. Laws of bit fields and of the register file: what a register and a field read as after a register, a field or
another field is set. -/

namespace Sys2Proof.Machine

/-! ## Bit fields of a number -/

theorem fieldOf_lt (v lo w : Nat) : fieldOf v lo w < 2 ^ w := Nat.mod_lt _ (Nat.two_pow_pos w)

/-- A bit of a field is the bit of the number. -/
theorem testBit_fieldOf (v lo w i : Nat) : (fieldOf v lo w).testBit i = (decide (i < w) && v.testBit (lo + i)) := by
  rw [fieldOf, Nat.testBit_mod_two_pow, Nat.testBit_div_two_pow, Nat.add_comm i lo]

/-- A bit of a number one field of which has been replaced. -/
theorem testBit_withField (v lo w x i : Nat) :
    (withField v lo w x).testBit i = if lo ≤ i ∧ i < lo + w then x.testBit (i - lo) else v.testBit i := by
  have h1 : v % 2 ^ lo < 2 ^ lo := Nat.mod_lt _ (Nat.two_pow_pos lo)
  have h2 : x % 2 ^ w < 2 ^ w := Nat.mod_lt _ (Nat.two_pow_pos w)
  have e : withField v lo w x = 2 ^ (lo + w) * (v / 2 ^ (lo + w)) + (2 ^ lo * (x % 2 ^ w) + v % 2 ^ lo) := by
    unfold withField; ring
  have h3 : 2 ^ lo * (x % 2 ^ w) + v % 2 ^ lo < 2 ^ (lo + w) := by
    rw [pow_add]
    calc 2 ^ lo * (x % 2 ^ w) + v % 2 ^ lo < 2 ^ lo * (x % 2 ^ w) + 2 ^ lo := by omega
      _ = 2 ^ lo * (x % 2 ^ w + 1) := by ring
      _ ≤ 2 ^ lo * 2 ^ w := Nat.mul_le_mul_left _ h2
  rw [e, Nat.testBit_two_pow_mul_add _ h3, Nat.testBit_two_pow_mul_add _ h1, Nat.testBit_div_two_pow,
    Nat.testBit_mod_two_pow, Nat.testBit_mod_two_pow]
  by_cases ha : i < lo
  · rw [if_pos (by omega), if_pos ha, if_neg (by omega)]; simp [ha]
  · by_cases hb : i < lo + w
    · rw [if_pos hb, if_neg ha, if_pos (by omega)]
      simp [show i - lo < w by omega]
    · rw [if_neg hb, if_neg (by omega)]
      congr 1
      omega

/-- The replaced field reads as the new value. -/
theorem fieldOf_withField_same (v lo w x : Nat) : fieldOf (withField v lo w x) lo w = x % 2 ^ w := by
  apply Nat.eq_of_testBit_eq
  intro i
  rw [testBit_fieldOf, testBit_withField, Nat.testBit_mod_two_pow]
  by_cases h : i < w
  · rw [if_pos (by omega), Nat.add_sub_cancel_left]
  · simp [h]

/-- A field that shares no bit with the replaced one reads as before. -/
theorem fieldOf_withField_disjoint {v lo w x lo' w' : Nat} (h : lo' + w' ≤ lo ∨ lo + w ≤ lo') :
    fieldOf (withField v lo w x) lo' w' = fieldOf v lo' w' := by
  apply Nat.eq_of_testBit_eq
  intro i
  rw [testBit_fieldOf, testBit_withField, testBit_fieldOf]
  by_cases hi : i < w'
  · rw [if_neg (by omega)]
  · simp [hi]

theorem withField_lt {v lo w x n : Nat} (hv : v < 2 ^ n) (h : lo + w ≤ n) : withField v lo w x < 2 ^ n := by
  apply Nat.lt_pow_two_of_testBit
  intro i hi
  rw [testBit_withField, if_neg (by omega)]
  exact Nat.testBit_lt_two_pow (Nat.lt_of_lt_of_le hv (Nat.pow_le_pow_right (by omega) hi))

/-! ## The register file -/

theorem rg_lt (s : State) (a : Nat) : s.rg a < 2 ^ 64 := (cget resetValue s.regs a).isLt

/-- What a register reads as after one is set. -/
theorem rg_setRg (s : State) (a v b : Nat) : (s.setRg a v).rg b = if b = a then v % 2 ^ 64 else s.rg b := by
  simp only [State.rg, State.setRg, cget_cset]
  split <;> simp

@[simp] theorem rg_setRg_same (s : State) (a v : Nat) : (s.setRg a v).rg a = v % 2 ^ 64 := by simp [rg_setRg]

theorem rg_setRg_ne (s : State) {a b : Nat} (v : Nat) (h : b ≠ a) : (s.setRg a v).rg b = s.rg b := by simp [rg_setRg, h]

theorem rg_clearRg (s : State) (a b : Nat) :
    (s.clearRg a).rg b = if b = a then (resetValue a).toNat else s.rg b := by
  simp only [State.rg, State.clearRg]
  by_cases h : b = a
  · subst h; simp
  · simp [h, cget_cdel_ne _ _ h]

theorem rg_put_ne (s : State) {f : Fld} {b : Nat} (v : Nat) (h : b ≠ f.addr) : (s.put f v).rg b = s.rg b :=
  rg_setRg_ne s _ h

/-- The register a field lies in, after the field is set. -/
theorem rg_put_same (s : State) {f : Fld} (v : Nat) (h : f.lo + f.width ≤ 64) :
    (s.put f v).rg f.addr = withField (s.rg f.addr) f.lo f.width v := by
  rw [State.put, rg_setRg_same, Nat.mod_eq_of_lt (withField_lt (rg_lt s _) h)]

/-- A field that has been set reads as the value, as many bits as it has. -/
theorem get_put_same (s : State) {f : Fld} (v : Nat) (h : f.lo + f.width ≤ 64) : (s.put f v).get f = v % 2 ^ f.width := by
  rw [State.get, rg_put_same s v h, fieldOf_withField_same]

/-- A field of another register reads as before. -/
theorem get_put_ne (s : State) {f g : Fld} (v : Nat) (h : g.addr ≠ f.addr) : (s.put f v).get g = s.get g := by
  rw [State.get, rg_put_ne s v h, State.get]

/-- Another field of the same register reads as before. -/
theorem get_put_disjoint (s : State) {f g : Fld} (v : Nat) (hf : f.lo + f.width ≤ 64) (ha : g.addr = f.addr)
    (h : g.lo + g.width ≤ f.lo ∨ f.lo + f.width ≤ g.lo) : (s.put f v).get g = s.get g := by
  rw [State.get, State.get, ha, rg_put_same s v hf, fieldOf_withField_disjoint h]

/-- Every field reads within its width. -/
theorem get_lt (s : State) (f : Fld) : s.get f < 2 ^ f.width := fieldOf_lt _ _ _

theorem get_setRg_ne (s : State) {f : Fld} {a : Nat} (v : Nat) (h : f.addr ≠ a) : (s.setRg a v).get f = s.get f := by
  rw [State.get, rg_setRg_ne s v h, State.get]

theorem bit_putBit_same (s : State) {f : Fld} (b : Bool) (h : f.lo + f.width ≤ 64) (hw : f.width = 1) :
    (s.putBit f b).bit f = b := by
  rw [State.bit, State.putBit, get_put_same s _ h, hw]
  cases b <;> rfl

/-- A counting field that holds at its maximum, after it is counted up. -/
theorem get_bump_same (s : State) (f : Fld) (n : Nat) (h : f.lo + f.width ≤ 64) :
    (s.bump f n).get f = min (2 ^ f.width - 1) (s.get f + n) := by
  rw [State.bump, get_put_same s _ h]
  apply Nat.mod_eq_of_lt
  have := Nat.two_pow_pos f.width
  omega

/-- A counting field that wraps, after it is counted up. -/
theorem get_bumpWrap_same (s : State) (f : Fld) (n : Nat) (h : f.lo + f.width ≤ 64) :
    (s.bumpWrap f n).get f = (s.get f + n) % 2 ^ f.width := by
  rw [State.bumpWrap, get_put_same s _ h]

end Sys2Proof.Machine
end

