-- ==== Sys2Proof/Laws/State.lean ====
section
/-! SUPPORT. One lemma for each field of the state and each update of the register file, of a memory and of the free
counter: which field it leaves as it was, and the field it writes. -/

namespace Sys2Proof.Machine

/-! `State.setRg` -/

@[simp] theorem State.setRg_regs (s : State) (a v : Nat) : (s.setRg a v).regs = cset resetValue s.regs a (BitVec.ofNat 64 v) := rfl
@[simp] theorem State.setRg_mem (s : State) (a v : Nat) : (s.setRg a v).mem = s.mem := rfl
@[simp] theorem State.setRg_store (s : State) (a v : Nat) : (s.setRg a v).store = s.store := rfl
@[simp] theorem State.setRg_node (s : State) (a v : Nat) : (s.setRg a v).node = s.node := rfl
@[simp] theorem State.setRg_flt (s : State) (a v : Nat) : (s.setRg a v).flt = s.flt := rfl
@[simp] theorem State.setRg_kmp (s : State) (a v : Nat) : (s.setRg a v).kmp = s.kmp := rfl
@[simp] theorem State.setRg_st (s : State) (a v : Nat) : (s.setRg a v).st = s.st := rfl
@[simp] theorem State.setRg_audio (s : State) (a v : Nat) : (s.setRg a v).audio = s.audio := rfl
@[simp] theorem State.setRg_bricks (s : State) (a v : Nat) : (s.setRg a v).bricks = s.bricks := rfl
@[simp] theorem State.setRg_amp (s : State) (a v : Nat) : (s.setRg a v).amp = s.amp := rfl
@[simp] theorem State.setRg_pair (s : State) (a v : Nat) : (s.setRg a v).pair = s.pair := rfl
@[simp] theorem State.setRg_net (s : State) (a v : Nat) : (s.setRg a v).net = s.net := rfl
@[simp] theorem State.setRg_str (s : State) (a v : Nat) : (s.setRg a v).str = s.str := rfl
@[simp] theorem State.setRg_tu (s : State) (a v : Nat) : (s.setRg a v).tu = s.tu := rfl
@[simp] theorem State.setRg_cbus (s : State) (a v : Nat) : (s.setRg a v).cbus = s.cbus := rfl
@[simp] theorem State.setRg_tw0 (s : State) (a v : Nat) : (s.setRg a v).tw0 = s.tw0 := rfl
@[simp] theorem State.setRg_tw1 (s : State) (a v : Nat) : (s.setRg a v).tw1 = s.tw1 := rfl
@[simp] theorem State.setRg_dma (s : State) (a v : Nat) : (s.setRg a v).dma = s.dma := rfl
@[simp] theorem State.setRg_mortar (s : State) (a v : Nat) : (s.setRg a v).mortar = s.mortar := rfl
@[simp] theorem State.setRg_caps (s : State) (a v : Nat) : (s.setRg a v).caps = s.caps := rfl
@[simp] theorem State.setRg_pwr (s : State) (a v : Nat) : (s.setRg a v).pwr = s.pwr := rfl
@[simp] theorem State.setRg_fuses (s : State) (a v : Nat) : (s.setRg a v).fuses = s.fuses := rfl
@[simp] theorem State.setRg_sec (s : State) (a v : Nat) : (s.setRg a v).sec = s.sec := rfl
@[simp] theorem State.setRg_free (s : State) (a v : Nat) : (s.setRg a v).free = s.free := rfl
@[simp] theorem State.setRg_out (s : State) (a v : Nat) : (s.setRg a v).out = s.out := rfl
@[simp] theorem State.setRg_pending (s : State) (a v : Nat) : (s.setRg a v).pending = s.pending := rfl

/-! `State.clearRg` -/

@[simp] theorem State.clearRg_regs (s : State) (a : Nat) : (s.clearRg a).regs = cdel s.regs a := rfl
@[simp] theorem State.clearRg_mem (s : State) (a : Nat) : (s.clearRg a).mem = s.mem := rfl
@[simp] theorem State.clearRg_store (s : State) (a : Nat) : (s.clearRg a).store = s.store := rfl
@[simp] theorem State.clearRg_node (s : State) (a : Nat) : (s.clearRg a).node = s.node := rfl
@[simp] theorem State.clearRg_flt (s : State) (a : Nat) : (s.clearRg a).flt = s.flt := rfl
@[simp] theorem State.clearRg_kmp (s : State) (a : Nat) : (s.clearRg a).kmp = s.kmp := rfl
@[simp] theorem State.clearRg_st (s : State) (a : Nat) : (s.clearRg a).st = s.st := rfl
@[simp] theorem State.clearRg_audio (s : State) (a : Nat) : (s.clearRg a).audio = s.audio := rfl
@[simp] theorem State.clearRg_bricks (s : State) (a : Nat) : (s.clearRg a).bricks = s.bricks := rfl
@[simp] theorem State.clearRg_amp (s : State) (a : Nat) : (s.clearRg a).amp = s.amp := rfl
@[simp] theorem State.clearRg_pair (s : State) (a : Nat) : (s.clearRg a).pair = s.pair := rfl
@[simp] theorem State.clearRg_net (s : State) (a : Nat) : (s.clearRg a).net = s.net := rfl
@[simp] theorem State.clearRg_str (s : State) (a : Nat) : (s.clearRg a).str = s.str := rfl
@[simp] theorem State.clearRg_tu (s : State) (a : Nat) : (s.clearRg a).tu = s.tu := rfl
@[simp] theorem State.clearRg_cbus (s : State) (a : Nat) : (s.clearRg a).cbus = s.cbus := rfl
@[simp] theorem State.clearRg_tw0 (s : State) (a : Nat) : (s.clearRg a).tw0 = s.tw0 := rfl
@[simp] theorem State.clearRg_tw1 (s : State) (a : Nat) : (s.clearRg a).tw1 = s.tw1 := rfl
@[simp] theorem State.clearRg_dma (s : State) (a : Nat) : (s.clearRg a).dma = s.dma := rfl
@[simp] theorem State.clearRg_mortar (s : State) (a : Nat) : (s.clearRg a).mortar = s.mortar := rfl
@[simp] theorem State.clearRg_caps (s : State) (a : Nat) : (s.clearRg a).caps = s.caps := rfl
@[simp] theorem State.clearRg_pwr (s : State) (a : Nat) : (s.clearRg a).pwr = s.pwr := rfl
@[simp] theorem State.clearRg_fuses (s : State) (a : Nat) : (s.clearRg a).fuses = s.fuses := rfl
@[simp] theorem State.clearRg_sec (s : State) (a : Nat) : (s.clearRg a).sec = s.sec := rfl
@[simp] theorem State.clearRg_free (s : State) (a : Nat) : (s.clearRg a).free = s.free := rfl
@[simp] theorem State.clearRg_out (s : State) (a : Nat) : (s.clearRg a).out = s.out := rfl
@[simp] theorem State.clearRg_pending (s : State) (a : Nat) : (s.clearRg a).pending = s.pending := rfl

/-! `State.put` -/

@[simp] theorem State.put_mem (s : State) (f : Fld) (v : Nat) : (s.put f v).mem = s.mem := rfl
@[simp] theorem State.put_store (s : State) (f : Fld) (v : Nat) : (s.put f v).store = s.store := rfl
@[simp] theorem State.put_node (s : State) (f : Fld) (v : Nat) : (s.put f v).node = s.node := rfl
@[simp] theorem State.put_flt (s : State) (f : Fld) (v : Nat) : (s.put f v).flt = s.flt := rfl
@[simp] theorem State.put_kmp (s : State) (f : Fld) (v : Nat) : (s.put f v).kmp = s.kmp := rfl
@[simp] theorem State.put_st (s : State) (f : Fld) (v : Nat) : (s.put f v).st = s.st := rfl
@[simp] theorem State.put_audio (s : State) (f : Fld) (v : Nat) : (s.put f v).audio = s.audio := rfl
@[simp] theorem State.put_bricks (s : State) (f : Fld) (v : Nat) : (s.put f v).bricks = s.bricks := rfl
@[simp] theorem State.put_amp (s : State) (f : Fld) (v : Nat) : (s.put f v).amp = s.amp := rfl
@[simp] theorem State.put_pair (s : State) (f : Fld) (v : Nat) : (s.put f v).pair = s.pair := rfl
@[simp] theorem State.put_net (s : State) (f : Fld) (v : Nat) : (s.put f v).net = s.net := rfl
@[simp] theorem State.put_str (s : State) (f : Fld) (v : Nat) : (s.put f v).str = s.str := rfl
@[simp] theorem State.put_tu (s : State) (f : Fld) (v : Nat) : (s.put f v).tu = s.tu := rfl
@[simp] theorem State.put_cbus (s : State) (f : Fld) (v : Nat) : (s.put f v).cbus = s.cbus := rfl
@[simp] theorem State.put_tw0 (s : State) (f : Fld) (v : Nat) : (s.put f v).tw0 = s.tw0 := rfl
@[simp] theorem State.put_tw1 (s : State) (f : Fld) (v : Nat) : (s.put f v).tw1 = s.tw1 := rfl
@[simp] theorem State.put_dma (s : State) (f : Fld) (v : Nat) : (s.put f v).dma = s.dma := rfl
@[simp] theorem State.put_mortar (s : State) (f : Fld) (v : Nat) : (s.put f v).mortar = s.mortar := rfl
@[simp] theorem State.put_caps (s : State) (f : Fld) (v : Nat) : (s.put f v).caps = s.caps := rfl
@[simp] theorem State.put_pwr (s : State) (f : Fld) (v : Nat) : (s.put f v).pwr = s.pwr := rfl
@[simp] theorem State.put_fuses (s : State) (f : Fld) (v : Nat) : (s.put f v).fuses = s.fuses := rfl
@[simp] theorem State.put_sec (s : State) (f : Fld) (v : Nat) : (s.put f v).sec = s.sec := rfl
@[simp] theorem State.put_free (s : State) (f : Fld) (v : Nat) : (s.put f v).free = s.free := rfl
@[simp] theorem State.put_out (s : State) (f : Fld) (v : Nat) : (s.put f v).out = s.out := rfl
@[simp] theorem State.put_pending (s : State) (f : Fld) (v : Nat) : (s.put f v).pending = s.pending := rfl

/-! `State.putBit` -/

@[simp] theorem State.putBit_mem (s : State) (f : Fld) (b : Bool) : (s.putBit f b).mem = s.mem := rfl
@[simp] theorem State.putBit_store (s : State) (f : Fld) (b : Bool) : (s.putBit f b).store = s.store := rfl
@[simp] theorem State.putBit_node (s : State) (f : Fld) (b : Bool) : (s.putBit f b).node = s.node := rfl
@[simp] theorem State.putBit_flt (s : State) (f : Fld) (b : Bool) : (s.putBit f b).flt = s.flt := rfl
@[simp] theorem State.putBit_kmp (s : State) (f : Fld) (b : Bool) : (s.putBit f b).kmp = s.kmp := rfl
@[simp] theorem State.putBit_st (s : State) (f : Fld) (b : Bool) : (s.putBit f b).st = s.st := rfl
@[simp] theorem State.putBit_audio (s : State) (f : Fld) (b : Bool) : (s.putBit f b).audio = s.audio := rfl
@[simp] theorem State.putBit_bricks (s : State) (f : Fld) (b : Bool) : (s.putBit f b).bricks = s.bricks := rfl
@[simp] theorem State.putBit_amp (s : State) (f : Fld) (b : Bool) : (s.putBit f b).amp = s.amp := rfl
@[simp] theorem State.putBit_pair (s : State) (f : Fld) (b : Bool) : (s.putBit f b).pair = s.pair := rfl
@[simp] theorem State.putBit_net (s : State) (f : Fld) (b : Bool) : (s.putBit f b).net = s.net := rfl
@[simp] theorem State.putBit_str (s : State) (f : Fld) (b : Bool) : (s.putBit f b).str = s.str := rfl
@[simp] theorem State.putBit_tu (s : State) (f : Fld) (b : Bool) : (s.putBit f b).tu = s.tu := rfl
@[simp] theorem State.putBit_cbus (s : State) (f : Fld) (b : Bool) : (s.putBit f b).cbus = s.cbus := rfl
@[simp] theorem State.putBit_tw0 (s : State) (f : Fld) (b : Bool) : (s.putBit f b).tw0 = s.tw0 := rfl
@[simp] theorem State.putBit_tw1 (s : State) (f : Fld) (b : Bool) : (s.putBit f b).tw1 = s.tw1 := rfl
@[simp] theorem State.putBit_dma (s : State) (f : Fld) (b : Bool) : (s.putBit f b).dma = s.dma := rfl
@[simp] theorem State.putBit_mortar (s : State) (f : Fld) (b : Bool) : (s.putBit f b).mortar = s.mortar := rfl
@[simp] theorem State.putBit_caps (s : State) (f : Fld) (b : Bool) : (s.putBit f b).caps = s.caps := rfl
@[simp] theorem State.putBit_pwr (s : State) (f : Fld) (b : Bool) : (s.putBit f b).pwr = s.pwr := rfl
@[simp] theorem State.putBit_fuses (s : State) (f : Fld) (b : Bool) : (s.putBit f b).fuses = s.fuses := rfl
@[simp] theorem State.putBit_sec (s : State) (f : Fld) (b : Bool) : (s.putBit f b).sec = s.sec := rfl
@[simp] theorem State.putBit_free (s : State) (f : Fld) (b : Bool) : (s.putBit f b).free = s.free := rfl
@[simp] theorem State.putBit_out (s : State) (f : Fld) (b : Bool) : (s.putBit f b).out = s.out := rfl
@[simp] theorem State.putBit_pending (s : State) (f : Fld) (b : Bool) : (s.putBit f b).pending = s.pending := rfl

/-! `State.bump` -/

@[simp] theorem State.bump_mem (s : State) (f : Fld) (n : Nat) : (s.bump f n).mem = s.mem := rfl
@[simp] theorem State.bump_store (s : State) (f : Fld) (n : Nat) : (s.bump f n).store = s.store := rfl
@[simp] theorem State.bump_node (s : State) (f : Fld) (n : Nat) : (s.bump f n).node = s.node := rfl
@[simp] theorem State.bump_flt (s : State) (f : Fld) (n : Nat) : (s.bump f n).flt = s.flt := rfl
@[simp] theorem State.bump_kmp (s : State) (f : Fld) (n : Nat) : (s.bump f n).kmp = s.kmp := rfl
@[simp] theorem State.bump_st (s : State) (f : Fld) (n : Nat) : (s.bump f n).st = s.st := rfl
@[simp] theorem State.bump_audio (s : State) (f : Fld) (n : Nat) : (s.bump f n).audio = s.audio := rfl
@[simp] theorem State.bump_bricks (s : State) (f : Fld) (n : Nat) : (s.bump f n).bricks = s.bricks := rfl
@[simp] theorem State.bump_amp (s : State) (f : Fld) (n : Nat) : (s.bump f n).amp = s.amp := rfl
@[simp] theorem State.bump_pair (s : State) (f : Fld) (n : Nat) : (s.bump f n).pair = s.pair := rfl
@[simp] theorem State.bump_net (s : State) (f : Fld) (n : Nat) : (s.bump f n).net = s.net := rfl
@[simp] theorem State.bump_str (s : State) (f : Fld) (n : Nat) : (s.bump f n).str = s.str := rfl
@[simp] theorem State.bump_tu (s : State) (f : Fld) (n : Nat) : (s.bump f n).tu = s.tu := rfl
@[simp] theorem State.bump_cbus (s : State) (f : Fld) (n : Nat) : (s.bump f n).cbus = s.cbus := rfl
@[simp] theorem State.bump_tw0 (s : State) (f : Fld) (n : Nat) : (s.bump f n).tw0 = s.tw0 := rfl
@[simp] theorem State.bump_tw1 (s : State) (f : Fld) (n : Nat) : (s.bump f n).tw1 = s.tw1 := rfl
@[simp] theorem State.bump_dma (s : State) (f : Fld) (n : Nat) : (s.bump f n).dma = s.dma := rfl
@[simp] theorem State.bump_mortar (s : State) (f : Fld) (n : Nat) : (s.bump f n).mortar = s.mortar := rfl
@[simp] theorem State.bump_caps (s : State) (f : Fld) (n : Nat) : (s.bump f n).caps = s.caps := rfl
@[simp] theorem State.bump_pwr (s : State) (f : Fld) (n : Nat) : (s.bump f n).pwr = s.pwr := rfl
@[simp] theorem State.bump_fuses (s : State) (f : Fld) (n : Nat) : (s.bump f n).fuses = s.fuses := rfl
@[simp] theorem State.bump_sec (s : State) (f : Fld) (n : Nat) : (s.bump f n).sec = s.sec := rfl
@[simp] theorem State.bump_free (s : State) (f : Fld) (n : Nat) : (s.bump f n).free = s.free := rfl
@[simp] theorem State.bump_out (s : State) (f : Fld) (n : Nat) : (s.bump f n).out = s.out := rfl
@[simp] theorem State.bump_pending (s : State) (f : Fld) (n : Nat) : (s.bump f n).pending = s.pending := rfl

/-! `State.bumpWrap` -/

@[simp] theorem State.bumpWrap_mem (s : State) (f : Fld) (n : Nat) : (s.bumpWrap f n).mem = s.mem := rfl
@[simp] theorem State.bumpWrap_store (s : State) (f : Fld) (n : Nat) : (s.bumpWrap f n).store = s.store := rfl
@[simp] theorem State.bumpWrap_node (s : State) (f : Fld) (n : Nat) : (s.bumpWrap f n).node = s.node := rfl
@[simp] theorem State.bumpWrap_flt (s : State) (f : Fld) (n : Nat) : (s.bumpWrap f n).flt = s.flt := rfl
@[simp] theorem State.bumpWrap_kmp (s : State) (f : Fld) (n : Nat) : (s.bumpWrap f n).kmp = s.kmp := rfl
@[simp] theorem State.bumpWrap_st (s : State) (f : Fld) (n : Nat) : (s.bumpWrap f n).st = s.st := rfl
@[simp] theorem State.bumpWrap_audio (s : State) (f : Fld) (n : Nat) : (s.bumpWrap f n).audio = s.audio := rfl
@[simp] theorem State.bumpWrap_bricks (s : State) (f : Fld) (n : Nat) : (s.bumpWrap f n).bricks = s.bricks := rfl
@[simp] theorem State.bumpWrap_amp (s : State) (f : Fld) (n : Nat) : (s.bumpWrap f n).amp = s.amp := rfl
@[simp] theorem State.bumpWrap_pair (s : State) (f : Fld) (n : Nat) : (s.bumpWrap f n).pair = s.pair := rfl
@[simp] theorem State.bumpWrap_net (s : State) (f : Fld) (n : Nat) : (s.bumpWrap f n).net = s.net := rfl
@[simp] theorem State.bumpWrap_str (s : State) (f : Fld) (n : Nat) : (s.bumpWrap f n).str = s.str := rfl
@[simp] theorem State.bumpWrap_tu (s : State) (f : Fld) (n : Nat) : (s.bumpWrap f n).tu = s.tu := rfl
@[simp] theorem State.bumpWrap_cbus (s : State) (f : Fld) (n : Nat) : (s.bumpWrap f n).cbus = s.cbus := rfl
@[simp] theorem State.bumpWrap_tw0 (s : State) (f : Fld) (n : Nat) : (s.bumpWrap f n).tw0 = s.tw0 := rfl
@[simp] theorem State.bumpWrap_tw1 (s : State) (f : Fld) (n : Nat) : (s.bumpWrap f n).tw1 = s.tw1 := rfl
@[simp] theorem State.bumpWrap_dma (s : State) (f : Fld) (n : Nat) : (s.bumpWrap f n).dma = s.dma := rfl
@[simp] theorem State.bumpWrap_mortar (s : State) (f : Fld) (n : Nat) : (s.bumpWrap f n).mortar = s.mortar := rfl
@[simp] theorem State.bumpWrap_caps (s : State) (f : Fld) (n : Nat) : (s.bumpWrap f n).caps = s.caps := rfl
@[simp] theorem State.bumpWrap_pwr (s : State) (f : Fld) (n : Nat) : (s.bumpWrap f n).pwr = s.pwr := rfl
@[simp] theorem State.bumpWrap_fuses (s : State) (f : Fld) (n : Nat) : (s.bumpWrap f n).fuses = s.fuses := rfl
@[simp] theorem State.bumpWrap_sec (s : State) (f : Fld) (n : Nat) : (s.bumpWrap f n).sec = s.sec := rfl
@[simp] theorem State.bumpWrap_free (s : State) (f : Fld) (n : Nat) : (s.bumpWrap f n).free = s.free := rfl
@[simp] theorem State.bumpWrap_out (s : State) (f : Fld) (n : Nat) : (s.bumpWrap f n).out = s.out := rfl
@[simp] theorem State.bumpWrap_pending (s : State) (f : Fld) (n : Nat) : (s.bumpWrap f n).pending = s.pending := rfl

/-! `State.wrByte` -/

@[simp] theorem State.wrByte_regs (s : State) (a : Nat) (v : Byte) : (s.wrByte a v).regs = s.regs := rfl
@[simp] theorem State.wrByte_mem (s : State) (a : Nat) (v : Byte) : (s.wrByte a v).mem = cset memDefault s.mem a v := rfl
@[simp] theorem State.wrByte_store (s : State) (a : Nat) (v : Byte) : (s.wrByte a v).store = s.store := rfl
@[simp] theorem State.wrByte_node (s : State) (a : Nat) (v : Byte) : (s.wrByte a v).node = s.node := rfl
@[simp] theorem State.wrByte_flt (s : State) (a : Nat) (v : Byte) : (s.wrByte a v).flt = s.flt := rfl
@[simp] theorem State.wrByte_kmp (s : State) (a : Nat) (v : Byte) : (s.wrByte a v).kmp = s.kmp := rfl
@[simp] theorem State.wrByte_st (s : State) (a : Nat) (v : Byte) : (s.wrByte a v).st = s.st := rfl
@[simp] theorem State.wrByte_audio (s : State) (a : Nat) (v : Byte) : (s.wrByte a v).audio = s.audio := rfl
@[simp] theorem State.wrByte_bricks (s : State) (a : Nat) (v : Byte) : (s.wrByte a v).bricks = s.bricks := rfl
@[simp] theorem State.wrByte_amp (s : State) (a : Nat) (v : Byte) : (s.wrByte a v).amp = s.amp := rfl
@[simp] theorem State.wrByte_pair (s : State) (a : Nat) (v : Byte) : (s.wrByte a v).pair = s.pair := rfl
@[simp] theorem State.wrByte_net (s : State) (a : Nat) (v : Byte) : (s.wrByte a v).net = s.net := rfl
@[simp] theorem State.wrByte_str (s : State) (a : Nat) (v : Byte) : (s.wrByte a v).str = s.str := rfl
@[simp] theorem State.wrByte_tu (s : State) (a : Nat) (v : Byte) : (s.wrByte a v).tu = s.tu := rfl
@[simp] theorem State.wrByte_cbus (s : State) (a : Nat) (v : Byte) : (s.wrByte a v).cbus = s.cbus := rfl
@[simp] theorem State.wrByte_tw0 (s : State) (a : Nat) (v : Byte) : (s.wrByte a v).tw0 = s.tw0 := rfl
@[simp] theorem State.wrByte_tw1 (s : State) (a : Nat) (v : Byte) : (s.wrByte a v).tw1 = s.tw1 := rfl
@[simp] theorem State.wrByte_dma (s : State) (a : Nat) (v : Byte) : (s.wrByte a v).dma = s.dma := rfl
@[simp] theorem State.wrByte_mortar (s : State) (a : Nat) (v : Byte) : (s.wrByte a v).mortar = s.mortar := rfl
@[simp] theorem State.wrByte_caps (s : State) (a : Nat) (v : Byte) : (s.wrByte a v).caps = s.caps := rfl
@[simp] theorem State.wrByte_pwr (s : State) (a : Nat) (v : Byte) : (s.wrByte a v).pwr = s.pwr := rfl
@[simp] theorem State.wrByte_fuses (s : State) (a : Nat) (v : Byte) : (s.wrByte a v).fuses = s.fuses := rfl
@[simp] theorem State.wrByte_sec (s : State) (a : Nat) (v : Byte) : (s.wrByte a v).sec = s.sec := rfl
@[simp] theorem State.wrByte_free (s : State) (a : Nat) (v : Byte) : (s.wrByte a v).free = s.free := rfl
@[simp] theorem State.wrByte_out (s : State) (a : Nat) (v : Byte) : (s.wrByte a v).out = s.out := rfl
@[simp] theorem State.wrByte_pending (s : State) (a : Nat) (v : Byte) : (s.wrByte a v).pending = s.pending := rfl

/-! `State.nextFree` -/

@[simp] theorem State.nextFree_regs (s : State)  : (s.nextFree).regs = s.regs := rfl
@[simp] theorem State.nextFree_mem (s : State)  : (s.nextFree).mem = s.mem := rfl
@[simp] theorem State.nextFree_store (s : State)  : (s.nextFree).store = s.store := rfl
@[simp] theorem State.nextFree_node (s : State)  : (s.nextFree).node = s.node := rfl
@[simp] theorem State.nextFree_flt (s : State)  : (s.nextFree).flt = s.flt := rfl
@[simp] theorem State.nextFree_kmp (s : State)  : (s.nextFree).kmp = s.kmp := rfl
@[simp] theorem State.nextFree_st (s : State)  : (s.nextFree).st = s.st := rfl
@[simp] theorem State.nextFree_audio (s : State)  : (s.nextFree).audio = s.audio := rfl
@[simp] theorem State.nextFree_bricks (s : State)  : (s.nextFree).bricks = s.bricks := rfl
@[simp] theorem State.nextFree_amp (s : State)  : (s.nextFree).amp = s.amp := rfl
@[simp] theorem State.nextFree_pair (s : State)  : (s.nextFree).pair = s.pair := rfl
@[simp] theorem State.nextFree_net (s : State)  : (s.nextFree).net = s.net := rfl
@[simp] theorem State.nextFree_str (s : State)  : (s.nextFree).str = s.str := rfl
@[simp] theorem State.nextFree_tu (s : State)  : (s.nextFree).tu = s.tu := rfl
@[simp] theorem State.nextFree_cbus (s : State)  : (s.nextFree).cbus = s.cbus := rfl
@[simp] theorem State.nextFree_tw0 (s : State)  : (s.nextFree).tw0 = s.tw0 := rfl
@[simp] theorem State.nextFree_tw1 (s : State)  : (s.nextFree).tw1 = s.tw1 := rfl
@[simp] theorem State.nextFree_dma (s : State)  : (s.nextFree).dma = s.dma := rfl
@[simp] theorem State.nextFree_mortar (s : State)  : (s.nextFree).mortar = s.mortar := rfl
@[simp] theorem State.nextFree_caps (s : State)  : (s.nextFree).caps = s.caps := rfl
@[simp] theorem State.nextFree_pwr (s : State)  : (s.nextFree).pwr = s.pwr := rfl
@[simp] theorem State.nextFree_fuses (s : State)  : (s.nextFree).fuses = s.fuses := rfl
@[simp] theorem State.nextFree_sec (s : State)  : (s.nextFree).sec = s.sec := rfl
@[simp] theorem State.nextFree_free (s : State)  : (s.nextFree).free = s.free + 1 := rfl
@[simp] theorem State.nextFree_out (s : State)  : (s.nextFree).out = s.out := rfl
@[simp] theorem State.nextFree_pending (s : State)  : (s.nextFree).pending = s.pending := rfl

/-! `State.mendRow` -/

@[simp] theorem State.mendRow_regs (s : State) (a : Nat) : (s.mendRow a).regs = s.regs := rfl
@[simp] theorem State.mendRow_mem (s : State) (a : Nat) : (s.mendRow a).mem = s.mem := rfl
@[simp] theorem State.mendRow_store (s : State) (a : Nat) : (s.mendRow a).store = s.store := rfl
@[simp] theorem State.mendRow_node (s : State) (a : Nat) : (s.mendRow a).node = s.node := rfl
@[simp] theorem State.mendRow_flt (s : State) (a : Nat) : (s.mendRow a).flt = s.flt := rfl
@[simp] theorem State.mendRow_kmp (s : State) (a : Nat) : (s.mendRow a).kmp = s.kmp := rfl
@[simp] theorem State.mendRow_st (s : State) (a : Nat) : (s.mendRow a).st = s.st := rfl
@[simp] theorem State.mendRow_audio (s : State) (a : Nat) : (s.mendRow a).audio = s.audio := rfl
@[simp] theorem State.mendRow_bricks (s : State) (a : Nat) : (s.mendRow a).bricks = s.bricks := rfl
@[simp] theorem State.mendRow_amp (s : State) (a : Nat) : (s.mendRow a).amp = s.amp := rfl
@[simp] theorem State.mendRow_pair (s : State) (a : Nat) : (s.mendRow a).pair = s.pair := rfl
@[simp] theorem State.mendRow_net (s : State) (a : Nat) : (s.mendRow a).net = s.net := rfl
@[simp] theorem State.mendRow_str (s : State) (a : Nat) : (s.mendRow a).str = s.str := rfl
@[simp] theorem State.mendRow_tu (s : State) (a : Nat) : (s.mendRow a).tu = s.tu := rfl
@[simp] theorem State.mendRow_cbus (s : State) (a : Nat) : (s.mendRow a).cbus = s.cbus := rfl
@[simp] theorem State.mendRow_tw0 (s : State) (a : Nat) : (s.mendRow a).tw0 = s.tw0 := rfl
@[simp] theorem State.mendRow_tw1 (s : State) (a : Nat) : (s.mendRow a).tw1 = s.tw1 := rfl
@[simp] theorem State.mendRow_dma (s : State) (a : Nat) : (s.mendRow a).dma = s.dma := rfl
@[simp] theorem State.mendRow_caps (s : State) (a : Nat) : (s.mendRow a).caps = s.caps := rfl
@[simp] theorem State.mendRow_pwr (s : State) (a : Nat) : (s.mendRow a).pwr = s.pwr := rfl
@[simp] theorem State.mendRow_fuses (s : State) (a : Nat) : (s.mendRow a).fuses = s.fuses := rfl
@[simp] theorem State.mendRow_sec (s : State) (a : Nat) : (s.mendRow a).sec = s.sec := rfl
@[simp] theorem State.mendRow_free (s : State) (a : Nat) : (s.mendRow a).free = s.free := rfl
@[simp] theorem State.mendRow_out (s : State) (a : Nat) : (s.mendRow a).out = s.out := rfl
@[simp] theorem State.mendRow_pending (s : State) (a : Nat) : (s.mendRow a).pending = s.pending := rfl

/-! `State.wrBytes` -/

@[simp] theorem State.wrBytes_regs (s : State) (a : Nat) (bs : List Byte) : (s.wrBytes a bs).regs = s.regs := by
  induction bs generalizing s a with
  | nil => rfl
  | cons b bs ih => exact (ih _ _).trans rfl
@[simp] theorem State.wrBytes_store (s : State) (a : Nat) (bs : List Byte) : (s.wrBytes a bs).store = s.store := by
  induction bs generalizing s a with
  | nil => rfl
  | cons b bs ih => exact (ih _ _).trans rfl
@[simp] theorem State.wrBytes_node (s : State) (a : Nat) (bs : List Byte) : (s.wrBytes a bs).node = s.node := by
  induction bs generalizing s a with
  | nil => rfl
  | cons b bs ih => exact (ih _ _).trans rfl
@[simp] theorem State.wrBytes_flt (s : State) (a : Nat) (bs : List Byte) : (s.wrBytes a bs).flt = s.flt := by
  induction bs generalizing s a with
  | nil => rfl
  | cons b bs ih => exact (ih _ _).trans rfl
@[simp] theorem State.wrBytes_kmp (s : State) (a : Nat) (bs : List Byte) : (s.wrBytes a bs).kmp = s.kmp := by
  induction bs generalizing s a with
  | nil => rfl
  | cons b bs ih => exact (ih _ _).trans rfl
@[simp] theorem State.wrBytes_st (s : State) (a : Nat) (bs : List Byte) : (s.wrBytes a bs).st = s.st := by
  induction bs generalizing s a with
  | nil => rfl
  | cons b bs ih => exact (ih _ _).trans rfl
@[simp] theorem State.wrBytes_audio (s : State) (a : Nat) (bs : List Byte) : (s.wrBytes a bs).audio = s.audio := by
  induction bs generalizing s a with
  | nil => rfl
  | cons b bs ih => exact (ih _ _).trans rfl
@[simp] theorem State.wrBytes_bricks (s : State) (a : Nat) (bs : List Byte) : (s.wrBytes a bs).bricks = s.bricks := by
  induction bs generalizing s a with
  | nil => rfl
  | cons b bs ih => exact (ih _ _).trans rfl
@[simp] theorem State.wrBytes_amp (s : State) (a : Nat) (bs : List Byte) : (s.wrBytes a bs).amp = s.amp := by
  induction bs generalizing s a with
  | nil => rfl
  | cons b bs ih => exact (ih _ _).trans rfl
@[simp] theorem State.wrBytes_pair (s : State) (a : Nat) (bs : List Byte) : (s.wrBytes a bs).pair = s.pair := by
  induction bs generalizing s a with
  | nil => rfl
  | cons b bs ih => exact (ih _ _).trans rfl
@[simp] theorem State.wrBytes_net (s : State) (a : Nat) (bs : List Byte) : (s.wrBytes a bs).net = s.net := by
  induction bs generalizing s a with
  | nil => rfl
  | cons b bs ih => exact (ih _ _).trans rfl
@[simp] theorem State.wrBytes_str (s : State) (a : Nat) (bs : List Byte) : (s.wrBytes a bs).str = s.str := by
  induction bs generalizing s a with
  | nil => rfl
  | cons b bs ih => exact (ih _ _).trans rfl
@[simp] theorem State.wrBytes_tu (s : State) (a : Nat) (bs : List Byte) : (s.wrBytes a bs).tu = s.tu := by
  induction bs generalizing s a with
  | nil => rfl
  | cons b bs ih => exact (ih _ _).trans rfl
@[simp] theorem State.wrBytes_cbus (s : State) (a : Nat) (bs : List Byte) : (s.wrBytes a bs).cbus = s.cbus := by
  induction bs generalizing s a with
  | nil => rfl
  | cons b bs ih => exact (ih _ _).trans rfl
@[simp] theorem State.wrBytes_tw0 (s : State) (a : Nat) (bs : List Byte) : (s.wrBytes a bs).tw0 = s.tw0 := by
  induction bs generalizing s a with
  | nil => rfl
  | cons b bs ih => exact (ih _ _).trans rfl
@[simp] theorem State.wrBytes_tw1 (s : State) (a : Nat) (bs : List Byte) : (s.wrBytes a bs).tw1 = s.tw1 := by
  induction bs generalizing s a with
  | nil => rfl
  | cons b bs ih => exact (ih _ _).trans rfl
@[simp] theorem State.wrBytes_dma (s : State) (a : Nat) (bs : List Byte) : (s.wrBytes a bs).dma = s.dma := by
  induction bs generalizing s a with
  | nil => rfl
  | cons b bs ih => exact (ih _ _).trans rfl
@[simp] theorem State.wrBytes_mortar (s : State) (a : Nat) (bs : List Byte) : (s.wrBytes a bs).mortar = s.mortar := by
  induction bs generalizing s a with
  | nil => rfl
  | cons b bs ih => exact (ih _ _).trans rfl
@[simp] theorem State.wrBytes_caps (s : State) (a : Nat) (bs : List Byte) : (s.wrBytes a bs).caps = s.caps := by
  induction bs generalizing s a with
  | nil => rfl
  | cons b bs ih => exact (ih _ _).trans rfl
@[simp] theorem State.wrBytes_pwr (s : State) (a : Nat) (bs : List Byte) : (s.wrBytes a bs).pwr = s.pwr := by
  induction bs generalizing s a with
  | nil => rfl
  | cons b bs ih => exact (ih _ _).trans rfl
@[simp] theorem State.wrBytes_fuses (s : State) (a : Nat) (bs : List Byte) : (s.wrBytes a bs).fuses = s.fuses := by
  induction bs generalizing s a with
  | nil => rfl
  | cons b bs ih => exact (ih _ _).trans rfl
@[simp] theorem State.wrBytes_sec (s : State) (a : Nat) (bs : List Byte) : (s.wrBytes a bs).sec = s.sec := by
  induction bs generalizing s a with
  | nil => rfl
  | cons b bs ih => exact (ih _ _).trans rfl
@[simp] theorem State.wrBytes_free (s : State) (a : Nat) (bs : List Byte) : (s.wrBytes a bs).free = s.free := by
  induction bs generalizing s a with
  | nil => rfl
  | cons b bs ih => exact (ih _ _).trans rfl
@[simp] theorem State.wrBytes_out (s : State) (a : Nat) (bs : List Byte) : (s.wrBytes a bs).out = s.out := by
  induction bs generalizing s a with
  | nil => rfl
  | cons b bs ih => exact (ih _ _).trans rfl
@[simp] theorem State.wrBytes_pending (s : State) (a : Nat) (bs : List Byte) : (s.wrBytes a bs).pending = s.pending := by
  induction bs generalizing s a with
  | nil => rfl
  | cons b bs ih => exact (ih _ _).trans rfl

/-! `State.wrStore` -/

@[simp] theorem State.wrStore_regs (s : State) (a : Nat) (bs : List Byte) : (s.wrStore a bs).regs = s.regs := by
  induction bs generalizing s a with
  | nil => rfl
  | cons b bs ih => exact (ih _ _).trans rfl
@[simp] theorem State.wrStore_mem (s : State) (a : Nat) (bs : List Byte) : (s.wrStore a bs).mem = s.mem := by
  induction bs generalizing s a with
  | nil => rfl
  | cons b bs ih => exact (ih _ _).trans rfl
@[simp] theorem State.wrStore_node (s : State) (a : Nat) (bs : List Byte) : (s.wrStore a bs).node = s.node := by
  induction bs generalizing s a with
  | nil => rfl
  | cons b bs ih => exact (ih _ _).trans rfl
@[simp] theorem State.wrStore_flt (s : State) (a : Nat) (bs : List Byte) : (s.wrStore a bs).flt = s.flt := by
  induction bs generalizing s a with
  | nil => rfl
  | cons b bs ih => exact (ih _ _).trans rfl
@[simp] theorem State.wrStore_kmp (s : State) (a : Nat) (bs : List Byte) : (s.wrStore a bs).kmp = s.kmp := by
  induction bs generalizing s a with
  | nil => rfl
  | cons b bs ih => exact (ih _ _).trans rfl
@[simp] theorem State.wrStore_st (s : State) (a : Nat) (bs : List Byte) : (s.wrStore a bs).st = s.st := by
  induction bs generalizing s a with
  | nil => rfl
  | cons b bs ih => exact (ih _ _).trans rfl
@[simp] theorem State.wrStore_audio (s : State) (a : Nat) (bs : List Byte) : (s.wrStore a bs).audio = s.audio := by
  induction bs generalizing s a with
  | nil => rfl
  | cons b bs ih => exact (ih _ _).trans rfl
@[simp] theorem State.wrStore_bricks (s : State) (a : Nat) (bs : List Byte) : (s.wrStore a bs).bricks = s.bricks := by
  induction bs generalizing s a with
  | nil => rfl
  | cons b bs ih => exact (ih _ _).trans rfl
@[simp] theorem State.wrStore_amp (s : State) (a : Nat) (bs : List Byte) : (s.wrStore a bs).amp = s.amp := by
  induction bs generalizing s a with
  | nil => rfl
  | cons b bs ih => exact (ih _ _).trans rfl
@[simp] theorem State.wrStore_pair (s : State) (a : Nat) (bs : List Byte) : (s.wrStore a bs).pair = s.pair := by
  induction bs generalizing s a with
  | nil => rfl
  | cons b bs ih => exact (ih _ _).trans rfl
@[simp] theorem State.wrStore_net (s : State) (a : Nat) (bs : List Byte) : (s.wrStore a bs).net = s.net := by
  induction bs generalizing s a with
  | nil => rfl
  | cons b bs ih => exact (ih _ _).trans rfl
@[simp] theorem State.wrStore_str (s : State) (a : Nat) (bs : List Byte) : (s.wrStore a bs).str = s.str := by
  induction bs generalizing s a with
  | nil => rfl
  | cons b bs ih => exact (ih _ _).trans rfl
@[simp] theorem State.wrStore_tu (s : State) (a : Nat) (bs : List Byte) : (s.wrStore a bs).tu = s.tu := by
  induction bs generalizing s a with
  | nil => rfl
  | cons b bs ih => exact (ih _ _).trans rfl
@[simp] theorem State.wrStore_cbus (s : State) (a : Nat) (bs : List Byte) : (s.wrStore a bs).cbus = s.cbus := by
  induction bs generalizing s a with
  | nil => rfl
  | cons b bs ih => exact (ih _ _).trans rfl
@[simp] theorem State.wrStore_tw0 (s : State) (a : Nat) (bs : List Byte) : (s.wrStore a bs).tw0 = s.tw0 := by
  induction bs generalizing s a with
  | nil => rfl
  | cons b bs ih => exact (ih _ _).trans rfl
@[simp] theorem State.wrStore_tw1 (s : State) (a : Nat) (bs : List Byte) : (s.wrStore a bs).tw1 = s.tw1 := by
  induction bs generalizing s a with
  | nil => rfl
  | cons b bs ih => exact (ih _ _).trans rfl
@[simp] theorem State.wrStore_dma (s : State) (a : Nat) (bs : List Byte) : (s.wrStore a bs).dma = s.dma := by
  induction bs generalizing s a with
  | nil => rfl
  | cons b bs ih => exact (ih _ _).trans rfl
@[simp] theorem State.wrStore_mortar (s : State) (a : Nat) (bs : List Byte) : (s.wrStore a bs).mortar = s.mortar := by
  induction bs generalizing s a with
  | nil => rfl
  | cons b bs ih => exact (ih _ _).trans rfl
@[simp] theorem State.wrStore_caps (s : State) (a : Nat) (bs : List Byte) : (s.wrStore a bs).caps = s.caps := by
  induction bs generalizing s a with
  | nil => rfl
  | cons b bs ih => exact (ih _ _).trans rfl
@[simp] theorem State.wrStore_pwr (s : State) (a : Nat) (bs : List Byte) : (s.wrStore a bs).pwr = s.pwr := by
  induction bs generalizing s a with
  | nil => rfl
  | cons b bs ih => exact (ih _ _).trans rfl
@[simp] theorem State.wrStore_fuses (s : State) (a : Nat) (bs : List Byte) : (s.wrStore a bs).fuses = s.fuses := by
  induction bs generalizing s a with
  | nil => rfl
  | cons b bs ih => exact (ih _ _).trans rfl
@[simp] theorem State.wrStore_sec (s : State) (a : Nat) (bs : List Byte) : (s.wrStore a bs).sec = s.sec := by
  induction bs generalizing s a with
  | nil => rfl
  | cons b bs ih => exact (ih _ _).trans rfl
@[simp] theorem State.wrStore_free (s : State) (a : Nat) (bs : List Byte) : (s.wrStore a bs).free = s.free := by
  induction bs generalizing s a with
  | nil => rfl
  | cons b bs ih => exact (ih _ _).trans rfl
@[simp] theorem State.wrStore_out (s : State) (a : Nat) (bs : List Byte) : (s.wrStore a bs).out = s.out := by
  induction bs generalizing s a with
  | nil => rfl
  | cons b bs ih => exact (ih _ _).trans rfl
@[simp] theorem State.wrStore_pending (s : State) (a : Nat) (bs : List Byte) : (s.wrStore a bs).pending = s.pending := by
  induction bs generalizing s a with
  | nil => rfl
  | cons b bs ih => exact (ih _ _).trans rfl

/-! `State.wr32` -/

@[simp] theorem State.wr32_regs (s : State) (a : Nat) (v : Word32) : (s.wr32 a v).regs = s.regs := s.wrBytes_regs _ _
@[simp] theorem State.wr32_store (s : State) (a : Nat) (v : Word32) : (s.wr32 a v).store = s.store := s.wrBytes_store _ _
@[simp] theorem State.wr32_node (s : State) (a : Nat) (v : Word32) : (s.wr32 a v).node = s.node := s.wrBytes_node _ _
@[simp] theorem State.wr32_flt (s : State) (a : Nat) (v : Word32) : (s.wr32 a v).flt = s.flt := s.wrBytes_flt _ _
@[simp] theorem State.wr32_kmp (s : State) (a : Nat) (v : Word32) : (s.wr32 a v).kmp = s.kmp := s.wrBytes_kmp _ _
@[simp] theorem State.wr32_st (s : State) (a : Nat) (v : Word32) : (s.wr32 a v).st = s.st := s.wrBytes_st _ _
@[simp] theorem State.wr32_audio (s : State) (a : Nat) (v : Word32) : (s.wr32 a v).audio = s.audio := s.wrBytes_audio _ _
@[simp] theorem State.wr32_bricks (s : State) (a : Nat) (v : Word32) : (s.wr32 a v).bricks = s.bricks := s.wrBytes_bricks _ _
@[simp] theorem State.wr32_amp (s : State) (a : Nat) (v : Word32) : (s.wr32 a v).amp = s.amp := s.wrBytes_amp _ _
@[simp] theorem State.wr32_pair (s : State) (a : Nat) (v : Word32) : (s.wr32 a v).pair = s.pair := s.wrBytes_pair _ _
@[simp] theorem State.wr32_net (s : State) (a : Nat) (v : Word32) : (s.wr32 a v).net = s.net := s.wrBytes_net _ _
@[simp] theorem State.wr32_str (s : State) (a : Nat) (v : Word32) : (s.wr32 a v).str = s.str := s.wrBytes_str _ _
@[simp] theorem State.wr32_tu (s : State) (a : Nat) (v : Word32) : (s.wr32 a v).tu = s.tu := s.wrBytes_tu _ _
@[simp] theorem State.wr32_cbus (s : State) (a : Nat) (v : Word32) : (s.wr32 a v).cbus = s.cbus := s.wrBytes_cbus _ _
@[simp] theorem State.wr32_tw0 (s : State) (a : Nat) (v : Word32) : (s.wr32 a v).tw0 = s.tw0 := s.wrBytes_tw0 _ _
@[simp] theorem State.wr32_tw1 (s : State) (a : Nat) (v : Word32) : (s.wr32 a v).tw1 = s.tw1 := s.wrBytes_tw1 _ _
@[simp] theorem State.wr32_dma (s : State) (a : Nat) (v : Word32) : (s.wr32 a v).dma = s.dma := s.wrBytes_dma _ _
@[simp] theorem State.wr32_mortar (s : State) (a : Nat) (v : Word32) : (s.wr32 a v).mortar = s.mortar := s.wrBytes_mortar _ _
@[simp] theorem State.wr32_caps (s : State) (a : Nat) (v : Word32) : (s.wr32 a v).caps = s.caps := s.wrBytes_caps _ _
@[simp] theorem State.wr32_pwr (s : State) (a : Nat) (v : Word32) : (s.wr32 a v).pwr = s.pwr := s.wrBytes_pwr _ _
@[simp] theorem State.wr32_fuses (s : State) (a : Nat) (v : Word32) : (s.wr32 a v).fuses = s.fuses := s.wrBytes_fuses _ _
@[simp] theorem State.wr32_sec (s : State) (a : Nat) (v : Word32) : (s.wr32 a v).sec = s.sec := s.wrBytes_sec _ _
@[simp] theorem State.wr32_free (s : State) (a : Nat) (v : Word32) : (s.wr32 a v).free = s.free := s.wrBytes_free _ _
@[simp] theorem State.wr32_out (s : State) (a : Nat) (v : Word32) : (s.wr32 a v).out = s.out := s.wrBytes_out _ _
@[simp] theorem State.wr32_pending (s : State) (a : Nat) (v : Word32) : (s.wr32 a v).pending = s.pending := s.wrBytes_pending _ _

/-! `State.wrNat` -/

@[simp] theorem State.wrNat_regs (s : State) (n a v : Nat) : (s.wrNat n a v).regs = s.regs := s.wrBytes_regs _ _
@[simp] theorem State.wrNat_store (s : State) (n a v : Nat) : (s.wrNat n a v).store = s.store := s.wrBytes_store _ _
@[simp] theorem State.wrNat_node (s : State) (n a v : Nat) : (s.wrNat n a v).node = s.node := s.wrBytes_node _ _
@[simp] theorem State.wrNat_flt (s : State) (n a v : Nat) : (s.wrNat n a v).flt = s.flt := s.wrBytes_flt _ _
@[simp] theorem State.wrNat_kmp (s : State) (n a v : Nat) : (s.wrNat n a v).kmp = s.kmp := s.wrBytes_kmp _ _
@[simp] theorem State.wrNat_st (s : State) (n a v : Nat) : (s.wrNat n a v).st = s.st := s.wrBytes_st _ _
@[simp] theorem State.wrNat_audio (s : State) (n a v : Nat) : (s.wrNat n a v).audio = s.audio := s.wrBytes_audio _ _
@[simp] theorem State.wrNat_bricks (s : State) (n a v : Nat) : (s.wrNat n a v).bricks = s.bricks := s.wrBytes_bricks _ _
@[simp] theorem State.wrNat_amp (s : State) (n a v : Nat) : (s.wrNat n a v).amp = s.amp := s.wrBytes_amp _ _
@[simp] theorem State.wrNat_pair (s : State) (n a v : Nat) : (s.wrNat n a v).pair = s.pair := s.wrBytes_pair _ _
@[simp] theorem State.wrNat_net (s : State) (n a v : Nat) : (s.wrNat n a v).net = s.net := s.wrBytes_net _ _
@[simp] theorem State.wrNat_str (s : State) (n a v : Nat) : (s.wrNat n a v).str = s.str := s.wrBytes_str _ _
@[simp] theorem State.wrNat_tu (s : State) (n a v : Nat) : (s.wrNat n a v).tu = s.tu := s.wrBytes_tu _ _
@[simp] theorem State.wrNat_cbus (s : State) (n a v : Nat) : (s.wrNat n a v).cbus = s.cbus := s.wrBytes_cbus _ _
@[simp] theorem State.wrNat_tw0 (s : State) (n a v : Nat) : (s.wrNat n a v).tw0 = s.tw0 := s.wrBytes_tw0 _ _
@[simp] theorem State.wrNat_tw1 (s : State) (n a v : Nat) : (s.wrNat n a v).tw1 = s.tw1 := s.wrBytes_tw1 _ _
@[simp] theorem State.wrNat_dma (s : State) (n a v : Nat) : (s.wrNat n a v).dma = s.dma := s.wrBytes_dma _ _
@[simp] theorem State.wrNat_mortar (s : State) (n a v : Nat) : (s.wrNat n a v).mortar = s.mortar := s.wrBytes_mortar _ _
@[simp] theorem State.wrNat_caps (s : State) (n a v : Nat) : (s.wrNat n a v).caps = s.caps := s.wrBytes_caps _ _
@[simp] theorem State.wrNat_pwr (s : State) (n a v : Nat) : (s.wrNat n a v).pwr = s.pwr := s.wrBytes_pwr _ _
@[simp] theorem State.wrNat_fuses (s : State) (n a v : Nat) : (s.wrNat n a v).fuses = s.fuses := s.wrBytes_fuses _ _
@[simp] theorem State.wrNat_sec (s : State) (n a v : Nat) : (s.wrNat n a v).sec = s.sec := s.wrBytes_sec _ _
@[simp] theorem State.wrNat_free (s : State) (n a v : Nat) : (s.wrNat n a v).free = s.free := s.wrBytes_free _ _
@[simp] theorem State.wrNat_out (s : State) (n a v : Nat) : (s.wrNat n a v).out = s.out := s.wrBytes_out _ _
@[simp] theorem State.wrNat_pending (s : State) (n a v : Nat) : (s.wrNat n a v).pending = s.pending := s.wrBytes_pending _ _

/-! `State.noteRow` -/

@[simp] theorem State.noteRow_regs (s : State) (a : Nat) : (s.noteRow a).regs = s.regs := by
  unfold State.noteRow
  split <;> rfl
@[simp] theorem State.noteRow_mem (s : State) (a : Nat) : (s.noteRow a).mem = s.mem := by
  unfold State.noteRow
  split <;> rfl
@[simp] theorem State.noteRow_store (s : State) (a : Nat) : (s.noteRow a).store = s.store := by
  unfold State.noteRow
  split <;> rfl
@[simp] theorem State.noteRow_node (s : State) (a : Nat) : (s.noteRow a).node = s.node := by
  unfold State.noteRow
  split <;> rfl
@[simp] theorem State.noteRow_flt (s : State) (a : Nat) : (s.noteRow a).flt = s.flt := by
  unfold State.noteRow
  split <;> rfl
@[simp] theorem State.noteRow_kmp (s : State) (a : Nat) : (s.noteRow a).kmp = s.kmp := by
  unfold State.noteRow
  split <;> rfl
@[simp] theorem State.noteRow_st (s : State) (a : Nat) : (s.noteRow a).st = s.st := by
  unfold State.noteRow
  split <;> rfl
@[simp] theorem State.noteRow_audio (s : State) (a : Nat) : (s.noteRow a).audio = s.audio := by
  unfold State.noteRow
  split <;> rfl
@[simp] theorem State.noteRow_bricks (s : State) (a : Nat) : (s.noteRow a).bricks = s.bricks := by
  unfold State.noteRow
  split <;> rfl
@[simp] theorem State.noteRow_amp (s : State) (a : Nat) : (s.noteRow a).amp = s.amp := by
  unfold State.noteRow
  split <;> rfl
@[simp] theorem State.noteRow_net (s : State) (a : Nat) : (s.noteRow a).net = s.net := by
  unfold State.noteRow
  split <;> rfl
@[simp] theorem State.noteRow_str (s : State) (a : Nat) : (s.noteRow a).str = s.str := by
  unfold State.noteRow
  split <;> rfl
@[simp] theorem State.noteRow_tu (s : State) (a : Nat) : (s.noteRow a).tu = s.tu := by
  unfold State.noteRow
  split <;> rfl
@[simp] theorem State.noteRow_cbus (s : State) (a : Nat) : (s.noteRow a).cbus = s.cbus := by
  unfold State.noteRow
  split <;> rfl
@[simp] theorem State.noteRow_tw0 (s : State) (a : Nat) : (s.noteRow a).tw0 = s.tw0 := by
  unfold State.noteRow
  split <;> rfl
@[simp] theorem State.noteRow_tw1 (s : State) (a : Nat) : (s.noteRow a).tw1 = s.tw1 := by
  unfold State.noteRow
  split <;> rfl
@[simp] theorem State.noteRow_dma (s : State) (a : Nat) : (s.noteRow a).dma = s.dma := by
  unfold State.noteRow
  split <;> rfl
@[simp] theorem State.noteRow_mortar (s : State) (a : Nat) : (s.noteRow a).mortar = s.mortar := by
  unfold State.noteRow
  split <;> rfl
@[simp] theorem State.noteRow_caps (s : State) (a : Nat) : (s.noteRow a).caps = s.caps := by
  unfold State.noteRow
  split <;> rfl
@[simp] theorem State.noteRow_pwr (s : State) (a : Nat) : (s.noteRow a).pwr = s.pwr := by
  unfold State.noteRow
  split <;> rfl
@[simp] theorem State.noteRow_fuses (s : State) (a : Nat) : (s.noteRow a).fuses = s.fuses := by
  unfold State.noteRow
  split <;> rfl
@[simp] theorem State.noteRow_sec (s : State) (a : Nat) : (s.noteRow a).sec = s.sec := by
  unfold State.noteRow
  split <;> rfl
@[simp] theorem State.noteRow_free (s : State) (a : Nat) : (s.noteRow a).free = s.free := by
  unfold State.noteRow
  split <;> rfl
@[simp] theorem State.noteRow_out (s : State) (a : Nat) : (s.noteRow a).out = s.out := by
  unfold State.noteRow
  split <;> rfl
@[simp] theorem State.noteRow_pending (s : State) (a : Nat) : (s.noteRow a).pending = s.pending := by
  unfold State.noteRow
  split <;> rfl

/-! `State.setBrickWord` -/

@[simp] theorem State.setBrickWord_regs (s : State) (b w : Nat) (v : Word32) : (s.setBrickWord b w v).regs = s.regs := by
  simp [State.setBrickWord]
@[simp] theorem State.setBrickWord_store (s : State) (b w : Nat) (v : Word32) : (s.setBrickWord b w v).store = s.store := by
  simp [State.setBrickWord]
@[simp] theorem State.setBrickWord_node (s : State) (b w : Nat) (v : Word32) : (s.setBrickWord b w v).node = s.node := by
  simp [State.setBrickWord]
@[simp] theorem State.setBrickWord_flt (s : State) (b w : Nat) (v : Word32) : (s.setBrickWord b w v).flt = s.flt := by
  simp [State.setBrickWord]
@[simp] theorem State.setBrickWord_kmp (s : State) (b w : Nat) (v : Word32) : (s.setBrickWord b w v).kmp = s.kmp := by
  simp [State.setBrickWord]
@[simp] theorem State.setBrickWord_st (s : State) (b w : Nat) (v : Word32) : (s.setBrickWord b w v).st = s.st := by
  simp [State.setBrickWord]
@[simp] theorem State.setBrickWord_audio (s : State) (b w : Nat) (v : Word32) : (s.setBrickWord b w v).audio = s.audio := by
  simp [State.setBrickWord]
@[simp] theorem State.setBrickWord_bricks (s : State) (b w : Nat) (v : Word32) : (s.setBrickWord b w v).bricks = s.bricks := by
  simp [State.setBrickWord]
@[simp] theorem State.setBrickWord_amp (s : State) (b w : Nat) (v : Word32) : (s.setBrickWord b w v).amp = s.amp := by
  simp [State.setBrickWord]
@[simp] theorem State.setBrickWord_net (s : State) (b w : Nat) (v : Word32) : (s.setBrickWord b w v).net = s.net := by
  simp [State.setBrickWord]
@[simp] theorem State.setBrickWord_str (s : State) (b w : Nat) (v : Word32) : (s.setBrickWord b w v).str = s.str := by
  simp [State.setBrickWord]
@[simp] theorem State.setBrickWord_tu (s : State) (b w : Nat) (v : Word32) : (s.setBrickWord b w v).tu = s.tu := by
  simp [State.setBrickWord]
@[simp] theorem State.setBrickWord_cbus (s : State) (b w : Nat) (v : Word32) : (s.setBrickWord b w v).cbus = s.cbus := by
  simp [State.setBrickWord]
@[simp] theorem State.setBrickWord_tw0 (s : State) (b w : Nat) (v : Word32) : (s.setBrickWord b w v).tw0 = s.tw0 := by
  simp [State.setBrickWord]
@[simp] theorem State.setBrickWord_tw1 (s : State) (b w : Nat) (v : Word32) : (s.setBrickWord b w v).tw1 = s.tw1 := by
  simp [State.setBrickWord]
@[simp] theorem State.setBrickWord_dma (s : State) (b w : Nat) (v : Word32) : (s.setBrickWord b w v).dma = s.dma := by
  simp [State.setBrickWord]
@[simp] theorem State.setBrickWord_caps (s : State) (b w : Nat) (v : Word32) : (s.setBrickWord b w v).caps = s.caps := by
  simp [State.setBrickWord]
@[simp] theorem State.setBrickWord_pwr (s : State) (b w : Nat) (v : Word32) : (s.setBrickWord b w v).pwr = s.pwr := by
  simp [State.setBrickWord]
@[simp] theorem State.setBrickWord_fuses (s : State) (b w : Nat) (v : Word32) : (s.setBrickWord b w v).fuses = s.fuses := by
  simp [State.setBrickWord]
@[simp] theorem State.setBrickWord_sec (s : State) (b w : Nat) (v : Word32) : (s.setBrickWord b w v).sec = s.sec := by
  simp [State.setBrickWord]
@[simp] theorem State.setBrickWord_free (s : State) (b w : Nat) (v : Word32) : (s.setBrickWord b w v).free = s.free := by
  simp [State.setBrickWord]
@[simp] theorem State.setBrickWord_out (s : State) (b w : Nat) (v : Word32) : (s.setBrickWord b w v).out = s.out := by
  simp [State.setBrickWord]
@[simp] theorem State.setBrickWord_pending (s : State) (b w : Nat) (v : Word32) : (s.setBrickWord b w v).pending = s.pending := by
  simp [State.setBrickWord]
@[simp] theorem State.setBrickWord_mem (s : State) (b w : Nat) (v : Word32) :
    (s.setBrickWord b w v).mem = (s.wr32 (brickWordAddr b w) v).mem := by
  simp [State.setBrickWord]

end Sys2Proof.Machine
end

