-- ==== Sys2Proof/Laws/Runs.lean ====
section
/-! SUPPORT. What the three ways a command acts can answer, and what a step does. -/

namespace Sys2Proof.Machine

/-- A command that always acts answers its effect, the queue as it was. -/
theorem always_next (s : State) (f : State → State) : always s f = .next { f s with pending := s.pending } := rfl

/-- While the engine runs, a command answers its effect. -/
theorem runs_alive {s : State} (f : State → State) (h : s.alive = true) :
    runs s f = .next { f s with pending := s.pending } := by
  simp only [runs, always, h, if_true]

/-- While the engine does not run, a command answers the state as it was. -/
theorem runs_not_alive {s : State} (f : State → State) (h : s.alive = false) : runs s f = .next s := by
  simp only [runs, always, h, Bool.false_eq_true, if_false]

/-- Everything a command that acts while the engine runs can answer. -/
theorem runs_cases {s t : State} {f : State → State} (h : runs s f = .next t) :
    (s.alive = true ∧ t = { f s with pending := s.pending }) ∨ (s.alive = false ∧ t = s) := by
  cases ha : s.alive with
  | true => rw [runs_alive f ha] at h; exact .inl ⟨rfl, by simpa using h.symm⟩
  | false => rw [runs_not_alive f ha] at h; exact .inr ⟨rfl, by simpa using h.symm⟩

/-- A command of the TAP answers its effect while the engine is powered and out of reset. -/
theorem tapRuns_next {s : State} (f : State → State) (hp : s.node.powered = true) (hr : s.node.inReset = false) :
    tapRuns s f = .next { f s with pending := s.pending } := by
  simp only [tapRuns, always, hp, hr, Bool.not_false, Bool.and_true, if_true]

/-- Without power, or held in reset, a command of the TAP answers the state as it was. -/
theorem tapRuns_off {s : State} (f : State → State) (h : (s.node.powered && !s.node.inReset) = false) :
    tapRuns s f = .next s := by
  simp only [tapRuns, always, h, Bool.false_eq_true, if_false]

@[simp] theorem alive_pending (s : State) (q : List Instr) : ({ s with pending := q } : State).alive = s.alive := rfl

@[simp] theorem rg_pending (s : State) (q : List Instr) (a : Nat) : ({ s with pending := q } : State).rg a = s.rg a := rfl

@[simp] theorem get_pending (s : State) (q : List Instr) (f : Fld) : ({ s with pending := q } : State).get f = s.get f := rfl

@[simp] theorem bit_pending (s : State) (q : List Instr) (f : Fld) : ({ s with pending := q } : State).bit f = s.bit f := rfl

end Sys2Proof.Machine
end

