-- ==== Sys2Proof/Laws/Gives.lean ====
section
/-! SUPPORT. From a command's effect to the state it answers. -/

namespace Sys2Proof.Machine

/-- A command that acts while the engine runs answers its effect. -/
theorem gives_runs {i : Instr} {s t : State} {f : State → State} (he : exec i s = runs s f) (ha : s.alive = true) (hf : f s = t) :
    Gives i s t := by
  unfold Gives
  rw [he, runs_alive f ha, hf]

/-- While the engine does not run, such a command changes nothing. -/
theorem gives_not_alive {i : Instr} {s : State} {f : State → State} (he : exec i s = runs s f) (ha : s.alive = false) :
    Gives i s s := by
  unfold Gives
  rw [he, runs_not_alive f ha]

/-- A command that always acts answers its effect. -/
theorem gives_always {i : Instr} {s t : State} {f : State → State} (he : exec i s = always s f) (hf : f s = t) : Gives i s t := by
  unfold Gives
  rw [he, always_next, hf]

/-- A command of the TAP answers its effect while the engine has power and is out of reset. -/
theorem gives_tapRuns {i : Instr} {s t : State} {f : State → State} (he : exec i s = tapRuns s f) (hp : s.node.powered = true)
    (hr : s.node.inReset = false) (hf : f s = t) : Gives i s t := by
  unfold Gives
  rw [he, tapRuns_next f hp hr, hf]

/-- What a command that runs answers, as a next state and what it equals. -/
theorem next_of_gives {i : Instr} {s t : State} (h : Gives i s t) : ∃ u, exec i s = .next u ∧ u = { t with pending := s.pending } :=
  ⟨_, h, rfl⟩

end Sys2Proof.Machine
end

