-- ==== Sys2Proof/Laws/Memory.lean ====
section
/-! SUPPORT. Laws of the memories: what a byte reads as after bytes are written, and that every operation on the SRAM
windows and on the store keeps its canonical form. -/

namespace Sys2Proof.Machine

theorem rdByte_wrByte (s : State) (a c : Nat) (v : Byte) : (s.wrByte a v).rdByte c = if c = a then v else s.rdByte c := by
  simp only [State.rdByte, State.wrByte_mem, cget_cset]

/-- A byte outside the bytes written reads as before. -/
theorem rdByte_wrBytes_out (s : State) {a c : Nat} {bs : List Byte} (h : c < a ∨ a + bs.length ≤ c) :
    (s.wrBytes a bs).rdByte c = s.rdByte c := by
  induction bs generalizing s a with
  | nil => rfl
  | cons b bs ih =>
    simp only [List.length_cons] at h
    show ((s.wrByte a b).wrBytes (a + 1) bs).rdByte c = _
    rw [ih (s.wrByte a b) (a := a + 1) (by omega), rdByte_wrByte, if_neg (by omega)]

/-- A byte written reads as it was written. -/
theorem rdByte_wrBytes_in (s : State) {a i : Nat} {bs : List Byte} (h : i < bs.length) :
    (s.wrBytes a bs).rdByte (a + i) = bs[i] := by
  induction bs generalizing s a i with
  | nil => simp at h
  | cons b bs ih =>
    show ((s.wrByte a b).wrBytes (a + 1) bs).rdByte (a + i) = _
    cases i with
    | zero => rw [rdByte_wrBytes_out _ (by omega), rdByte_wrByte, if_pos (by omega)]; rfl
    | succ i =>
      have := ih (s.wrByte a b) (a := a + 1) (i := i) (by simpa using h)
      rw [show a + (i + 1) = a + 1 + i by omega, this]
      rfl

theorem rdBytes_length (s : State) (n a : Nat) : (s.rdBytes n a).length = n := by
  induction n generalizing a with
  | zero => rfl
  | succ n ih => simp [State.rdBytes, ih]

/-- Reading back the bytes written. -/
theorem rdBytes_wrBytes_same (s : State) (a : Nat) (bs : List Byte) : (s.wrBytes a bs).rdBytes bs.length a = bs := by
  induction bs generalizing s a with
  | nil => rfl
  | cons b bs ih =>
    show ((s.wrByte a b).wrBytes (a + 1) bs).rdByte a :: ((s.wrByte a b).wrBytes (a + 1) bs).rdBytes bs.length (a + 1) = _
    rw [ih, rdByte_wrBytes_out _ (by omega), rdByte_wrByte, if_pos rfl]

theorem leBytes_length (n v : Nat) : (leBytes n v).length = n := by
  induction n generalizing v with
  | zero => rfl
  | succ n ih => simp [leBytes, ih]

theorem leNat_leBytes (n v : Nat) : leNat (leBytes n v) = v % 256 ^ n := by
  induction n generalizing v with
  | zero => simp [leBytes, leNat, Nat.mod_one]
  | succ n ih =>
    rw [leBytes, leNat, ih, BitVec.toNat_ofNat, show (256 : Nat) ^ (n + 1) = 256 * 256 ^ n by ring, Nat.mod_mul]

/-- A word written reads back. -/
theorem rd32_wr32_same (s : State) (a : Nat) (v : Word32) : (s.wr32 a v).rd32 a = v := by
  have h := rdBytes_wrBytes_same s a (leBytes 4 v.toNat)
  rw [leBytes_length] at h
  rw [State.rd32, State.wr32, h, leNat_leBytes, show (256 : Nat) ^ 4 = 2 ^ 32 by norm_num, Nat.mod_eq_of_lt v.isLt]
  exact BitVec.eq_of_toNat_eq (by simp)

theorem rdBytes_wrBytes_out (s : State) {a c n : Nat} {bs : List Byte} (h : c + n ≤ a ∨ a + bs.length ≤ c) :
    (s.wrBytes a bs).rdBytes n c = s.rdBytes n c := by
  induction n generalizing c with
  | zero => rfl
  | succ n ih =>
    show (s.wrBytes a bs).rdByte c :: _ = s.rdByte c :: _
    rw [rdByte_wrBytes_out s (by omega), ih (by omega)]

/-- A word that shares no byte with the one written reads as before. -/
theorem rd32_wr32_out (s : State) {a c : Nat} (v : Word32) (h : c + 4 ≤ a ∨ a + 4 ≤ c) : (s.wr32 a v).rd32 c = s.rd32 c := by
  rw [State.rd32, State.rd32, State.wr32, rdBytes_wrBytes_out]
  rw [leBytes_length]; exact h

/-! ## The canonical form -/

theorem reset_memory_wf : Memory.wf State.reset.mem = true := rfl

theorem reset_store_wf : Store.wf State.reset.store = true := rfl

theorem wrByte_wf {s : State} (a : Nat) (v : Byte) (h : Memory.wf s.mem = true) : Memory.wf (s.wrByte a v).mem = true :=
  cwf_cset a v h

theorem wrBytes_wf {s : State} (a : Nat) (bs : List Byte) (h : Memory.wf s.mem = true) :
    Memory.wf (s.wrBytes a bs).mem = true := by
  induction bs generalizing s a with
  | nil => exact h
  | cons b bs ih => exact ih _ (wrByte_wf a b h)

theorem wr32_wf {s : State} (a : Nat) (v : Word32) (h : Memory.wf s.mem = true) : Memory.wf (s.wr32 a v).mem = true :=
  wrBytes_wf a _ h

theorem wrNat_wf {s : State} (n a v : Nat) (h : Memory.wf s.mem = true) : Memory.wf (s.wrNat n a v).mem = true :=
  wrBytes_wf a _ h

theorem wrStore_wf {s : State} (a : Nat) (bs : List Byte) (h : Store.wf s.store = true) :
    Store.wf (s.wrStore a bs).store = true := by
  induction bs generalizing s a with
  | nil => exact h
  | cons b bs ih => exact ih _ (s := ({ s with store := cset storeDefault s.store a b } : State)) (cwf_cset a b h)

/-- Dropping entries (an erase, a clearing of a window) keeps the canonical form. -/
theorem memory_filter_wf {m : List Host.Cell} (p : Host.Cell → Bool) (h : Memory.wf m = true) :
    Memory.wf (m.filter p) = true := cwf_filter p h

theorem store_filter_wf {m : List Host.Cell} (p : Host.Cell → Bool) (h : Store.wf m = true) :
    Store.wf (m.filter p) = true := cwf_filter p h

end Sys2Proof.Machine
end

