-- ==== Sys2Proof/Laws/Shared.lean ====
section
/-! SUPPORT. What the shared operations do: putting out an item, messages and notifications change the sessions and the
outputs alone; a change of session leaves the others; a Brick put is the Brick read; a bundle that does not end its program
leaves its context as `bundleEffect` says. -/

namespace Sys2Proof.Machine

/-! `State.emit` -/

@[simp] theorem State.emit_out (s : State) (o : Output) : (s.emit o).out = s.out ++ [o] := rfl
@[simp] theorem State.emit_regs (s : State) (o : Output) : (s.emit o).regs = s.regs := rfl
@[simp] theorem State.emit_mem (s : State) (o : Output) : (s.emit o).mem = s.mem := rfl
@[simp] theorem State.emit_store (s : State) (o : Output) : (s.emit o).store = s.store := rfl
@[simp] theorem State.emit_node (s : State) (o : Output) : (s.emit o).node = s.node := rfl
@[simp] theorem State.emit_flt (s : State) (o : Output) : (s.emit o).flt = s.flt := rfl
@[simp] theorem State.emit_kmp (s : State) (o : Output) : (s.emit o).kmp = s.kmp := rfl
@[simp] theorem State.emit_st (s : State) (o : Output) : (s.emit o).st = s.st := rfl
@[simp] theorem State.emit_audio (s : State) (o : Output) : (s.emit o).audio = s.audio := rfl
@[simp] theorem State.emit_bricks (s : State) (o : Output) : (s.emit o).bricks = s.bricks := rfl
@[simp] theorem State.emit_amp (s : State) (o : Output) : (s.emit o).amp = s.amp := rfl
@[simp] theorem State.emit_pair (s : State) (o : Output) : (s.emit o).pair = s.pair := rfl
@[simp] theorem State.emit_net (s : State) (o : Output) : (s.emit o).net = s.net := rfl
@[simp] theorem State.emit_str (s : State) (o : Output) : (s.emit o).str = s.str := rfl
@[simp] theorem State.emit_tu (s : State) (o : Output) : (s.emit o).tu = s.tu := rfl
@[simp] theorem State.emit_cbus (s : State) (o : Output) : (s.emit o).cbus = s.cbus := rfl
@[simp] theorem State.emit_tw0 (s : State) (o : Output) : (s.emit o).tw0 = s.tw0 := rfl
@[simp] theorem State.emit_tw1 (s : State) (o : Output) : (s.emit o).tw1 = s.tw1 := rfl
@[simp] theorem State.emit_dma (s : State) (o : Output) : (s.emit o).dma = s.dma := rfl
@[simp] theorem State.emit_mortar (s : State) (o : Output) : (s.emit o).mortar = s.mortar := rfl
@[simp] theorem State.emit_caps (s : State) (o : Output) : (s.emit o).caps = s.caps := rfl
@[simp] theorem State.emit_pwr (s : State) (o : Output) : (s.emit o).pwr = s.pwr := rfl
@[simp] theorem State.emit_fuses (s : State) (o : Output) : (s.emit o).fuses = s.fuses := rfl
@[simp] theorem State.emit_sec (s : State) (o : Output) : (s.emit o).sec = s.sec := rfl
@[simp] theorem State.emit_free (s : State) (o : Output) : (s.emit o).free = s.free := rfl
@[simp] theorem State.emit_pending (s : State) (o : Output) : (s.emit o).pending = s.pending := rfl

/-! Messages (R489, R491, R494) -/

/-- Nothing but the sessions and the outputs differs. -/
def TalksOnly (s t : State) : Prop := t = { s with kmp := t.kmp, out := t.out }

theorem TalksOnly.refl (s : State) : TalksOnly s s := rfl

theorem TalksOnly.trans {s t u : State} (h : TalksOnly s t) (k : TalksOnly t u) : TalksOnly s u := by
  unfold TalksOnly at *; rw [k, h]

theorem TalksOnly.rg {s t : State} (h : TalksOnly s t) (a : Nat) : t.rg a = s.rg a := by
  rw [h]; rfl

theorem TalksOnly.rdByte {s t : State} (h : TalksOnly s t) (a : Nat) : t.rdByte a = s.rdByte a := by
  rw [h]; rfl

theorem emit_talks (s : State) (o : Output) : TalksOnly s (s.emit o) := rfl

theorem mapSession_talks (s : State) (n : Nat) (f : Session → Session) : TalksOnly s (s.mapSession n f) := rfl

theorem sendKmp_talks (s : State) (n type : Nat) (body : List Byte) : TalksOnly s (s.sendKmp n type body) := by
  unfold State.sendKmp
  split
  · exact TalksOnly.refl s
  · dsimp only
    split
    · exact mapSession_talks _ _ _
    · exact (mapSession_talks _ _ _).trans (emit_talks _ _)

theorem notifyOne_talks (s : State) (x : Session) (event : Nat) (data : List Byte) : TalksOnly s (s.notifyOne x event data) := by
  unfold State.notifyOne
  split
  · exact TalksOnly.refl s
  · dsimp only
    split
    · exact (sendKmp_talks _ _ _ _).trans (mapSession_talks _ _ _)
    · exact sendKmp_talks _ _ _ _

theorem notify_talks (s : State) (event : Nat) (data : List Byte) : TalksOnly s (s.notify event data) := by
  unfold State.notify
  generalize s.kmp.sessions = l
  induction l generalizing s with
  | nil => exact TalksOnly.refl s
  | cons x l ih => exact (notifyOne_talks s x event data).trans (ih _)

theorem reply_talks (s : State) (n op reqId status : Nat) (results : List Byte) : TalksOnly s (s.reply n op reqId status results) :=
  (mapSession_talks _ _ _).trans (sendKmp_talks _ _ _ _)

theorem finish_talks (s : State) (owner : Option (Nat × Nat)) (op status : Nat) (results : List Byte) :
    TalksOnly s (s.finish owner op status results) := by
  unfold State.finish
  split
  · exact reply_talks _ _ _ _ _ _
  · exact TalksOnly.refl s

/-- A change of session `n` that keeps session numbers leaves every other session. -/
theorem session_mapSession_ne (s : State) {n m : Nat} (f : Session → Session) (hf : ∀ x, (f x).num = x.num) (h : m ≠ n) :
    (s.mapSession n f).session m = s.session m := by
  unfold State.session State.mapSession
  generalize s.kmp.sessions = l
  induction l with
  | nil => rfl
  | cons x l ih =>
    simp only [List.map_cons, List.find?_cons] at ih ⊢
    by_cases hx : x.num = n
    · simp only [hx, if_true, hf] at ih ⊢
      rw [show (n == m) = false by simpa using fun e => h e.symm]
      exact ih
    · simp only [hx, if_false]
      split
      · rfl
      · exact ih

/-! Modes (R59) -/

theorem setMode_same {s : State} {m : Mode} (h : s.node.mode = m) : s.setMode m = s := by
  unfold State.setMode; simp [h]

/-! Bricks -/

@[simp] theorem brick_setBrick (s : State) (b : Nat) (v : Brick) : (s.setBrick b v).brick b = v := by
  simp [State.brick, State.setBrick, tgetD]

theorem tget_setBrick (s : State) (b : Nat) (v : Brick) : tget (s.setBrick b v).bricks b = some v := by
  simp [State.setBrick]

@[simp] theorem ctx_setWork (br : Brick) (w : Option Work) (c d : CtxSel) : (br.setWork w c).ctx d = br.ctx d := by
  cases c <;> cases d <;> rfl

@[simp] theorem ctx_setCtx (br : Brick) (x : Ctx) (c : CtxSel) : (br.setCtx x c).ctx c = x := by cases c <;> rfl

theorem ctx_setCtx_ne (br : Brick) (x : Ctx) {c d : CtxSel} (h : d ≠ c) : (br.setCtx x c).ctx d = br.ctx d := by
  cases c <;> cases d <;> first | rfl | exact absurd rfl h

/-- R126: out of service, a bundle has no effect. -/
theorem issueBundle_out {s : State} {b : Nat} (c : CtxSel) (bd : Bundle) (h : s.outOfService b = true) : issueBundle b c bd s = s := by
  unfold issueBundle; simp [h]

/-- R132: a bundle that does not end its program leaves its context as `bundleEffect` says, of the values before it. -/
theorem issueBundle_ctx {s : State} {b : Nat} {c : CtxSel} {bd : Bundle} (hs : s.outOfService b = false) (hok : bundleOk bd = true)
    (he : (bundleEffect ((s.brick b).ctx c) (s.brickWord b (agBoth ((s.brick b).ctx c) bd).1)
      (s.brickWord b (agBoth ((s.brick b).ctx c) bd).2.1) bd).ended = false) :
    ((issueBundle b c bd s).brick b).ctx c = (bundleEffect ((s.brick b).ctx c) (s.brickWord b (agBoth ((s.brick b).ctx c) bd).1)
      (s.brickWord b (agBoth ((s.brick b).ctx c) bd).2.1) bd).ctx := by
  unfold issueBundle
  simp only [hs, hok, if_true, Bool.false_eq_true, if_false]
  split
  · simp
  · simp only [he, Bool.false_eq_true, if_false, brick_setBrick]
    cases c <;> rfl

end Sys2Proof.Machine
end

