-- ==== Sys2Proof/WellFormed.lean ====
section
/-! DEFINITION. Commands whose operands the interface can carry: field widths, lengths, bundles that an encoding spells. `exec`
has a meaning for every command; statements about forms that can occur take this as their premise. -/

namespace Sys2Proof

/-- Session number 1 to 8, 8-byte SEQ, 16-byte TAG (Table 17.11). -/
def KmpHead.wf (h : KmpHead) : Bool :=
  1 ≤ h.session && h.session ≤ 8 && h.seq < 2 ^ 64 && (match h.tag with
    | some t => t.length == 16
    | none => true)

/-- REQ_ID of 2 bytes, at most 1,472 bytes of datagram (R489). -/
def KmpReq.wf (r : KmpReq) : Bool := r.head.wf && r.reqId < 2 ^ 16 && r.args.length ≤ 1472 - 16 - 4

/-- A register write carries 32 bits. -/
def Via.wf (v : Via) : Bool :=
  match v with
  | .kmp r => r.wf
  | .reg _ _ x => x < 2 ^ 32

/-- As `Via.wf`. -/
def LifeVia.wf (v : LifeVia) : Bool :=
  match v with
  | .kmp r => r.wf
  | .reg _ x => x < 2 ^ 32
  | .debug => true

/-- A frame as an external port takes one: addresses and type at least, 64 KiB at most. -/
def FrameIn.wf (f : FrameIn) : Bool := 14 ≤ f.bytes.length && f.bytes.length ≤ 65536

/-- Field widths of a PTP message. -/
def PtpMsg.wf (m : PtpMsg) : Bool := m.domainNum < 256 && m.src < 2 ^ 80 && m.seq < 2 ^ 16 && m.utc < 2 ^ 21

/-- A bundle that breaks none of the checks a bundle can break by itself (R160). -/
def Slot.wf (sl : Slot) (op : BrickOp) : Bool := Machine.bundleOk ⟨op, sl.aga, sl.agb, sl.mv⟩

/-- As `Slot.wf`, for the move rows. -/
def MvSlot.wf (sl : MvSlot) (mv : Move) : Bool := Machine.bundleOk ⟨sl.op, sl.aga, sl.agb, mv⟩

/-- A Mortar request within its 4 KiB page and 64 beats (R430). -/
def MortarReq.wf (q : MortarReq) : Bool := Machine.reqFits q

/-- A command's operands fit the interface. Commands not named here have operands that always do. -/
def Instr.wf (i : Instr) : Bool :=
  match i with
  | .sessionClose h reason => h.wf && reason < 2 ^ 16
  | .keepalive h => h.wf
  | .notifyAck h seq => h.wf && seq < 2 ^ 64
  | .identify r | .takeControl r | .dropControl r | .read r | .write r | .group r | .daymark r | .imageOpen r | .imageData r
  | .imageCommit r | .proposalAnswer r | .subscribe r | .cbusSend r | .tw0Xfer r | .enroll r | .sdp r => r.wf
  | .setMedium r _ | .setDeviceKey r _ | .genSignKey r _ | .setOwnerKey r _ => r.wf
  | .compact v | .hold v | .service v | .release v | .exitService v | .swap v | .reset v | .restep v | .realign v | .resync v
  | .replace v | .wake v | .diag v | .retest v | .commit v | .seal v | .debugLevel v => v.wf
  | .return_ v | .scrap v => v.wf
  | .samplePreload bits v | .extest bits v => v < 2 ^ bits
  | .codeRunLoaded _ index | .bankSwitch _ index => index < 2 ^ 16
  | .frameReceived f => f.wf
  | .addressAgeOut _ x => x < 2 ^ 48
  | .groupAgeOut _ g => g < 2 ^ 32
  | .txRingHead _ head => head < 2 ^ 12
  | .flashReceived _ _ _ bytes => bytes.length ≤ 1472
  | .ptpSyncRx _ m _ | .ptpDelayRespRx _ m | .ptpAnnounceRx _ m | .ptpDelayReqRx _ m _ | .ptpFollowUpRx _ m => m.wf
  | .tw0Done b => b.read.length ≤ 65
  | .mortar q => q.wf
  | .mortarRequest qs => qs.all MortarReq.wf
  | .nop sl => sl.wf .nop
  | .mac sl k al sa sb => sl.wf (.mac k al sa sb)
  | .msu sl k al sa sb => sl.wf (.msu k al sa sb)
  | .mpy sl k al sa sb => sl.wf (.mpy k al sa sb)
  | .mpn sl k al sa sb => sl.wf (.mpn k al sa sb)
  | .aclr sl k => sl.wf (.aclr k)
  | .amov sl k j => sl.wf (.amov k j)
  | .aadd sl k j => sl.wf (.aadd k j)
  | .asub sl k j => sl.wf (.asub k j)
  | .aneg sl k j => sl.wf (.aneg k j)
  | .aabs sl k j => sl.wf (.aabs k j)
  | .ashl sl k j sh => sl.wf (.ashl k j sh)
  | .ashr sl k j sh => sl.wf (.ashr k j sh)
  | .aldx sl k xl => sl.wf (.aldx k xl)
  | .ares sl k xl xm xh => sl.wf (.ares k xl xm xh)
  | .add sl d sa sb => sl.wf (.alu .add d sa sb)
  | .adds sl d sa sb => sl.wf (.alu .adds d sa sb)
  | .sub sl d sa sb => sl.wf (.alu .sub d sa sb)
  | .subs sl d sa sb => sl.wf (.alu .subs d sa sb)
  | .and sl d sa sb => sl.wf (.alu .and d sa sb)
  | .or sl d sa sb => sl.wf (.alu .or d sa sb)
  | .xor sl d sa sb => sl.wf (.alu .xor d sa sb)
  | .shl sl d sa sb => sl.wf (.alu .shl d sa sb)
  | .shr sl d sa sb => sl.wf (.alu .shr d sa sb)
  | .asr sl d sa sb => sl.wf (.alu .asr d sa sb)
  | .min sl d sa sb => sl.wf (.alu .min d sa sb)
  | .max sl d sa sb => sl.wf (.alu .max d sa sb)
  | .abs sl d sa => sl.wf (.abs d sa)
  | .neg sl d sa => sl.wf (.neg d sa)
  | .cmp sl sa sb => sl.wf (.cmp sa sb)
  | .mpyx sl d al sa sb => sl.wf (.mpyx d al sa sb)
  | .ldi sl d imm => sl.wf (.ldi d imm)
  | .lsi sl d imm => sl.wf (.lsi d imm)
  | .cls sl d k => sl.wf (.cls d k)
  | .br sl c rel => sl.wf (.br c rel)
  | .call sl c rel => sl.wf (.call c rel)
  | .ret sl => sl.wf .ret
  | .jmpx sl x => sl.wf (.jmpx x)
  | .loop sl len count => sl.wf (.loop len count)
  | .loopr sl len x => sl.wf (.loopr len x)
  | .end_ sl => sl.wf .endp
  | .ld sl dst ag => sl.wf (.ld dst ag)
  | .st sl src ag => sl.wf (.st src ag)
  | .sta sl k fmt ag => sl.wf (.sta k fmt ag)
  | .cvt sl k fmt dst => sl.wf (.cvt k fmt dst)
  | .mov sl dst src => sl.wf (.mov dst src)
  | .mtg sl dest src => sl.wf (Machine.mtgMove dest src)
  | .mfg sl fr dst => sl.wf (Machine.mfgMove fr dst)
  | _ => true

end Sys2Proof
end

