-- ==== Sys2Proof/Tests/Slice0.lean ====
section
/-! SUPPORT. Tests: worked examples of the manual, refused ill-formed commands, single steps on small states, and for each
statement a state that meets its hypotheses. -/

namespace Sys2Proof.Tests

set_option Elab.async false

open Sys2Proof.Machine

/-! ## Small states -/

/-- An engine in LEAD, out of reset. -/
def up : State := { State.reset with node := { State.reset.node with inReset := false, mode := .lead, phase := .none } }

/-- The same in another mode. -/
def inMode (m : Mode) : State := { up with node := { up.node with mode := m } }

theorem test_up_runs : up.alive = true := by decide

/-! ## Worked examples of the manual -/

/-- 04, accumulator formats: −0.75 stores as 0xA000_0000 in Q1.31 and 0xD000_0000 in Q2.30. -/
theorem test_convert_minus_three_quarters :
    convert (0xFFFFA000000000000000 : BitVec 80).toInt .q31 = (-0x60000000, false) ∧
    convert (0xFFFFA000000000000000 : BitVec 80).toInt .q30 = (-0x30000000, false) := by decide

/-- 04: an exact half rounds to the even neighbour; +1.0 saturates. -/
theorem test_convert_half_to_even_and_saturate :
    convert 0x180000000 .q31 = (2, false) ∧ convert 0x280000000 .q31 = (2, false) ∧
    convert 0x80000000000000000 .q31 = (0x7FFFFFFF, true) := by decide

/-- 00: L24 samples round half to even. -/
theorem test_l24_rounds_half_to_even :
    encodeSample 3 0x12345680 = [0x12, 0x34, 0x56] ∧ encodeSample 3 0x12345780 = [0x12, 0x34, 0x58] := by decide

/-- 01: word 0x1A2B of Brick 37, and entry 9,000 of the patch table. -/
theorem test_addresses : brickWordAddr 37 0x1A2B = 0x109468AC ∧ PATCH_ENTRY 9000 = 0x01011940 := by decide

/-- 03: COMMIT of a record, and the device address of journal offset 0x3EF80 on a 128 Mbit store. -/
theorem test_commit_word : commitWord 0x12F40 = 0xA55BEC7C ∧ jrnBase 2 + 0x3EF80 = 0xC4EF80 := by decide

/-- 05: the FIR inner bundle decodes from the word written out there. -/
theorem test_fir_bundle_decodes :
    decodeBundle 0x04A1120FFC401000 =
      some ⟨.mac 0 2 (.mem .a) (.mem .b), .post 0 (.imm (-1)), .post 1 (.imm 1), .none⟩ := by decide

/-- 06: the gain ramp from −12 dB to −6 dB over 960 samples. -/
theorem test_gain_ramp :
    (⟨-3072, -1536, 1, 960⟩ : Ramp).gain = -3070 ∧ (⟨-3072, -1536, 5, 960⟩ : Ramp).gain = -3064 ∧
    (⟨-3072, -1536, 480, 960⟩ : Ramp).gain = -2304 ∧ (⟨-3072, -1536, 960, 960⟩ : Ramp).gain = -1536 := by decide

/-- 08: a timestamp maps to the N next to the engine's own. -/
theorem test_timestamp_maps :
    ({ up with node := { up.node with n := 0x3EDCBA98E } } : State).mapTs 0x00000002 0x12345678 = 0x3EDCBA98A := by decide

/-- 09: wide times compare modulo 2^80 (2^64 ns). -/
theorem test_wide_times_wrap : wideDiff (0x180 * 65536) (0xFFFFFFFFFFFFFD98 * 65536) = 1000 * 65536 := by decide

/-- 11: the claim of a LEAD of priority 200, epoch 0x2A and health 3. -/
theorem test_claim :
    ((((up.put F.PAIR_CFG_PRIORITY 200).setRg PAIR_EPOCH 0x2A).put F.REF_SEL_STAT_STATE 3).put F.PAIR_RELIEF_FREE 1).claim = 0xF22B := by decide

/-- 17: M is 125 s at STEP_THR 1,000 us and y_h −3.0 ppm with history. -/
theorem test_moor_maximum :
    let m := (((up.put F.TMS_CTL_STEP_THR 1000).putBit F.CLK_STAT_HIST true).put F.CLK_MODEL_Y_H (unsigned 32 (-12885))).moorMax
    (2 * m.1 + m.2) / (2 * m.2) = 125 := by decide

/-- 07: the knee and the slope of the static curve: −1.0 dB at −19 dBFS, −9.0 dB at −8 dBFS. -/
theorem test_static_curve :
    let d : DynInst := ⟨0, 0xEC0018C0, 0, 0, 0, 0, ⟨0, 0, 0, 0⟩, [], 0⟩;
    d.curve (-19 * 65536) = -65536 ∧ d.curve (-8 * 65536) = -9 * 65536 := by decide

/-- 18: the TAP's IDCODE, and CRC-32 and CRC-32C of the nine digits (their published check values). -/
theorem test_crcs : crc32 (ascii "123456789") = 0xCBF43926 ∧ crc32c (ascii "123456789") = 0xE3069283 := by decide +kernel

/-- The published digest of "abc". -/
theorem test_sha256_abc :
    (sha256 (ascii "abc")).take 4 = [0xBA, 0x78, 0x16, 0xBF] := by decide +kernel

/-! ## Ill-formed commands are refused -/

/-- A request head and a request that fit. -/
def head1 : KmpHead := ⟨1, 1, none⟩
def req1 (args : List Byte) : KmpReq := ⟨head1, 7, args⟩
def slot0 : Slot := ⟨0, .fg, .none, .none, .none⟩

theorem test_wf_session_number : (Instr.keepalive ⟨0, 1, none⟩).wf = false ∧ (Instr.keepalive ⟨9, 1, none⟩).wf = false ∧
    (Instr.keepalive ⟨8, 1, none⟩).wf = true := by decide
theorem test_wf_seq : (Instr.keepalive ⟨1, 2 ^ 64, none⟩).wf = false ∧ (Instr.notifyAck head1 (2 ^ 64)).wf = false := by decide
theorem test_wf_tag : (Instr.keepalive ⟨1, 1, some [0, 1]⟩).wf = false ∧
    (Instr.keepalive ⟨1, 1, some (List.replicate 16 0)⟩).wf = true := by decide
theorem test_wf_reason : (Instr.sessionClose head1 65536).wf = false ∧ (Instr.sessionClose head1 65535).wf = true := by decide
theorem test_wf_req_id : (Instr.identify ⟨head1, 65536, []⟩).wf = false ∧ (Instr.identify ⟨head1, 65535, []⟩).wf = true := by decide
theorem test_wf_args : (Instr.imageData (req1 (List.replicate 1453 0))).wf = false ∧
    (Instr.imageData (req1 (List.replicate 1452 0))).wf = true := by decide +kernel
theorem test_wf_register_value : (Instr.hold (.reg .keeper 0 (2 ^ 32))).wf = false ∧ (Instr.return_ (.reg .debug (2 ^ 32))).wf = false ∧
    (Instr.hold (.reg .keeper 0 (2 ^ 32 - 1))).wf = true := by decide
theorem test_wf_lifecycle_request : (Instr.scrap (.kmp ⟨⟨0, 1, none⟩, 0, []⟩)).wf = false := by decide
theorem test_wf_boundary : (Instr.samplePreload 3 8).wf = false ∧ (Instr.extest 3 7).wf = true := by decide
theorem test_wf_section_index : (Instr.codeRunLoaded 0 65536).wf = false ∧ (Instr.bankSwitch 0 65535).wf = true := by decide
theorem test_wf_frame : (Instr.frameReceived ⟨0, List.replicate 13 0, true, true, false, 0, 0⟩).wf = false ∧
    (Instr.frameReceived ⟨0, List.replicate 14 0, true, true, false, 0, 0⟩).wf = true := by decide
theorem test_wf_addresses : (Instr.addressAgeOut 0 (2 ^ 48)).wf = false ∧ (Instr.groupAgeOut 0 (2 ^ 32)).wf = false := by decide
theorem test_wf_ring_head : (Instr.txRingHead 0 4096).wf = false ∧ (Instr.txRingHead 0 4095).wf = true := by decide
theorem test_wf_flash : (Instr.flashReceived 0 0 0 (List.replicate 1473 0)).wf = false := by decide +kernel

/-- A PTP message of domain number 0 from port 1 of clock `c`. -/
def ptp0 (c seq : Nat) (two : Bool) (ns : Nat) : PtpMsg :=
  ⟨0, c * 65536 + 1, seq, two, 0, ns, 0, 0, ⟨128, 6, 0x21, 0, 128, c, 0⟩, 0⟩
theorem test_wf_ptp : (Instr.ptpAnnounceRx 0 { ptp0 1 0 false 0 with domainNum := 256 }).wf = false ∧
    (Instr.ptpSyncRx 0 { ptp0 1 0 false 0 with src := 2 ^ 80 } 0).wf = false ∧
    (Instr.ptpFollowUpRx 0 { ptp0 1 0 false 0 with seq := 65536 }).wf = false ∧
    (Instr.ptpDelayRespRx 0 { ptp0 1 0 false 0 with utc := 2 ^ 21 }).wf = false ∧ (Instr.ptpDelayReqRx 0 (ptp0 1 65535 false 0) 0).wf = true := by
  decide
theorem test_wf_tw0_read : (Instr.tw0Done ⟨true, 0, true, List.replicate 66 0⟩).wf = false ∧
    (Instr.tw0Done ⟨true, 0, true, List.replicate 65 0⟩).wf = true := by decide
theorem test_wf_mortar : (Instr.mortar ⟨7, 0, 0, 0, 0, .address, 0x1FFC, false, [], 8, []⟩).wf = false ∧
    (Instr.mortar ⟨7, 0, 0, 0, 0, .address, 0x1FF8, false, [], 8, []⟩).wf = true ∧
    (Instr.mortarRequest [⟨7, 0, 0, 0, 0, .address, 0x1FF8, false, [], 8, []⟩, ⟨7, 0, 0, 0, 0, .xspi, 0, false, [], 4097, []⟩]).wf = false := by decide

/-- R160: an access through a field that names none, a loop of no bundles, a step beyond the range, two writers of one
register. -/
theorem test_wf_bundles : (Instr.ld ⟨0, .fg, .nop, .none, .none⟩ 0 .a).wf = false ∧
    (Instr.ld ⟨0, .fg, .nop, .plain 0, .none⟩ 0 .a).wf = true ∧ (Instr.loop slot0 0 4).wf = false ∧
    (Instr.loop slot0 1 4).wf = true ∧ (Instr.mac slot0 0 0 (.mem .b) (.x 0)).wf = false := by decide

/-! ## Single commands -/

/-- The next state of a command. -/
def after (i : Instr) (s : State) : State :=
  match exec i s with
  | .next t => t
  | _ => s

/-- `up` with a foreground context of Brick 0. -/
def withCtx (f : Ctx → Ctx) : State := up.setBrick 0 { up.brick 0 with fg := f (up.brick 0).fg }

/-- Chapter 5, Table 5.7: MAC with AL 1 adds the aligned product: 0.5 × 0.5 in Q1.31 is 2^61, aligned 2^62 (0.25 in Q17.63 is
2^61 × 2). -/
theorem test_mac : ((after (.mac slot0 0 1 (.x 1) (.x 2)) (withCtx (fun c => { c with
    x := (c.x.set 1 0x40000000).set 2 0x40000000 }))).ctxOf 0 .fg).a[0] = BitVec.ofNat 80 (2 ^ 61) := by decide +kernel

/-- R129: an accumulator at its maximum stays there, AS is set, ACC_SAT counts. -/
theorem test_mac_saturates :
    let t := after (.mac slot0 0 3 (.x 1) (.x 1)) (withCtx (fun c => { c with
      x := c.x.set 1 0x80000000, a := c.a.set 0 (BitVec.ofNat 80 (2 ^ 79 - 1)) }));
    (t.ctxOf 0 .fg).a[0] = BitVec.ofNat 80 (2 ^ 79 - 1) ∧ (t.ctxOf 0 .fg).f.asat = true ∧
      t.get (F.BRK_SAT_CNT_ACC_SAT 0) = 1 := by decide +kernel

/-- Table 5.7: ADDS limits to 0x7FFF_FFFF and sets V; SHR by 33 shifts by 1. -/
theorem test_adds_and_shr :
    let s := withCtx (fun c => { c with x := (c.x.set 1 0x7FFFFFFF).set 2 33 })
    let t := after (.adds slot0 3 (.x 1) (.sel (.x 2))) s
    (t.ctxOf 0 .fg).x[3] = 0x7FFFFFFF ∧ (t.ctxOf 0 .fg).f.v = true ∧
      ((after (.shr slot0 3 (.x 1) (.sel (.x 2))) s).ctxOf 0 .fg).x[3] = 0x3FFFFFFF := by decide +kernel

/-- R132: a move beside an operation reads the value from before the bundle. -/
theorem test_move_reads_old_value :
    let t := after (.add ⟨0, .fg, .none, .none, .mov 4 3⟩ 3 (.x 1) (.imm 5)) (withCtx (fun c => { c with
      x := (c.x.set 1 10).set 3 99 }));
    (t.ctxOf 0 .fg).x[3] = 15 ∧ (t.ctxOf 0 .fg).x[4] = 99 := by decide +kernel

/-- R145, Table 5.2: a store through P0 with a step beyond the end of its buffer wraps. -/
theorem test_store_wraps :
    let t := after (.st ⟨0, .fg, .nop, .post 0 (.imm 1), .none⟩ 2 .a) (withCtx (fun c => { c with
      x := c.x.set 2 0x12345678, p := c.p.set 0 107, b := c.b.set 0 100, l := c.l.set 0 8 }));
    t.brickWord 0 107 = 0x12345678 ∧ (t.ctxOf 0 .fg).p[0] = 100 := by decide +kernel

/-- R166: a fifth CALL loses the oldest entry. -/
theorem test_fifth_call :
    ((after (.call slot0 .al 16) (withCtx (fun c => { c with pc := 7, rets := [4, 3, 2, 1] }))).ctxOf 0 .fg).rets = [8, 4, 3, 2] := by
  decide +kernel

/-- R31: a tick counts N up, modulo 2^64. -/
theorem test_tick_counts :
    (after (.sampleTick ⟨[], [], [], [], [], [], false, false, false, [], []⟩) { up with node := { up.node with n := -1, fresh := false } }).node.n = 0 := by
  decide +kernel

/-- R451, R452: the first line to latch is FLT_FIRST's. -/
theorem test_keeper_watchdog :
    let t := after .keeperWatchdog up;
    t.latched 11 = true ∧ t.latched 10 = false ∧ t.get F.FLT_FIRST_SRC = 11 := by decide +kernel

/-- R26, R24: a misaligned access, a read of unmapped space, and one of an undefined offset. -/
theorem test_bus_errors :
    (after (.registerReadClear .keeper 0x00000002 false) up).out = [.error] ∧
    (after (.registerReadClear .keeper 0xFFFFFFF0 false) up).out = [.error] ∧
    (after (.capturingRead .keeper 0x0000FFFC) up).out = [.data 0] := by decide +kernel

/-- Table 2.2: HOLD from LEAD through GLB_MODE_REQ by the Keeper. -/
theorem test_hold : (after (.hold (.reg .keeper 0 0)) up).node.mode = .hold ∧
    (after (.hold (.reg .keeper 0 0)) up).get F.GLB_TRANS_CNT_TRANS_CNT = 1 := by decide +kernel

/-- R490: SESSION_OPEN without authentication, granted in DEVELOPMENT as session 1. -/
theorem test_session_open :
    (after (.sessionOpen (Vector.replicate 16 1) (Vector.replicate 16 2) false) up).kmp.sessions.map (fun x => x.num) = [1] := by
  decide +kernel

/-- R498: IDCODE answers 32 bits at any level; below FULL the TAP's MORTAR acts as BYPASS. -/
theorem test_tap : (after .idcode up).out = [.tdo 32 0x210249AB] ∧ (after .bypass up).out = [.tdo 1 0] := by decide +kernel

/-- R394: a frame that has been sent ends a queue slot with its result. -/
theorem test_cbus_tx :
    let s := (up.putBit (F.CBUS_CFG_EN 0) true).setMac 0 { up.mac 0 with
      phase := .attempt, queue := [⟨5, List.replicate 60 0, 1, 0, none⟩] };
    ((after (.cbusTxEnd 0 true) s).mac 0).results = [⟨5, 0, 1, none⟩] ∧ ((after (.cbusTxEnd 0 true) s).mac 0).queue = [] := by
  decide +kernel

/-- R412: a recovery that finds SDA held low shows SDA_STUCK and latches source 49. -/
theorem test_tw0_stuck :
    let t := after (.tw0Enable .sdaStuck) up;
    t.bit F.TW0_STAT_SDA_STUCK = true ∧ t.latched 49 = true ∧ t.out = [.tw0Recovery, .errN true] := by decide +kernel

/-- R482, R516: ZEROIZE_N in DEVELOPMENT blows RETURN_BEGIN; the erasure's end blows RETURN. -/
theorem test_zeroize :
    (after (.zeroizeNLow true) up).fuses.lifecycle = 5 ∧
    (after .returnEraseDone (after (.zeroizeNLow true) State.reset)).fuses.kDev = List.replicate 32 0xFF := by decide +kernel

/-- R283: the loss of REF0 is shown and counted. -/
theorem test_ref_loss :
    let s := up.putBit (F.REF_STAT_PRESENT 0) true;
    (after (.refLoss 0) s).bit (F.REF_STAT_LOST 0) = true ∧ (after (.refLoss 0) s).bit (F.REF_STAT_PRESENT 0) = false := by decide +kernel

/-- R278: an edge due now is driven, counted, and the next target is armed. -/
theorem test_pulse_edge :
    let s : State := { up with tu := { up.tu with pulses := [(0, ⟨false, 0, 160000, 0, true⟩)] } };
    (after (.pulseEdge 0) s).get (F.TMS_PULSE_STAT_FIRED 0) = 1 := by decide +kernel

/-- Table 18.2: 844 supply balls, 36 of VIO18, 196 of VCORE, 15 RSVD. R504's worked example: the cell of channel 37. -/
theorem test_ball_counts : ballCount Ball.supply = 844 ∧ ballCount (fun b => b == .vio18) = 36 ∧ ballCount (fun b => b == .vcore) = 196 ∧
    ballCount (fun b => b == .rsvd) = 15 ∧ ballAt 31 14 = .modOut 37 false true ∧ ballAt 31 15 = .modOut 37 false false ∧
    ballAt 32 14 = .modOut 37 true true ∧ ballAt 32 15 = .modOut 37 true false ∧ ballAt 33 14 = .snsV 37 ∧ ballAt 33 15 = .snsI 37 ∧
    ballAt 31 38 = .snsClk 2 := by decide +kernel

/-! ## Witnesses: states and operands that meet the hypotheses of each statement -/

theorem witness_StepRunsTheFrontCommand : State.reset.pending = [] := rfl

/-- A SCRAPPED, halted engine, with a command waiting. -/
def scrapped : State := { State.reset with fuses := { State.reset.fuses with lifecycle := 16 }, pending := [.idcode] }

theorem witness_ScrappedEnginesStayScrapped : scrapped.Scrapped ∧ ∃ t, step scrapped = .next t :=
  ⟨⟨by decide, by decide, by decide⟩, _, rfl⟩

theorem witness_StartOfAScrappedEngineHalts :
    ({ scrapped with node := { scrapped.node with powered := false } } : State).node.powered = false ∧
    scrapped.node.powered = true ∧ scrapped.node.inReset = true ∧ scrapped.fuses.lifecycle.testBit 4 = true := by decide

/-- A bundle with this operation alone, and one with this move alone. -/
def opB (op : BrickOp) : Bundle := ⟨op, .none, .none, .none⟩
def mvB (mv : Move) : Bundle := ⟨.nop, .plain 0, .none, mv⟩

/-- Issuing, as a test. -/
theorem issues_of {s : State} {b : Fin 96} {bd : Bundle} (h : (s.alive && !s.outOfService b.val && bundleOk bd) = true) :
    s.Issues b bd := by
  simp only [Bool.and_eq_true, Bool.not_eq_true'] at h
  exact ⟨h.1.1, h.1.2, h.2⟩

/-- Operands at the ends of their fields; the accumulator at its maximum, where a sum leaves the range. -/
theorem witness_AccumulatesSaturate :
    (∀ e ∈ [(95, opB (.mac 3 3 (.x 15) (.x 15))), (0, opB (.msu 0 0 (.x 0) (.x 0))), (0, opB (.mpy 0 3 (.x 0) (.x 15))),
      (0, opB (.mpn 0 3 (.x 0) (.x 15))), (0, opB (.aadd 3 3)), (0, opB (.asub 0 3)), (0, opB (.aneg 0 0)), (0, opB (.aabs 3 0)),
      (0, opB (.ashl 0 0 15))], up.Issues e.1 e.2) ∧ decide (sat80 (2 ^ 79 : Int) ≠ 2 ^ 79) = true ∧ decide (sat80 (2 ^ 79 - 1 : Int) ≠ 2 ^ 79 - 1) = false :=
  by unfold State.Issues; decide

theorem witness_AccumulatorLoadsAreExact :
    up.Issues 95 (opB (.mpy 3 3 (.x 15) (.x 15))) ∧ up.Issues 0 (opB (.mpn 0 0 (.x 0) (.x 0))) ∧ up.Issues 0 (opB (.aclr 3)) ∧
    up.Issues 0 (opB (.amov 0 3)) ∧ up.Issues 0 (opB (.ashr 0 3 63)) ∧ up.Issues 0 (opB (.aldx 3 15)) ∧
    up.Issues 0 (opB (.ares 0 1 2 15)) :=
  by unfold State.Issues; decide

theorem witness_RegisterOperations :
    (∀ o : AluOp, up.Issues 0 (opB (.alu o 15 (.x 0) (.imm 31)))) ∧ up.Issues 0 (opB (.abs 0 (.x 15))) ∧ up.Issues 0 (opB (.neg 0 (.x 15))) ∧
    up.Issues 0 (opB (.cmp (.x 15) (.sel (.x 0)))) ∧ Move.keepsF .none :=
  ⟨fun o => issues_of (by cases o <;> decide), issues_of (by decide), issues_of (by decide), issues_of (by decide),
    fun _ h => by cases h⟩

theorem witness_ProductsConstantsAndSigns :
    (up.Issues 0 (opB (.mpyx 15 0 (.x 0) (.x 1))) ∧ up.Issues 0 (opB (.mpyx 15 3 (.x 0) (.x 1))) ∧ up.Issues 0 (opB (.ldi 0 0x800)) ∧
    up.Issues 0 (opB (.lsi 0 0xFFF)) ∧ up.Issues 0 (opB (.cls 0 3))) ∧ Move.keepsF .none :=
  ⟨by unfold State.Issues; decide, fun _ h => by cases h⟩

/-- Contexts with an empty and a full return stack, with no, one and two loops, at a loop's last bundle. -/
def ctxA : State := withCtx (fun c => { c with rets := [1, 2, 3, 4], loops := [⟨0, 0, 2⟩, ⟨9, 12, 1⟩] })
def ctxB : State := withCtx (fun c => { c with pc := 5, loops := [⟨3, 5, 1⟩] })
def ctxC : State := withCtx (fun c => { c with pc := 4, loops := [⟨3, 5, 1⟩], x := c.x.set 2 0x10003 })

theorem witness_BranchesAndCalls :
    up.Issues 0 (opB (.br .al 0x7FF)) ∧ up.Issues 0 (opB (.br .as_ 0x800)) ∧ up.Issues 0 (opB (.call .eq 0)) ∧ ctxA.Issues 0 (opB .ret) ∧
    up.Issues 0 (opB (.jmpx 15)) ∧ (ctxA.ctxOf 0 .fg).rets = 1 :: [2, 3, 4] ∧ (up.ctxOf 0 .fg).rets = [] ∧
    (up.ctxOf 0 .fg).f.test .al = true ∧ (up.ctxOf 0 .fg).f.test .as_ = false :=
  by unfold State.Issues; decide

theorem witness_LoopsRunTheirCount :
    up.Issues 0 (opB (.loop 63 0)) ∧ ctxA.Issues 0 (opB (.loop 1 1023)) ∧ ctxB.Issues 0 (opB (.loopr 63 2)) ∧ ctxC.Issues 0 (opB (.loopr 1 2)) ∧
    up.Issues 0 (opB .nop) ∧ ctxA.Issues 0 (opB .nop) ∧ ctxB.Issues 0 (opB .nop) ∧ ctxC.Issues 0 (opB .nop) ∧
    (up.ctxOf 0 .fg).loops = [] ∧ (ctxA.ctxOf 0 .fg).loops.length = 2 ∧ (ctxB.ctxOf 0 .fg).loops.length < 2 ∧
    (ctxC.ctxOf 0 .fg).x[2].toNat % 65536 ≠ 0 ∧ (ctxB.ctxOf 0 .fg).x[2].toNat % 65536 = 0 ∧
    ((ctxA.ctxOf 0 .fg).loops = ⟨0, 0, 2⟩ :: [⟨9, 12, 1⟩] ∧ (ctxA.ctxOf 0 .fg).pc.toNat = 0) ∧
    ((ctxB.ctxOf 0 .fg).loops = ⟨3, 5, 1⟩ :: [] ∧ (ctxB.ctxOf 0 .fg).pc.toNat = 5) ∧
    ((ctxC.ctxOf 0 .fg).loops = ⟨3, 5, 1⟩ :: [] ∧ (ctxC.ctxOf 0 .fg).pc.toNat ≠ 5) :=
  by unfold State.Issues; decide

/-- Work with no entry left, and with one. -/
def work0 (rest : List Nat) (age : Nat) : Work := { rest := rest, cycles := 3, recent := [], age := age }
def workA : State := up.setBrick 0 { up.brick 0 with fgWork := some (work0 [] 0), bgWork := some (work0 [5] 2) }
def workB : State := up.setBrick 0 { up.brick 0 with bgWork := some (work0 [] 1) }

theorem witness_EndEndsTheRun :
    workA.Issues 0 (opB .endp) ∧ workA.Issues 0 (opB .ret) ∧ (workA.ctxOf 0 .fg).rets = [] ∧
    ((workA.brick 0).work .fg).map (fun w => w.rest) = some [] ∧ ((workA.brick 0).work .bg).map (fun w => w.rest) = some (5 :: []) :=
  by unfold State.Issues; decide

theorem witness_MovesMoveOldValues :
    (up.Issues 0 (mvB (.ld 15 .a)) ∧ up.Issues 0 (mvB (.mov 0 15)) ∧ up.Issues 0 (mvB (.st 15 .a)) ∧ up.Issues 0 (mvB (.sta 3 .spill2 .a)) ∧
    up.Issues 0 (mvB (.cvt 0 .q31 15)) ∧ up.Issues 0 (mvB (.mtg .l 7 15)) ∧ up.Issues 0 (mvB (.mtgF 15)) ∧
    up.Issues 0 (mvB (.mfg .b 7 0)) ∧ up.Issues 0 (mvB (.mfgTN 15))) ∧
    (∀ (d : Fin 16) (al : Fin 4) (sa sb : Sel), BrickOp.nop ≠ .mpyx d al sa sb) :=
  ⟨by unfold State.Issues; decide, fun _ _ _ _ h => by cases h⟩

theorem witness_BundlesStayInTheirBrick :
    up.Issues 0 (mvB (.st 0 .a)) ∧ (mvB (.st 0 .a)).stores .a = true ∧ up.Issues 95 (opB .nop) ∧ (opB .nop).stores .a = false ∧
    (opB .nop).stores .b = false ∧ (95 : Fin 96) ≠ 0 ∧ CtxSel.fg ≠ .bg :=
  ⟨issues_of (by decide), by decide, issues_of (by decide), by decide, by decide, by decide, by decide⟩

/-- Two engines of different modes agree on Brick 0. -/
theorem witness_BricksSeeOnlyThemselves : up.brick 0 = (inMode .hold).brick 0 ∧ (∀ a, up.rdByte a = (inMode .hold).rdByte a) ∧
    (∀ a, up.rg a = (inMode .hold).rg a) ∧ up ≠ inMode .hold :=
  ⟨rfl, fun _ => rfl, fun _ => rfl, fun h => by have := congrArg (fun s : State => s.node.mode) h; exact absurd this (by decide)⟩

/-- A buffer that ends at 65,536, its last word, a step of its whole length. -/
theorem witness_CircularAddressesStayInTheBuffer :
    (0 : Int) ≤ 65528 ∧ (0 : Int) < 8 ∧ (65528 : Int) ≤ 65535 ∧ (65535 : Int) < 65528 + 8 ∧ ((8 : Int).natAbs : Int) ≤ 8 ∧ (65528 : Int) + 8 ≤ 65536 ∧
    wrap 65535 8 65528 8 = 65535 := by decide

theorem witness_StoppedBricksBadBundlesAndOverruns :
    (up.put (F.BRK_ROLE_ROLE 7) 2).outOfService 7 = true ∧ bundleOk ⟨.loop 0 1, .none, .none, .none⟩ = false ∧ up.alive = true ∧
    (up.brick 0).work .fg = none ∧ (workA.brick 0).work .fg = some (work0 [] 0) ∧ (workA.brick 0).work .bg = some (work0 [5] 2) ∧ 2 ≤ (work0 [5] 2).age ∧
    (workB.brick 0).work .bg = some (work0 [] 1) ∧ (work0 [] 1).age < 2 := by decide +kernel

/-! ### KMP -/

def client1 : List Byte := List.replicate 16 1

/-- Session 1 of that client, which may take control; not authenticated, and authenticated. -/
def sess : Session := ⟨1, client1, false, [], true, 0, 0, BitVec.allOnes 64, [], [], true⟩
def sessA : Session := { sess with auth := true, key := List.replicate 32 5 }

/-- An engine with that session as CONTROLLER. -/
def talk (s : State) : State := { s with kmp := { s.kmp with sessions := [sess], controller := some 1 } }
def talkA (s : State) : State := { s with kmp := { s.kmp with sessions := [sessA], controller := some 1 } }

/-- A request of operation `op` with its right TAG. -/
def reqA (op : Nat) (args : List Byte) : KmpReq :=
  ⟨⟨1, 1, some (kmpTag (List.replicate 32 5) 1 0x10 1 (beBytes 2 op ++ beBytes 2 7 ++ args))⟩, 7, args⟩

/-- The state that has recorded a request. -/
def took (s : State) (op : Nat) (r : KmpReq) : State := (s.takeRequest op r).1

theorem accepts_of {s : State} {op : Nat} {r : KmpReq} {x : Session}
    (h : (s.alive && (s.takeRequest op r).2 == some x && (took s op r).opRefusal x op r.args == 0) = true) :
    s.Accepts op r x (took s op r) := by
  simp only [Bool.and_eq_true, beq_iff_eq] at h
  exact ⟨h.1.1, Prod.ext rfl h.1.2, h.2⟩

/-- The same with what the recorded state meets. -/
theorem accepts_and {s : State} {op : Nat} {r : KmpReq} {x : Session} {p : Prop} [Decidable p]
    (h : ((s.alive && (s.takeRequest op r).2 == some x && (took s op r).opRefusal x op r.args == 0) && decide p) = true) :
    s.Accepts op r x (took s op r) ∧ p := by
  rw [Bool.and_eq_true, decide_eq_true_eq] at h
  exact ⟨accepts_of h.1, h.2⟩

/-- A request is new, answered before, old, and wrong; SEQ at the last accepted one and next to it. -/
theorem witness_RequestsAreAuthenticAndNew :
    let s : State := { talk up with kmp := { (talk up).kmp with sessions := [{ sess with rxSeq := 4 }] } };
    s.kmpUp = true ∧ s.session 1 = some { sess with rxSeq := 4 } ∧ (¬ ∃ e ∈ ({ sess with rxSeq := 4 } : Session).replies, e.seq = 5 ∧ e.request = []) ∧
    4 < 5 ∧ (talkA up).kmpUp = true ∧ (talkA up).session 1 = some sessA ∧
    (reqA 1 []).head.tag = some (kmpTag sessA.key sessA.num 0x10 1 (beBytes 2 1 ++ beBytes 2 7 ++ [])) ∧
    ¬ (sessA.auth = false ∨ (none : Option (List Byte)) = some (kmpTag sessA.key sessA.num 0x10 1 [])) := by decide +kernel

theorem witness_RepliesGoOutOnce : (talk up).session 1 = some sess ∧ sess.num = 1 := by decide

/-- A session with a notification to be acknowledged, at its ninth and at an earlier resend. -/
def talkN (k : Nat) : State := { up with kmp := { up.kmp with
  sessions := [{ sess with unacked := [⟨3, [1], k⟩] }], controller := some 1, proposals := [⟨6, .dormant⟩] } }

theorem witness_SessionsOpenAndClose :
    (up.alive = true ∧ up.kmpUp = true ∧ up.openRefusal client1 false = 0 ∧ up.openRefusal client1 true = 0 ∧ up.freeSession = some 1) ∧
    ((talk up).accept head1 0x04 []).2 = some sess ∧ ((talk up).accept head1 0x21 (beBytes 8 3)).2 = some sess ∧
    ((talk up).accept head1 0x03 (beBytes 2 1 ++ [0, 0])).2 = some sess ∧
    (talkN 9).session 1 = some { sess with unacked := [⟨3, [1], 9⟩] } ∧
    (talkN 9).kmp.proposals.find? (fun (q : Proposal) => q.id == 6) = some ⟨6, .dormant⟩ ∧
    ({ sess with unacked := [⟨3, [1], 9⟩] } : Session).unacked.find? (fun (v : Unacked) => v.seq == 3) = some ⟨3, [1], 9⟩ ∧
    (talkN 8).session 1 = some { sess with unacked := [⟨3, [1], 8⟩] } := by decide +kernel

/-- A client of the ACCESS section, and no CONTROLLER, one that is silent, one that is present. -/
def listed : State := { up with st := { up.st with cfg := [(secAccess, [(0x13F, client1 ++ List.replicate 16 0)])] } }
def freeTalk (cap : Bool) : State := { listed with kmp := { up.kmp with sessions := [{ sess with capable := cap, alive := false }] } }
def other : Session := { sess with num := 2 }
def busyTalk : State := { up with kmp := { up.kmp with sessions := [sess, other], controller := some 2 } }

theorem witness_TellingAndControlRequests :
    (talk up).Accepts 0x01 (req1 []) sess (took (talk up) 0x01 (req1 [])) ∧
    (talk up).Accepts 0x21 (req1 []) sess (took (talk up) 0x21 (req1 [])) ∧
    ((talk up).Accepts 0xB0 (req1 [255, 1, 0, 0]) sess (took (talk up) 0xB0 (req1 [255, 1, 0, 0])) ∧ beAt [255, 1, 0, 0] 1 1 ≤ 1) ∧
    ((talk listed).Accepts 0x70 (req1 [63, 0, 0, 0]) sess (took (talk listed) 0x70 (req1 [63, 0, 0, 0])) ∧ beAt [63, 0, 0, 0] 0 1 < 64 ∧
      (took (talk listed) 0x70 (req1 [63, 0, 0, 0])).cfgItem secAccess (0x100 + 63) = some (client1 ++ List.replicate 16 0) ∧
      (took (talk listed) 0x70 (req1 [63, 0, 0, 0])).keysUsable = true) ∧
    (talk up).Accepts 0x51 (req1 (List.replicate 8 255)) sess (took (talk up) 0x51 (req1 (List.replicate 8 255))) ∧
    (let r := req1 [];
      let u := took (freeTalk true) 0x02 r;
      (freeTalk true).Accepts 0x02 r { sess with alive := false } u ∧ u.kmp.controller ≠ some 1 ∧
        u.mayControl { sess with alive := false } = true ∧ u.present = false) ∧
    (let r := req1 [];
      let x : Session := { sess with alive := false, capable := false };
      (freeTalk false).Accepts 0x02 r x (took (freeTalk false) 0x02 r) ∧ (took (freeTalk false) 0x02 r).kmp.controller ≠ some 1 ∧
        (took (freeTalk false) 0x02 r).mayControl x = false) ∧
    (let u := took busyTalk 0x02 (req1 []);
      busyTalk.Accepts 0x02 (req1 []) sess u ∧ u.kmp.controller ≠ some 1 ∧ u.mayControl sess = true ∧ u.present = true) ∧
    (talk up).Accepts 0x03 (req1 []) sess (took (talk up) 0x03 (req1 [])) := by
  refine ⟨?_, ?_, ?_, ?_, ?_, ?_, ?_, ?_, ?_⟩ <;>
    first | exact accepts_of (by decide +kernel) | exact accepts_and (by decide +kernel) | decide +kernel

/-- Arguments that name `n` words at an address, and data for as many. -/
def rangeArgs (a n : Nat) : List Byte := beBytes 4 a ++ beBytes 2 n ++ [0, 0]

/-- One and 256 words are answered, none and 257 are not. -/
theorem witness_ReadsAndWritesOfRanges :
    (let r := req1 (rangeArgs GLB_ID 1);
      (talk up).Accepts 0x10 r sess (took (talk up) 0x10 r) ∧ (took (talk up) 0x10 r).rangeStatus (.session 1) GLB_ID 1 false = 0) ∧
    (let r := req1 (rangeArgs 0 257);
      (talk up).Accepts 0x10 r sess (took (talk up) 0x10 r) ∧ (took (talk up) 0x10 r).rangeStatus (.session 1) 0 257 false ≠ 0) ∧
    (let r := req1 (rangeArgs PAIR_CFG 1 ++ [0, 0, 0, 0]);
      (talk up).Accepts 0x11 r sess (took (talk up) 0x11 r) ∧ (took (talk up) 0x11 r).rangeStatus (.session 1) PAIR_CFG 1 true = 0) ∧
    (let r := req1 (rangeArgs 0 0);
      (talk up).Accepts 0x11 r sess (took (talk up) 0x11 r) ∧ (took (talk up) 0x11 r).rangeStatus (.session 1) 0 0 true ≠ 0) ∧
    (took (talk up) 0x10 (req1 [])).rangeStatus (.session 1) 0 256 false = 0 := by
  refine ⟨?_, ?_, ?_, ?_, ?_⟩ <;>
    first | exact accepts_of (by decide +kernel) | exact accepts_and (by decide +kernel) | decide +kernel

/-! A store with a signed image of one section (GLB of the DEVICE group) (owner key: the base point, private scalar 1) and its marker. -/

def gPub : List Byte := beBytes 32 p256gx ++ beBytes 32 p256gy
def imgHead : Rec :=
  ⟨1, 1, 0, 32, 0, 2444226421, [1, 0, 0x24, 0x10, 0x10, 0, 1, 0, 32, 1, 0, 0, 3, 0, 0, 0, 77] ++ List.replicate 15 0, []⟩
def imgSec : Rec :=
  ⟨2, 0, 1, 20, 2444226421, 2841211332, leBytes 2 1 ++ leBytes 2 0 ++ leBytes 4 0 ++ leBytes 4 1 ++ leBytes 4 4 ++ leBytes 4 48000, []⟩
def imgEnd : Rec := ⟨3, 6, 2, 64, 2841211332, 2044337365,
  beBytes 32 64863875180431527748908040245020364587423985473805935446244722249320664225617 ++ [1] ++ List.replicate 31 0,
  beBytes 64 (7454171674282902517676912758867188612868323551704149317177155871159240399652011510382431841755145952691138764294637729038910597016806218009110185919217441)⟩
def imgMark : Rec := ⟨0x10, 3, 1, 32, 0, 3946862945, markerPayload 0 288 1 0 2044337365 0, []⟩

/-- The bytes of a committed record at an address. -/
def cellsAt (r : Rec) (a : Nat) : List Host.Cell :=
  ((r.head ++ leBytes 4 r.crc ++ leBytes 4 (commitWord r.seq) ++ r.padded ++ r.sig).zipIdx.filter (fun e => e.1 != 0xFF)).map
    (fun e => (a + e.2, e.1))

/-- An engine whose store holds them. -/
def imageUp : State :=
  { up with
    fuses := { up.fuses with ownerPub := gPub }, st := { up.st with density := 1 }
    store := cellsAt imgMark 0 ++ cellsAt imgHead 0x10000 ++ cellsAt imgSec 0x10040 ++ cellsAt imgEnd 0x10080 }

/-- A transfer of session 1 with bytes received. -/
def xfer (size got : Nat) : Transfer := ⟨1, size, got, 0, [], false, 0, 0, 0⟩

/-- A mode in which images are loaded, with a transfer of a length and bytes received. -/
def loading (size got : Nat) : State :=
  { talk imageUp with
    node := { up.node with mode := .beacon }
    kmp := { (talk imageUp).kmp with transfer := some (xfer size got) } }

/-- An engine that has a store and a generation. -/
def stored : State := (talk { up with st := { up.st with density := 1 }, node := { up.node with mode := .beacon } }).setRg STORE_GENERATION 1

/-- Parts of a group short of its length and to its length; an image of one byte and of the whole slot; image bytes to the
end, at a wrong offset; a whole image. -/
theorem witness_StoreRequestsAct :
    (let r := req1 (beBytes 4 0 ++ beBytes 4 3 ++ [1, 2]);
      (talk up).Accepts 0x20 r sess (took (talk up) 0x20 r) ∧ (took (talk up) 0x20 r).kmp.groupBuf = none ∧ beAt r.args 0 4 = 0 ∧
        (r.args.drop 8).length < beAt r.args 4 4) ∧
    (let r := req1 (beBytes 4 0 ++ beBytes 4 2 ++ [1, 2]);
      (talk up).Accepts 0x20 r sess (took (talk up) 0x20 r) ∧ (took (talk up) 0x20 r).kmp.groupBuf = none ∧ beAt r.args 0 4 = 0 ∧
        (r.args.drop 8).length = beAt r.args 4 4) ∧
    (let u := took stored 0x22 (req1 []);
      stored.Accepts 0x22 (req1 []) sess u ∧ u.st.compaction = none ∧ u.st.density ≠ 0 ∧ u.rg STORE_GENERATION ≠ 0) ∧
    (let r := req1 (beBytes 4 (slotSize 1) ++ [0, 0, 0, 0]);
      let u := took stored 0x30 r;
      stored.Accepts 0x30 r sess u ∧ u.node.mode = .beacon ∧ u.kmp.transfer = none ∧ u.st.density ≠ 0 ∧ 0 < beAt r.args 0 4 ∧
        beAt r.args 0 4 ≤ slotSize u.st.density) ∧
    (let r := req1 (beBytes 4 286 ++ [1, 2]);
      let u := took (loading 288 286) 0x31 r;
      (loading 288 286).Accepts 0x31 r sess u ∧ u.kmp.transfer = some (xfer 288 286) ∧ beAt r.args 0 4 = 286 ∧
        286 + (r.args.drop 4).length ≤ 288) ∧
    (let r := req1 (beBytes 4 285);
      let u := took (loading 288 286) 0x31 r;
      (loading 288 286).Accepts 0x31 r sess u ∧ u.kmp.transfer = some (xfer 288 286) ∧ beAt r.args 0 4 ≠ 286) ∧
    (let u := took (loading 288 288) 0x32 (req1 []);
      (loading 288 288).Accepts 0x32 (req1 []) sess u ∧ u.kmp.transfer = some (xfer 288 288) ∧
        (u.reply 1 0x32 7 1 []).imageFailStep (xfer 288 288) = 0) := by
  refine ⟨?_, ?_, ?_, ?_, ?_, ?_, ?_⟩ <;>
    first | exact accepts_of (by decide +kernel) | exact accepts_and (by decide +kernel) | decide +kernel

/-- Each request from a mode of its own and from one that does not allow it. -/
theorem witness_ModeRequestsAct :
    (∀ e ∈ [(Mode.lead, 5), (.hold, 6), (.hold, 8), (.service, 9), (.shadow, 10)],
      ((talk (inMode e.1)).takeRequest 0x40 (req1 [BitVec.ofNat 8 e.2, 0, 0, 0])).2 = some sess ∧
      (took (talk (inMode e.1)) 0x40 (req1 [BitVec.ofNat 8 e.2, 0, 0, 0])).opRefusal sess 0x40 [BitVec.ofNat 8 e.2, 0, 0, 0] = 0 ∧
      reqModes e.2 (took (talk (inMode e.1)) 0x40 (req1 [BitVec.ofNat 8 e.2, 0, 0, 0])).node.mode = true) ∧
    (∀ e ∈ [(Mode.hold, 5), (.service, 6), (.lead, 8), (.lead, 9), (.hold, 10)],
      ((talk (inMode e.1)).takeRequest 0x40 (req1 [BitVec.ofNat 8 e.2, 0, 0, 0])).2 = some sess ∧
      (took (talk (inMode e.1)) 0x40 (req1 [BitVec.ofNat 8 e.2, 0, 0, 0])).opRefusal sess 0x40 [BitVec.ofNat 8 e.2, 0, 0, 0] = 0 ∧
      reqModes e.2 (took (talk (inMode e.1)) 0x40 (req1 [BitVec.ofNat 8 e.2, 0, 0, 0])).node.mode = false) ∧
    (talk up).Accepts 0x40 (req1 [15, 0, 0, 0]) sess (took (talk up) 0x40 (req1 [15, 0, 0, 0])) :=
  ⟨by decide +kernel, by decide +kernel, accepts_of (by decide +kernel)⟩

/-- Engines whose blocks are as each request asks. -/
def refUp : State := (up.put F.REF_SEL_STAT_STATE 3).put F.REF_SEL_STAT_SEL 0
def shadowUp : State := (inMode .shadow).putBit F.PAIR_CFG_EN true
def latchedUp (st : ChState) : State := up.setCh 63 { up.ch 63 with state := st }
def cbusUp : State := up.putBit (F.CBUS_CFG_EN 3) true
def tw0Up : State := up.putBit F.TW0_CFG_EN true
def proposedUp : State := { talk up with kmp := { (talk up).kmp with proposals := [⟨6, .dormant⟩] } }

theorem witness_BlockRequestsAct :
    (talk up).Accepts 0x41 (req1 [1, 0, 0, 0]) sess (took (talk up) 0x41 (req1 [1, 0, 0, 0])) ∧
    (let r := req1 (beBytes 8 0);
      let u := took (talk refUp) 0x42 r;
      (talk refUp).Accepts 0x42 r sess u ∧ beAt r.args 0 8 % 8 = 0 ∧ (u.realignAsk 0).get F.CLK_REALIGN_STATUS ≠ 3) ∧
    (let u := took (talk shadowUp) 0x43 (req1 []);
      (talk shadowUp).Accepts 0x43 (req1 []) sess u ∧ u.node.mode = .shadow ∧ u.paired = true) ∧
    (let r := req1 [91, 0, 0, 0];
      let s := talk (up.put F.PAIR_RELIEF_FREE 1);
      s.Accepts 0x44 r sess (took s 0x44 r) ∧ beAt r.args 0 1 < nLogical ∧ (took s 0x44 r).replaceOk 91 = true) ∧
    (talk up).Accepts 0x45 (req1 []) sess (took (talk up) 0x45 (req1 [])) ∧
    (let r := req1 (2 :: List.replicate 11 0);
      (talk up).Accepts 0x46 r sess (took (talk up) 0x46 r) ∧ beAt r.args 0 1 ≤ 2 ∧ (took (talk up) 0x46 r).bit F.AMP_STAT_DIAG_BUSY = false) ∧
    (∀ st ∈ [ChState.latched, .locked], let r := req1 [63, 0, 0, 0];
      ((talk (latchedUp st)).takeRequest 0x47 r).2 = some sess ∧ (took (talk (latchedUp st)) 0x47 r).opRefusal sess 0x47 r.args = 0 ∧
        ((took (talk (latchedUp st)) 0x47 r).ch 63).state = st) ∧
    (∀ a ∈ [(0 : Byte), 1], let r := req1 [0, 0, 0, 6, a, 0, 0, 0];
      (proposedUp.takeRequest 0x50 r).2 = some sess ∧ (took proposedUp 0x50 r).opRefusal sess 0x50 r.args = 0 ∧
        (took proposedUp 0x50 r).kmp.proposals.find? (fun (q : Proposal) => q.id == beAt r.args 0 4) = some ⟨6, .dormant⟩ ∧
        beAt r.args 4 1 = a.toNat) ∧
    (let r := req1 ([3, 9, 0, 0] ++ List.replicate 60 0);
      (talk cbusUp).Accepts 0x60 r sess (took (talk cbusUp) 0x60 r) ∧ beAt r.args 0 1 < 4 ∧
        ((took (talk cbusUp) 0x60 r).cbusSubmit 3 9 (r.args.drop 4) (some (1, 7))).isSome = true) ∧
    (let r := req1 (beBytes 4 (64 * 2 ^ 15 + 64 * 2 ^ 8) ++ List.replicate 64 0);
      let u := took (talk tw0Up) 0x61 r;
      let cmd := beAt r.args 0 4 % 2 ^ 31;
      (talk tw0Up).Accepts 0x61 r sess u ∧ fieldOf cmd 15 7 ≤ 64 ∧ fieldOf cmd 8 7 ≤ 64 ∧ (r.args.drop 4).length = fieldOf cmd 15 7 ∧
        u.tw0On = true ∧ u.tw0.run = none) ∧
    (let r := req1 [2, 0, 0, 0];
      (talk up).Accepts 0xA0 r sess (took (talk up) 0xA0 r) ∧ beAt r.args 0 1 ≤ 2 ∧
        ((took (talk up) 0xA0 r).debugControl (beAt r.args 0 1)).get F.DBG_CTL_STATUS = 1) := by
  refine ⟨?_, ?_, ?_, ?_, ?_, ?_, ?_, ?_, ?_, ?_, ?_⟩ <;>
    first | exact accepts_of (by decide +kernel) | exact accepts_and (by decide +kernel) | decide +kernel

/-- A BLANK engine with these banks written. -/
def blank (w : List Nat) : State := talk { up with fuses := { up.fuses with lifecycle := 0, written := w } }

theorem witness_ProvisioningAndLifecycleRequests_provisioning :
    (let r := req1 [2, 0, 0, 0];
      (blank []).Accepts 0x80 r sess (took (blank []) 0x80 r) ∧ (blank []).lifecycle = 0 ∧ beAt r.args 0 1 = 2 ∧
        (took (blank []) 0x80 r).lifecycle = 0 ∧ (took (blank []) 0x80 r).bankFree 0 = true) ∧
    (let r := req1 [1, 0, 0, 0];
      (blank [0]).Accepts 0x80 r sess (took (blank [0]) 0x80 r) ∧ beAt r.args 0 1 = 1 ∧ (took (blank [0]) 0x80 r).lifecycle = 0 ∧
        (took (blank [0]) 0x80 r).bankFree 0 = false) ∧
    (let r := req1 (List.replicate 32 9);
      (blank []).Accepts 0x81 r sess (took (blank []) 0x81 r) ∧ (took (blank []) 0x81 r).lifecycle = 0 ∧ (took (blank []) 0x81 r).bankFree 1 = true) ∧
    (let r := req1 [];
      (blank []).Accepts 0x82 r sess (took (blank []) 0x82 r) ∧ (took (blank []) 0x82 r).lifecycle = 0 ∧ (took (blank []) 0x82 r).bankFree 2 = true) ∧
    (let r := req1 (List.replicate 64 9);
      (blank []).Accepts 0x83 r sess (took (blank []) 0x83 r) ∧ (took (blank []) 0x83 r).lifecycle = 0 ∧ (took (blank []) 0x83 r).bankFree 3 = true) := by
  refine ⟨?_, ?_, ?_, ?_, ?_⟩ <;>
    first | exact accepts_of (by decide +kernel) | exact accepts_and (by decide +kernel) | decide +kernel

theorem witness_ProvisioningAndLifecycleRequests_lifecycle :
    (let u := took (blank [0, 1, 2, 3]) 0x84 (req1 []);
      (blank [0, 1, 2, 3]).Accepts 0x84 (req1 []) sess u ∧ u.lifecycleRefusal 1 false = 0) ∧
    (let u := took ((talkA imageUp).setRg STORE_JRN_SEQ 0) 0x90 (reqA 0x90 []);
      ((talkA imageUp).setRg STORE_JRN_SEQ 0).Accepts 0x90 (reqA 0x90 []) sessA u ∧ u.lifecycleRefusal 2 sessA.auth = 0) ∧
    (let u := took (talk up) 0x91 (req1 []);
      (talk up).Accepts 0x91 (req1 []) sess u ∧ u.lifecycleRefusal 3 false = 0) ∧
    (let u := took (talk up) 0x92 (req1 [0, 0, 0, 0]);
      (talk up).Accepts 0x92 (req1 [0, 0, 0, 0]) sess u ∧ u.lifecycleRefusal 4 false = 0 ∧ beAt [0, 0, 0, 0] 0 4 = u.fuses.deviceId % 2 ^ 32) ∧
    (let u := took (talk up) 0x92 (req1 [0, 0, 0, 1]);
      (talk up).Accepts 0x92 (req1 [0, 0, 0, 1]) sess u ∧ u.lifecycleRefusal 4 false = 0 ∧ beAt [0, 0, 0, 1] 0 4 ≠ u.fuses.deviceId % 2 ^ 32) := by
  refine ⟨?_, ?_, ?_, ?_, ?_⟩ <;>
    first | exact accepts_of (by decide +kernel) | exact accepts_and (by decide +kernel) | decide +kernel

theorem witness_RegisterFormsWriteTheirRegister : up.alive = true := by decide

/-! ### Modes, START, registers, faults -/

theorem witness_PowerAndResetPins :
    ({ up with node := { up.node with powered := false } } : State).node.powered = false ∧ State.reset.node.inReset = true ∧
    State.reset.node.powered = true ∧ (State.reset.node.powered && !State.reset.node.inReset) = false ∧
    up.node.powered = true ∧ up.node.inReset = false ∧ (5 : Nat) ≠ SEC_ZEROIZE := by decide

theorem witness_ModeChangesAreRecorded : up.node.mode = .lead ∧ up.node.mode ≠ .hold := by decide

/-- HOLD left for SHADOW, for LEAD and for the mode START was to enter; HOLD that a fault keeps. -/
theorem witness_HoldAndReleaseChangeMode :
    up.node.mode ∈ [Mode.beacon, .lead, .shadow, .service, .dormant] ∧ (inMode .replay).node.mode ∈ [Mode.start, .replay, .hold] ∧
    (∀ s ∈ [inMode .hold, (inMode .hold).putBit F.PAIR_CFG_EN true, { inMode .hold with node := { (inMode .hold).node with releaseTo := some .beacon } }],
      s.node.mode = .hold ∧ s.flt.hold = 0 ∧ s.sec.unlocked = false ∧ s.node.releaseTo.getD (if s.paired then .shadow else .lead) ≠ .hold) ∧
    ({ inMode .hold with flt := { up.flt with hold := 1 } } : State).flt.hold ≠ 0 ∧ up.node.mode ≠ .service := by decide +kernel

/-- A hand-over of its own at its deadline. -/
def handing : State := { up with pair := { up.pair with ho := some ⟨true, 0, true, false, false⟩ } }

theorem witness_StartEventsAct :
    ({ up with node := { up.node with phase := .gate } } : State).alive = true ∧
    ({ up with node := { up.node with phase := .gate } } : State).node.phase = .gate ∧ up.alive = true ∧ up.node.phase ≠ .gate ∧
    (inMode .service).alive = true ∧ (inMode .service).node.mode = .service ∧ (inMode .service).node.phase = .none ∧
    ({ up with flt := { up.flt with resetPending := some 63 } } : State).flt.resetPending = some 63 ∧
    ({ up with flt := { up.flt with resetPending := some 63 } } : State).flt.pulsing = false ∧
    handing.pair.ho = some ⟨true, 0, true, false, false⟩ ∧ 0 ≤ handing.blk + 1 := by decide +kernel

theorem witness_SampleTicks : up.alive = true ∧ up.node.fresh = true ∧
    ({ up with node := { up.node with fresh := false } } : State).node.fresh = false := by decide

/-- A misaligned, an unmapped, a writable, a denied and an undefined address. -/
theorem witness_RegisterAccesses :
    up.alive = true ∧ (2 : Word32).toNat % 4 ≠ 0 ∧ (4 : Word32).toNat % 8 ≠ 0 ∧ (0x94000 : Word32).toNat % 8 = 0 ∧
    regionAt (0x94000 : Word32).toNat = .unmapped ∧ up.tapRead .debug = true ∧ (BitVec.ofNat 32 FLT_SOFT : Word32).toNat % 4 = 0 ∧
    regionAt (BitVec.ofNat 32 FLT_SOFT : Word32).toNat = .regs ∧ up.mayReach .keeper FLT_SOFT true = true ∧
    up.mayReach .debug FLT_SOFT true = false ∧ findReg 0x93FFC = none ∧ up.mayReach .keeper 0x93FFC true = true ∧
    up.mayReach .keeper 0x93FFC false = true ∧ regionAt 0x93FFC = .regs := by decide +kernel

theorem witness_UpperWordsAreCaptured :
    ((findReg FLT_STATUS).any (fun e => e.1.instAddr e.2.1 e.2.2 = FLT_STATUS && e.1.bits == 64 &&
      findReg (FLT_STATUS + 4) == some e)) = true ∧ isNow FLT_STATUS = false ∧ up.readData .keeper FLT_STATUS = none ∧
    up.capture .keeper = none ∧ Master.tw1 ≠ .keeper := by decide +kernel

/-- A master that has captured, and one that has not. -/
theorem witness_TimeReadsCapture :
    up.alive = true ∧ up.mayReach .keeper TMS_NOW_NS false = true ∧ up.tapRead .keeper = false ∧ tget up.tu.now (masterKey .keeper) = none ∧
    tget (after (.tmsNowCapture .keeper true) up).tu.now (masterKey .keeper) = some (0, 0) := by decide +kernel

/-- The debug port at OFF, DIAG and FULL. -/
def tapAt (level : Nat) : State := (up.put F.DBG_LEVEL_LEVEL level).putBit F.DBG_LEVEL_DISC false

theorem witness_DebugPortRights :
    up.node.powered = true ∧ up.node.inReset = false ∧ (up.putBit F.DBG_LEVEL_DISC true).bit F.DBG_LEVEL_DISC = true ∧
    (tapAt 0).bit F.DBG_LEVEL_DISC = false ∧ (tapAt 0).get F.DBG_LEVEL_LEVEL = 0 ∧ (tapAt 1).get F.DBG_LEVEL_LEVEL = 1 ∧
    0x10000000 % 4 = 0 ∧ regionAt 0x10000000 ≠ .unmapped ∧ regionAt 0x10000000 ≠ .regs := by decide +kernel

theorem witness_LinesLatchOnce : (63 : Nat) < 64 ∧ up.latched 63 = false ∧ (up.latch 63).latched 63 = true ∧ up.rg FLT_STATUS = 0 ∧
    (up.latch 63).rg FLT_STATUS ≠ 0 := by decide +kernel

/-- A bit without cause, one with its cause, one that is clear. -/
def unlockedUp : State := { up with sec := { up.sec with unlocked := true } }

theorem witness_ClearsRespectCauses :
    (up.latch 63).latched 63 = true ∧ (up.latch 63).causePresent 63 = false ∧ (unlockedUp.latch 53).latched 53 = true ∧
    (unlockedUp.latch 53).causePresent 53 = true ∧ up.latched 0 = false := by decide +kernel

def autoUp (s : State) : State := (s.latch 63).putBit (F.FLT_CFG_AUTO 63) true

/-- The die at the threshold, above it and at 115 degrees. -/
theorem witness_CollectorCommands :
    (up.alive = true ∧ up.mayReach .keeper FLT_STATUS true = true ∧ up.mayWrite .keeper FLT_STATUS 0 = true) ∧
    (let s := autoUp (talk up); s.alive = true ∧ s.latched 63 = true ∧ s.bit (F.FLT_CFG_AUTO 63) = true ∧ s.causePresent 63 = false ∧ s.present = true) ∧
    (let s := autoUp up; s.latched 63 = true ∧ s.bit (F.FLT_CFG_AUTO 63) = true ∧ s.causePresent 63 = false ∧ s.present = false) ∧
    (up.mayReach .keeper FLT_SOFT true = true ∧ up.mayWrite .keeper FLT_SOFT 0 = true) ∧
    (let thr := up.get F.FLT_TJ_HIGH_THR; thr * 256 ≤ 115 * 256 ∧ (BitVec.ofNat 16 (thr * 256)).toInt = thr * 256 ∧
      (thr : Int) * 256 < (BitVec.ofNat 16 (115 * 256)).toInt) ∧
    ({ up with flt := { up.flt with scrubbing := [3] } } : State).flt.scrubbing.contains 3 = true ∧
    ({ up with flt := { up.flt with pulsing := true } } : State).flt.pulsing = true := by decide +kernel

/-! ### Audio blocks, store, security, time -/

def peUp (p : PEntry) : State := up.setPe 16383 p
/-- An image that sounds (EN, 0 dB), and one that does not. -/
def loud : Word64 := BitVec.ofNat 64 ((List.range 64).foldl (fun n k => if peEn (BitVec.ofNat 64 (2 ^ k)) then 2 ^ k else n) 0)

theorem witness_PatchRampsAndFadesEnd :
    up.alive = true ∧ (up.pe 0).ramp = none ∧ (up.pe 0).fade = none ∧ (up.pe 0).shadow = none ∧ (up.pe 0).damaged = false ∧
    ((peUp ⟨0, some ⟨0, 256, 47, 48⟩, some ⟨false, 47, 48⟩, none, none, false, none⟩).pe 16383).ramp = some ⟨0, 256, 47, 48⟩ ∧
    ((peUp ⟨0, some ⟨0, 256, 48, 48⟩, some ⟨false, 48, 48⟩, none, none, false, none⟩).pe 16383).ramp = some ⟨0, 256, 48, 48⟩ ∧
    (let p : PEntry := ⟨0, none, some ⟨false, 48, 48⟩, some ⟨0, 0, some ⟨true, 48, 48⟩, none⟩, some (.fade (some (9, 3)), 5), false, none⟩; (peUp p).pe 16383 = p) ∧
    (up.node.n.toNat + 1) % 8 ≠ 0 ∧
    (let s : State := { up with node := { up.node with n := 7 } };
      (s.node.n.toNat + 1) % 8 = 0 ∧ s.waitsInto 0 = []) ∧
    (let s : State := { peUp ⟨0, none, none, none, some (.program (9, 3), loud), true, none⟩ with
        st := { up.st with cfg := [(secPatch, [(16383, leBytes 8 loud.toNat)])] } };
      (s.pe 16383).damaged = true ∧ s.cfgItem secPatch 16383 = some (leBytes 8 loud.toNat) ∧
        sounding (BitVec.ofNat 64 (leAt (leBytes 8 loud.toNat) 0 8)) = true ∧ sounding 0 = false ∧ s.waitsInto 9 = [(9, 3)] ∧ s.waitReady (9, 3) = true ∧
        (s.pe 16383).inWait (9, 3) = some loud ∧ s.waitsInto 8 = []) := by decide +kernel

theorem witness_RampsFadesAndRatesStayInBounds :
    (⟨0, -300, 0, 1⟩ : Ramp).k = 0 ∧ 0 < (⟨0, -300, 0, 1⟩ : Ramp).len ∧ (⟨0, -300, 1, 1⟩ : Ramp).len ≤ (⟨0, -300, 1, 1⟩ : Ramp).k ∧ (0 : Nat) < 1 ∧
    (2 * (((3 : Int) - rhe 3 2 * 2).natAbs : Int) = 2) ∧ -214748 ≤ up.getS F.CLK_RATE_Y ∧ up.getS F.CLK_RATE_Y ≤ 214748 := by decide +kernel

def lineUp (l : DelayLine) : State := up.setLine 3391 l
def lookUp (k : Nat) : State := { up with audio := { up.audio with
  lookWait := [(1279, (1, 2, 3, 4))], mutes := [(0, ⟨[.lookahead 1279], 0, 1, k, 48⟩)] } }

theorem witness_MetersDelaysAndDynamicsEnd :
    up.alive = true ∧ (tget up.audio.meters 0).bind (fun m => m.done) = none ∧
    (tget [(255, (⟨0, 0, false, some (0, 7)⟩ : Meter))] 255).bind (fun m => m.done) = some (0, 7) ∧ (up.line 0).next = none ∧
    (∀ c ∈ [9, 10], ((lineUp ⟨DelayBuf.none, some (⟨false, 10, 1, [0], c⟩, none), none⟩).line 3391).next = some (⟨false, 10, 1, [0], c⟩, none)) ∧
    (∀ k ∈ [47, 48], ((lineUp ⟨DelayBuf.none, some (⟨false, 10, 1, [0], 10⟩, some ⟨false, k, 48⟩), some 6⟩).line 3391) =
      ⟨DelayBuf.none, some (⟨false, 10, 1, [0], 10⟩, some ⟨false, k, 48⟩), some 6⟩) ∧
    ((lineUp ⟨DelayBuf.none, some (⟨false, 10, 1, [0], 10⟩, some ⟨false, 48, 48⟩), none⟩).line 3391).pend = none ∧
    tget up.audio.lookWait 0 = none ∧ tget (lookUp 48).audio.lookWait 1279 = some (1, 2, 3, 4) ∧
    (∀ d ∈ (lookUp 48).lookMuted 1279, ((lookUp 48).muteOf d).ended = true) ∧ (lookUp 48).lookMuted 1279 = [0] ∧
    (∃ d ∈ ({ lookUp 0 with audio := { (lookUp 0).audio with mutes := [(0, ⟨[.lookahead 1279], 1, 1, 0, 48⟩)] } } : State).lookMuted 1279,
      (({ lookUp 0 with audio := { (lookUp 0).audio with mutes := [(0, ⟨[.lookahead 1279], 1, 1, 0, 48⟩)] } } : State).muteOf d).ended = false) := by
  decide +kernel

/-- A group being written, whose changes set GLOBAL key 1 to 96,000; one without records; one that names no change. -/
def setFs : Rec := ⟨0x21, 3, 1, 12, 0, 0, leBytes 2 secGlobal ++ leBytes 2 1 ++ leBytes 4 1 ++ leBytes 4 4 ++ leBytes 4 96000, []⟩
def run0 (recs : List (Nat × Rec)) (at_ : Option Nat) : GroupRun := ⟨1, 7, recs, [(0x610000, [1, 2])], (0x61001C, [3, 4, 5, 6]), at_, 1, 64, 9⟩
def writingUp (g : GroupRun) (er : List Nat) : State := { up with st := { up.st with density := 1, writing := some g, erasing := er } }

/-- An apply tick 96 samples (2 ms) ahead is not late; one 95 ahead is. -/
theorem witness_GroupsCommitAndApply :
    up.alive = true ∧ up.st.writing = none ∧
    (∃ w ∈ (run0 [] none).endCommit :: (run0 [] none).writes, ∃ e ∈ (writingUp (run0 [] none) [0x610000]).st.erasing,
      e < w.1 + w.2.length ∧ w.1 < e + 4096) ∧
    (¬ ∃ w ∈ (run0 [] none).endCommit :: (run0 [] none).writes, ∃ e ∈ (writingUp (run0 [] none) []).st.erasing, e < w.1 + w.2.length ∧ w.1 < e + 4096) ∧
    signedDiff 95 up.node.n.toNat * 1000 < 2 * up.fs ∧ ¬ signedDiff 96 up.node.n.toNat * 1000 < 2 * up.fs ∧
    groupChanges (run0 [] none).plain [] = some [] ∧ groupChanges (run0 [(0, ⟨0x22, 3, 1, 0, 0, 0, [], []⟩)] none).plain [] = none ∧
    up.st.committed = [] ∧
    ((groupChanges (run0 [(0, setFs)] none).plain []).map (fun c => ((touched c secGlobal).contains 1 && Cfg.fs96 (Cfg.apply [] c) != up.node.fs96))) = some true ∧
    ((groupChanges (run0 [] none).plain []).map (fun c => ((touched c secGlobal).contains 1 && Cfg.fs96 (Cfg.apply [] c) != up.node.fs96))) = some false ∧
    (4096 : Nat) ∈ (writingUp (run0 [] none) [4096]).st.erasing ∧ (0 : Nat) ∉ up.st.erasing ∧ up.st.compactRetry = false ∧
    ({ up with st := { up.st with compactRetry := true } } : State).st.compaction = none := by decide +kernel

def compact0 : Compaction := ⟨1, 1, [], (64, []), none⟩
def loadsUp : State := { up with st := { up.st with
  density := 1, compaction := some compact0, codeLoads := [⟨91, 65535, [1, 2, 3, 4]⟩], bankLoads := [⟨1, 91, 0, [(0, [1, 2, 3, 4])], none, false, false, false, none⟩] } }

theorem witness_CompactionsAndLoadsEnd :
    loadsUp.alive = true ∧ loadsUp.st.compaction = some compact0 ∧ up.st.compaction = none ∧
    up.st.codeLoads.find? (fun r => r.l == 0 && r.index == 0) = none ∧
    loadsUp.st.codeLoads.find? (fun r => r.l == 91 && r.index == 65535) = some ⟨91, 65535, [1, 2, 3, 4]⟩ ∧
    up.st.bankLoads.find? (fun b => b.l == 0 && b.index == 0 && !b.written) = none ∧
    (loadsUp.st.bankLoads.find? (fun b => b.l == 91 && b.index == 0 && !b.written)).isSome = true := by decide +kernel

/-- Without power; OPEN and SEALED; BLANK; an erasure in progress, with and without RESET_N. -/
def fused (f : Nat) : State := { up with fuses := { up.fuses with lifecycle := f } }

theorem witness_ZeroizeErasesKeys :
    ({ up with node := { up.node with powered := false } } : State).node.powered = false ∧ up.node.powered = true ∧
    (fused 1).lifecycle ∈ [1, 2] ∧ (fused 3).lifecycle ∈ [1, 2] ∧ (fused 1).fuses.lifecycle.testBit 2 = false ∧ (fused 0).lifecycle ∉ [1, 2] ∧
    (fused 5).fuses.lifecycle.testBit 2 = true ∧ (fused 5).fuses.lifecycle.testBit 3 = false ∧ (fused 5).node.inReset = false ∧
    ((fused 13).node.powered && (fused 13).fuses.lifecycle.testBit 2 && !(fused 13).fuses.lifecycle.testBit 3) = false := by decide

/-- A SEALED engine with a challenge, and the owner's signature of it. -/
def challenged : State := { tapAt 1 with
  fuses := { up.fuses with lifecycle := 2, ownerPub := gPub }, sec := { up.sec with challenge := some (List.replicate 32 3), failures := 15 } }
def sig1 : Vector Byte 64 :=
  ⟨(beBytes 64 (5608918003960463414015172015330148631898974444326731655186642135685390862163815374060134215244008367076237194798887033252644291182287451920764075447653549)).toArray, by decide +kernel⟩

theorem witness_TapInstructionsAct :
    (State.reset.node.powered && !State.reset.node.inReset) = false ∧ (tapAt 2).node.powered = true ∧ (tapAt 2).node.inReset = false ∧
    (tapAt 2).bit F.DBG_LEVEL_DISC = false ∧ (tapAt 2).lifecycle = 1 ∧ (tapAt 2).get F.DBG_LEVEL_LEVEL = 2 ∧ (tapAt 1).get F.DBG_LEVEL_LEVEL ≠ 2 ∧
    (fused 16).lifecycle = 4 ∧ (fused 2).lifecycle = 2 ∧ (tapAt 2).node.mode ∉ [Mode.service, .hold] ∧ (inMode .hold).node.mode ∈ [Mode.service, .hold] ∧
    levelAllowed 1 3 false = false ∧ levelAllowed 1 2 false = true ∧ levelAllowed 2 1 false = true ∧ up.sec.unlocked = false ∧ unlockedUp.sec.unlocked = true ∧
    up.sec.backoff = false ∧ challenged.lifecycle = 2 ∧ challenged.sec.failures < 16 ∧ challenged.unlockGood sig1.toList = true ∧
    challenged.unlockGood (Vector.replicate 64 0).toList = false := by decide +kernel

/-- A pulse due now, one due later by a nanosecond; a queue of seven and of eight entries. -/
def pulsing (p : PulseRun) : State := { up with tu := { up.tu with pulses := [(7, p)] } }
def capUp (n edge : Nat) : State :=
  ((up.setCap 15 ⟨List.replicate n ⟨1, false, false, false⟩, false⟩).putBit (F.TMS_CAP_CFG_EN 15) true).put (F.TMS_CAP_CFG_EDGE 15) edge

theorem witness_PulsesAndCaptures :
    up.alive = true ∧ tget up.tu.pulses 0 = none ∧ tget (pulsing ⟨true, 1, 5, 0, true⟩).tu.pulses 7 = some ⟨true, 1, 5, 0, true⟩ ∧
    (pulsing ⟨true, 1, 5, 0, true⟩).pulseAhead ⟨true, 1, 5, 0, true⟩ ≤ 1 ∧ ¬ (pulsing ⟨true, 2, 5, 0, true⟩).pulseAhead ⟨true, 2, 5, 0, true⟩ ≤ 1 ∧
    (let s := pulsing ⟨false, 0, 5, 0, false⟩; s.pulseAhead ⟨false, 0, 5, 0, false⟩ ≤ wideDiff (s.tickTime (s.node.n.toNat + 1)) s.node.time) ∧
    up.bit (F.TMS_CAP_CFG_EN 15) = false ∧ (∀ k ∈ [0, 1, 2, 3], (capUp 7 k).get (F.TMS_CAP_CFG_EDGE 15) = k) ∧ (capUp 7 0).bit (F.TMS_CAP_CFG_EN 15) = true ∧
    (tgetD (capUp 7 0).tu.caps 15 ⟨[], false⟩).entries.length < 8 ∧ 8 ≤ (tgetD (capUp 8 0).tu.caps 15 ⟨[], false⟩).entries.length ∧
    (tgetD up.tu.caps 15 ⟨[], false⟩).entries = [] := by decide +kernel

/-- An instance that follows port 1 of clock 1; its path delay, a two-step Sync and a Delay_Req known. -/
def ptpUp (v : PtpInst) (servo : Nat) : State := ((up.setInst 1 v).putBit (F.TMS_PTP_CFG_EN 1) true).put (F.TMS_PTP_STAT_SERVO 1) servo
def slave0 : PtpInst := { PtpInst.rest with master := some 0x10001, waitFollow := some (4, 100, 0), req := some (4, 50), ms := some 20 }
def forUs (s : State) (seq : Nat) : PtpMsg := { ptp0 1 seq false 10 with reqPort := s.ownPort }

theorem witness_PtpMessagesAct :
    (let s := ptpUp slave0 2; let m := ptp0 1 4 false 10;
      s.alive = true ∧ s.ptpOn 1 = true ∧ s.fromMaster 1 m = true ∧ m.twoStep = false ∧ (ptp0 1 4 true 10).twoStep = true ∧
        s.fromMaster 1 (ptp0 2 4 false 10) = false ∧ (s.inst 1).waitFollow = some (4, 100, 0) ∧ m.seq = 4 ∧ (ptp0 1 5 false 0).seq ≠ 4 ∧
        m.reqPort ≠ s.ownPort ∧ (forUs s 4).reqPort = s.ownPort ∧ s.fromMaster 1 (forUs s 4) = true ∧ (s.inst 1).req = some (4, 50) ∧
        (s.inst 1).ms = some 20 ∧ (s.inst 1).delays = [] ∧ s.servo 1 ≠ 7 ∧ (s.inst 1).master ≠ none ∧
        ({ m with domainNum := 255 } : PtpMsg).domainNum ≠ s.get (F.TMS_PTP_CFG_DOMAIN_NUM 1) ∧
        m.src / 2 ^ 16 ≠ s.ownPort / 2 ^ 16 ∧ (∀ f ∈ (s.inst 1).foreign, f.src ≠ m.src)) ∧
    (let s := ptpUp { slave0 with delays := [9], aside := [1, 2, 3] } 2; (s.inst 1).mpd = some 9 ∧ ¬ (s.inst 1).aside.length < 3) ∧
    ((((1000 * 65536 + 9 : Int) - 9).natAbs : Int) ≤ 1000 * 65536 ∧ 1000 * 65536 < (((1000 * 65536 + 10 : Int) - 9).natAbs : Int)) ∧
    (let s := ptpUp PtpInst.rest 7; s.ptpOn 1 = true ∧ s.servo 1 = 7 ∧ (s.inst 1).master = none) ∧ up.ptpOn 1 = false := by decide +kernel

/-- Muted and not yet muted outputs while a step waits; re-alignments of REF0 and REF2 due, not due, and without conditions. -/
def realUp (sel at_ : Nat) : State := ((up.put F.REF_SEL_STAT_STATE 3).put F.REF_SEL_STAT_SEL sel).mapSel (fun c => { c with realign := some (at_, none) })

theorem witness_StepsAndRealignments :
    up.alive = true ∧ up.node.stepping = none ∧
    (let s : State := { up with node := { up.node with stepping := some 0 } }; s.node.stepping = some 0 ∧ s.allMuted = true) ∧
    (let s : State := { up with audio := { up.audio with running := true, muteOut := ⟨[.firstLock], 1, 1, 0, 480⟩ } }; s.allMuted = false) ∧
    up.tu.sel.realign = none ∧ (realUp 0 2).tu.sel.realign = some (2, none) ∧ (realUp 0 2).node.n.toNat + 1 < 2 ∧ 1 ≤ (realUp 0 1).node.n.toNat + 1 ∧
    (realUp 0 1).realignOk = true ∧ (realUp 7 1).realignOk = false ∧ (realUp 2 1).selRef = 2 ∧ (realUp 4 1).selRef = 4 ∧ (realUp 2 1).realignOk = true ∧
    (realUp 0 1).selRef ≠ 2 ∧ (realUp 0 1).selRef ≠ 4 ∧ (up.putBit F.CLK_STAT_ROOT_LOCK true).bit F.CLK_STAT_ROOT_LOCK = true ∧
    up.bit F.CLK_STAT_ROOT_LOCK = false := by decide +kernel

/-- A selector in a state of Table 10.2, following a reference. -/
def selUp (base sel : Nat) : State := ((up.mapSel (fun c => { c with base := base })).put F.REF_SEL_STAT_SEL sel)

theorem witness_ReferenceEventsAct :
    up.alive = true ∧ (selUp 7 7).selRuns = false ∧ (selUp 0 7).selRuns = true ∧
    (let s := (selUp 3 0).put (F.REF_CFG_RANK 4) 1; s.rank 4 ≠ 0 ∧ s.rank 2 = 0 ∧ s.following = true) ∧
    (up.putBit (F.REF_STAT_PRESENT 4) true).bit (F.REF_STAT_PRESENT 4) = true ∧ up.bit (F.REF_STAT_PRESENT 4) = false ∧
    (let s := (selUp 3 0).setRf 4 { (selUp 3 0).rf 4 with ok := true }; s.qualified 4 = false ∧ (s.rf 4).ok = true ∧ s.selRuns = true) ∧
    (let s := ((selUp 0 7).setQualified 4 true).unbar (.refSelect 4); s.selBase ≠ 4 ∧ s.following = false ∧ s.forced = none) ∧
    (let s := (selUp 3 0).putBit (F.REF_STAT_WTR_RUN 4) true; s.bit (F.REF_STAT_WTR_RUN 4) = true ∧ s.following = true) ∧
    (let s := (selUp 4 0).put F.REF_SEL_STAT_TARGET 0; let v := s.setRf 0 { s.rf 0 with winN := 8 };
      v.selBase = 4 ∧ v.bit F.REF_SEL_STAT_COMMITTED = false ∧ windowLen 0 ≤ (v.rf 0).winN ∧ (s.rf 0).winN < windowLen 0 ∧ s.tu.sel.updated = false) ∧
    (let s := (selUp 4 0).mapSel (fun c => { c with updated := true }); s.selBase = 4 ∧ s.tu.sel.updated = true ∧ s.forced = none) ∧
    (selUp 5 7).selBase = 5 ∧ (∀ r < 6, (selUp 3 0).bit (F.REF_STAT_WTR_RUN r) = false) := by decide +kernel

/-! ### Network, pair, amplifier, buses, power -/

def portUp0 (en link : Bool) : State := (up.putBit (F.NET_PORT_CFG_EN 3) en).putBit (F.NET_PORT_STAT_LINK 3) link
def sendingUp (d : Option (Nat × Nat)) : State :=
  (portUp0 true true).setPort 3 { (portUp0 true true).port 3 with sending := some (⟨List.replicate 60 0, none, d⟩, 0, 0) }
/-- A frame of 59 and of 60 bytes to the group address of all stations. -/
def frame0 (n : Nat) : FrameIn := ⟨3, List.replicate 6 255 ++ List.replicate (n - 6) 0, true, true, false, 0, 0⟩

theorem witness_NetworkEventsAct :
    up.alive = true ∧ (up.attempt 3).isSome = true ∧ (up.put (F.NET_PORT_CFG_RATE 3) 3).attempt 3 = none ∧
    ((portUp0 true false).bit (F.NET_PORT_CFG_EN 3) && decide ((portUp0 true false).get F.PWR_STAT_STATE < 3)) = true ∧
    (portUp0 true false).bit (F.NET_PORT_STAT_LINK 3) = false ∧ (portUp0 true true).bit (F.NET_PORT_STAT_LINK 3) = true ∧
    (portUp0 false false).portUp 3 = false ∧ (portUp0 true true).portUp 3 = true ∧
    (((up.creditTo 3 5).port 3).sending = none) ∧
    (((sendingUp none).creditTo 3 5).port 3).sending = some (⟨List.replicate 60 0, none, none⟩, 0, 0) ∧
    (((sendingUp (some (7, 0))).creditTo 3 5).port 3).sending = some (⟨List.replicate 60 0, none, some (7, 0)⟩, 0, 0) ∧
    (!(frame0 59).fcsOk || misshapen (frame0 59)) = true ∧ (!(frame0 60).fcsOk || misshapen (frame0 60)) = false ∧
    (portUp0 true true).get F.PWR_STAT_STATE ≠ 4 ∧ (up.put F.PWR_STAT_STATE 4).get F.PWR_STAT_STATE = 4 ∧
    up.bit (F.NET_TXR_CFG_EN 7) = false ∧ (up.putBit (F.NET_TXR_CFG_EN 7) true).bit (F.NET_TXR_CFG_EN 7) = true ∧
    up.bit (F.STR_RX_CFG_EN 255) = false := by decide +kernel

/-- Of two copies of one packet; a frame to the engine. -/
theorem witness_FramesAndCopiesKeepTheirRules :
    (viewFrame (List.replicate 60 0)).dst = up.fuses.mac ∧ bestCopy [⟨1, 0, 0, [], 0⟩, ⟨0, 0, 0, [], 0⟩] = some ⟨0, 0, 0, [], 0⟩ := by decide +kernel

/-- A pair's shadow in a warm copy: one unit, verifying, 15 or 16 clean blocks. -/
def wcUp (st : UnitSt) (clean : Nat) : State := { shadowUp with pair := { up.pair with
  wc := some ⟨9, [⟨0, .copying, [], none, 0, 0, 0, 0, 0, []⟩, ⟨5, st, [(1, 0), (2, 3)], none, clean, 0, 0, 0, 0, []⟩], [], false, 0, 0⟩,
  src := some ⟨9, [], [], false, 0, 0⟩ } }
/-- A frame of that copy: kind, whether it is the last, unit, FSEQ. -/
def wcBytes (kind last unit seq : Nat) : List Byte :=
  beBytes 4 0x4B574350 ++ [1, BitVec.ofNat 8 kind, 0, BitVec.ofNat 8 last] ++ beBytes 4 9 ++ beBytes 2 unit ++ beBytes 2 seq ++ List.replicate 16 0

theorem witness_PairCopyAndReliefEventsAct_pair :
    shadowUp.alive = true ∧ shadowUp.paired = true ∧ up.paired = false ∧ parseFlash [] = none ∧
    up.pair.last = none ∧
    (let s : State := { shadowUp with pair := { up.pair with last := some ⟨3, 0, 0, 0, 0, 0, 0, 0, []⟩ } };
      (!s.paired || s.pair.lostNow || s.pair.last.isNone) = false) ∧
    (let s := (inMode .dormant).putBit F.PAIR_CFG_EN true; (decide (s.node.mode = .dormant) && s.paired && decide (s.get F.PWR_STAT_STATE < 4)) = true) ∧
    (decide (up.node.mode = .dormant) && up.paired && decide (up.get F.PWR_STAT_STATE < 4)) = false ∧
    (let s := { shadowUp.putBit F.PAIR_CFG_STANDBY true with pair := { up.pair with lostNow := true } };
      (decide (s.node.mode = .shadow) && s.bit F.PAIR_CFG_STANDBY && !s.bit F.PAIR_STAT_HOT && s.pair.lostNow) = true) := by decide +kernel

theorem witness_PairCopyAndReliefEventsAct_copy :
    (let s := wcUp .verifying 16;
      s.readWc 9 [] = none ∧
      (s.readWc 9 (wcBytes 2 0 5 4)).map (fun f => (f.kind, f.unit, f.fseq)) = some (2, 5, 4) ∧
      (s.readWc 9 (wcBytes 2 0 5 3)).map (fun f => (f.kind, f.unit, f.fseq)) = some (2, 5, 3) ∧
      (s.readWc 9 (wcBytes 1 1 5 0)).map (fun f => (f.kind, f.unit, f.fseq)) = some (1, 5, 0) ∧
      (s.readWc 9 (wcBytes 3 0 5 0)).map (fun f => (f.kind, f.unit, f.fseq)) = some (3, 5, 0) ∧
      (s.readWc 9 (wcBytes 4 0 5 0)).map (fun f => (f.kind, f.unit, f.fseq)) = some (4, 5, 0) ∧
      (s.readWc 9 (wcBytes 5 1 0 0)).map (fun f => (f.kind, f.last)) = some (5, true) ∧
      (s.readWc 9 (wcBytes 5 0 0 0)).map (fun f => (f.kind, f.last)) = some (5, false) ∧
      (s.readWc 9 (wcBytes 16 0 0 0)).map (fun f => f.kind) = some 16 ∧ (s.readWc 9 (wcBytes 17 0 0 0)).map (fun f => f.kind) = some 17 ∧
      (s.pair.wc.bind (fun c => c.unit 5)).map (fun x => (x.st, x.clean)) = some (.verifying, 16) ∧ s.pair.wc.bind (fun c => c.unit 6) = none) ∧
    ((wcUp .verifying 15).pair.wc.bind (fun c => c.unit 5)).map (fun x => (x.st, x.clean)) = some (.verifying, 15) ∧
    up.pair.wc = none ∧ up.pair.src = none ∧ up.pair.wcRetry = false ∧
    ({ shadowUp with pair := { up.pair with wcRetry := true } } : State).pair.wcRetry = true := by decide +kernel

/-- A takeover of logical Brick 91 by Relief Brick 95: its steps. -/
def reliefUp (loaded runs ready : Bool) : State :=
  { up.putBit (F.BRK_CTL_RUN 95) true with
    node := { up.node with n := 7 }, pair := { up.pair with takeovers := [⟨91, 94, 95, false, loaded, runs, ready⟩] } }

theorem witness_PairCopyAndReliefEventsAct_relief :
    (up.put (F.BRK_ROLE_ROLE 95) 2).outOfService 95 = true ∧ up.outOfService 95 = false ∧
    (let u := (up.putBit (F.BRK_STAT_ECC_UE 95) true).latch 0;
      (decide (95 % 24 = 23) && decide (u.get F.PAIR_RELIEF_FREE / 2 ^ (95 / 24) % 2 = 1)) = true) ∧
    (let u := (up.putBit (F.BRK_STAT_ECC_UE 94) true).latch 0; u.logicalOf 94 = some 91) ∧
    (let s := up.put F.PAIR_RELIEF_FREE 0; let u := (s.putBit (F.BRK_STAT_ECC_UE 95) true).latch 0; u.logicalOf 95 = none ∧
      (decide (95 % 24 = 23) && decide (u.get F.PAIR_RELIEF_FREE / 2 ^ (95 / 24) % 2 = 1)) = false) ∧
    up.takeover 91 = none ∧ (reliefUp false false false).takeover 91 = some ⟨91, 94, 95, false, false, false, false⟩ ∧
    (reliefUp true false false).takeover 91 = some ⟨91, 94, 95, false, true, false, false⟩ ∧ ((reliefUp true false false).node.n.toNat + 1) % 8 = 0 ∧
    (reliefUp true true false).reliefPlays 95 = true ∧
    ((reliefUp true true false).putBit (F.BRK_TRIG_EN 95 1) true).reliefPlays 95 = false ∧
    (reliefUp true true true).takeover 91 = some ⟨91, 94, 95, false, true, true, true⟩ ∧
    (reliefUp true true true).audio.patch.any (fun e => e.2.busyFor ((reliefUp true true true).outputsOf 95) 94) = false := by decide +kernel

/-- An amplifier whose channel 63 is enabled and sensed, in a state. -/
def ampUp (c : AmpCh → AmpCh) : State :=
  let s : State := { up with node := { up.node with role := .amplifier }, audio := { up.audio with running := true } }
  let s := (s.putBit (F.AMP_CH_CFG_EN 63) true).putBit (F.AMP_CH_CFG_SENSE_EN 63) true
  let s := ((s.put (F.AMP_CH_SNS_SCALE_V_FS 63) 500).put (F.AMP_CH_SNS_SCALE_I_FS 63) 1000).put (F.AMP_CH_SCALE_Z_NOM 63) 8
  (s.put (F.AMP_CH_HF_ALPHA 63) 393).setCh 63 (c (s.ch 63))
def corr1 : Corr := ⟨1, 2 ^ 100, 0, 2 ^ 100, 0⟩

theorem witness_AmplifierEventsAct_trips :
    (let s := ampUp (fun c => { c with state := .playing, trips := [5, 10, 14] });
      s.alive = true ∧ s.chEnabled 63 = true ∧ (s.ch 63).state = .playing ∧ s.iLost 63 = false ∧ (s.ch 63).trips.contains 15 = false ∧
        (s.ch 63).trips.contains 14 = true ∧ s.node.n.toNat * 16 + 15 = 15) ∧
    (let s := ampUp (fun c => { c with state := .latched }); (s.ch 63).state = .latched ∧ s.retestClear 63 = true) ∧
    (let s := ampUp (fun c => { c with state := .retest, retest := some (479, corr1) }); (s.ch 63).retest = some (479, corr1) ∧ 479 < s.ms10) ∧
    (let s := ampUp (fun c => { c with state := .retest, retest := some (480, corr1) });
      (s.ch 63).state = .retest ∧ s.ms10 ≤ 480 ∧ (∃ z ∈ s.zMag 63 corr1, s.zNom 63 ≤ 4 * z) ∧ s.zMag 63 Corr.zero = none) := by decide +kernel

theorem witness_AmplifierEventsAct_diagnostics :
    (let d : DiagRun := ⟨true, 2, .dcHold, 9, 9, corr1, none, false⟩; let s := ampUp (fun c => { c with state := .diag, diag := some d });
      (s.ch 63).diag = some d ∧ d.len ≤ d.k ∧ d.step = .dcHold) ∧
    (let d : DiagRun := ⟨true, 2, .sweep 23, 8, 9, corr1, none, false⟩; let s := ampUp (fun c => { c with state := .diag, diag := some d });
      (s.ch 63).diag = some d ∧ d.k < d.len ∧ (s.zMag 63 d.corr).isSome = true) ∧
    (let s := ampUp (fun c => { c with pilotDone := some (corr1, corr1), zRef := none });
      (s.ch 63).pilotDone = some (corr1, corr1) ∧ (s.setCh 63 { s.ch 63 with pilotDone := none }).pilotValid 63 corr1 corr1 = true ∧
        (s.setCh 63 { s.ch 63 with pilotDone := none }).pilotValid 63 Corr.zero Corr.zero = false ∧ (s.ch 63).zRef = none ∧
        s.get (F.AMP_CH_HF_ALPHA 63) ≠ 0) ∧
    (up.ch 63).pilotDone = none ∧ (up.ch 63).diag = none ∧ (up.ch 63).retest = none := by decide +kernel

/-- A rail of 40.0 V between its limits' neighbours. -/
def railUp (v uv ov : Nat) : State :=
  (((ampUp id).putBit (F.AMP_RAIL_CFG_EN 7) true).put (F.AMP_RAIL_V_V 7) v).put (F.AMP_RAIL_LIM_UV 7) uv |>.put (F.AMP_RAIL_LIM_OV 7) ov

theorem witness_AmplifierEventsAct_rails :
    (let s := railUp 399 400 600; s.railWatched 7 = true ∧ s.get (F.AMP_RAIL_LIM_UV 7) = 400 ∧ s.get (F.AMP_RAIL_V_V 7) < 400 ∧
      s.bit (F.AMP_RAIL_STAT_UV 7) = false) ∧
    (let s := railUp 601 400 600; s.railWatched 7 = true ∧ s.get (F.AMP_RAIL_LIM_OV 7) = 600 ∧ 600 < s.get (F.AMP_RAIL_V_V 7) ∧
      s.bit (F.AMP_RAIL_STAT_OV 7) = false) ∧
    ¬ (railUp 400 400 400).get (F.AMP_RAIL_V_V 7) < 400 ∧ (7 : Nat) < 8 ∧ (8 : Nat) ≤ 63 := by decide +kernel

/-- A MAC whose frame is in a state, after a number of attempts. -/
def macUp (ph : CbusPhase) (tries : Nat) (fl : Option Nat) : State :=
  cbusUp.setMac 3 { up.mac 3 with phase := ph, queue := [⟨5, List.replicate 60 0, tries, tries, none⟩], flush := fl }

theorem witness_ControlBusesAct_transmit :
    (cbusUp.alive = true ∧ cbusUp.bit (F.CBUS_CFG_EN 3) = true ∧ up.bit (F.CBUS_CFG_EN 3) = false ∧ up.bit (F.CBUS_CFG_PLCA_OFF 3) = true ∧
    (up.putBit (F.CBUS_CFG_PLCA_OFF 3) false).bit (F.CBUS_CFG_PLCA_OFF 3) = false ∧ cbusUp.macOn 3 = true ∧ up.macOn 3 = false ∧
    (up.mac 3).fill = none ∧ (up.mac 3).queue = [] ∧ (up.mac 3).results = [] ∧
    (let s := cbusUp.setMac 3 { up.mac 3 with queue := List.replicate 4 ⟨0, [], 0, 0, none⟩, results := List.replicate 8 ⟨0, 0, 0, none⟩ };
      4 ≤ (s.mac 3).queue.length ∧ 8 ≤ (s.mac 3).results.length) ∧
    (let s := cbusUp.setMac 3 { up.mac 3 with fill := some (List.replicate 14 0) };
      (s.mac 3).fill = some (List.replicate 14 0) ∧ 14 + 4 ≤ 2048 ∧ 2048 < 2045 + 4 ∧ 14 ≤ s.get (F.CBUS_CFG_MAX_LEN 3) - 4) ∧
    (let s := macUp .defer 0 none; (s.macOn 3 && decide ((s.mac 3).phase = .defer) && !s.bit (F.CBUS_STAT_CRS 3) && !(s.mac 3).txLost) = true) ∧
    (let s := macUp .attempt 16 none; (s.mac 3).phase = .attempt ∧ s.macLoop 3 = false ∧ (s.mac 3).queue = ⟨5, List.replicate 60 0, 16, 16, none⟩ :: [] ∧
      (s.mac 3).flush = none) ∧
    (macUp .attempt 15 (some 2)).mac 3 = { up.mac 3 with phase := .attempt, queue := [⟨5, List.replicate 60 0, 15, 15, none⟩], flush := some 2 } ∧
    ({ (macUp .attempt 15 none).putBit (F.CBUS_CFG_LOOP 3) true with node := { up.node with mode := .service } } : State).macLoop 3 = true ∧
    ((macUp (.backoff 1023) 9 none).mac 3).phase = .backoff 1023) ∧ ∀ k, (up.mac 3).phase ≠ .backoff k :=
  ⟨by decide +kernel, fun k h => nomatch (show CbusPhase.defer = .backoff k from h)⟩

theorem witness_ControlBusesAct_receive :
    (let s := cbusUp.setMac 3 { up.mac 3 with rx := [⟨0, 0, [1, 2, 3], 0⟩], results := [⟨1, 0, 1, none⟩], mdio := some (true, 7) };
      (s.mac 3).rx = ⟨0, 0, [1, 2, 3], 0⟩ :: [] ∧ (s.mac 3).results = ⟨1, 0, 1, none⟩ :: [] ∧ (s.mac 3).mdio = some (true, 7)) ∧
    (up.mac 3).rx = [] ∧ (up.mac 3).mdio = none ∧ (up.mac 3).rxLost = false ∧ (up.mac 3).jabber = false ∧ (cbusUp.mac 3).phase ≠ .attempt ∧
    ((cbusUp.setMac 3 { up.mac 3 with mdio := some (false, 7), jabber := true }).mac 3).jabber = true ∧
    (partnerKey 0 && (up.cfgItem secPeripherals 0).isSome) = false ∧
    (let s : State := { up with st := { up.st with cfg := [(secPeripherals, [(0x010003FF, [0])])] } };
      (partnerKey 0x010003FF && (s.cfgItem secPeripherals 0x010003FF).isSome) = true) := by decide +kernel

/-- A transaction of TW0 that writes one byte, one that reads one, one that lost arbitration. -/
def tw0With (cmd : Nat) (data : List Byte) (lost : Bool) : State := { tw0Up with tw0 := { up.tw0 with run := some ⟨cmd, data, 0, lost, none⟩ } }

theorem witness_TwoWirePortsAct :
    tw0Up.alive = true ∧ tw0Up.bit F.TW0_CFG_EN = true ∧ up.bit F.TW0_CFG_EN = false ∧ tw0Up.tw0On = true ∧ up.tw0On = false ∧ tw0Up.tw0.run = none ∧
    (({ tw0Up with tw0 := { up.tw0 with sdaLow := true } } : State).tw0.sdaLow) = true ∧ (tw0Up.tw0.sdaLow || tw0Up.tw0.sclLow) = false ∧
    (fieldOf (2 ^ 15) 15 7 = 1 ∧ fieldOf (2 ^ 15) 8 7 = 0 ∧ fieldOf (2 ^ 15) 30 1 = 0) ∧ (fieldOf (2 ^ 8) 15 7 = 0 ∧ fieldOf (2 ^ 8) 8 7 ≠ 0 ∧ fieldOf (2 ^ 8) 29 1 = 0) ∧
    (tw0With (2 ^ 15) [9] false).tw0.run = some ⟨2 ^ 15, [9], 0, false, none⟩ ∧ (tw0With (2 ^ 8) [] true).tw0.run = some ⟨2 ^ 8, [], 0, true, none⟩ ∧
    up.tw1Acks 0 = false ∧ (up.putBit F.TW1_CFG_EN true).tw1Acks 0x2C = true := by decide +kernel

/-- A DMA channel in a state. -/
def dmaUp (st : Nat) (c : DmaCh) : State := ((up.putBit F.DMA_CFG_EN true).put (F.DMA_CH_STAT_STATE 31) st).setDch 31 c
def desc0 : DmaDesc := ⟨0x30000000, 0x30001000, 64, 0, 0⟩
def sealedUp : State := { up with fuses := { up.fuses with lifecycle := 3 } }

/-- A row of shared SRAM with an uncorrectable error. -/
def badRow (r : Nat) (s : State) : State := { s with mortar := { s.mortar with badRows := [r] } }

theorem witness_MortarAndDmaAct_sram :
    (let x : MortarRun := ⟨⟨1, 0, 0, 0, 0, .address, 0x30000000, false, [], 64, []⟩, 0, 2, true, 0, [], 0, none⟩;
      (badRow 7 up).drains x.req = false ∧ x.req.badBeats.contains 0 = false ∧ reqRegs x.req = false ∧ x.req.write = false ∧
      (badRow 7 up).sramFails (x.req.addr.toNat + (reqBeat x.req 0).1) (reqBeat x.req 0).2 = true) ∧
    (let s := badRow 3 (dmaUp dmaFetch DmaCh.rest);
      s.dmaState 31 = dmaFetch ∧ (s.dch 31).reread = false ∧ s.sramFails (s.descAddr 31 (s.get (F.DMA_CH_STAT_IDX 31))) 32 = true) ∧
    (let s := badRow 1 (dmaUp dmaFetch { DmaCh.rest with reread := true });
      s.dmaState 31 = dmaFetch ∧ (s.dch 31).reread = true ∧ s.sramFails (s.descAddr 31 (s.get (F.DMA_CH_STAT_IDX 31)) + 8) 8 = true) ∧
    (∀ a n, up.sramFails a n = false) ∧ up.mortar.badRows = [] := by
  refine ⟨by decide +kernel, by decide +kernel, by decide +kernel, fun a n => rfl, rfl⟩

theorem witness_MortarAndDmaAct :
    up.alive = true ∧ up.bit (F.MORTAR_MST_STAT_RESETTING 19) = false ∧ reqFits ⟨19, 7, 31, 0, 0, .address, 0x30000FC0, false, [], 64, []⟩ = true ∧
    (up.putBit (F.MORTAR_MST_STAT_RESETTING 19) true).bit (F.MORTAR_MST_STAT_RESETTING 19) = true ∧ (tapAt 2).tapOn = true ∧
    (tapAt 2).get F.DBG_LEVEL_LEVEL = 2 ∧ (tapAt 1).get F.DBG_LEVEL_LEVEL ≠ 2 ∧ up.bit (F.DMA_CH_CFG_EN 31) = false ∧
    (up.putBit (F.DMA_CH_CFG_EN 31) true).bit (F.DMA_CH_CFG_EN 31) = true ∧ up.bit F.DMA_CFG_EN = false ∧ up.dmaState 31 = dmaOff ∧
    (dmaUp dmaIdle DmaCh.rest).dmaState 31 = dmaIdle ∧ (dmaUp dmaHalted DmaCh.rest).dmaState 31 = dmaHalted ∧
    (dmaUp dmaFetch DmaCh.rest).dmaState 31 = dmaFetch ∧ dmaFetch ≠ dmaOff ∧ dmaFetch ≠ dmaIdle ∧ dmaFetch ≠ dmaHalted ∧ dmaRun ≠ dmaFetch ∧
    (dmaUp dmaRun { DmaCh.rest with desc := some desc0, part := true }).dmaState 31 = dmaRun ∧
    ((dmaUp dmaRun { DmaCh.rest with desc := some desc0, part := true }).dch 31).desc = some desc0 ∧
    ((dmaUp dmaRun { DmaCh.rest with desc := some desc0, part := true }).dch 31).part = true ∧
    ((dmaUp dmaFetch { DmaCh.rest with reread := true }).dch 31).reread = true ∧ (DmaCh.rest.reread = false ∧ DmaCh.rest.desc = none ∧ DmaCh.rest.part = false) ∧
    descLegal desc0 0 = true ∧ descLegal { desc0 with len := 0 } 0 = false ∧ up.descDenied 31 desc0 = false ∧
    sealedUp.descDenied 16 { desc0 with dst := 0x10000000 } = true ∧ descLegal { desc0 with dst := 0x10000000 } 0 = true ∧
    up.bit (F.DMA_CQ_CFG_EN 15) = false ∧ (up.putBit (F.DMA_CQ_CFG_EN 15) true).bit (F.DMA_CQ_CFG_EN 15) = true := by decide +kernel

/-- DORMANT at P2, at MOORED; entering it; a relock under way. -/
def restUp (p : Nat) : State := (inMode .dormant).put F.PWR_STAT_STATE p

theorem witness_PowerEventsAct :
    up.alive = true ∧ up.pwr.entering = false ∧
    (let s : State := { up with pwr := { up.pwr with entering := true } }; s.pwr.entering = true ∧ s.allMuted = true) ∧
    (let s : State := { up.putBit F.PWR_CFG_DORMANT_EN true with
        node := { up.node with lockedOnce := true }, st := { up.st with cfg := [(secSchedule, [(0, List.replicate 8 0 ++ [1, 0])])] } };
      (decide (s.pwrBlock = 0) && !s.inTransition && s.enterable 2) = true) ∧
    (decide (up.pwrBlock = 0) && !up.inTransition && up.enterable 2) = false ∧
    up.resting = false ∧ (restUp 2).resting = true ∧ (restUp 3).get F.PWR_STAT_STATE < 4 ∧ 4 ≤ (restUp 4).get F.PWR_STAT_STATE ∧
    (let s : State := { restUp 4 with pwr := { up.pwr with moored := some 0 } };
      (s.resting && decide (s.get F.PWR_STAT_STATE = 4) && s.pwr.moored.isSome) = true) ∧
    (let s := (restUp 4).putBit (F.NET_PORT_CFG_EN 3) true |>.put F.PWR_WAKE_CFG_LINK 8;
      (s.resting && decide (s.get F.PWR_STAT_STATE = 4) && s.bit (F.NET_PORT_CFG_EN 3) && (s.get F.PWR_WAKE_CFG_LINK).testBit 3) = true) ∧
    (let s := (restUp 4).put F.PWR_WAKE_CFG_TCAP 0x8000; (s.resting && (s.get F.PWR_WAKE_CFG_TCAP).testBit 15) = true) ∧
    up.pwr.relock = none ∧ ({ restUp 2 with pwr := { up.pwr with relock := some 1 } } : State).pwr.relock ≠ none ∧ ({ restUp 2 with pwr := { up.pwr with relock := some 1 } } : State).relocking = false ∧
    ((restUp 2).resting && (restUp 2).blockRest.any (fun b => b)) = true ∧ (restUp 2).paired = false ∧
    ((restUp 2).putBit F.PAIR_CFG_EN true).paired = true := by decide +kernel

/-! ### More hypotheses of the statements above -/

/-- Nothing asked; a start asked in SERVICE with and without a transition; a reset fault whose pulse still runs; a listen window
with a gate, without one and out of DORMANT; an image START with its outputs mute; a hand-over due, one not echoed. -/
def handingEchoed : State := { up with pair := { up.pair with ho := some ⟨true, 0, true, true, false⟩ } }

theorem witness_StartEventsAct_more :
    up.promoteDue = false ∧ up.node.asked = [] ∧ up.node.startAsked = none ∧ (inMode .service).inTransition = false ∧
    (let s : State := { inMode .service with pwr := { up.pwr with entering := true } };
      s.node.mode = .service ∧ s.node.phase = .none ∧ s.inTransition = true) ∧
    (let s : State := { up.put F.FLT_PIN_CTL_CLASS_EN 31 with flt := { up.flt with resetPending := some 63, pulsing := true } };
      (s.flt.pulsing && (s.get F.FLT_PIN_CTL_CLASS_EN).testBit 4) = true) ∧
    (let s : State := { up with
        node := { up.node with phase := .listen .lead false }, st := { up.st with cfg := [(secGlobal, [(3, leBytes 4 1)])] } };
      s.node.phase = .listen .lead false ∧ s.pwr.waking = none ∧ Cfg.image s.st.cfg secGlobal 3 0 0 = 1 ∧ s.node.lockedOnce = false) ∧
    ¬ Cfg.image up.st.cfg secGlobal 3 0 0 = 1 ∧
    (let s : State := { up with node := { up.node with phase := .listen .lead false }, pwr := { up.pwr with waking := some (6, 0) } };
      s.node.phase = .listen .lead false ∧ s.pwr.waking = some (6, 0)) ∧
    (let s : State := { up with node := { up.node with phase := .imageMute .firmwareUpdate } };
      s.node.phase = .imageMute .firmwareUpdate ∧ s.allMuted = true ∧ s.st.writing = none) ∧
    (decide (8 * 0 ≤ handingEchoed.node.n.toNat + 1) && !(true && true && !true)) = true ∧
    (true && true && !false && decide (0 ≤ handing.blk + 1)) = true ∧ up.pair.ho = none := by decide +kernel

theorem witness_SampleTicks_more : up.get F.PWR_STAT_STATE < 4 ∧ 4 ≤ (restUp 4).get F.PWR_STAT_STATE ∧ (restUp 4).node.pattern < 3 ∧
    (let s : State := { up with node := { up.node with fresh := false } };
      s.node.time < (s.advance s.nextN).node.time) := by decide +kernel

/-- The first and the last address of the sample exchange area. -/
theorem witness_RegisterAccesses_exchange : (0x303F8000 : Word32).toNat % 8 = 0 ∧ regionAt (0x303F8000 : Word32).toNat = .exchange ∧
    regionAt (0x303FFFFC : Word32).toNat = .exchange ∧ regionAt (0x30400000 : Word32).toNat = .unmapped ∧
    regionAt (0x303F7FFC : Word32).toNat ≠ .exchange ∧ up.tapRead .keeper = false := by decide +kernel

/-- A group whose bytes read back, and one whose sector was not erased; one due at once, one for a tick to come; an erase that failed
under a group and beside it. -/
def norUp (cells : List Host.Cell) : State :=
  { writingUp (run0 [] none) [] with fuses := { up.fuses with medium := 2 }, store := cells }

theorem witness_GroupsCommitAndApply_more :
    (norUp []).st.writing = some (run0 [] none) ∧
    (run0 [] none).writes.all ((norUp []).progAll (norUp []).nor (run0 [] none).writes).holds = true ∧
    (run0 [] none).writes.all ((norUp [(0x610000, 0)]).progAll (norUp [(0x610000, 0)]).nor (run0 [] none).writes).holds = false ∧
    (let s : State := { up with st := { up.st with committed := [run0 [] none] } };
      s.st.committed.find? (fun g => s.banksWritten g.endSeq) = some (run0 [] none)) ∧
    (let s : State := { up with st := { up.st with committed := [run0 [] (some 1)] } };
      signedDiff 1 ((s.node.n.toNat + 1) % 2 ^ 64) ≤ 0) ∧ ¬ signedDiff 2 ((up.node.n.toNat + 1) % 2 ^ 64) ≤ 0 ∧
    (run0 [] none).meets 0x610000 = true ∧ (run0 [] none).meets 0x612000 = false := by decide +kernel

/-- A compaction whose image checks, and one whose slot holds none. -/
def compactUp (slot : Nat) : State :=
  { imageUp with st := { imageUp.st with compaction := some ⟨0, slot, [], (288, leBytes 4 2044337365), none⟩ } }

theorem witness_CompactionsAndLoadsEnd_more :
    (∀ slot ∈ [0, 1], (compactUp slot).st.compaction = some ⟨0, slot, [], (288, leBytes 4 2044337365), none⟩) ∧
    (let c : Compaction := ⟨0, 0, [], (288, leBytes 4 2044337365), none⟩
     let w := (compactUp 0).writeRecs true true c.recs
     w.2 = none ∧ w.1.slotFault c = none ∧ (w.1.writeRecs true true [(compactUp 0).compactMarker c]).2 = none ∧
       (w.1.writeRecs false true [(compactUp 0).compactMarker c]).2.isSome = true) ∧
    (let c : Compaction := ⟨0, 1, [], (288, leBytes 4 2044337365), none⟩
     (((compactUp 1).writeRecs true true c.recs).1.slotFault c).isSome = true) := by decide +kernel

/-- An edge whose level holds long enough, and one a cycle too short. -/
theorem witness_PulsesAndCaptures_more :
    (let s := (capUp 7 2).put (F.TMS_CAP_CFG_FILT 15) 255;
      s.bit (F.TMS_CAP_CFG_EN 15) = true ∧ s.get (F.TMS_CAP_CFG_EDGE 15) = 2 ∧ s.get (F.TMS_CAP_CFG_FILT 15) + 1 ≤ 256 ∧
        ¬ s.get (F.TMS_CAP_CFG_FILT 15) + 1 ≤ 255) ∧ 4 ≤ (restUp 4).get F.PWR_STAT_STATE := by decide +kernel

/-- A receipt time-out that is due, with a master and without, and one that is not. -/
def waited (v : PtpInst) : State := { ptpUp v 2 with node := { up.node with uptime := 2 ^ 60 } }

theorem witness_PtpMessagesAct_more :
    (waited slave0).ptpOn 1 = true ∧ (waited slave0).servo 1 ≠ 7 ∧ (waited slave0).receiptDue 1 = true ∧ ((waited slave0).inst 1).master ≠ none ∧
    (waited PtpInst.rest).receiptDue 1 = true ∧ ((waited PtpInst.rest).inst 1).master = none ∧
    ((ptpUp slave0 2).put (F.TMS_PTP_INTV_ANNOUNCE_TO 1) 3).receiptDue 1 = false := by decide +kernel

/-- A re-alignment in its muted phase; REF4 out of its time by a unit more than 1 ms, and at 1 ms; the force on a reference. -/
theorem witness_ReferenceEventsAct_more :
    (let s := up.mapSel (fun c => { c with realign := some (0, some 4) });
      s.tu.sel.realign = some (0, some 4) ∧ (s.audio.muteNet.ended && s.audio.muteOut.ended) = true) ∧
    (let v : RefSt := { (selUp 3 0).rf 4 with last := some (0, 0, 0) };
      v.offTime (1001000000 * 65536 + 1) = true ∧ v.offTime (1001000000 * 65536) = false) ∧
    (let s := ((selUp 3 0).putBit F.REF_SEL_CTL_FORCE_EN true).put F.REF_SEL_CTL_FORCE_REF 4;
      s.selBase ≠ 4 ∧ s.following = true ∧ s.forced = some 4 ∧ s.selRef ≠ 4) ∧
    up.forced = none := by decide +kernel

/-- A good frame that is admitted, from a port that is up; a descriptor beyond the shared SRAM's own paths. -/
theorem witness_NetworkEventsAct_more :
    ((portUp0 true true).portUp 3 = true ∧ (portUp0 true true).get F.PWR_STAT_STATE ≠ 4 ∧ (frame0 60).fcsOk = true ∧ (frame0 60).cut = false ∧
    misshapen (frame0 60) = false ∧ misshapen (frame0 59) = true) ∧
    (∀ a, a + 8 ≤ 0x303F8000 → up.sharedPath 4 a 8 = (up, true)) ∧ (up.sharedPath 4 0x303F7FFC 8).2 = false :=
  ⟨by decide +kernel, fun a h => if_pos h, by decide +kernel⟩

/-- Trips that count: at the limit; one below it, and one while the inputs are lost. A PROCESSING engine; a channel off on a rail over its
limit. -/
def tripUp : State := (ampUp (fun c => { c with state := .playing, trips := [5, 10, 14] })).put (F.AMP_CH_PROT_ILIM 63) 31

theorem witness_AmplifierEventsAct_more :
    (tripUp.modGated = false ∧ tripUp.bridgeOf 63 = .pulses ∧ tripUp.iLost 63 = false ∧ (tripUp.ch 63).trips.contains 15 = false ∧
      tripUp.get (F.AMP_CH_PROT_ILIM 63) ≤ (fastEstimate (BitVec.allOnes 15)).natAbs ∧
      tripUp.get (F.AMP_CH_PROT_ILIM 63) ≤ (fastEstimate 0).natAbs ∧
      ¬ tripUp.get (F.AMP_CH_PROT_ILIM 63) ≤ (fastEstimate 0x5555).natAbs) ∧
    (tripUp.latchCh 63).chEnabled 63 = true ∧ tripUp.chEnabled 63 = true ∧ up.node.role = .processing ∧ tripUp.node.role ≠ .processing ∧
    ((⟨some true, 0⟩ : HalfBridge).wave 3 [(5, some true), (5, some false)]).2 =
      [] ++ [(5, some true)] ++ [(3, none)] ++ [(2, some !true)] ++ [] := by decide +kernel

/-- A transmit and a receive clock already lost; a MAC busy with a frame of MDIO. -/
theorem witness_ControlBusesAct_more :
    (cbusUp.setMac 3 { up.mac 3 with txLost := true, rxLost := true }).macOn 3 = true ∧
    ((cbusUp.setMac 3 { up.mac 3 with txLost := true, rxLost := true }).mac 3).txLost = true ∧
    ((cbusUp.setMac 3 { up.mac 3 with txLost := true, rxLost := true }).mac 3).rxLost = true ∧ (cbusUp.mac 3).txLost = false := by decide +kernel

/-- Reads with and without PEC and BLOCK: a block count of 0, of 1, above the length; a PEC that checks and one that does not. -/
theorem witness_TwoWirePortsAct_more :
    (∀ e ∈ [(0, 0), (0, 1), (1, 0), (1, 1)], let cmd := 2 ^ 30 * e.1 + 2 ^ 29 * e.2 + 2 * 2 ^ 8;
      fieldOf cmd 30 1 = e.1 ∧ fieldOf cmd 29 1 = e.2 ∧ fieldOf cmd 8 7 = 2 ∧ fieldOf cmd 15 7 = 0) ∧
    (tw0With (2 * 2 ^ 8) [] false).tw0.run = some ⟨2 * 2 ^ 8, [], 0, false, none⟩ ∧ (tw0With (2 * 2 ^ 8) [] false).tw0.sdaLow = false ∧
    ((0 : Byte) = 0 ∨ 2 < (0 : Byte).toNat) ∧ ((1 : Byte) ≠ 0 ∧ (1 : Byte).toNat ≤ 2) ∧ 2 < (3 : Byte).toNat ∧ pec [1, 0x10] ≠ pec [1, 0x11] ∧
    tw0Up.tw0On = true ∧ tw0Up.tw0.run = none := by decide +kernel

/-- A descriptor that reaches beyond what the paths of the shared SRAM take. -/
theorem witness_MortarAndDmaAct_paths :
    (let s := (dmaUp dmaFetch DmaCh.rest).put (F.DMA_CH_CFG_BASE 31) 0xFE00;
      s.dmaState 31 = dmaFetch ∧ (s.sharedPath 1 (s.descAddr 31 0) 32).2 = false) ∧ (0x303F7FE0 : Nat) + 32 ≤ 0x303F8000 := by decide +kernel

/-- DORMANT decided with a policy of its own, and with a client present; a resting engine at its target. -/
theorem witness_PowerEventsAct_more :
    up.policyActs = true ∧ (talk up).policyActs = false ∧
    (decide (up.pwrBlock = 0) && !up.inTransition && up.enterable 2) = false ∧
    (let s : State := { up.putBit F.PWR_CFG_DORMANT_EN true with
        node := { up.node with lockedOnce := true }, st := { up.st with cfg := [(secSchedule, [(0, List.replicate 8 0 ++ [1, 0])])] } };
      (decide (s.pwrBlock = 0) && !s.inTransition && s.enterable 2) = true) := by decide +kernel

theorem witness_ResetStateIsAsTheSpecSays : (State.reset.node.powered && !State.reset.node.inReset) = false := by decide

/-! ### Hypotheses of clauses that name a resting engine, a busy bus, a register read, a copy that ends -/

/-- In P4 and out of it; a proposal open and one that is not. -/
theorem witness_SessionsOpenAndClose_more :
    up.get F.PWR_STAT_STATE ≠ 4 ∧ (restUp 4).get F.PWR_STAT_STATE = 4 ∧
    (talkN 9).kmp.proposals.find? (fun (q : Proposal) => q.id == 7) = none := by decide +kernel

/-- SERVICE before its gate, and with the mute of an image START under way; a LEAD that had to stay; a HOLD in the Ts of a latch. -/
theorem witness_StartEventsAct_service :
    (∀ p ∈ [StartPhase.gate, .imageMute .firmwareUpdate], ({ inMode .service with node := { (inMode .service).node with phase := p } } : State).alive = true) ∧
    (let h : HandOver := ⟨true, 0, false, false, true⟩
     let s : State := { up with pair := { up.pair with ho := some h } };
      s.pair.ho = some h ∧ decide (8 * h.blk ≤ s.node.n.toNat + 1) = true ∧ h.void = true ∧ s.node.mode = .lead) := by decide +kernel

/-- A tick of a node that is no pair: no Flash, nothing for the switch. -/
theorem witness_SampleTicks_pair :
    up.flashes = false ∧ up.net.outbox = [] ∧ (shadowUp.flashes = true ∧ shadowUp.node.n.toNat % 8 ≠ 7) ∧
    up.audio.running = false ∧ up.modGated = false ∧ (restUp 2).modGated = true := by decide +kernel

/-- A 32-bit and a 64-bit register at their own addresses, by a master that may. -/
theorem witness_RegisterAccesses_reads :
    (∀ a ∈ [METER_PEAK 255, FLT_STATUS],
      regionAt (BitVec.ofNat 32 a : Word32).toNat = .regs ∧ up.mayReach .keeper a false = true ∧ up.tapRead .keeper = false ∧
        isNow a = false ∧ (findReg a).any (fun e => e.1.instAddr e.2.1 e.2.2 = a && a % (e.1.bits / 8) == 0) = true) ∧
    (findReg (METER_PEAK 255)).any (fun e => e.1.bits == 32) = true ∧ (findReg FLT_STATUS).any (fun e => e.1.bits == 64) = true ∧
    (findReg (METER_PEAK 255)).any (fun e => e.1.fields.any (fun f => f.ty == .rc)) = true ∧
    up.readData .keeper (METER_PEAK 255) = none ∧ up.readData .keeper FLT_STATUS = none := by decide +kernel

/-- Masks with a bit whose cause is present, with one whose cause is absent; a line that asserts in the cycle of its clear. -/
theorem witness_ClearsRespectCauses_masks :
    (unlockedUp.latch 53).flt.asserted = 0 ∧ (2 ^ 53 : Nat).testBit 53 = true ∧ (up.latch 63).flt.asserted = 0 ∧
    (∀ j, (0 : Nat).testBit j = true → (up.latch 63).latched j = true → (up.latch 63).causePresent j = false) ∧
    (let s : State := { up.latch 63 with flt := { (up.latch 63).flt with asserted := BitVec.ofNat 64 (2 ^ 63) } };
      s.latched 63 = true ∧ s.flt.asserted.getLsbD 63 = true) :=
  ⟨by decide +kernel, by decide, by decide +kernel, fun j h => by simp at h, by decide +kernel⟩

/-- The first pass of an array, one that ended and one that did not; a row of it and one beyond it. -/
theorem witness_CollectorCommands_scrub :
    up.flt.scrubbing.contains 3 = false ∧ ({ up with flt := { up.flt with scrubbing := [3] } } : State).flt.scrubbing.contains 3 = true ∧
    16383 < scrubRows 3 ∧ ¬ 16384 < scrubRows 3 ∧ 3145727 < scrubRows 0 := by decide

/-- A compaction whose first record does not read back, and one whose marker does not. -/
theorem witness_CompactionsAndLoadsEnd_fails :
    ((compactUp 0).writeRecs false true [(0x10000, imgHead)]).2 = some 0x10000 ∧ ((compactUp 0).writeRecs true true []).2 = none := by
  decide +kernel

/-- Pulse settings with a WIDTH of 0 and above; periods at and below their bounds. -/
theorem witness_PulsesAndCaptures_settings :
    (0 : Word32).toNat % 2 ^ 28 = 0 ∧ (1 : Word32).toNat % 2 ^ 28 ≠ 0 ∧ (1 : Word32).getLsbD 30 = false ∧
    periodOk false (20 * 2 ^ 16) = true ∧ periodOk false (20 * 2 ^ 16 - 1) = false ∧ periodOk true (2 ^ 16) = true ∧
    periodOk true (2 ^ 16 - 1) = false ∧ periodOk true (2 ^ 16 + 1) = false := by decide

/-- A master whose time is valid, of a clock that has not been valid before. -/
theorem witness_PtpMessagesAct_utc :
    (2 ^ 16 : Nat).testBit 16 = true ∧ 1 ∉ (ptpUp slave0 2).tu.utc ∧ ((ptpUp slave0 2).inst 1).master = some 0x10001 := by decide +kernel

/-- A forced reference holds a wait to restore back. -/
theorem witness_ReferenceEventsAct_forced :
    (let s := ((selUp 3 0).putBit F.REF_SEL_CTL_FORCE_EN true).put F.REF_SEL_CTL_FORCE_REF 4; s.forced ≠ none) ∧
    (let s := (selUp 3 0).putBit (F.REF_STAT_WTR_RUN 4) true; s.bit (F.REF_STAT_WTR_RUN 4) = true ∧ s.forced = none) := by decide +kernel

/-- A group in the table and one that is not. -/
theorem witness_NetworkEventsAct_groups :
    (let s : State := { up with net := { up.net with groups := [(2 ^ 32 + 5, 19)] } }; (tget s.net.groups (1 * 2 ^ 32 + 5)).isSome = true) ∧
    tget up.net.groups (1 * 2 ^ 32 + 5) = none := by decide +kernel

/-- A partner silent for FLASH_LOSS blocks, one silent for a sample less, one that rests; a SHADOW whose partner is lost. -/
def quietUp (mode quiet : Nat) : State := { shadowUp.put F.PAIR_TIMING_FLASH_LOSS 3 with
  pair := { up.pair with last := some ⟨mode, 0, 0, 0, 0, 0, 0, 0, []⟩, quiet := quiet } }

theorem witness_PairCopyAndReliefEventsAct_silence :
    (quietUp 3 24).paired = true ∧ (quietUp 3 24).pair.lostNow = false ∧
    8 * (quietUp 3 24).get F.PAIR_TIMING_FLASH_LOSS ≤ (quietUp 3 24).pair.quiet ∧
    ¬ 8 * (quietUp 3 23).get F.PAIR_TIMING_FLASH_LOSS ≤ (quietUp 3 23).pair.quiet ∧
    30 * (quietUp 7 1440000).fs ≤ (quietUp 7 1440000).pair.quiet ∧
    (let s : State := { shadowUp with pair := { up.pair with lostNow := true } };
      s.paired = true ∧ s.pair.lostNow = true ∧ s.node.mode = .shadow ∧ s.otherTransition = false) := by decide +kernel

/-- A checkpoint without an uncorrectable row; a LEAD whose exchange of roles is owed, and proposed no longer. -/
theorem witness_PairCopyAndReliefEventsAct_checkpoint :
    up.ckptFails 91 = false ∧ up.node.mode = .lead ∧ up.pair.ho = none ∧ up.proposed .pairSwap = false := by decide +kernel

/-- A MAC of an engine in DORMANT; one in jabber, heard again and not; one with a flush to end; one that is sending; a request to a
partner asked, and one not asked. -/
def partnerUp (asked : Bool) : State := { up with
  st := { up.st with cfg := [(secPeripherals, [(0x010003FF, [0])])] }, cbus := { up.cbus with partners := [(0x010003FF, ⟨2, asked, none⟩)] } }

theorem witness_ControlBusesAct_states :
    (inMode .dormant).bit (F.CBUS_CFG_EN 3) = false ∧ (inMode .dormant).bit (F.CBUS_CFG_PLCA_OFF 3) = true ∧ up.node.mode ≠ .dormant ∧
    ((cbusUp.setMac 3 { up.mac 3 with jabber := true }).mac 3).jabber = true ∧ (cbusUp.mac 3).jabber = false ∧ (cbusUp.mac 3).rxLost = false ∧
    ((macUp .attempt 15 (some 2)).mac 3).flush ≠ none ∧ ((macUp .attempt 16 none).mac 3).phase = .attempt ∧ (cbusUp.mac 3).mdio = none ∧
    (up.mac 3).mdio = none ∧ up.macOn 3 = false ∧
    (let s := partnerUp true; (partnerKey 0x010003FF && (s.cfgItem secPeripherals 0x010003FF).isSome && (s.partner 0x010003FF).asked) = true) ∧
    (let s := partnerUp false; (partnerKey 0x010003FF && (s.cfgItem secPeripherals 0x010003FF).isSome && (s.partner 0x010003FF).asked) = false) := by
  decide +kernel

/-- Transactions that wait; a bus that another controller holds, with a transaction that lost, with one that waits, with none; a target
with PEC, at the last byte it holds and one beyond. -/
def tw0Taken (run : Option Tw0Run) : State := { tw0Up with tw0 := { up.tw0 with run := run, taken := true } }

theorem witness_TwoWirePortsAct_bus :
    (let s : State := { tw0Up with tw0 := { up.tw0 with waits := [(2 ^ 15, [9], some (1, 7))] } };
      s.tw0.waits = (2 ^ 15, [9], some (1, 7)) :: [] ∧ s.tw0On = true ∧ s.tw0.run = none) ∧
    (tw0Taken none).tw0.taken = true ∧ (tw0Taken none).tw0.run = none ∧ tw0Up.tw0.taken = false ∧ tw0Up.tw0.waits = [] ∧
    (∀ lost ∈ [false, true], (tw0Taken (some ⟨2 ^ 15, [9], 0, lost, none⟩)).tw0.run = some ⟨2 ^ 15, [9], 0, lost, none⟩) ∧
    (let u := ((tw0With (2 ^ 15) [9] false).putBit F.TW0_STAT_ARB_LOST true).bump F.TW0_CNT_ARB_LOSSES; u.get F.TW0_CFG_ARB_RETRY ≤ 3) ∧
    (up.putBit F.TW1_CFG_PEC_EN true).bit F.TW1_CFG_PEC_EN = true ∧ (List.replicate 66 (0 : Byte)).length ≤ 66 ∧
    ¬ (List.replicate 67 (0 : Byte)).length ≤ 66 := by decide +kernel

/-- Requests of a master that drains, and of a Brick that drains behind a Course port; a beat of a descriptor that fails, at a row of
the source and by its answer. -/
theorem witness_MortarAndDmaAct_drains :
    (let s := up.putBit (F.MORTAR_MST_STAT_RESETTING 7) true; let r : MortarReq := ⟨7, 0, 31, 0, 0, .address, 0x30000000, false, [], 8, []⟩;
      s.drains r = true ∧ reqFits r = true ∧ up.drains r = false) ∧
    (let s : State := { up with mortar := { up.mortar with drains := [95] } }; s.drains ⟨19, 7, 31, 0, 0, .address, 0x303F8000, false, [], 8, []⟩ = true) ∧
    (∀ t < 32, (tapAt 1).hasPath ⟨7, 0, 0, 0, 0, .address, 0x30000000, false, [], 8, []⟩ t = false) ∧
    (let b : DmaBeats := ⟨some 0, [], 0, true⟩; (beatsIssued desc0 b).readBad = some 0 ∧ (beatsIssued desc0 b).writeBad = [] ∧
      up.sourceRow desc0 (beatsIssued desc0 b) = none) ∧
    (let b : DmaBeats := ⟨none, [0], 1, false⟩; (beatsIssued desc0 b).readBad = none ∧ (beatsIssued desc0 b).writeBad = [0]) ∧
    (let b := beatsIssued desc0 ⟨none, [], 0, false⟩; (badRow 0 up).sourceRow desc0 b = some 0 ∧
      (badRow 0 up).sramFails (desc0.src + ((beatsOf desc0.src desc0.len).getD 0 (0, 0)).1) ((beatsOf desc0.src desc0.len).getD 0 (0, 0)).2 = true) := by
  decide +kernel

/-- A resting engine that is to sink, one at its target, one whose state is permitted. -/
theorem witness_PowerEventsAct_targets :
    (restUp 4).sinkTarget = (restUp 4).get F.PWR_STAT_STATE ∧
    (let s := (restUp 2).put F.PWR_CFG_DEEPEST 4; s.sinkTarget ≠ s.get F.PWR_STAT_STATE ∧ s.policyActs = true) ∧
    (restUp 2).permitted ((restUp 2).get F.PWR_STAT_STATE) = true ∧ (restUp 2).node.mode = .dormant := by decide +kernel

end Sys2Proof.Tests
end

section
/-! Rounding, saturation and two's complement fields (R18, R21), and what rests on them: ramps, fades and the rate of ROOT. -/

namespace Sys2Proof.Machine

/-! ## Rounding and saturation (R18) -/

/-- The remainder decides: above half a step the quotient goes up, at half a step to its even neighbour. -/
theorem rhe_nearest (x : Int) {d : Nat} (h : 0 < d) :
    2 * ((x - rhe x d * d).natAbs : Int) ≤ d ∧ (2 * ((x - rhe x d * d).natAbs : Int) = d → rhe x d % 2 = 0) := by
  have hr0 := Int.emod_nonneg x (b := d) (by omega)
  have hr1 := Int.emod_lt_of_pos x (b := d) (by omega)
  have hq := Int.mul_ediv_add_emod x d
  rw [Int.mul_comm] at hq
  unfold rhe
  set q := x / (d : Int)
  have hr : x - q * d = x % d := by omega
  have hup : (q + 1) * d = q * d + d := by ring
  simp only [hr]
  split
  · rw [hup]; omega
  · split
    · omega
    · split
      · omega
      · rw [hup]; omega

@[simp] theorem rhe_zero (d : Nat) : rhe 0 d = 0 := by simp [rhe]

theorem le_rhe {x q : Int} {d : Nat} (h : 0 < d) (hx : q * d ≤ x) : q ≤ rhe x d := by
  obtain ⟨hn, -⟩ := rhe_nearest x h
  by_contra hc
  have := mul_le_mul_of_nonneg_right (show rhe x d + 1 ≤ q by omega) (Int.natCast_nonneg d)
  rw [add_mul] at this
  omega

theorem rhe_le {x q : Int} {d : Nat} (h : 0 < d) (hx : x ≤ q * d) : rhe x d ≤ q := by
  obtain ⟨hn, -⟩ := rhe_nearest x h
  by_contra hc
  have := mul_le_mul_of_nonneg_right (show q + 1 ≤ rhe x d by omega) (Int.natCast_nonneg d)
  rw [add_mul] at this
  omega

theorem satTo_mem {lo hi : Int} (h : lo ≤ hi) (v : Int) : lo ≤ satTo lo hi v ∧ satTo lo hi v ≤ hi := by
  unfold satTo
  split
  · omega
  · split <;> omega

theorem satTo_of_mem {lo hi v : Int} (hl : lo ≤ v) (hh : v ≤ hi) : satTo lo hi v = v := by
  rw [satTo, if_neg (by omega), if_neg (by omega)]

/-- A number in range, written into a field as two's complement, reads back. -/
theorem signed_unsigned {w : Nat} (hw : 0 < w) {v : Int} (hl : -2 ^ (w - 1) ≤ v) (hh : v < 2 ^ (w - 1)) :
    signed w (unsigned w v % 2 ^ w) = v := by
  obtain ⟨n, rfl⟩ := Nat.exists_eq_succ_of_ne_zero hw.ne'
  have hp : (2 : Int) ^ (n + 1) = 2 * (2 ^ n : Nat) := by push_cast; ring
  have hpn : 2 ^ (n + 1) = 2 * 2 ^ n := by ring
  have hc : (2 : Int) ^ n = (2 ^ n : Nat) := by push_cast; rfl
  simp only [Nat.succ_eq_add_one, Nat.add_sub_cancel, hc] at hl hh
  simp only [signed, unsigned, Nat.succ_eq_add_one, Nat.add_sub_cancel, hp, hpn]
  generalize 2 ^ n = q at *
  rcases lt_or_ge v 0 with hv | hv
  · have he : v % (2 * (q : Int)) = v + 2 * q := by
      rw [← Int.add_emod_right, Int.emod_eq_of_lt (by omega) (by omega)]
    rw [he, Nat.mod_eq_of_lt (by omega), if_neg (by omega)]
    omega
  · rw [Int.emod_eq_of_lt hv (by omega), Nat.mod_eq_of_lt (by omega), if_pos (by omega)]
    omega

/-- A field set to a number in its range reads as that number. -/
theorem getS_put_same (s : State) {f : Fld} {v : Int} (h : f.lo + f.width ≤ 64) (hw : 0 < f.width)
    (hl : -2 ^ (f.width - 1) ≤ v) (hh : v < 2 ^ (f.width - 1)) : (s.put f (unsigned f.width v)).getS f = v := by
  rw [State.getS, get_put_same s _ h, signed_unsigned hw hl hh]

/-! ## Ramps and fades (R188, R189) -/

theorem Ramp.gain_of_run {r : Ramp} (h : r.len ≤ r.k) : r.gain = r.g1 := if_pos h

theorem Ramp.gain_of_running {r : Ramp} (h : r.k < r.len) : r.gain = r.g0 + rhe ((r.g1 - r.g0) * r.k) r.len :=
  if_neg (Nat.not_le.2 h)

theorem Ramp.gain_first {r : Ramp} (hk : r.k = 0) (h : 0 < r.len) : r.gain = r.g0 := by
  rw [Ramp.gain_of_running (hk ▸ h)]; simp [hk]

/-- The part k/K of the way lies between none of it and the whole, whichever way the ramp goes. -/
theorem Ramp.gain_mem (r : Ramp) : min r.g0 r.g1 ≤ r.gain ∧ r.gain ≤ max r.g0 r.g1 := by
  rcases Nat.lt_or_ge r.k r.len with h | h
  · have hd : 0 < r.len := Nat.zero_lt_of_lt h
    have hkd : (r.k : Int) ≤ r.len := by omega
    have hk : (0 : Int) ≤ r.k := by omega
    rw [Ramp.gain_of_running h]
    rcases le_total r.g0 r.g1 with hg | hg
    · have h0 := le_rhe (x := (r.g1 - r.g0) * r.k) (q := 0) hd (by simpa using mul_nonneg (by omega) hk)
      have h1 := rhe_le (x := (r.g1 - r.g0) * r.k) hd (mul_le_mul_of_nonneg_left hkd (by omega))
      omega
    · have h0 := rhe_le (x := (r.g1 - r.g0) * r.k) (q := 0) hd (by simpa using mul_nonpos_of_nonpos_of_nonneg (by omega) hk)
      have h1 := le_rhe (x := (r.g1 - r.g0) * r.k) hd (mul_le_mul_of_nonpos_left hkd (by omega))
      omega
  · rw [Ramp.gain_of_run h]; omega

/-- The sine series of a zero argument has no term that counts. -/
theorem sinQ30_zero {n : Nat} (h : 0 < n) : sinQ30 0 n = 0 := by
  have h0 : (fxSin 0 + 2 ^ 97) / 2 ^ 98 = 0 := by decide +kernel
  rw [sinQ30, if_neg (by omega), Nat.mul_zero, Nat.zero_div, h0]

theorem sinQ30_self (n : Nat) : sinQ30 n n = 2 ^ 30 := by rw [sinQ30, if_pos le_rfl]

theorem Fade.factor_in (k n : Nat) : (⟨false, k, n⟩ : Fade).factor = sinQ30 k n := by simp [Fade.factor]

theorem Fade.factor_out (k n : Nat) : (⟨true, k, n⟩ : Fade).factor = sinQ30 (n - k) n := by simp [Fade.factor]

/-! ## The rate of ROOT (R275, R293) -/

/-- The rate ROOT is steered towards. -/
def State.rateTarget (s : State) : Int :=
  match s.steering with
  | none => s.modelRate
  | some r => s.askedRate r

/-- The new rate: a step of 0.2 ppm at most towards the target, held within 50 ppm. -/
theorem getS_rootRate (s : State) : s.rootRate.getS F.CLK_RATE_Y =
    satTo (-214748) 214748 (s.getS F.CLK_RATE_Y + satTo (-858) 858 (s.rateTarget - s.getS F.CLK_RATE_Y)) := by
  obtain ⟨hl, hh⟩ := satTo_mem (lo := -214748) (hi := 214748) (by decide)
    (s.getS F.CLK_RATE_Y + satTo (-858) 858 (s.rateTarget - s.getS F.CLK_RATE_Y))
  exact getS_put_same _ (by decide) (by decide) (le_trans (by decide) hl) (lt_of_le_of_lt hh (by decide))

/-- Settles O43: rounding leaves no more than half a step, which keeps a ramp between its ends; saturation bounds the rate. -/
theorem rampsFadesAndRatesStayInBounds : Obligations.RampsFadesAndRatesStayInBounds := by
  unfold Obligations.RampsFadesAndRatesStayInBounds
  refine ⟨fun r => ⟨Ramp.gain_of_run, Ramp.gain_first, r.gain_mem⟩, fun n hn => ?_, fun x d hd => rhe_nearest x hd, fun s => ?_⟩
  · simp [Fade.factor_in, Fade.factor_out, sinQ30_zero hn, sinQ30_self]
  · intro y y'
    have hy' : y' = satTo (-214748) 214748 (y + satTo (-858) 858 (s.rateTarget - y)) := getS_rootRate s
    obtain ⟨hl, hh⟩ := satTo_mem (lo := -858) (hi := 858) (by decide) (s.rateTarget - y)
    rw [hy']
    generalize satTo (-858) 858 (s.rateTarget - y) = step at hl hh
    unfold satTo
    split
    · omega
    · split <;> omega

end Sys2Proof.Machine
end

section
/-! The fault collector's record of its latches (R448, R452, R456): what writes FLT_STATUS, FLT_FIRST, FLT_FIRST_TIME and FLT_CNT,
and what leaves them. -/

namespace Sys2Proof.Machine

/-! ## Operations that write no register -/

@[simp] theorem mapMute_regs (s : State) (d : Nat) (f : Mute → Mute) : (s.mapMute d f).regs = s.regs := rfl

@[simp] theorem unbar_regs (s : State) (a : PolicyAct) : (s.unbar a).regs = s.regs := rfl

@[simp] theorem zeroMem_regs (s : State) (a n : Nat) : (s.zeroMem a n).regs = s.regs := rfl

@[simp] theorem setCh_regs (s : State) (m : Nat) (c : AmpCh) : (s.setCh m c).regs = s.regs := rfl

theorem TalksOnly.regs {s t : State} (h : TalksOnly s t) : t.regs = s.regs := by rw [h]

@[simp] theorem notify_regs (s : State) (event : Nat) (data : List Byte) : (s.notify event data).regs = s.regs :=
  (notify_talks s event data).regs

theorem rg_of_regs {s t : State} (h : t.regs = s.regs) (a : Nat) : t.rg a = s.rg a := by rw [State.rg, h, State.rg]

theorem get_of_regs {s t : State} (h : t.regs = s.regs) (f : Fld) : t.get f = s.get f := by
  rw [State.get, rg_of_regs h, State.get]

/-- What every step of a fold leaves, the fold leaves. -/
theorem foldl_keeps {α β : Type} {f : State → α → State} (g : State → β) (h : ∀ s x, g (f s x) = g s) (l : List α) (s : State) :
    g (l.foldl f s) = g s := by
  induction l generalizing s with
  | nil => rfl
  | cons x l ih => exact (ih _).trans (h s x)

@[simp] theorem holdChans_regs (s : State) (k : Nat) (chans : List Nat) : (s.holdChans k chans).regs = s.regs :=
  foldl_keeps State.regs (fun s m => by dsimp only; split <;> rfl) _ _

@[simp] theorem freeChan_regs (s : State) (k m : Nat) : (s.freeChan k m).regs = s.regs := by
  unfold State.freeChan; split <;> rfl

@[simp] theorem pinStep_regs (s t : State) : (s.pinStep t).regs = t.regs := by
  unfold State.pinStep; split <;> rfl

@[simp] theorem sendWc_regs (s : State) (kind copyId unit fseq : Nat) (last : Bool) (entries : List (List Byte)) :
    (s.sendWc kind copyId unit fseq last entries).regs = s.regs := by
  unfold State.sendWc State.emitWc; split <;> rfl

@[simp] theorem zeroStateAreas_regs (s : State) : s.zeroStateAreas.regs = s.regs :=
  foldl_keeps State.regs (fun s l => by split <;> rfl) _ _

@[simp] theorem zeroGranules_regs (s : State) (b : DelayBuf) : (s.zeroGranules b).regs = s.regs :=
  foldl_keeps State.regs (fun s _ => zeroMem_regs s _ _) _ _

/-! ## The record and its frame -/

/-- The registers in which the collector records its latches. -/
def latchRecord : List Nat := [FLT_STATUS, FLT_FIRST, FLT_FIRST_TIME, FLT_CNT]

/-- The record holds what it held. -/
def KeepsRecord (s t : State) : Prop := ∀ a ∈ latchRecord, t.rg a = s.rg a

namespace KeepsRecord

theorem refl (s : State) : KeepsRecord s s := fun _ _ => rfl

theorem trans {s t u : State} (h : KeepsRecord s t) (k : KeepsRecord t u) : KeepsRecord s u :=
  fun a ha => (k a ha).trans (h a ha)

theorem of_regs {s t : State} (h : t.regs = s.regs) : KeepsRecord s t := fun a _ => rg_of_regs h a

theorem put (s : State) {f : Fld} (v : Nat) (h : f.addr ∉ latchRecord) : KeepsRecord s (s.put f v) :=
  fun _ ha => rg_put_ne s v (fun e => h (e ▸ ha))

theorem putBit (s : State) {f : Fld} (b : Bool) (h : f.addr ∉ latchRecord) : KeepsRecord s (s.putBit f b) := put s _ h

theorem bump (s : State) {f : Fld} (n : Nat) (h : f.addr ∉ latchRecord) : KeepsRecord s (s.bump f n) := put s _ h

theorem setRg (s : State) {a : Nat} (v : Nat) (h : a ∉ latchRecord) : KeepsRecord s (s.setRg a v) :=
  fun _ hb => rg_setRg_ne s v (fun e => h (e ▸ hb))

theorem clearRg (s : State) {a : Nat} (h : a ∉ latchRecord) : KeepsRecord s (s.clearRg a) := fun b hb => by
  rw [rg_clearRg, if_neg (fun e : b = a => h (e ▸ hb))]

theorem ite {c : Prop} [Decidable c] {s t u : State} (ht : KeepsRecord s t) (hu : KeepsRecord s u) :
    KeepsRecord s (if c then t else u) := by
  split
  · exact ht
  · exact hu

theorem foldl {α : Type} {f : State → α → State} {l : List α} (h : ∀ s, ∀ x ∈ l, KeepsRecord s (f s x)) (s : State) :
    KeepsRecord s (l.foldl f s) := by
  induction l generalizing s with
  | nil => exact refl s
  | cons x l ih =>
    exact (h s x List.mem_cons_self).trans (ih (fun s y hy => h s y (List.mem_cons_of_mem x hy)) _)

theorem rg {s t : State} (h : KeepsRecord s t) {a : Nat} (ha : a ∈ latchRecord) : t.rg a = s.rg a := h a ha

theorem get {s t : State} (h : KeepsRecord s t) {f : Fld} (ha : f.addr ∈ latchRecord) : t.get f = s.get f := by
  rw [State.get, h.rg ha, State.get]

theorem latched {s t : State} (h : KeepsRecord s t) (k : Nat) : t.latched k = s.latched k := by
  rw [State.latched, h.rg (by decide), State.latched]

end KeepsRecord

theorem notMem_latchRecord {a : Nat} (h : a < 0x10000 ∨ 0x10034 ≤ a) : a ∉ latchRecord := by
  show a ∉ [0x10000, 0x10010, 0x10018, 0x10030]
  simp only [List.mem_cons, List.not_mem_nil, or_false]
  omega

/-- An array of registers that begins above the record lies outside it. -/
theorem notMem_latchRecord_add {n k : Nat} (h : 0x10034 ≤ n) : n + k ∉ latchRecord :=
  notMem_latchRecord (.inr (Nat.le_add_right_of_le h))

/-! ## Entering HOLD keeps the record -/

theorem dropCopy_record (s : State) : KeepsRecord s s.dropCopy := by
  unfold State.dropCopy
  extract_lets s1 s2 s3 s4
  have h1 : s1.regs = s.regs := by unfold s1; split <;> simp
  have h2 : s2.regs = s1.regs := by unfold s2; split <;> simp
  have h3 : KeepsRecord s2 s3 := .ite (.put _ _ (by decide)) (.refl _)
  have h4 : KeepsRecord s3 s4 := (KeepsRecord.put _ _ (by decide)).trans (.put _ _ (by decide))
  exact (KeepsRecord.of_regs (h2.trans h1)).trans (h3.trans (h4.trans (.of_regs rfl)))

theorem roleEntry_record (s : State) (old new : Mode) : KeepsRecord s (s.roleEntry old new) := by
  unfold State.roleEntry
  extract_lets s1
  have h1 : KeepsRecord s s1 := .ite (dropCopy_record s) (.refl s)
  refine h1.trans (.ite (.put _ _ (by decide)) (.ite ?_ (.refl _)))
  exact (KeepsRecord.putBit s1 _ (by decide)).trans (.of_regs rfl)

theorem setMode_record (s : State) (m : Mode) : KeepsRecord s (s.setMode m) := by
  unfold State.setMode
  extract_lets old s1 _ s2 s3 s4 s5
  have h1 : KeepsRecord s s1 := roleEntry_record s old m
  have h2 : KeepsRecord s1 s2 := .of_regs rfl
  have h3 : KeepsRecord s2 s3 := .put _ _ (by decide)
  have h4 : KeepsRecord s3 s4 := .bump _ _ (by decide)
  have h5 : KeepsRecord s4 s5 := .ite (.bump _ _ (by decide)) (.refl _)
  exact .ite (.refl s) (h1.trans (h2.trans (h3.trans (h4.trans (h5.trans (.of_regs (notify_regs _ _ _)))))))

theorem unmoor_record (s : State) : KeepsRecord s s.unmoor := by
  unfold State.unmoor
  extract_lets s1 s2 s3
  have h1 : KeepsRecord s s1 := (KeepsRecord.putBit s false (by decide)).trans (.of_regs rfl)
  have h3 : KeepsRecord s1 s3 := .of_regs rfl
  exact h1.trans (h3.trans (.ite (.of_regs rfl) (.refl _)))

/-- The meters and the blocks of the first column of Table 2.7 lie outside the collector. -/
theorem firstUse_record (s : State) : KeepsRecord s s.firstUse := by
  unfold State.firstUse
  extract_lets s1 s2 _ s3 _ s4
  have h1 : s1.regs = s.regs := zeroStateAreas_regs s
  have h2 : s2.regs = s1.regs := foldl_keeps State.regs (fun s e => by split <;> simp) _ _
  have h4 : s4.regs = s2.regs := by dsimp only [s4, s3]
  refine (KeepsRecord.of_regs (h4.trans (h2.trans h1))).trans (.foldl (fun s j hj => ?_) s4)
  have hj : j < 256 := List.mem_range.1 hj
  have hp : METER_PEAK j ∉ latchRecord := notMem_latchRecord (by unfold METER_PEAK; omega)
  have hr : METER_RMS j ∉ latchRecord := notMem_latchRecord (by unfold METER_RMS; omega)
  exact (KeepsRecord.clearRg s hp).trans (.clearRg _ hr)

theorem resetCoil_record (s : State) : KeepsRecord s s.resetCoil := by
  refine .foldl (fun s m _ => ?_) s
  extract_lets t _ s1
  have h1 : KeepsRecord s s1 := .ite (.of_regs (setCh_regs _ _ _)) (.refl s)
  exact h1.trans ((KeepsRecord.clearRg _ (notMem_latchRecord_add (by decide))).trans (.put _ _ (notMem_latchRecord_add (by decide))))

theorem wakeAudio_record (s : State) (cause index : Nat) : KeepsRecord s (s.wakeAudio cause index) := by
  unfold State.wakeAudio
  extract_lets s1 s2 s3 s4 _ _ s5 s6
  have h1 : KeepsRecord s s1 := .ite (unmoor_record s) (.ite (.of_regs rfl) (.refl s))
  have h2 : KeepsRecord s1 s2 := (firstUse_record s1).trans (resetCoil_record _)
  have h5 : KeepsRecord s2 s5 := .of_regs rfl
  have h6 : KeepsRecord s5 s6 := (KeepsRecord.put _ _ (by decide)).trans (.put _ _ (by decide))
  exact h1.trans (h2.trans (h5.trans (h6.trans (.put _ _ (by decide)))))

theorem masterReset_record (s : State) (m : Nat) : KeepsRecord s (s.masterReset m) := by
  have h1 : KeepsRecord s (s.putBit (F.MORTAR_MST_STAT_RESETTING m) true) := .putBit _ _ (notMem_latchRecord_add (by decide))
  exact h1.trans ((KeepsRecord.putBit _ _ (by decide)).trans (.setRg _ _ (by decide)))

theorem abortDormant_record (s : State) : KeepsRecord s s.abortDormant := .ite (.of_regs rfl) (.refl s)

theorem enterHold_record (s : State) (src : Option Nat) : KeepsRecord s (s.enterHold src) := by
  unfold State.enterHold
  extract_lets old s1 lost s2 _ _ s3 s4 s5 s6 s7
  have h1 : KeepsRecord s s1 := .ite ((KeepsRecord.of_regs rfl).trans (wakeAudio_record s.forgetBlk _ _)) (abortDormant_record s)
  have h2 : KeepsRecord s1 s2 := .ite (.put _ _ (by decide)) (.refl _)
  have h3 : KeepsRecord s2 s3 := .of_regs rfl
  have h4 : KeepsRecord s3 s4 := (KeepsRecord.put _ _ (by decide)).trans (.put _ _ (by decide))
  have h5 : KeepsRecord s4 s5 := by
    unfold s5
    split
    · exact (KeepsRecord.put _ _ (by decide)).trans (.put _ _ (by decide))
    · exact .put _ _ (by decide)
  have h6 : KeepsRecord s5 s6 := .of_regs rfl
  have h7 : KeepsRecord s6 s7 :=
    .ite ((KeepsRecord.put _ _ (by decide)).trans (masterReset_record _ 7)) (.refl _)
  have h8 : KeepsRecord s7 ((s7.setMode .hold).muteOuts .hold) := (setMode_record s7 .hold).trans (.of_regs rfl)
  exact .ite (.refl s) (h1.trans (h2.trans (h3.trans (h4.trans (h5.trans (h6.trans (h7.trans h8)))))))

/-! ## A new latch (R448, R449) -/

theorem getLsbD_setBit64 (w : Word64) {k : Nat} (hk : k < 64) (b : Bool) (j : Nat) :
    (setBit64 w k b).getLsbD j = if j = k then b else w.getLsbD j := by
  have hb : (BitVec.ofNat 64 (2 ^ k)).getLsbD j = (decide (j < 64) && decide (k = j)) := by
    rw [BitVec.getLsbD_ofNat, Nat.testBit_two_pow]
  have hge : ¬ j < 64 → w.getLsbD j = false := fun h => w.getLsbD_of_ge j (by omega)
  cases b with
  | true =>
    show (w ||| _).getLsbD j = _
    rw [BitVec.getLsbD_or, hb]
    grind
  | false =>
    show (w &&& ~~~_).getLsbD j = _
    rw [BitVec.getLsbD_and, BitVec.getLsbD_not, hb]
    grind

/-- A bit of FLT_STATUS set or cleared; the others stay. -/
theorem latched_setRegBit (s : State) {k : Nat} (hk : k < 64) (b : Bool) (j : Nat) :
    (s.setRegBit FLT_STATUS k b).latched j = if j = k then b else s.latched j := by
  rw [State.latched, State.setRegBit, rg_setRg_same, Nat.mod_eq_of_lt (BitVec.isLt _), BitVec.testBit_toNat,
    getLsbD_setBit64 _ hk, BitVec.getLsbD_ofNat, State.latched]
  by_cases hj : j < 64
  · simp [hj]
  · have : (s.rg FLT_STATUS).testBit j = false :=
      Nat.testBit_lt_two_pow (Nat.lt_of_lt_of_le (rg_lt s _) (Nat.pow_le_pow_right (by decide) (by omega)))
    simp [hj, this]

theorem rg_setRegBit_ne (s : State) {a b : Nat} (k : Nat) (v : Bool) (h : b ≠ a) : (s.setRegBit a k v).rg b = s.rg b :=
  rg_setRg_ne s _ h

/-- A pulse counts in FLT_CNT.PULSES and writes nothing else. -/
theorem pulse_cases (s : State) (cls : Nat) :
    (s.pulse cls).regs = s.regs ∨ (s.pulse cls).regs = (s.bump F.FLT_CNT_PULSES).regs := by
  unfold State.pulse
  split
  · exact .inl rfl
  · split
    · exact .inl rfl
    · exact .inr (pinStep_regs _ _)

theorem rg_pulse (s : State) (cls : Nat) {a : Nat} (h : a ≠ FLT_CNT) : (s.pulse cls).rg a = s.rg a := by
  rcases pulse_cases s cls with hp | hp
  · exact rg_of_regs hp a
  · exact (rg_of_regs hp a).trans (rg_put_ne s _ h)

theorem get_latches_pulse (s : State) (cls : Nat) : (s.pulse cls).get F.FLT_CNT_LATCHES = s.get F.FLT_CNT_LATCHES := by
  rcases pulse_cases s cls with hp | hp
  · exact get_of_regs hp _
  · exact (get_of_regs hp _).trans (get_put_disjoint s _ (by decide) rfl (by decide))

theorem reactHold_record (s : State) (k : Nat) : KeepsRecord s (s.reactHold k) := by
  unfold State.reactHold
  extract_lets _ _ s1
  have h1 : KeepsRecord s s1 := .of_regs rfl
  exact h1.trans (.ite (.refl _) (enterHold_record s1 _))

theorem reactReset_record (s : State) (k : Nat) : KeepsRecord s (s.reactReset k) :=
  .ite (reactHold_record s k)
    (.ite ((KeepsRecord.put s 1 (by decide)).trans (reactHold_record _ k)) (.of_regs rfl))

/-- No reaction of Table 16.2 touches the record. -/
theorem react_record (s : State) (k cls : Nat) (chans : List Nat) : KeepsRecord s (s.react k cls chans) := by
  unfold State.react
  split
  · exact .of_regs rfl
  · exact .ite (.of_regs (holdChans_regs _ _ _)) (.of_regs rfl)
  · exact reactHold_record s k
  · exact reactReset_record s k
  · exact .refl s

theorem policyPin_record (s : State) : KeepsRecord s s.policyPin :=
  .ite (.refl s) ((KeepsRecord.putBit s _ (by decide)).trans (.of_regs (pinStep_regs _ _)))

/-- Bit `k` set, the latch counted, the reaction to come. -/
def State.recordLatch (s : State) (k : Nat) : State := (s.setRegBit FLT_STATUS k true).bump F.FLT_CNT_LATCHES

/-- After the record and the pulse, what a new latch does leaves the record. -/
theorem newLatch_record (s : State) (k : Nat) (chans : List Nat) :
    ∃ u : State, u.regs = (s.recordLatch k).regs ∧ KeepsRecord (u.pulse (s.classOf k)) (s.newLatch k chans) :=
  ⟨_, (notify_regs _ _ _).trans (unbar_regs _ _), (react_record _ _ _ _).trans (policyPin_record _)⟩

theorem latched_newLatch (s : State) {k : Nat} (hk : k < 64) (chans : List Nat) (j : Nat) :
    (s.newLatch k chans).latched j = if j = k then true else s.latched j := by
  obtain ⟨u, hu, hr⟩ := newLatch_record s k chans
  rw [hr.latched, State.latched, rg_pulse _ _ (by decide), rg_of_regs hu, State.recordLatch, State.bump,
    rg_put_ne _ _ (by decide)]
  exact latched_setRegBit s hk true j

theorem get_latches_newLatch (s : State) (k : Nat) (chans : List Nat) : (s.newLatch k chans).get F.FLT_CNT_LATCHES =
    min (2 ^ (F.FLT_CNT_LATCHES).width - 1) (s.get F.FLT_CNT_LATCHES + 1) := by
  obtain ⟨u, hu, hr⟩ := newLatch_record s k chans
  rw [hr.get (by decide), get_latches_pulse, get_of_regs hu, State.recordLatch, get_bump_same _ _ _ (by decide)]
  rw [show (s.setRegBit FLT_STATUS k true).get F.FLT_CNT_LATCHES = s.get F.FLT_CNT_LATCHES from get_setRg_ne s _ (by decide)]

/-! ## Clearing (R456) -/

theorem clearFault_of_clear {s : State} {k : Nat} (h : s.latched k = false) : s.clearFault k = s := by
  unfold State.clearFault; simp [h]

theorem clearFault_of_present {s : State} {k : Nat} (h : s.causePresent k = true) : s.clearFault k = s := by
  unfold State.clearFault; simp [h]

/-- Bit `k` cleared, in FLT_STATUS and in what the classes hold of it. -/
def State.dropLatch (s : State) (k : Nat) : State :=
  let t := s.setRegBit FLT_STATUS k false
  { t with flt := { t.flt with
      hold := setBit64 t.flt.hold k false, degrade := setBit64 t.flt.degrade k false, safe := setBit64 t.flt.safe k false } }

/-- With the last bit cleared FLT_FIRST is no longer valid. -/
def State.settleFirst (s : State) : State := if s.rg FLT_STATUS = 0 then s.put F.FLT_FIRST_VALID 0 else s

theorem clearFault_of_absent {s : State} {k : Nat} (hl : s.latched k = true) (hc : s.causePresent k = false) :
    s.clearFault k = if ampEvent k then (List.range 64).foldl (fun s m => s.freeChan k m) (s.dropLatch k).settleFirst
      else (s.dropLatch k).settleFirst := by
  unfold State.clearFault; simp only [hl, hc, Bool.not_true, Bool.false_eq_true, if_false]; rfl

@[simp] theorem freeChan_hold (s : State) (k m : Nat) : (s.freeChan k m).flt.hold = s.flt.hold := by
  unfold State.freeChan; split <;> rfl

/-- Letting channels go leaves whatever `freeChan` leaves. -/
theorem clearFault_keeps {β : Type} (g : State → β) (h : ∀ (s : State) (k m : Nat), g (s.freeChan k m) = g s) {s : State} {k : Nat}
    (hl : s.latched k = true) (hc : s.causePresent k = false) : g (s.clearFault k) = g (s.dropLatch k).settleFirst := by
  rw [clearFault_of_absent hl hc]
  split
  · exact foldl_keeps g (fun s m => h s k m) _ _
  · rfl

theorem clearFault_regs {s : State} {k : Nat} (hl : s.latched k = true) (hc : s.causePresent k = false) :
    (s.clearFault k).regs = (s.dropLatch k).settleFirst.regs := clearFault_keeps State.regs freeChan_regs hl hc

theorem settleFirst_rg (s : State) {a : Nat} (h : a ≠ FLT_FIRST) : s.settleFirst.rg a = s.rg a := by
  unfold State.settleFirst
  split
  · exact rg_put_ne s _ h
  · rfl

theorem settleFirst_flt (s : State) : s.settleFirst.flt = s.flt := by unfold State.settleFirst; split <;> rfl

/-- A bit whose cause is absent is cleared, and no other. -/
theorem latched_clearFault {s : State} {k : Nat} (hk : k < 64) (hl : s.latched k = true) (hc : s.causePresent k = false) (j : Nat) :
    (s.clearFault k).latched j = if j = k then false else s.latched j := by
  rw [State.latched, rg_of_regs (clearFault_regs hl hc), settleFirst_rg _ (by decide)]
  exact latched_setRegBit s hk false j

theorem hold_clearFault {s : State} {k : Nat} (hl : s.latched k = true) (hc : s.causePresent k = false) :
    (s.clearFault k).flt.hold = setBit64 s.flt.hold k false := by
  rw [clearFault_keeps (fun s => s.flt.hold) freeChan_hold hl hc, settleFirst_flt]; rfl

/-- A clear writes FLT_STATUS and FLT_FIRST only. -/
theorem clearFault_frame (s : State) (k : Nat) : RegsBut [FLT_STATUS, FLT_FIRST] s (s.clearFault k) := by
  intro a ha
  obtain ⟨hs, hf⟩ : a ≠ FLT_STATUS ∧ a ≠ FLT_FIRST := by simpa using ha
  cases hl : s.latched k with
  | false => rw [clearFault_of_clear hl]
  | true =>
    cases hc : s.causePresent k with
    | true => rw [clearFault_of_present hc]
    | false =>
      rw [rg_of_regs (clearFault_regs hl hc), settleFirst_rg _ hf]
      exact rg_setRegBit_ne s k false hs

/-! ## A write of FLT_STATUS (R456) -/

/-- The bits set that a mask names, lowest first. -/
def State.named (s : State) (mask : Nat) : List Nat := (List.range 64).filter (fun k => mask.testBit k && s.latched k)

/-- A write that meets a cause counts once, before its clears. -/
def State.countRefused (s : State) (mask : Nat) : State :=
  if (s.named mask).any (fun k => s.causePresent k) then s.bump F.FLT_CNT_REFUSED else s

/-- While no line asserts, a write clears the bits it names whose causes are absent. -/
theorem clearFaults_of_quiet {s : State} (h : s.flt.asserted = 0) (mask : Nat) :
    s.clearFaults mask = ((s.named mask).foldl State.clearFault (s.countRefused mask)).policyPin := by
  unfold State.clearFaults State.countRefused State.named
  simp [h]

theorem get_refused_clearFaults {s : State} (h : s.flt.asserted = 0) (mask : Nat) :
    (s.clearFaults mask).get F.FLT_CNT_REFUSED = (s.countRefused mask).get F.FLT_CNT_REFUSED := by
  rw [clearFaults_of_quiet h, (policyPin_record _).get (by decide)]
  exact foldl_keeps (fun s => s.get F.FLT_CNT_REFUSED)
    (fun s k => by rw [State.get, clearFault_frame s k _ (by decide), State.get]) _ _

/-- A clear of one set bit whose line asserts is a new latch of it. -/
theorem clearFaults_of_line {s : State} {k : Nat} (hk : k < 64) (hl : s.latched k = true) (ha : s.flt.asserted.getLsbD k = true) :
    s.clearFaults (2 ^ k) = (s.newLatch k ((List.range 64).filter (fun m => s.chanCause k m))).policyPin := by
  have hit : s.named (2 ^ k) = [k] := by
    have hp : (fun j => (2 ^ k : Nat).testBit j && s.latched j) = (· == k) := by
      funext j
      rw [Nat.testBit_two_pow]
      by_cases hj : j = k
      · subst hj; simp [hl]
      · simp [hj, Ne.symm hj]
    rw [State.named, hp, List.filter_beq, List.nodup_range.count (a := k)]
    simp [hk]
  unfold State.named at hit
  unfold State.clearFaults
  simp [hit, ha]

/-- Settles O40: each clause is what `clearFault` does by the bit and its cause, or what a write of FLT_STATUS does by its lines. -/
theorem clearsRespectCauses : Obligations.ClearsRespectCauses := by
  unfold Obligations.ClearsRespectCauses
  intro s k hk
  refine ⟨fun hl hc => ⟨?_, ?_, fun j hj => ?_⟩, fun _ => clearFault_of_present, clearFault_of_clear,
    fun mask hq hm hl hc => ?_, fun mask hq hc => ?_, fun hl ha => ⟨?_, ?_⟩⟩
  · rw [latched_clearFault hk hl hc, if_pos rfl]
  · rw [hold_clearFault hl hc, getLsbD_setBit64 _ hk, if_pos rfl]
  · rw [latched_clearFault hk hl hc, if_neg hj]
  · have hany : (s.named mask).any (fun k => s.causePresent k) = true :=
      List.any_eq_true.2 ⟨k, by simp [State.named, hk, hm, hl], hc⟩
    rw [get_refused_clearFaults hq, State.countRefused, if_pos hany, get_bump_same _ _ _ (by decide)]
  · have hany : ¬ (s.named mask).any (fun k => s.causePresent k) = true := by
      simp only [State.named, List.any_eq_true, List.mem_filter, Bool.and_eq_true]
      rintro ⟨j, ⟨-, hm, hl⟩, hj⟩
      simp [hc j hm hl] at hj
    rw [get_refused_clearFaults hq, State.countRefused, if_neg hany]
  · rw [clearFaults_of_line hk hl ha, (policyPin_record _).latched, latched_newLatch s hk, if_pos rfl]
  · rw [clearFaults_of_line hk hl ha, (policyPin_record _).get (by decide), get_latches_newLatch]

end Sys2Proof.Machine
end

section
/-! Reads of the register bus and the captures of R25. -/

namespace Sys2Proof.Machine

/-! ## Captures (R25) -/

/-- What a read hands out of a register: its value, the fields of type WO as 0 (R21). -/
def State.shown (s : State) (m : Master) (d : RegDef) (a : Nat) : Nat :=
  d.fields.foldl (fun (n : Nat) (f : FieldDef) => if f.ty == .wo then withField n f.lo f.width 0 else n) (s.view m a)

theorem capture_of_caps {s t : State} (h : t.caps = s.caps) (m : Master) : t.capture m = s.capture m := by
  rw [State.capture, h, State.capture]

theorem capture_captureUpper_same (s : State) (m : Master) (a v : Nat) :
    (s.captureUpper m a v).capture m = some (a, BitVec.ofNat 32 (v / 2 ^ 32)) := by
  simp [State.capture, State.captureUpper]

/-- A capture leaves those of the other masters. -/
theorem capture_captureUpper_ne (s : State) {m m' : Master} (a v : Nat) (h : m' ≠ m) :
    (s.captureUpper m a v).capture m' = s.capture m' := by
  simp only [State.capture, State.captureUpper]
  rw [List.find?_cons_of_neg (by simpa using h.symm), List.find?_filter]
  congr 2
  funext c
  by_cases hc : c.1 = m' <;> simp [hc, h]

theorem clearRc_caps (s : State) (d : RegDef) (a i j : Nat) : (s.clearRc d a i j).caps = s.caps := by
  unfold State.clearRc
  dsimp only
  split <;> exact foldl_keeps State.caps (fun s f => by split <;> rfl) _ _

/-! ## One read of the register bus -/

/-- The upper word of a register is the master's capture of it. -/
theorem readReg_upper {s : State} {m : Master} {d : RegDef} {i j b a : Nat} (hf : findReg b = some (d, i, j)) (ha : d.instAddr i j = a)
    (hb : b ≠ a) (hn : isNow a = false) (quiet wide : Bool) : s.readReg m quiet b wide = s.upperWord m a := by
  unfold State.readReg
  simp [hf, ha, hb, hn]

/-- A read at a register's own address: its value, the RC fields reset; of a 64-bit register's lower word also a capture. -/
theorem readReg_lower {s : State} {m : Master} {d : RegDef} {i j a : Nat} (hf : findReg a = some (d, i, j)) (ha : d.instAddr i j = a)
    (hn : isNow a = false) (hr : s.readData m a = none) (wide : Bool) :
    s.readReg m false a wide =
      ((if (d.bits = 64 && !wide) = true then s.captureUpper m a (s.shown m d a) else s).clearRc d a i j,
        s.shown m d a % (if wide then 2 ^ 64 else 2 ^ 32)) := by
  unfold State.readReg
  simp [hf, ha, hn, hr, State.shown]

theorem upperWord_none {s : State} {m : Master} (h : s.capture m = none) (a : Nat) : s.upperWord m a = (s, 0) := by
  unfold State.upperWord; rw [h]

theorem upperWord_same {s : State} {m : Master} {a : Nat} {w : Word32} (h : s.capture m = some (a, w)) :
    s.upperWord m a = (s, w.toNat) := by
  unfold State.upperWord; simp [h]

/-- Settles O36: the read of the lower word leaves the capture that the read of the upper word hands out. -/
theorem upperWordsAreCaptured : Obligations.UpperWordsAreCaptured := by
  unfold Obligations.UpperWordsAreCaptured
  intro s m d i j a hf ha hbits hf4 hn hr u
  have hu : u = (s.captureUpper m a (s.shown m d a)).clearRc d a i j := by
    show (s.readReg m false a false).1 = _
    rw [readReg_lower hf ha hn hr]
    simp [hbits]
  have hcaps : u.caps = (s.captureUpper m a (s.shown m d a)).caps := by rw [hu, clearRc_caps]
  refine ⟨fun v hv => ?_, fun hc => ?_, fun m' hm => ?_⟩
  · rw [readReg_upper hf4 ha (by omega) hn,
      upperWord_same ((capture_of_caps (hv.trans hcaps) m).trans (capture_captureUpper_same s m a _)), BitVec.toNat_ofNat]
    rfl
  · rw [readReg_upper hf4 ha (by omega) hn, upperWord_none hc]
  · rw [capture_of_caps hcaps, capture_captureUpper_ne s a _ hm]

end Sys2Proof.Machine
end

section
/-! A failed access whose latch resets the debug port: MORTAR_ERR then shows the reset (R432) in place of the access (R424). -/

namespace Sys2Proof.Machine

/-- An engine in SERVICE whose debug port is unlocked, with MORTAR_PATH (source 13) set to class NODE_HOLD. The port comes to be
unlocked there when DBG_UNLOCK is latched already: an unlock, its end, SERVICE out of HOLD, and a second unlock, whose line
latches nothing (R448) and so enters no HOLD. -/
def unlockedInService : State :=
  let s := State.reset
  let t : State := { s with
    node := { s.node with inReset := false, mode := .service, phase := .none }
    flt := { s.flt with hold := setBit64 0 53 true }
    sec := { s.sec with unlocked := true } }
  (t.setRegBit FLT_STATUS 53 true).put (F.FLT_CFG_CLASS 13) 3

theorem unlockedInService_alive : unlockedInService.alive = true := by decide

/-- The access latches MORTAR_PATH, whose class enters HOLD; there an unlocked port is set to FULL and its master reset. -/
theorem noPath_unlockedInService_holds : (unlockedInService.noPath 0 0 0x303F8000).node.mode = .hold := by decide +kernel

/-- MORTAR_ERR names the reset of master 7 and no longer the access. -/
theorem noPath_unlockedInService_err :
    (unlockedInService.noPath 0 0 0x303F8000).rg MORTAR_ERR = 4 * 2 ^ 60 + 7 * 2 ^ 48 := by decide +kernel

/-- Refutes O35: the record that an access to the sample exchange area leaves in MORTAR_ERR is lost when the latch of bit 13 enters
HOLD with the debug port unlocked, as `unlockedInService` shows for the Keeper's write to 0x303F_8000. -/
theorem not_registerAccesses : ¬ Obligations.RegisterAccesses := by
  unfold Obligations.RegisterAccesses
  rintro ⟨hbus, -⟩
  obtain ⟨-, -, -, hexchange⟩ := hbus unlockedInService .keeper 0x303F8000 false 0 unlockedInService_alive
  obtain ⟨-, -, herr, -⟩ := hexchange (by decide) (by decide)
  exact absurd (noPath_unlockedInService_err.symm.trans herr) (by decide)

end Sys2Proof.Machine
end

section
/-! The register form of a request (R33, Table 17.13): the bus write of the register that takes it, and its answer. -/

namespace Sys2Proof.Machine

/-- A register form answers done where its write does, and an error response otherwise. -/
theorem viaReg_eq (s : State) (m : Master) (a value : Nat) : s.viaReg m a value =
    (s.busWrite m a false value).1.emit (match (s.busWrite m a false value).2 with
      | .done _ => Output.done
      | _ => Output.error) := by
  unfold State.viaReg
  obtain ⟨t, r⟩ := s.busWrite m a false value
  cases r <;> rfl

/-- Settles O28: each register form is the write of its own register, with the bits that ask for it. -/
theorem registerFormsWriteTheirRegister : Obligations.RegisterFormsWriteTheirRegister := by
  unfold Obligations.RegisterFormsWriteTheirRegister
  intro s m i v ha at_
  have form {c : Instr} {f : State → State} {a x : Nat} (he : exec c s = runs s f) (hf : f s = s.viaReg m a x) : at_ a x c :=
    gives_runs he ha (hf.trans (viaReg_eq s m a x))
  exact ⟨form (exec_hold s) rfl, form (exec_service s) rfl, form (exec_release s) rfl, form (exec_exitService s) rfl,
    form (exec_swap s) rfl, form (exec_reset s) rfl, form (exec_restep s) rfl, form (exec_realign s) rfl,
    form (exec_resync s) rfl, form (exec_replace s) rfl, form (exec_wake s) rfl, form (exec_diag s) rfl,
    form (exec_retest s) rfl, form (exec_compact s) rfl, form (exec_commit s) rfl, form (exec_seal s) rfl,
    form (exec_return_ s) rfl, form (exec_scrap s) rfl, form (exec_debugLevel s) rfl⟩

end Sys2Proof.Machine
end

section
/-! What the debug port and the TW1 window may reach (R33, R496, Table 17.8). -/

namespace Sys2Proof.Machine

/-! ## Quiet reads (R33, R496): nothing but the next free value's index changes -/

/-- Nothing but the next free value's index differs. -/
def FreeOnly (s t : State) : Prop := ∃ k, t = { s with free := k }

theorem FreeOnly.refl (s : State) : FreeOnly s s := ⟨s.free, rfl⟩

theorem FreeOnly.trans {s t u : State} (h : FreeOnly s t) (h' : FreeOnly t u) : FreeOnly s u := by
  obtain ⟨k, rfl⟩ := h
  obtain ⟨k', rfl⟩ := h'
  exact ⟨k', rfl⟩

theorem FreeOnly.ite {α : Type} {c : Prop} [Decidable c] {s : State} {x y : State × α} (hx : FreeOnly s x.1) (hy : FreeOnly s y.1) :
    FreeOnly s (if c then x else y).1 := by
  split
  · exact hx
  · exact hy

theorem upperWord_freeOnly (s : State) (m : Master) (a : Nat) : FreeOnly s (s.upperWord m a).1 := by
  unfold State.upperWord
  split
  · exact .refl s
  · exact .ite (.refl s) ⟨s.free + 1, rfl⟩

/-- Of a read without side effects only an open upper word takes a free value. -/
theorem readReg_quiet (s : State) (m : Master) (a : Nat) (wide : Bool) : FreeOnly s (s.readReg m true a wide).1 := by
  unfold State.readReg
  split
  · exact .refl s
  · exact .ite (.ite (.refl s) (upperWord_freeOnly s m _)) (.ite (.refl s) (.refl s))

theorem busRead_quiet (s : State) (m : Master) (a : Nat) (wide : Bool) : FreeOnly s (s.busRead m true a wide).1 := by
  unfold State.busRead
  refine .ite (.refl s) (.ite (.refl s) (.ite (.refl s) (.ite (.refl s) ?_)))
  split
  · exact .ite (readReg_quiet s m a wide) ((readReg_quiet s m a false).trans (readReg_quiet _ m (a + 4) false))
  · exact .ite (.refl s) (.refl s)

/-! ## What the port shows of itself -/

/-- TCK seen through a connected port: EXTEST ends and DBG_LEVEL shows the connection. -/
theorem tapSeen_of_connected {s : State} (h : s.bit F.DBG_LEVEL_DISC = false) : s.tapSeen =
    ({ s with sec := { s.sec with extest := false } } : State).putBit F.DBG_LEVEL_CONNECTED true := by
  unfold State.tapSeen; simp [h]

/-- Nothing changed but what the port shows of itself, the free values taken and one output. -/
def TapShows (s : State) (o : Output) (t : State) : Prop :=
  t = { s with regs := t.regs, out := s.out ++ [o], sec := { s.sec with extest := t.sec.extest }, free := t.free } ∧
    RegsBut [DBG_LEVEL] s t

theorem tapShows_emit {s : State} (h : s.bit F.DBG_LEVEL_DISC = false) (k : Nat) (o : Output) :
    TapShows s o (({ s.tapSeen with free := k } : State).emit o) := by
  rw [tapSeen_of_connected h]
  refine ⟨rfl, fun a ha => ?_⟩
  exact rg_put_ne ({ s with sec := { s.sec with extest := false } } : State) _ (by simpa using ha)

/-! ## DIAG_READ -/

theorem bypass_of_disconnected {s : State} (h : s.bit F.DBG_LEVEL_DISC = true) : s.bypass = s := by
  unfold State.bypass; simp [h]

theorem bypass_of_connected {s : State} (h : s.bit F.DBG_LEVEL_DISC = false) :
    s.bypass = ({ s.tapSeen with free := s.tapSeen.free } : State).emit (.tdo 1 0) := by
  unfold State.bypass; simp [h, State.tdo]

/-- R496: without a port that acts, and at OFF, DIAG_READ is BYPASS. -/
theorem effDiagRead_eq_bypass {a : Nat} {s : State} (h : s.tapOn = false ∨ s.get F.DBG_LEVEL_LEVEL = 0) :
    effDiagRead a s = s.bypass := by
  unfold effDiagRead
  rw [if_pos (by simpa using h)]

/-- At DIAG and above, DIAG_READ shifts out the word or answers an error response. -/
theorem effDiagRead_shows {a : Nat} {s : State} (hon : s.tapOn = true) (hl : s.get F.DBG_LEVEL_LEVEL ≠ 0) :
    ∃ k o, effDiagRead a s = ({ s.tapSeen with free := k } : State).emit o := by
  unfold effDiagRead
  rw [if_neg (by simp [hon, hl])]
  dsimp only
  split
  · exact ⟨s.tapSeen.free, .error, rfl⟩
  · obtain ⟨k, hk⟩ := busRead_quiet s.tapSeen .debug a false
    split
    · rename_i t v he
      rw [he] at hk
      exact ⟨k, .tdo 32 v, by rw [← hk]; rfl⟩
    · rename_i t r _ he
      rw [he] at hk
      exact ⟨k, .error, by rw [← hk]⟩

/-- Through a connected port DIAG_READ puts out one item, and its bypass bit in SCRAPPED and at OFF. -/
theorem effDiagRead_connected (a : Nat) {s : State} (h : s.bit F.DBG_LEVEL_DISC = false) :
    ∃ o, TapShows s o (effDiagRead a s) ∧ ((s.lifecycle = 4 ∨ s.get F.DBG_LEVEL_LEVEL = 0) → o = .tdo 1 0) := by
  by_cases hb : s.lifecycle = 4 ∨ s.get F.DBG_LEVEL_LEVEL = 0
  · have hoff : s.tapOn = false ∨ s.get F.DBG_LEVEL_LEVEL = 0 := hb.imp_left (fun hs => by simp [State.tapOn, hs])
    rw [effDiagRead_eq_bypass hoff, bypass_of_connected h]
    exact ⟨.tdo 1 0, tapShows_emit h _ _, fun _ => rfl⟩
  · obtain ⟨hs, hl⟩ := not_or.1 hb
    obtain ⟨k, o, he⟩ := effDiagRead_shows (a := a) (s := s) (by simp [State.tapOn, h, hs]) hl
    exact ⟨o, he ▸ tapShows_emit h k o, fun hc => absurd hc hb⟩

theorem effDiagRead_disconnected (a : Nat) {s : State} (h : s.bit F.DBG_LEVEL_DISC = true) : effDiagRead a s = s := by
  rw [effDiagRead_eq_bypass (.inl (by simp [State.tapOn, h])), bypass_of_disconnected h]

/-! ## Accesses that Table 17.8 does not let a master make -/

theorem busWrite_denied {s : State} {m : Master} {a : Nat} {wide : Bool} (hal : a % (if wide then 8 else 4) = 0)
    (hu : regionAt a ≠ .unmapped) (he : regionAt a ≠ .exchange) (hr : s.mayReach m a true = false) (x : Nat) :
    s.busWrite m a wide x = (s, .denied) := by
  unfold State.busWrite
  rw [if_neg (not_not.2 hal), if_neg hu, if_neg he, if_pos (by simp [hr])]

theorem busRead_denied {s : State} {m : Master} {a : Nat} {wide : Bool} (hal : a % (if wide then 8 else 4) = 0)
    (hu : regionAt a ≠ .unmapped) (he : regionAt a ≠ .exchange) (hr : s.mayReach m a false = false) (quiet : Bool) :
    s.busRead m quiet a wide = (s, .denied) := by
  unfold State.busRead
  rw [if_neg (not_not.2 hal), if_neg hu, if_neg he, if_pos (by simp [hr])]

theorem mayReach_debug (s : State) (a : Nat) (write : Bool) : s.mayReach .debug a write =
    (decide (s.get F.DBG_LEVEL_LEVEL = 2) || (decide (s.get F.DBG_LEVEL_LEVEL = 1) && decide (regionAt a = .regs) && !write)) := rfl

/-- The TW1 window reaches the register space alone, whatever the lifecycle. -/
theorem mayReach_tw1_out {s : State} {a : Nat} (h : regionAt a ≠ .regs) (write : Bool) : s.mayReach .tw1 a write = false := by
  unfold State.mayReach
  dsimp only
  split <;> simp [h]

/-- Settles O38: DIAG_READ is BYPASS or a quiet read, and the other accesses are those `mayReach` turns away. -/
theorem debugPortRights : Obligations.DebugPortRights := by
  unfold Obligations.DebugPortRights
  refine ⟨fun s a hp hr => ?_, fun s a wide x => ⟨fun hl hal hu he => ?_, fun hl hal hu he hg => ?_, fun hl hal hu he => ?_,
    fun hal hu he hg => ?_⟩⟩
  · have hx := gives_tapRuns (exec_diagRead (a := a) s) hp hr rfl
    cases hd : s.bit F.DBG_LEVEL_DISC with
    | true =>
      rw [effDiagRead_disconnected _ hd] at hx
      exact ⟨s, hx, rfl, fun _ _ => rfl, rfl, fun _ => rfl, by simp, by simp⟩
    | false =>
      obtain ⟨o, ⟨ht, hregs⟩, ho⟩ := effDiagRead_connected a.toNat hd
      generalize effDiagRead a.toNat s = t at hx ht hregs
      have hpend : { t with pending := s.pending } = t := by rw [ht]
      rw [Gives, hpend] at hx
      have hout : t.out = s.out ++ [o] := by rw [ht]
      refine ⟨t, hx, ?_, hregs, by rw [ht], by simp, fun _ => ⟨o, hout⟩, fun _ hb => by rw [hout, ho hb]⟩
      rw [ht]
  · exact busWrite_denied hal hu he (by simp [mayReach_debug, show s.get F.DBG_LEVEL_LEVEL ≠ 2 by omega]) x
  · exact busRead_denied hal hu he (by simp [mayReach_debug, hl, hg]) true
  · exact busRead_denied hal hu he (by simp [mayReach_debug, hl]) true
  · exact busWrite_denied hal hu he (mayReach_tw1_out hg true) x

end Sys2Proof.Machine
end

section
/-! The sample tick (R30, R31, R266, R268): how N and the time counter move, and the order of a tick's pieces. -/

namespace Sys2Proof.Machine

/-! ## REF5 cycles in P4 (R266) -/

/-- The next cycle of the pattern of three. -/
theorem refUnits_succ (m : Nat) : refUnits (m + 1) = refUnits m + (40 * 65536 + if m % 3 = 2 then 45226 else 45227) := by
  unfold refUnits
  split <;> omega

theorem refUnits_strictMono : StrictMono refUnits :=
  strictMono_nat_of_lt_succ fun m => by rw [refUnits_succ]; omega

/-- The cycles counted for a gain reach it, and by less than a cycle. -/
theorem refUnits_refCycles (x : Nat) : x ≤ refUnits (refCycles x) ∧ refUnits (refCycles x) < x + 2666667 := by
  unfold refUnits refCycles
  omega

/-! ## The time counter (R264, R268) -/

/-- Outside P4 the counter goes by TIME cycles to the first value that reaches `t`. -/
theorem counterFrom_time {s : State} (h : s.get F.PWR_STAT_STATE < 4) (t : Nat) :
    s.counterFrom t = (s.node.time + (t - s.node.time + 159999) / 160000 * 160000, 0) := if_pos h

/-- A counter in P4 that has reached `t` stands. -/
theorem counterFrom_reached {s : State} (h : 4 ≤ s.get F.PWR_STAT_STATE) {t : Nat} (ht : t ≤ s.node.time) :
    s.counterFrom t = (s.node.time, s.node.pattern) := by
  unfold State.counterFrom
  rw [if_neg (by omega)]
  exact if_pos (by omega)

/-- The position in the pattern of P4, counted on from where it stands, at which the counter has reached `t`. -/
def State.refAt (s : State) (t : Nat) : Nat := refCycles (t - s.node.time + refUnits s.node.pattern)

/-- A counter in P4 short of `t` goes by REF5 cycles. -/
theorem counterFrom_ref {s : State} (h : 4 ≤ s.get F.PWR_STAT_STATE) {t : Nat} (ht : s.node.time < t) :
    s.counterFrom t = (s.node.time + (refUnits (s.refAt t) - refUnits s.node.pattern), s.refAt t % 3) := by
  unfold State.counterFrom
  rw [if_neg (by omega)]
  exact if_neg (by omega)

theorem pattern_lt_refAt {s : State} {t : Nat} (ht : s.node.time < t) : s.node.pattern < s.refAt t := by
  obtain ⟨hr, -⟩ := refUnits_refCycles (t - s.node.time + refUnits s.node.pattern)
  exact refUnits_strictMono.lt_iff_lt.1 (show refUnits _ < refUnits (refCycles _) by omega)

/-- The counter reaches `t` and never goes back. -/
theorem le_counterFrom (s : State) (t : Nat) : t ≤ (s.counterFrom t).1 ∧ s.node.time ≤ (s.counterFrom t).1 := by
  rcases Nat.lt_or_ge (s.get F.PWR_STAT_STATE) 4 with h | h
  · rw [counterFrom_time h]; dsimp only; omega
  · rcases Nat.lt_or_ge s.node.time t with ht | ht
    · obtain ⟨hr, -⟩ := refUnits_refCycles (t - s.node.time + refUnits s.node.pattern)
      rw [counterFrom_ref h ht, State.refAt]; dsimp only; omega
    · rw [counterFrom_reached h ht]; dsimp only; omega

/-- Outside P4: whole TIME cycles, and no cycle more than it takes. -/
theorem counterFrom_time_first {s : State} (h : s.get F.PWR_STAT_STATE < 4) (t : Nat) :
    ((s.counterFrom t).1 - s.node.time) % 160000 = 0 ∧
      (s.node.time < (s.counterFrom t).1 → (s.counterFrom t).1 < t + 160000) := by
  rw [counterFrom_time h]; dsimp only; omega

/-- In P4: whole REF5 cycles from the position in the pattern on. -/
theorem counterFrom_ref_cycles {s : State} (h : 4 ≤ s.get F.PWR_STAT_STATE) (hp : s.node.pattern < 3) (t : Nat) :
    ∃ m, s.node.pattern ≤ m ∧ (s.counterFrom t).2 = m % 3 ∧
      (s.counterFrom t).1 = s.node.time + (refUnits m - refUnits s.node.pattern) := by
  rcases Nat.lt_or_ge s.node.time t with ht | ht
  · exact ⟨s.refAt t, (pattern_lt_refAt ht).le, by rw [counterFrom_ref h ht], by rw [counterFrom_ref h ht]⟩
  · refine ⟨s.node.pattern, le_rfl, ?_, ?_⟩
    · rw [counterFrom_reached h ht, Nat.mod_eq_of_lt hp]
    · rw [counterFrom_reached h ht, Nat.sub_self, Nat.add_zero]

/-- In P4: no cycle more than it takes. -/
theorem counterFrom_ref_first {s : State} (h : 4 ≤ s.get F.PWR_STAT_STATE) {t : Nat}
    (hm : s.node.time < (s.counterFrom t).1) : (s.counterFrom t).1 < t + 2666667 := by
  rcases Nat.lt_or_ge s.node.time t with ht | ht
  · obtain ⟨-, hr⟩ := refUnits_refCycles (t - s.node.time + refUnits s.node.pattern)
    rw [counterFrom_ref h ht, State.refAt] at hm ⊢
    dsimp only at hm ⊢
    omega
  · rw [counterFrom_reached h ht] at hm
    exact absurd hm (lt_irrefl _)

/-! ## N (R31) -/

theorem nextN_lt (s : State) : s.nextN < 2 ^ 64 := by
  unfold State.nextN
  split
  · exact s.node.n.isLt
  · exact Nat.mod_lt _ (by decide)

theorem nextN_fresh {s : State} (h : s.node.fresh = true) : s.nextN = s.node.n.toNat := if_pos h

theorem nextN_counts {s : State} (h : s.node.fresh = false) : s.nextN = (s.node.n.toNat + 1) % 2 ^ 64 := if_neg (by simp [h])

theorem advance_n (s : State) {n : Nat} (h : n < 2 ^ 64) : (s.advance n).node.n.toNat = n :=
  (BitVec.toNat_ofNat n 64).trans (Nat.mod_eq_of_lt h)

/-! ## What has nothing to send -/

/-- R308: no Flash is sent by an engine that sends none, or before the end of a block. -/
theorem flashTick_idle {s : State} (h : s.flashes = false ∨ s.node.n.toNat % 8 ≠ 7) : s.flashTick = s := by
  unfold State.flashTick
  rw [if_pos (by simpa using h)]

theorem outboxTick_empty {s : State} (h : s.net.outbox = []) : s.outboxTick = s := by
  unfold State.outboxTick
  rw [if_pos (by simp [h])]

/-- Settles O34: the counter's next value is the first that reaches T(N), by TIME cycles or by REF5 cycles; the tick is its pieces in
their order. -/
theorem sampleTicks : Obligations.SampleTicks := by
  unfold Obligations.SampleTicks
  refine ⟨fun s => ?_, fun s i ha => ⟨gives_runs (exec_sampleTick s) ha rfl, flashTick_idle, outboxTick_empty⟩⟩
  intro n t
  obtain ⟨hreach, hback⟩ := le_counterFrom s (s.tickTime n)
  exact ⟨nextN_lt s, nextN_counts, nextN_fresh, advance_n s (nextN_lt s), rfl, hreach, hback,
    fun h => counterFrom_time_first h _,
    fun h hp => ⟨counterFrom_ref_cycles h hp _, counterFrom_ref_first h⟩,
    refUnits_succ, Nat.add_sub_cancel_left _ _, rfl⟩

end Sys2Proof.Machine
end

section
/-! Accepted requests (R489 to R493, Table 17.13): a request that is taken in and not refused does what its operation does. -/

namespace Sys2Proof.Machine

/-! ## From a request to its operation -/

theorem request_of_accepts {s u : State} {op : Nat} {r : KmpReq} {x : Session} (h : s.Accepts op r x u)
    (act : State → Session → State) : s.request op r act = act u x := by
  obtain ⟨-, ht, hk⟩ := h
  unfold State.request
  rw [ht]
  exact if_pos hk

/-- A command that is a request gives what its operation makes of the state that has recorded it. -/
theorem gives_request {i : Instr} {s u t : State} {op : Nat} {r : KmpReq} {x : Session} {act : State → Session → State}
    (he : exec i s = runs s (fun s => s.request op r act)) (h : s.Accepts op r x u) (ht : act u x = t) : Gives i s t :=
  gives_runs he h.1 ((request_of_accepts h act).trans ht)

theorem status_ok (s : State) (x : Session) (op : Nat) (r : KmpReq) (results : List Byte) :
    s.status x op r 0 results = s.reply x.num op r.reqId 0 results := rfl

@[simp] theorem status_nil (s : State) (x : Session) (op : Nat) (r : KmpReq) (k : Nat) :
    s.status x op r k = s.reply x.num op r.reqId k [] := by
  rw [State.status, ite_self]

/-! ## Requests that tell, subscribe and take control -/

/-- Settles O22: each request's operation, along the branch its clause names. -/
theorem tellingAndControlRequests : Obligations.TellingAndControlRequests := by
  unfold Obligations.TellingAndControlRequests
  refine ⟨fun s u r x => ⟨fun h => ?_, fun h => ?_, fun h hd => ?_, fun v h hi hv hk => ?_, fun h => ?_⟩,
    fun s u r x => ⟨fun h hc hm hp => ?_, fun h hc hm => ?_, fun h hc hm hp => ?_, fun h => ?_⟩⟩
  · exact gives_request (exec_identify s) h rfl
  · exact gives_request (exec_daymark s) h rfl
  · exact gives_request (exec_sdp s) h (if_neg (Nat.not_lt.2 hd))
  · exact gives_request (exec_enroll s) h (by simp [hi, hv, hk, status_ok, State.clientKey])
  · exact gives_request (exec_subscribe s) h rfl
  · exact gives_request (exec_takeControl s) h (by simp [hc, hm, hp])
  · exact gives_request (exec_takeControl s) h (by simp [hc, hm])
  · exact gives_request (exec_takeControl s) h (by simp [hc, hm, hp])
  · exact gives_request (exec_dropControl s) h rfl

/-! ## Requests to the store -/

theorem openTransfer_of_owner {s : State} {x : Session} {tr : Transfer} (h : s.kmp.transfer = some tr) (hx : tr.session = x.num) :
    s.openTransfer x = some tr := by
  simp [State.openTransfer, h, hx]

/-- Without bytes kept, the buffer of a group is empty before its last bytes too. -/
theorem groupBuf_none_eq {s : State} (h : s.kmp.groupBuf = none) : ({ s with kmp := { s.kmp with groupBuf := none } } : State) = s := by
  rw [← h]

/-- Settles O24: each request's operation, along the branch its clause names. -/
theorem storeRequestsAct : Obligations.StoreRequestsAct := by
  unfold Obligations.StoreRequestsAct
  refine fun s u r x => ⟨fun h hb ho hl => ?_, fun h hb ho hl => ?_, fun h hc hd hg => ?_, fun h hm ht hd h0 hs => ?_,
    fun tr h hm ht hx ho hl => ?_, fun tr h hm ht hx ho => ?_, fun tr h hm ht hx hl => ⟨fun hk => ?_, fun hk h4 => ?_⟩⟩
  · have hle : ¬ beAt r.args 4 4 < (r.args.drop 8).length := by omega
    exact gives_request (exec_group s) h (by simp only [hb, ho, hl, hle, List.nil_append]; simp)
  · have hle : ¬ beAt r.args 4 4 < (r.args.drop 8).length := by omega
    have hlt : ¬ (r.args.drop 8).length < beAt r.args 4 4 := by omega
    refine gives_request (exec_group s) h ?_
    simp only [hb, ho, hle, hlt, List.nil_append]
    simp [groupBuf_none_eq hb]
  · exact gives_request (exec_compact s) h (by simp [hc, hd, hg])
  · exact gives_request (exec_imageOpen s) h (by simp [hm, ht, hd, h0.ne', Nat.not_lt.2 hs])
  · exact gives_request (exec_imageData s) h (by
      simp only [openTransfer_of_owner ht hx, hm, ho, Nat.not_lt.2 hl, ne_eq, not_true_eq_false, if_false, status_ok])
  · exact gives_request (exec_imageData s) h (by simp [openTransfer_of_owner ht hx, hm, ho])
  · exact gives_request (exec_imageCommit s) h (by simp [openTransfer_of_owner ht hx, hm, Nat.not_lt.2 hl, hk, status_ok])
  · exact gives_request (exec_imageCommit s) h (by simp [openTransfer_of_owner ht hx, hm, Nat.not_lt.2 hl, hk, h4, status_ok])

/-! ## Mode requests -/

/-- The arguments of a mode request name it. -/
def modeReq (r : KmpReq) (req : Nat) : KmpReq := { r with args := [BitVec.ofNat 8 req, 0, 0, 0] }

theorem modeOp_allowed {s u : State} {r : KmpReq} {x : Session} {req : Nat} (h : s.Accepts 0x40 (modeReq r req) x u)
    (hm : reqModes req u.node.mode = true) (hr : req ≠ 15) : s.modeOp req (.kmp r) =
      let v := u.modeRequest req
      let st := v.get F.GLB_MODE_REQ_STATUS
      v.reply x.num 0x40 r.reqId (if st = 3 then 0xA else 0) (if st = 3 then [] else [BitVec.ofNat 8 st, 0, 0, 0]) := by
  refine (request_of_accepts h _).trans ?_
  by_cases hst : (u.modeRequest req).get F.GLB_MODE_REQ_STATUS = 3
  · simp [hm, hr, hst, State.status]
  · simp [hm, hr, hst, State.status]

theorem modeOp_refused {s u : State} {r : KmpReq} {x : Session} {req : Nat} (h : s.Accepts 0x40 (modeReq r req) x u)
    (hm : reqModes req u.node.mode = false) :
    s.modeOp req (.kmp r) = (u.put F.GLB_MODE_REQ_STATUS 3).reply x.num 0x40 r.reqId 8 [] := by
  refine (request_of_accepts h _).trans ?_
  simp [hm]

/-- RESET is answered before the full START. -/
theorem modeOp_reset {s u : State} {r : KmpReq} {x : Session} (h : s.Accepts 0x40 (modeReq r 15) x u) :
    s.modeOp 15 (.kmp r) = (u.reply x.num 0x40 r.reqId 0 [2, 0, 0, 0]).fullStart .kmpReset := by
  refine (request_of_accepts h _).trans ?_
  simp [reqModes, status_ok, State.modeRequest]

/-- The commands of the mode requests are `modeOp` of their code. -/
theorem exec_modeOp {i : Via → Instr} {req : Nat}
    (h : (i, req) ∈ [(Instr.hold, 5), (Instr.service, 6), (Instr.release, 8), (Instr.exitService, 9), (Instr.swap, 10)])
    (v : Via) (s : State) : exec (i v) s = runs s (fun s => s.modeOp req v) ∧ req ≠ 15 := by
  simp only [List.mem_cons, Prod.mk.injEq, List.not_mem_nil, or_false] at h
  obtain ⟨rfl, rfl⟩ | ⟨rfl, rfl⟩ | ⟨rfl, rfl⟩ | ⟨rfl, rfl⟩ | ⟨rfl, rfl⟩ := h
  · exact ⟨exec_hold s, by decide⟩
  · exact ⟨exec_service s, by decide⟩
  · exact ⟨exec_release s, by decide⟩
  · exact ⟨exec_exitService s, by decide⟩
  · exact ⟨exec_swap s, by decide⟩

/-- Settles O25: an allowed request is acted on and then answered, RESET before it acts. -/
theorem modeRequestsAct : Obligations.ModeRequestsAct := by
  unfold Obligations.ModeRequestsAct
  refine fun s u r x i req => ⟨fun hi h hm => ?_, fun hi h hm => ?_, fun h => ?_⟩
  · obtain ⟨he, hr⟩ := exec_modeOp hi (.kmp r) s
    exact gives_runs he h.1 (modeOp_allowed h hm hr)
  · obtain ⟨he, -⟩ := exec_modeOp hi (.kmp r) s
    exact gives_runs he h.1 (modeOp_refused h hm)
  · exact gives_runs (exec_reset s) h.1 (modeOp_reset h)

/-! ## Requests to the blocks -/

/-- Settles O26: each request's operation, along the branch its clause names. -/
theorem blockRequestsAct : Obligations.BlockRequestsAct := by
  unfold Obligations.BlockRequestsAct
  refine ⟨fun s u r x => ⟨fun h => ?_, fun h hn hst => ?_, fun h hm hp => ?_, fun h hl ho => ?_, fun h => ?_, fun h hm hb => ?_,
    fun h hc hs => ?_⟩, fun s u r x => ⟨fun p h hp => ⟨fun hy => ?_, fun hn => ?_⟩, fun t h hm ht => ?_, fun h => ?_, fun h hl hst => ?_⟩⟩
  · exact gives_request (exec_restep s) h (status_nil _ _ _ _ _)
  · exact gives_request (exec_realign s) h (by simp [hn, hst, status_ok])
  · exact gives_request (exec_resync s) h (by simp [hm, hp])
  · exact gives_request (exec_replace s) h (by simp [Nat.not_le.2 hl, ho])
  · exact gives_request (exec_wake s) h rfl
  · exact gives_request (exec_diag s) h (by simp [Nat.not_lt.2 hm, hb])
  · exact gives_request (exec_retest s) h (by simp only [Nat.not_le.2 hc]; rcases hs with hs | hs <;> simp [hs])
  · exact gives_request (exec_proposalAnswer s) h (by simp [hp, hy])
  · exact gives_request (exec_proposalAnswer s) h (by simp [hp, hn])
  · exact gives_request (exec_cbusSend s) h (by simp [Nat.not_le.2 hm, ht])
  · intro cmd hw hr hb hon
    have hsize : ¬ (decide (64 < fieldOf cmd 15 7) || decide (64 < fieldOf cmd 8 7)) = true := by simp [hw, hr]
    exact gives_request (exec_tw0Xfer s) h ((if_neg hsize).trans
      ((if_neg (not_not.2 hb)).trans (if_neg (by simp [hon]))))
  · exact gives_request (exec_debugLevel s) h (by simp [Nat.not_lt.2 hl, hst, status_ok])

end Sys2Proof.Machine
end

section
/-! Sessions (R80 to R83, R485, R490, R494): how a message changes its session, how a session opens, and how its time-outs end. -/

namespace Sys2Proof.Machine

/-! ## One session among the others -/

theorem session_pending (s : State) (q : List Instr) (n : Nat) : ({ s with pending := q } : State).session n = s.session n := rfl

/-- A change that keeps session numbers shows in its session. -/
theorem session_mapSession_same (s : State) (n : Nat) (f : Session → Session) (hf : ∀ x, (f x).num = x.num) :
    (s.mapSession n f).session n = (s.session n).map f := by
  unfold State.session State.mapSession
  generalize s.kmp.sessions = l
  induction l with
  | nil => rfl
  | cons x l ih =>
    simp only [List.map_cons, List.find?_cons] at ih ⊢
    by_cases hx : x.num = n
    · simp [hx, hf]
    · rw [if_neg hx, beq_false_of_ne hx]
      exact ih

/-- After a change of session `n` that drops notification `seq`, no notification `seq` waits in it. -/
theorem unacked_mapSession {s : State} {n seq : Nat} {f : Session → Session} (hf : ∀ x, (f x).num = x.num)
    (hu : ∀ x, ∀ a ∈ (f x).unacked, a.seq ≠ seq) {y : Session} (hy : (s.mapSession n f).session n = some y) :
    ∀ a ∈ y.unacked, a.seq ≠ seq := by
  rw [session_mapSession_same s n f hf, Option.map_eq_some_iff] at hy
  obtain ⟨x, -, rfl⟩ := hy
  exact hu x

/-- A message sent on an open session takes its next SEQ, and goes out but in P4 (R466). -/
theorem sendKmp_of_session {s : State} {n : Nat} {x : Session} (h : s.session n = some x) (type : Nat) (body : List Byte) :
    s.sendKmp n type body =
      let t := s.mapSession n (fun y => { y with txSeq := x.txSeq + 1 })
      if s.get F.PWR_STAT_STATE = 4 then t
      else t.emit (.kmp n type (x.txSeq + 1) body (if x.auth then kmpTag x.key n type (x.txSeq + 1) body else [])) := by
  unfold State.sendKmp
  rw [h]
  rfl

theorem sendKmp_sessions {s : State} {n : Nat} {x : Session} (h : s.session n = some x) (type : Nat) (body : List Byte) :
    (s.sendKmp n type body).kmp.sessions =
      s.kmp.sessions.map (fun y => if y.num = n then { y with txSeq := x.txSeq + 1 } else y) := by
  rw [sendKmp_of_session h]
  dsimp only
  split <;> rfl

theorem sendKmp_out {s : State} {n : Nat} {x : Session} (h : s.session n = some x) (h4 : s.get F.PWR_STAT_STATE ≠ 4)
    (type : Nat) (body : List Byte) : (s.sendKmp n type body).out =
      s.out ++ [.kmp n type (x.txSeq + 1) body (if x.auth then kmpTag x.key n type (x.txSeq + 1) body else [])] := by
  rw [sendKmp_of_session h]
  dsimp only
  rw [if_neg h4]
  rfl

/-! ## Opening (R490) -/

/-- The free session number lies in 1 to 8 and is no session's. -/
theorem freeSession_free {s : State} {n : Nat} (h : s.freeSession = some n) :
    1 ≤ n ∧ n ≤ 8 ∧ ∀ x ∈ s.kmp.sessions, x.num ≠ n := by
  unfold State.freeSession at h
  have hmem := List.mem_of_find?_eq_some h
  have hfree := List.find?_some h
  simp only [List.mem_map, List.mem_range] at hmem
  obtain ⟨k, hk, rfl⟩ := hmem
  exact ⟨by omega, by omega, by simpa using hfree⟩

theorem session_of_free {s : State} {n : Nat} (h : ∀ x ∈ s.kmp.sessions, x.num ≠ n) : s.session n = none :=
  List.find?_eq_none.2 (by simpa using h)

/-- A session joins the open ones. -/
def State.addSession (s : State) (x : Session) : State := { s with kmp := { s.kmp with sessions := s.kmp.sessions ++ [x] } }

theorem session_addSession {s : State} {x : Session} (h : ∀ y ∈ s.kmp.sessions, y.num ≠ x.num) :
    (s.addSession x).session x.num = some x := by
  have hnone : s.kmp.sessions.find? (fun y => y.num == x.num) = none := session_of_free h
  simp [State.session, State.addSession, List.find?_append, hnone]

/-- The first message of a new session counts in that session alone. -/
theorem addSession_sendKmp_sessions {s : State} {x : Session} (h : ∀ y ∈ s.kmp.sessions, y.num ≠ x.num) (type : Nat)
    (body : List Byte) : ((s.addSession x).sendKmp x.num type body).kmp.sessions =
      s.kmp.sessions ++ [{ x with txSeq := x.txSeq + 1 }] := by
  rw [sendKmp_sessions (session_addSession h)]
  have hold : s.kmp.sessions.map (fun y => if y.num = x.num then { y with txSeq := x.txSeq + 1 } else y) = s.kmp.sessions :=
    (List.map_congr_left (fun y hy => if_neg (h y hy))).trans (List.map_id' _)
  simp [State.addSession, hold]

/-- A SESSION_OPEN that nothing refuses adds a fresh session and answers SESSION_OK. -/
theorem effSessionOpen_eq {s : State} {client nonce : List Byte} {auth : Bool} {n : Nat} (hup : s.kmpUp = true)
    (hr : s.openRefusal client auth = 0) (hn : s.freeSession = some n) :
    ∃ x : Session, (x.num = n ∧ x.client = client ∧ x.auth = auth ∧ x.rxSeq = 0 ∧ x.txSeq = 0 ∧ x.mask = BitVec.allOnes 64 ∧
        x.alive = false) ∧
      effSessionOpen client nonce auth s = (s.nextFree.addSession x).sendKmp x.num 0x02
        ([BitVec.ofNat 8 n, BitVec.ofNat 8 s.lifecycle, 0, 0] ++ s.randomBytes 16 ++ beBytes 8 s.fuses.deviceId) := by
  unfold effSessionOpen
  simp only [hup, hr, hn]
  exact ⟨⟨n, client, auth, _, _, 0, 0, BitVec.allOnes 64, [], [], false⟩, ⟨rfl, rfl, rfl, rfl, rfl, rfl, rfl⟩, rfl⟩

/-! ## What an acknowledgement and a resend do (R494) -/

theorem effNotifyAck_of_accept {s u : State} {h : KmpHead} {seq : Nat} {x : Session} (hx : s.accept h 0x21 (beBytes 8 seq) = (u, some x)) :
    effNotifyAck h seq s =
      u.mapSession x.num (fun y => { y with unacked := y.unacked.filter (fun (u : Unacked) => u.seq != seq) }) := by
  simp only [effNotifyAck, hx]

/-- The notifications of a session after a resend of `seq`: the tenth resend drops it. -/
def resent (seq : Nat) (gone : Bool) (l : List Unacked) : List Unacked :=
  if gone then l.filter (fun (v : Unacked) => v.seq != seq)
  else l.map (fun (v : Unacked) => if v.seq = seq then { v with resends := v.resends + 1 } else v)

theorem effNotifyResend_eq {s : State} {n seq : Nat} {x : Session} {u : Unacked} (h4 : s.get F.PWR_STAT_STATE ≠ 4)
    (hx : s.session n = some x) (hu : x.unacked.find? (fun (v : Unacked) => v.seq == seq) = some u) :
    effNotifyResend n seq s =
      (s.emit (.kmp n 0x20 u.seq u.body (if x.auth then kmpTag x.key n 0x20 u.seq u.body else []))).mapSession n
        (fun y => { y with unacked := resent seq (decide (10 ≤ u.resends + 1)) y.unacked }) := by
  simp only [effNotifyResend, h4, if_false, hx, hu, resent]

theorem closeProposal_refused {s : State} (p : Proposal) {k : Nat} (hk : k ≠ 0) :
    s.closeProposal p k = (s.endProposal p k).latch 59 := if_neg hk

/-- Settles O21: a new session stands alone under its number; what ends acts on its own session, proposal or notification. -/
theorem sessionsOpenAndClose : Obligations.SessionsOpenAndClose := by
  unfold Obligations.SessionsOpenAndClose
  refine ⟨⟨fun s client nonce auth n ha hup hr hn => ?_, fun s u h x ha => ⟨fun hx => ?_, fun seq hx => ?_, fun reason hx => ?_⟩⟩,
    fun s ha => ⟨fun n x hx => ?_, fun n => ?_, fun id p hp => ?_, fun id hp => ?_, fun n seq x u hx hu => ⟨fun h4 => ?_, fun h4 => ?_⟩⟩⟩
  · obtain ⟨h1, h8, hfree⟩ := freeSession_free hn
    obtain ⟨x, ⟨rfl, hclient, hauth, hrx, htx, hmask, halive⟩, he⟩ := effSessionOpen_eq (nonce := nonce.toList) hup hr hn
    refine ⟨_, gives_runs (exec_sessionOpen s) ha he, ⟨h1, h8, session_of_free hfree⟩, ?_, fun h4 => ?_⟩
    · exact ⟨_, addSession_sendKmp_sessions (s := s.nextFree) hfree _ _, rfl, hclient, hauth, hrx, by rw [htx], hmask, halive⟩
    · have hout := sendKmp_out (session_addSession (s := s.nextFree) hfree) h4 0x02
        ([BitVec.ofNat 8 x.num, BitVec.ofNat 8 s.lifecycle, 0, 0] ++ s.randomBytes 16 ++ beBytes 8 s.fuses.deviceId)
      rw [htx] at hout
      exact ⟨_, hout⟩
  · exact gives_runs (exec_keepalive s) ha (by simp only [effKeepalive, hx])
  · refine ⟨_, gives_runs (exec_notifyAck s) ha (effNotifyAck_of_accept hx), fun y hy => ?_, rfl⟩
    rw [session_pending] at hy
    refine unacked_mapSession ?_ ?_ hy
    · exact fun _ => rfl
    · simp
  · exact gives_runs (exec_sessionClose s) ha (by simp only [effSessionClose, hx])
  · exact gives_runs (exec_sessionIdleTimeout s) ha (by simp [effSessionIdleTimeout, hx])
  · exact gives_runs (exec_clientTimeout s) ha rfl
  · exact gives_runs (exec_proposalTimeout s) ha (by simp only [effProposalTimeout, hp, closeProposal_refused p (show 2 ≠ 0 by decide)])
  · exact gives_runs (exec_proposalTimeout s) ha (by simp only [effProposalTimeout, hp])
  · exact gives_runs (exec_notifyResend s) ha (by simp only [effNotifyResend, h4, if_true])
  · refine ⟨_, gives_runs (exec_notifyResend s) ha (effNotifyResend_eq h4 hx hu), rfl, fun h9 y hy => ?_, rfl⟩
    rw [session_pending] at hy
    refine unacked_mapSession ?_ ?_ hy
    · exact fun _ => rfl
    · simp [resent, h9]

end Sys2Proof.Machine
end

section
/-! Changes of mode (R59 to R61): what `setMode` records and leaves, and what HOLD and RELEASE lead to. -/

namespace Sys2Proof.Machine

/-! ## Registers outside a list -/

namespace RegsBut

variable {l : List Nat} {s t u : State}

theorem refl (l : List Nat) (s : State) : RegsBut l s s := fun _ _ => rfl

theorem trans (h : RegsBut l s t) (k : RegsBut l t u) : RegsBut l s u := fun a ha => (k a ha).trans (h a ha)

theorem of_regs (h : t.regs = s.regs) : RegsBut l s t := fun a _ => rg_of_regs h a

theorem setRg (s : State) {a : Nat} (v : Nat) (h : a ∈ l) : RegsBut l s (s.setRg a v) :=
  fun _ hb => rg_setRg_ne s v (fun e => hb (e ▸ h))

theorem put (s : State) {f : Fld} (v : Nat) (h : f.addr ∈ l) : RegsBut l s (s.put f v) := setRg s _ h

theorem putBit (s : State) {f : Fld} (b : Bool) (h : f.addr ∈ l) : RegsBut l s (s.putBit f b) := put s _ h

theorem ite {c : Prop} [Decidable c] (ht : RegsBut l s t) (hu : RegsBut l s u) : RegsBut l s (if c then t else u) := by
  split
  · exact ht
  · exact hu

theorem get (h : RegsBut l s t) {f : Fld} (hf : f.addr ∉ l) : t.get f = s.get f := by
  rw [State.get, h _ hf, State.get]

end RegsBut

/-! ## What a change of role does (R306, R318, R324) -/

/-- Nothing differs but registers, the pair unit and what the engine sends. -/
def PairOnly (s t : State) : Prop :=
  t = { s with regs := t.regs, pair := t.pair, out := t.out, free := t.free, net := { s.net with outbox := t.net.outbox } }

namespace PairOnly

theorem refl (s : State) : PairOnly s s := rfl

theorem trans {s t u : State} (h : PairOnly s t) (k : PairOnly t u) : PairOnly s u := by
  unfold PairOnly at *
  rw [k, h]

theorem ite {c : Prop} [Decidable c] {s t u : State} (ht : PairOnly s t) (hu : PairOnly s u) : PairOnly s (if c then t else u) := by
  split
  · exact ht
  · exact hu

theorem node {s t : State} (h : PairOnly s t) : t.node = s.node := by rw [h]

theorem put (s : State) (f : Fld) (v : Nat) : PairOnly s (s.put f v) := rfl

theorem putBit (s : State) (f : Fld) (b : Bool) : PairOnly s (s.putBit f b) := rfl

theorem setPair (s : State) (p : Pair) : PairOnly s { s with pair := p } := rfl

theorem emitWc (s : State) (bytes : List Byte) : PairOnly s (s.emitWc bytes) := by
  unfold State.emitWc
  split
  · rfl
  · exact refl s

end PairOnly

theorem sendWc_pairOnly (s : State) (kind copyId unit fseq : Nat) (last : Bool) (entries : List (List Byte)) :
    PairOnly s (s.sendWc kind copyId unit fseq last entries) := .emitWc s _

theorem dropCopy_pairOnly (s : State) : PairOnly s s.dropCopy := by
  unfold State.dropCopy
  extract_lets s1 s2 s3 s4
  have h1 : PairOnly s s1 := by
    unfold s1
    split
    · exact sendWc_pairOnly _ _ _ _ _ _ _
    · exact .refl s
  have h2 : PairOnly s1 s2 := by
    unfold s2
    split
    · exact sendWc_pairOnly _ _ _ _ _ _ _
    · exact .refl s1
  have h3 : PairOnly s2 s3 := .ite (.put _ _ _) (.refl s2)
  have h4 : PairOnly s3 s4 := (PairOnly.put _ _ _).trans (.put _ _ _)
  exact (h1.trans h2).trans (h3.trans (h4.trans (.setPair _ _)))

theorem roleEntry_pairOnly (s : State) (old new : Mode) : PairOnly s (s.roleEntry old new) := by
  unfold State.roleEntry
  extract_lets s1
  have h1 : PairOnly s s1 := .ite (dropCopy_pairOnly s) (.refl s)
  refine h1.trans (.ite (.put _ _ _) (.ite ?_ (.refl s1)))
  exact (PairOnly.putBit s1 _ _).trans (.setPair _ _)

/-- The registers that a change of role may write. -/
def roleRegs : List Nat := [PAIR_STAT, PAIR_WC_STAT, PAIR_EPOCH]

theorem dropCopy_regsBut (s : State) : RegsBut roleRegs s s.dropCopy := by
  unfold State.dropCopy
  extract_lets s1 s2 s3 s4
  have h1 : s1.regs = s.regs := by unfold s1; split <;> simp
  have h2 : s2.regs = s1.regs := by unfold s2; split <;> simp
  have h3 : RegsBut roleRegs s2 s3 := .ite (.put _ _ (by decide)) (.refl _ _)
  have h4 : RegsBut roleRegs s3 s4 := (RegsBut.put _ _ (by decide)).trans (.put _ _ (by decide))
  exact (RegsBut.of_regs (h2.trans h1)).trans (h3.trans (h4.trans (.of_regs rfl)))

theorem roleEntry_regsBut (s : State) (old new : Mode) : RegsBut roleRegs s (s.roleEntry old new) := by
  unfold State.roleEntry
  extract_lets s1
  have h1 : RegsBut roleRegs s s1 := .ite (dropCopy_regsBut s) (.refl _ s)
  refine h1.trans (.ite (.put _ _ (by decide)) (.ite ?_ (.refl _ _)))
  exact (RegsBut.putBit s1 _ (by decide)).trans (.of_regs rfl)

/-! ## The record of a change (R59) -/

/-- The new and the previous mode stand in place of the old. -/
def State.enterMode (s : State) (m : Mode) : State :=
  let t := s.roleEntry s.node.mode m
  { t with node := { t.node with mode := m, prevMode := s.node.mode } }

/-- N of the change and its counts. -/
def State.recordMode (s : State) (m : Mode) : State :=
  let t := (s.put F.GLB_MODE_TIME_N_LAST s.node.n.toNat).bump F.GLB_TRANS_CNT_TRANS_CNT
  if m = .hold then t.bump F.GLB_TRANS_CNT_HOLD_CNT else t

/-- A change of mode enters it, records it and tells it (R59, R494). -/
theorem setMode_of_ne {s : State} {m : Mode} (h : s.node.mode ≠ m) : ∃ data, s.setMode m = ((s.enterMode m).recordMode m).notify 2 data := by
  unfold State.setMode
  rw [if_neg h]
  exact ⟨_, rfl⟩

theorem put_only (s : State) (f : Fld) (v : Nat) : s.put f v = { s with regs := (s.put f v).regs } := rfl

theorem bump_only (s : State) (f : Fld) : s.bump f = { s with regs := (s.bump f).regs } := rfl

theorem recordMode_only (s : State) (m : Mode) : s.recordMode m = { s with regs := (s.recordMode m).regs } := by
  unfold State.recordMode
  extract_lets t
  have ht : t = { s with regs := t.regs } := by unfold t; rw [bump_only, put_only]
  split
  · rw [bump_only, ht]
  · exact ht

theorem get_transCnt_recordMode (s : State) (m : Mode) : (s.recordMode m).get F.GLB_TRANS_CNT_TRANS_CNT =
    min (2 ^ (F.GLB_TRANS_CNT_TRANS_CNT).width - 1) (s.get F.GLB_TRANS_CNT_TRANS_CNT + 1) := by
  unfold State.recordMode
  extract_lets t
  have ht : t.get F.GLB_TRANS_CNT_TRANS_CNT =
      min (2 ^ (F.GLB_TRANS_CNT_TRANS_CNT).width - 1) (s.get F.GLB_TRANS_CNT_TRANS_CNT + 1) := by
    refine (get_bump_same _ _ 1 (by decide)).trans ?_
    rw [get_put_ne _ _ (by decide)]
  split
  · rw [State.bump, get_put_disjoint (f := F.GLB_TRANS_CNT_HOLD_CNT) (g := F.GLB_TRANS_CNT_TRANS_CNT) t _ (by decide) rfl (by decide)]
    exact ht
  · exact ht

theorem get_modeTime_recordMode (s : State) (m : Mode) :
    (s.recordMode m).get F.GLB_MODE_TIME_N_LAST = s.node.n.toNat % 2 ^ (F.GLB_MODE_TIME_N_LAST).width := by
  unfold State.recordMode
  extract_lets t
  have ht : t.get F.GLB_MODE_TIME_N_LAST = s.node.n.toNat % 2 ^ (F.GLB_MODE_TIME_N_LAST).width :=
    (get_put_ne _ _ (by decide)).trans (get_put_same _ _ (by decide))
  split
  · exact (get_put_ne t _ (by decide)).trans ht
  · exact ht

theorem enterMode_node (s : State) (m : Mode) : (s.enterMode m).node = { s.node with mode := m, prevMode := s.node.mode } := by
  unfold State.enterMode
  dsimp only
  rw [(roleEntry_pairOnly s s.node.mode m).node]

theorem enterMode_only (s : State) (m : Mode) : s.enterMode m = { s with
    node := (s.enterMode m).node, regs := (s.enterMode m).regs, pair := (s.enterMode m).pair, out := (s.enterMode m).out,
    free := (s.enterMode m).free, net := { s.net with outbox := (s.enterMode m).net.outbox } } := by
  have h := roleEntry_pairOnly s s.node.mode m
  unfold PairOnly at h
  unfold State.enterMode
  dsimp only
  rw [h]

theorem get_enterMode (s : State) (m : Mode) {f : Fld} (h : f.addr ∉ roleRegs) : (s.enterMode m).get f = s.get f :=
  (roleEntry_regsBut s s.node.mode m).get h

/-- What a change of mode leaves as it was. -/
theorem setMode_frame {s : State} {m : Mode} (h : s.node.mode ≠ m) : s.setMode m = { s with
    regs := (s.setMode m).regs, node := (s.setMode m).node, kmp := (s.setMode m).kmp, pair := (s.setMode m).pair,
    out := (s.setMode m).out, free := (s.setMode m).free, net := { s.net with outbox := (s.setMode m).net.outbox } } := by
  obtain ⟨data, he⟩ := setMode_of_ne h
  have hn : TalksOnly _ (((s.enterMode m).recordMode m).notify 2 data) := notify_talks _ _ _
  unfold TalksOnly at hn
  rw [he, hn, recordMode_only, enterMode_only]

theorem setMode_node {s : State} {m : Mode} (h : s.node.mode ≠ m) :
    (s.setMode m).node = { s.node with mode := m, prevMode := s.node.mode } := by
  obtain ⟨data, he⟩ := setMode_of_ne h
  rw [he, notify_talks, recordMode_only]
  exact enterMode_node s m

/-- Settles O31: the change is recorded after the role's registers, which are others, and told with no register written. -/
theorem modeChangesAreRecorded : Obligations.ModeChangesAreRecorded := by
  unfold Obligations.ModeChangesAreRecorded
  refine fun s m => ⟨setMode_same, fun h => ?_⟩
  intro t
  obtain ⟨data, he⟩ := setMode_of_ne h
  have hregs : t.regs = ((s.enterMode m).recordMode m).regs := (congrArg State.regs he).trans (notify_regs _ _ _)
  refine ⟨setMode_node h, ?_, ?_, setMode_frame h⟩
  · rw [get_of_regs hregs, get_transCnt_recordMode, get_enterMode _ _ (by decide)]
  · rw [get_of_regs hregs, get_modeTime_recordMode, enterMode_node]

/-! ## HOLD and RELEASE (R57, R60, R61, R84) -/

@[simp] theorem setMode_mode (s : State) (m : Mode) : (s.setMode m).node.mode = m := by
  by_cases h : s.node.mode = m
  · rw [setMode_same h, h]
  · rw [setMode_node h]

@[simp] theorem enterHold_mode (s : State) (src : Option Nat) : (s.enterHold src).node.mode = .hold := by
  unfold State.enterHold
  split
  · assumption
  · exact setMode_mode _ _

@[simp] theorem serviceMute_node (s : State) : s.serviceMute.node = s.node := by
  unfold State.serviceMute
  split <;> rfl

theorem get_reqStatus (s : State) {v : Nat} (h : v < 2 ^ (F.GLB_MODE_REQ_STATUS).width) :
    (s.reqStatus v).get F.GLB_MODE_REQ_STATUS = v :=
  (get_put_same _ _ (by decide)).trans (Nat.mod_eq_of_lt h)

@[simp] theorem reqStatus_node (s : State) (v : Nat) : (s.reqStatus v).node = s.node := by
  rw [State.reqStatus, State.put_node]

@[simp] theorem reqStatus_flt (s : State) (v : Nat) : (s.reqStatus v).flt = s.flt := by
  rw [State.reqStatus, State.put_flt]

@[simp] theorem reqStatus_sec (s : State) (v : Nat) : (s.reqStatus v).sec = s.sec := by
  rw [State.reqStatus, State.put_sec]

theorem requestHold_allowed {s : State} (h : s.node.mode ∈ [Mode.beacon, .lead, .shadow, .service, .dormant]) :
    s.requestHold = (s.enterHold none).reqStatus 2 := by
  unfold State.requestHold
  simp only [List.mem_cons, List.not_mem_nil, or_false] at h
  obtain h | h | h | h | h := h <;> rw [h]

theorem requestHold_refused {s : State} (h : s.node.mode ∈ [Mode.start, .replay, .hold]) : s.requestHold = s.reqStatus 3 := by
  unfold State.requestHold
  simp only [List.mem_cons, List.not_mem_nil, or_false] at h
  obtain h | h | h := h <;> rw [h]

@[simp] theorem modeRequest_hold (s : State) : s.modeRequest 5 = s.requestHold := by simp only [State.modeRequest]

@[simp] theorem modeRequest_release (s : State) : s.modeRequest 8 = s.requestRelease := by simp only [State.modeRequest]

@[simp] theorem modeRequest_exit (s : State) : s.modeRequest 9 = s.requestExit := by simp only [State.modeRequest]

/-- The RELEASE of an engine in HOLD, as it is taken in. -/
def State.askRelease (s : State) : State := ({ s with node := { s.node with released := true } } : State).reqStatus 1

@[simp] theorem askRelease_node (s : State) : s.askRelease.node = { s.node with released := true } := by
  rw [State.askRelease, reqStatus_node]

/-- An engine in HOLD that has taken in RELEASE waits for the NODE_HOLD bits and the unlock alone. -/
theorem askRelease_ready {s : State} (h : s.node.mode = .hold) :
    s.askRelease.releaseReady = (decide (s.flt.hold = 0) && !s.sec.unlocked) := by
  rw [State.releaseReady, askRelease_node, State.askRelease, reqStatus_flt, reqStatus_sec]
  simp [h]

theorem requestRelease_of_hold {s : State} (h : s.node.mode = .hold) : s.requestRelease = s.askRelease.tryRelease := by
  simp [State.requestRelease, h, State.askRelease]

theorem requestRelease_refused {s : State} (h : s.node.mode ≠ .hold) : s.requestRelease = s.reqStatus 3 := by
  simp [State.requestRelease, h]

theorem requestExit_refused {s : State} (h : s.node.mode ≠ .service) : s.requestExit = s.reqStatus 3 := by
  simp [State.requestExit, h]

theorem paired_askRelease (s : State) : s.askRelease.paired = s.paired := by
  have h : s.askRelease.get F.PAIR_CFG_EN = s.get F.PAIR_CFG_EN :=
    get_put_ne ({ s with node := { s.node with released := true } } : State) 1 (by decide)
  rw [State.paired, State.bit, h, State.paired, State.bit]

/-- Where HOLD releases to (Table 2.2). -/
def State.releaseMode (s : State) : Mode := s.node.releaseTo.getD (if s.paired then .shadow else .lead)

/-- What Table 2.2 lets out of HOLD leaves it for the mode it names. -/
theorem tryRelease_mode {s : State} (h : s.releaseReady = true) : s.tryRelease.node.mode = s.releaseMode := by
  unfold State.tryRelease
  simp only [h, Bool.not_true, Bool.false_eq_true, if_false, serviceMute_node, setMode_mode, State.releaseMode]
  cases s.node.releaseTo <;> rfl

theorem tryRelease_of_not_ready {s : State} (h : s.releaseReady = false) : s.tryRelease = s := by
  simp [State.tryRelease, h]

/-- Settles O32: HOLD and RELEASE end in `setMode`, or in the refusal of the request. -/
theorem holdAndReleaseChangeMode : Obligations.HoldAndReleaseChangeMode := by
  unfold Obligations.HoldAndReleaseChangeMode
  intro s
  simp only [modeRequest_hold, modeRequest_release, modeRequest_exit]
  refine ⟨fun h => ?_, requestHold_refused, fun hm hf hu m _ hd => ?_, fun hm hf => ?_, requestRelease_refused, fun hm => ?_⟩
  · rw [requestHold_allowed h, reqStatus_node]
    exact ⟨enterHold_mode s none, get_reqStatus _ (by decide)⟩
  · have hready : s.askRelease.releaseReady = true := by rw [askRelease_ready hm, hf, hu]; rfl
    rw [requestRelease_of_hold hm, tryRelease_mode hready, State.releaseMode, paired_askRelease, askRelease_node]
    exact hd
  · have hheld : s.askRelease.releaseReady = false := by rw [askRelease_ready hm, decide_eq_false hf, Bool.false_and]
    rw [requestRelease_of_hold hm, tryRelease_of_not_ready hheld, askRelease_node]
    exact ⟨hm, rfl⟩
  · exact requestExit_refused hm

end Sys2Proof.Machine
end

section
/-! The pins and the supplies that stop or start the engine (R64, R67, R115, R515, R516). -/

namespace Sys2Proof.Machine

/-! ## A write that is cut short changes the store alone -/

theorem progStore_only (s : State) (nor : Bool) (a : Nat) (bs : List Byte) :
    s.progStore nor a bs = { s with store := (s.progStore nor a bs).store } := by
  induction bs generalizing s a with
  | nil => rfl
  | cons b bs ih =>
    rw [State.progStore]
    exact ih _ _

theorem progSome_only (s : State) (nor : Bool) (n : Nat) (ws : List (Nat × List Byte)) :
    s.progSome nor n ws = { s with store := (s.progSome nor n ws).store } := by
  induction ws generalizing s n with
  | nil => rfl
  | cons w ws ih =>
    rw [State.progSome]
    split
    · rw [ih, progStore_only]
    · exact progStore_only _ _ _ _

theorem storeCut_only (s : State) (group image : Nat) :
    s.storeCut group image = { s with store := (s.storeCut group image).store } := by
  unfold State.storeCut
  extract_lets t
  have ht : t = { s with store := t.store } := by
    unfold t
    split
    · exact progSome_only _ _ _ _
    · rfl
  split
  · dsimp only
    rw [progSome_only, ht]
  · exact ht

/-! ## Gates at rest -/

/-- Nothing differs but the amplifier and what the engine drives. -/
def AmpOutOnly (s t : State) : Prop := t = { s with amp := t.amp, out := t.out }

theorem gatesStop_ampOutOnly (s : State) : AmpOutOnly s s.gatesStop := by
  have h : ∀ (l : List (Nat × AmpCh)) (u : State), AmpOutOnly u (l.foldl (fun s e =>
      let c := s.ch e.1
      if c.plan.isEmpty && c.idle then s
      else (s.setCh e.1 { c with plan := [], halfA := ⟨none, 0⟩, halfB := ⟨none, 0⟩, idle := true }).emit (.gatesLow e.1)) u) := by
    intro l
    induction l with
    | nil => exact fun u => rfl
    | cons e l ih =>
      intro u
      rw [List.foldl_cons]
      refine (ih _).trans ?_
      dsimp only
      split <;> rfl
  exact h _ s

/-- The state in which an engine without power or in reset stands, before its outputs and SEC_ZEROIZE are set. -/
def State.stopped (s : State) (powered : Bool) : State :=
  { State.reset with
    store := s.store, fuses := s.fuses, free := s.free, out := s.out, pending := s.pending
    node := { Node.reset with
      powered := powered, inReset := powered, uptime := s.node.uptime, strapPins := s.node.strapPins, grade := s.node.grade }
    sec := { Sec.reset with erasing := powered && s.sec.erasing }
    st := { StoreSt.reset with density := s.st.density } }

/-- Nothing differs but what the engine drives. -/
def OutOnly (s t : State) : Prop := t = { s with out := t.out }

theorem OutOnly.trans {s t u : State} (h : OutOnly s t) (k : OutOnly t u) : OutOnly s u := by
  unfold OutOnly at *
  rw [k, h]

theorem OutOnly.emit_ite (s : State) (o : Output) (c : Prop) [Decidable c] : OutOnly s (if c then s.emit o else s) := by
  split <;> rfl

theorem stopSelector_outOnly (s old : State) : OutOnly s (s.stopSelector old) := by
  unfold State.stopSelector
  split <;> rfl

/-- A stopped engine's outputs: ERR_N released, no reference shown, no sensor clock. -/
def State.stoppedOut (s : State) (powered : Bool) : State :=
  let t := s.stopped powered
  let t := (if s.errLow then t.emit (.errN false) else t).stopSelector s
  if s.bit F.CLK_STAT_ROOT_LOCK then t.emit (.snsClk false) else t

theorem stoppedOut_outOnly (s : State) (powered : Bool) : OutOnly (s.stopped powered) (s.stoppedOut powered) :=
  ((OutOnly.emit_ite (s.stopped powered) _ _).trans (stopSelector_outOnly _ s)).trans (.emit_ite _ _ _)

theorem stopAll_eq (s : State) (group image : Nat) (powered : Bool) :
    s.stopAll group image powered = ((s.storeCut group image).gatesStop.stoppedOut powered).setRg SEC_ZEROIZE
      (if powered then (s.storeCut group image).gatesStop.rg SEC_ZEROIZE else 0) := rfl

theorem cutGates_regs (s : State) (group image : Nat) : (s.storeCut group image).gatesStop.regs = s.regs := by
  have h : AmpOutOnly _ (s.storeCut group image).gatesStop := gatesStop_ampOutOnly _
  rw [h, storeCut_only]

theorem cutGates_fuses (s : State) (group image : Nat) : (s.storeCut group image).gatesStop.fuses = s.fuses := by
  have h : AmpOutOnly _ (s.storeCut group image).gatesStop := gatesStop_ampOutOnly _
  rw [h, storeCut_only]

theorem cutGates_sec (s : State) (group image : Nat) : (s.storeCut group image).gatesStop.sec = s.sec := by
  have h : AmpOutOnly _ (s.storeCut group image).gatesStop := gatesStop_ampOutOnly _
  rw [h, storeCut_only]

/-- What a stopped engine answers. -/
theorem stopAll_spec (s : State) (group image : Nat) (powered : Bool) {t : State} (ht : t = s.stopAll group image powered) :
    t.node.powered = powered ∧ t.node.inReset = powered ∧ t.node.mode = .start ∧ t.fuses = s.fuses ∧
    t.audio = State.reset.audio ∧ t.kmp = State.reset.kmp ∧ t.mem = [] ∧ t.sec.erasing = (powered && s.sec.erasing) ∧
    (∀ a, a ≠ SEC_ZEROIZE → t.rg a = (resetValue a).toNat) ∧
    t.rg SEC_ZEROIZE = if powered then s.rg SEC_ZEROIZE else 0 := by
  have hv : OutOnly _ ((s.storeCut group image).gatesStop.stoppedOut powered) := stoppedOut_outOnly _ powered
  rw [stopAll_eq, rg_of_regs (cutGates_regs s group image)] at ht
  generalize (s.storeCut group image).gatesStop.stoppedOut powered = v at hv ht
  subst ht
  have hregs : v.regs = [] := by rw [hv]; rfl
  refine ⟨?_, ?_, ?_, ?_, ?_, ?_, ?_, ?_, fun a ha => ?_, ?_⟩
  · rw [State.setRg_node, hv]; rfl
  · rw [State.setRg_node, hv]; rfl
  · rw [State.setRg_node, hv]; rfl
  · rw [State.setRg_fuses, hv]; exact cutGates_fuses s group image
  · rw [State.setRg_audio, hv]; rfl
  · rw [State.setRg_kmp, hv]; rfl
  · rw [State.setRg_mem, hv]; rfl
  · rw [State.setRg_sec, hv, ← cutGates_sec s group image]; rfl
  · rw [rg_setRg_ne v _ ha, State.rg, hregs, cget]
  · rw [rg_setRg_same]
    split
    · exact Nat.mod_eq_of_lt (rg_lt s _)
    · rfl

/-- Settles O29: the rising pin and the supplies begin a full START, the falling ones lead to `stopAll`. -/
theorem powerAndResetPins : Obligations.PowerAndResetPins := by
  unfold Obligations.PowerAndResetPins
  refine ⟨fun s st d => ⟨fun h => ?_, fun hp hr => ?_⟩, fun s g im hp hr => ?_, fun s g im hp => ?_⟩
  · refine gives_always (exec_powerOn s) ?_
    simp only [effPowerOn, h, Bool.false_eq_true, if_false, Nat.mod_eq_of_lt d.isLt]
  · have hrun : (!s.node.powered || !s.node.inReset) = false := by rw [hp, hr]; rfl
    refine gives_always (exec_resetNRise s) ?_
    simp only [effResetNRise, hrun, Bool.false_eq_true, if_false, Nat.mod_eq_of_lt d.isLt]
  · have he : effResetNLow g im s = s.stopAll g im true := by simp [effResetNLow, hp, hr]
    obtain ⟨hpow, hres, hmode, hfuses, haudio, hkmp, hmem, hsec, hregs, hkeep⟩ := stopAll_spec s g im true he
    refine ⟨_, exec_resetNLow s, ?_, hpow, hres, hmode, hfuses, haudio, hkmp, hmem, hsec, hregs, hkeep⟩
    simp [State.alive, hres]
  · have he : effPowerLoss g im s = s.stopAll g im false := by simp [effPowerLoss, hp]
    obtain ⟨hpow, -, hmode, hfuses, haudio, hkmp, hmem, hsec, hregs, hkeep⟩ := stopAll_spec s g im false he
    refine ⟨_, exec_powerLoss s, ?_, hpow, hmode, hfuses, haudio, hkmp, hmem, hsec, hregs, hkeep⟩
    simp [State.alive, hpow]

end Sys2Proof.Machine
end

section
/-! The step of the counter, re-alignments of the references and the loss of ROOT's lock (R70, R273, R274, R298, R447). -/

namespace Sys2Proof.Machine

/-! ## What a re-alignment's last acts leave as they were -/

/-- The ticks, the selector, the mutes and the registers that show a re-alignment stand as they were. -/
structure KeepsRealign (s t : State) : Prop where
  node : t.node = s.node
  sel : t.tu.sel = s.tu.sel
  audio : t.audio = s.audio
  bias : ∀ r < 6, t.rg (REF_BIAS r) = s.rg (REF_BIAS r)
  status : t.get F.CLK_REALIGN_STATUS = s.get F.CLK_REALIGN_STATUS
  busy : t.bit F.CLK_STAT_REALIGN_BUSY = s.bit F.CLK_STAT_REALIGN_BUSY

namespace KeepsRealign

variable {s t u : State}

theorem refl (s : State) : KeepsRealign s s := ⟨rfl, rfl, rfl, fun _ _ => rfl, rfl, rfl⟩

theorem trans (h : KeepsRealign s t) (k : KeepsRealign t u) : KeepsRealign s u :=
  ⟨k.node.trans h.node, k.sel.trans h.sel, k.audio.trans h.audio, fun r hr => (k.bias r hr).trans (h.bias r hr),
    k.status.trans h.status, k.busy.trans h.busy⟩

theorem ite {c : Prop} [Decidable c] (ht : KeepsRealign s t) (hu : KeepsRealign s u) : KeepsRealign s (if c then t else u) := by
  split
  · exact ht
  · exact hu

theorem of_regs (hn : t.node = s.node) (hs : t.tu.sel = s.tu.sel) (ha : t.audio = s.audio) (h : t.regs = s.regs) : KeepsRealign s t :=
  ⟨hn, hs, ha, fun _ _ => rg_of_regs h _, get_of_regs h _, by rw [State.bit, get_of_regs h, State.bit]⟩

theorem emit (s : State) (o : Output) : KeepsRealign s (s.emit o) := of_regs rfl rfl rfl rfl

/-- A field of a register that shows nothing of a re-alignment is set. -/
theorem put (s : State) {f : Fld} (v : Nat) (hb : ∀ r < 6, REF_BIAS r ≠ f.addr) (hr : CLK_REALIGN ≠ f.addr) (hc : CLK_STAT ≠ f.addr) :
    KeepsRealign s (s.put f v) :=
  ⟨rfl, rfl, rfl, fun r h => rg_put_ne s v (hb r h), get_put_ne s v hr, by rw [State.bit, get_put_ne s v hc, State.bit]⟩

theorem putBit (s : State) {f : Fld} (b : Bool) (hb : ∀ r < 6, REF_BIAS r ≠ f.addr) (hr : CLK_REALIGN ≠ f.addr)
    (hc : CLK_STAT ≠ f.addr) : KeepsRealign s (s.putBit f b) := put s _ hb hr hc

theorem foldl {α : Type} {f : State → α → State} (h : ∀ s a, KeepsRealign s (f s a)) (l : List α) (s : State) :
    KeepsRealign s (l.foldl f s) := by
  induction l generalizing s with
  | nil => exact refl s
  | cons a l ih => exact (h s a).trans (ih _)

/-- A role's registers and the pair unit are no part of a re-alignment. -/
theorem of_pairOnly (h : PairOnly s t) (k : RegsBut roleRegs s t) : KeepsRealign s t :=
  ⟨h.node, by rw [h], by rw [h], fun r hr => k _ ((by decide : ∀ r < 6, REF_BIAS r ∉ roleRegs) r hr), k.get (by decide), by
    rw [State.bit, k.get (by decide), State.bit]⟩

end KeepsRealign

/-- REALIGN_DUE lies beside REALIGN_BUSY in its register. -/
theorem putBit_realignDue_keeps (s : State) (b : Bool) : KeepsRealign s (s.putBit F.CLK_STAT_REALIGN_DUE b) :=
  ⟨rfl, rfl, rfl, fun r h => rg_put_ne s _ ((by decide : ∀ r < 6, REF_BIAS r ≠ CLK_STAT) r h),
    get_put_ne s _ (by decide), by
    rw [State.bit, State.putBit,
      get_put_disjoint (f := F.CLK_STAT_REALIGN_DUE) (g := F.CLK_STAT_REALIGN_BUSY) s _ (by decide) rfl (by decide), State.bit]⟩

theorem showSelector_keepsRealign (s : State) : KeepsRealign s s.showSelector := by
  unfold State.showSelector
  extract_lets old b s1 code s2 s3 s4
  have h1 : KeepsRealign s s1 := .ite (.put s _ (by decide) (by decide) (by decide)) (.refl s)
  have h2 : KeepsRealign s1 s2 := .put s1 _ (by decide) (by decide) (by decide)
  have h3 : KeepsRealign s2 s3 := .ite (.refl s2) (.emit s2 _)
  have h4 : KeepsRealign s3 s4 := .putBit s3 _ (by decide) (by decide) (by decide)
  exact ((h1.trans h2).trans (h3.trans h4)).trans (putBit_realignDue_keeps s4 _)

/-- A pulse's status register shows nothing of a re-alignment, whichever pulse it is. -/
theorem putBit_pulseStat_keeps (s : State) (i lo width : Nat) (b : Bool) : KeepsRealign s (s.putBit ⟨TMS_PULSE_STAT i, lo, width⟩ b) :=
  .putBit s b (fun r h => by dsimp only [REF_BIAS, TMS_PULSE_STAT]; omega) (by dsimp only [CLK_REALIGN, TMS_PULSE_STAT]; omega)
    (by dsimp only [CLK_STAT, TMS_PULSE_STAT]; omega)

theorem setPulses_keepsRealign (s : State) (p : Tbl PulseRun) : KeepsRealign s { s with tu := { s.tu with pulses := p } } :=
  .of_regs rfl rfl rfl rfl

theorem disarm_keepsRealign (s : State) (i : Nat) : KeepsRealign s (s.disarm i) :=
  (setPulses_keepsRealign s _).trans (putBit_pulseStat_keeps _ i _ _ false)

theorem arm_keepsRealign (s : State) (i : Nat) (p : PulseRun) : KeepsRealign s (s.arm i p) :=
  (setPulses_keepsRealign s _).trans (putBit_pulseStat_keeps _ i _ _ true)

theorem pulsesMoved_keepsRealign (s : State) (ticks : Bool) : KeepsRealign s (s.pulsesMoved ticks) := by
  unfold State.pulsesMoved
  refine .foldl (fun u e => ?_) s.tu.pulses s
  extract_lets a
  refine .ite (.refl u) (.ite (arm_keepsRealign u _ _) ?_)
  exact (putBit_pulseStat_keeps u e.1 _ _ true).trans (disarm_keepsRealign _ _)

theorem setPair_keepsRealign (s : State) (p : Pair) : KeepsRealign s { s with pair := p } := .of_regs rfl rfl rfl rfl

theorem restartCopy_keepsRealign (s : State) : KeepsRealign s s.restartCopy := by
  unfold State.restartCopy
  exact (KeepsRealign.of_pairOnly (dropCopy_pairOnly s) (dropCopy_regsBut s)).trans (setPair_keepsRealign _ _)

/-! ## The end of a re-alignment -/

/-- What a re-alignment that is done shows. -/
structure Realigned (r : Nat) (s : State) : Prop where
  bias : s.rg (REF_BIAS r) = 0
  sel : s.tu.sel.realign = none
  status : s.get F.CLK_REALIGN_STATUS = 2
  busy : s.bit F.CLK_STAT_REALIGN_BUSY = false

theorem Realigned.of_keeps {r : Nat} {s t : State} (hr : r < 6) (h : Realigned r s) (k : KeepsRealign s t) : Realigned r t :=
  ⟨(k.bias r hr).trans h.bias, by rw [k.sel, h.sel], k.status.trans h.status, k.busy.trans h.busy⟩

/-- A re-alignment that is done and shown, but not yet counted. -/
def State.realignShown (s : State) : State :=
  ((s.mapSel (fun c => { c with realign := none })).put F.CLK_REALIGN_STATUS 2).putBit F.CLK_STAT_REALIGN_BUSY false

theorem realignShown_frame (s : State) : s.realignShown.node = s.node ∧ s.realignShown.audio = s.audio ∧
    s.realignShown.tu.sel.realign = none ∧ RegsBut [CLK_REALIGN, CLK_STAT] s s.realignShown := by
  refine ⟨?_, ?_, ?_, ?_⟩
  · rw [State.realignShown, State.putBit_node, State.put_node, State.mapSel]
  · rw [State.realignShown, State.putBit_audio, State.put_audio, State.mapSel]
  · rw [State.realignShown, State.putBit_tu, State.put_tu, State.mapSel]
  · exact ((RegsBut.of_regs rfl).trans (.put _ _ (by decide))).trans (.putBit _ _ (by decide))

theorem realignShown_status (s : State) : s.realignShown.get F.CLK_REALIGN_STATUS = 2 := by
  rw [State.realignShown, State.putBit, get_put_ne _ _ (by decide), get_put_same _ _ (by decide)]
  decide

theorem realignShown_busy (s : State) : s.realignShown.bit F.CLK_STAT_REALIGN_BUSY = false :=
  bit_putBit_same _ _ (by decide) (by decide)

theorem realignDone_keeps (s : State) : KeepsRealign s.realignShown s.realignDone :=
  .put _ _ (by decide) (by decide) (by decide)

theorem realignDone_node (s : State) (r : Nat) : (s.put (F.REF_BIAS_BIAS r) 0).realignDone.node = s.node :=
  ((realignDone_keeps _).node.trans (realignShown_frame _).1).trans (State.put_node _ _ _)

theorem rg_put_bias (s : State) (r : Nat) : (s.put (F.REF_BIAS_BIAS r) 0).rg (REF_BIAS r) = 0 := by
  refine (rg_put_same s (f := F.REF_BIAS_BIAS r) 0 (Nat.le_refl 64)).trans ?_
  dsimp only [withField]
  rw [Nat.div_eq_of_lt (rg_lt s _)]
  simp [Nat.mod_one]

theorem realigned_realignDone (s : State) {r : Nat} (hr : r < 6) : Realigned r (s.put (F.REF_BIAS_BIAS r) 0).realignDone := by
  obtain ⟨-, -, hsel, hregs⟩ := realignShown_frame (s.put (F.REF_BIAS_BIAS r) 0)
  refine .of_keeps hr ⟨?_, hsel, realignShown_status _, realignShown_busy _⟩ (realignDone_keeps _)
  rw [hregs _ ((by decide : ∀ r < 6, REF_BIAS r ∉ [CLK_REALIGN, CLK_STAT]) r hr), rg_put_bias]

theorem realigned_unmuteAllOuts {r : Nat} {s : State} (m : MuteReason) (h : Realigned r s) : Realigned r (s.unmuteAllOuts m) :=
  ⟨h.bias, h.sel, h.status, h.busy⟩

/-- A ground taken away from a mute is none of its grounds. -/
theorem not_mem_remove (r : MuteReason) (len : Nat) (m : Mute) : r ∉ (m.remove r len).reasons := by
  unfold Mute.remove
  split
  case isTrue h => simpa using h
  · split
    · exact List.not_mem_nil
    · simp

theorem selRef_lt_of_realignOk {s : State} (h : s.realignOk = true) : s.selRef < 6 := by
  simp only [State.realignOk, Bool.and_eq_true, decide_eq_true_eq] at h
  omega

/-- REF0, REF1 and REF3 are re-aligned at once (R298). -/
theorem realignExecute_atOnce {s : State} {a : Nat} (ha : s.alive = true) (hr : s.tu.sel.realign = some (a, none))
    (hle : a ≤ s.node.n.toNat + 1) (ho : s.realignOk = true) (h2 : s.selRef ≠ 2) (h4 : s.selRef ≠ 4) :
    ∃ t, exec .realignExecute s = .next t ∧ t.rg (REF_BIAS s.selRef) = 0 ∧ t.tu.sel.realign = none ∧
      t.get F.CLK_REALIGN_STATUS = 2 ∧ t.bit F.CLK_STAT_REALIGN_BUSY = false ∧ t.node = s.node := by
  have he : effRealignExecute s = ((s.put (F.REF_BIAS_BIAS s.selRef) 0).realignDone).showSelector.restartCopy := by
    simp only [effRealignExecute, hr, Nat.not_lt.2 hle, ho, Bool.not_true, Bool.false_eq_true, if_false]
    rw [if_neg (by simp [h2, h4])]
  have hk : KeepsRealign ((s.put (F.REF_BIAS_BIAS s.selRef) 0).realignDone) (effRealignExecute s) := by
    rw [he]
    exact (showSelector_keepsRealign _).trans (restartCopy_keepsRealign _)
  obtain ⟨hbias, hsel, hstatus, hbusy⟩ := (realigned_realignDone s (selRef_lt_of_realignOk ho)).of_keeps (selRef_lt_of_realignOk ho) hk
  exact ⟨_, (exec_realignExecute s).trans (runs_alive _ ha), hbias, hsel, hstatus, hbusy, hk.node.trans (realignDone_node _ _)⟩

/-- The last acts of the re-alignment of REF2 or REF4, its mute ended and its ticks moved. -/
def State.realignEnd (t : State) (r : Nat) : State :=
  ((((t.put (F.REF_BIAS_BIAS r) 0).realignDone).unmuteAllOuts .realign).showSelector.pulsesMoved true).restartCopy

theorem unmuteAllOuts_node (s : State) (m : MuteReason) : (s.unmuteAllOuts m).node = s.node := rfl

theorem realigned_realignEnd (t : State) {r : Nat} (hr : r < 6) : Realigned r (t.realignEnd r) ∧
    (t.realignEnd r).node = t.node ∧ .realign ∉ (t.realignEnd r).audio.muteOut.reasons := by
  have hk : KeepsRealign (((t.put (F.REF_BIAS_BIAS r) 0).realignDone).unmuteAllOuts .realign) (t.realignEnd r) :=
    ((showSelector_keepsRealign _).trans (pulsesMoved_keepsRealign _ true)).trans (restartCopy_keepsRealign _)
  refine ⟨(realigned_unmuteAllOuts .realign (realigned_realignDone t hr)).of_keeps hr hk, ?_, ?_⟩
  · rw [hk.node, unmuteAllOuts_node, realignDone_node]
  · rw [hk.audio]
    exact not_mem_remove _ _ _

/-- REF2 and REF4 are re-aligned when the mute has ended (R298). -/
theorem realignExecute_muted {s : State} {a r : Nat} (ha : s.alive = true) (hr6 : r < 6) (hr : s.tu.sel.realign = some (a, some r))
    (he : (s.audio.muteNet.ended && s.audio.muteOut.ended) = true) :
    let v := s.moveTicks (s.bias r)
    let next := v.tickAtOrAfter (s.tickTime s.node.n.toNat + s.tsUnits)
    ∃ t, exec .realignExecute s = .next t ∧ t.node = { v.node with n := BitVec.ofNat 64 (next - 1) } ∧
      t.rg (REF_BIAS r) = 0 ∧ t.tu.sel.realign = none ∧ t.get F.CLK_REALIGN_STATUS = 2 ∧
      t.bit F.CLK_STAT_REALIGN_BUSY = false ∧ .realign ∉ t.audio.muteOut.reasons := by
  intro v next
  have hend : effRealignExecute s =
      ({ v with node := { v.node with n := BitVec.ofNat 64 (next - 1) } } : State).realignEnd r := by
    simp only [effRealignExecute, hr, he, Bool.not_true, Bool.false_eq_true, if_false]
    rfl
  obtain ⟨⟨hbias, hsel, hstatus, hbusy⟩, hnode, hmute⟩ :=
    realigned_realignEnd { v with node := { v.node with n := BitVec.ofNat 64 (next - 1) } } hr6
  rw [← hend] at hbias hsel hstatus hbusy hnode hmute
  exact ⟨_, (exec_realignExecute s).trans (runs_alive _ ha), hnode, hbias, hsel, hstatus, hbusy, hmute⟩

/-- Settles O51: each act by the branch its conditions name; what a re-alignment shows at its end outlasts the selector's
registers, the pulses and the warm copy. -/
theorem stepsAndRealignments : Obligations.StepsAndRealignments := by
  unfold Obligations.StepsAndRealignments
  intro s ha
  refine ⟨fun hn => ?_, fun d hd => ⟨fun hm => ?_, fun hm => ?_⟩, fun hn => ?_,
    fun a hr => ⟨fun hlt => ?_, fun hle ho => ?_, fun hle ho h24 => ?_, fun hle ho h2 h4 => ?_⟩,
    fun a r hr6 hr => ⟨fun he => ?_, fun he => ?_⟩, fun hl => ?_, fun hl => ?_, ?_⟩
  · exact gives_runs (exec_timeStep s) ha (by simp only [effTimeStep, hn])
  · exact gives_runs (exec_timeStep s) ha (by simp only [effTimeStep, hd, hm, Bool.not_false, if_true])
  · intro u
    have he : effTimeStep s = if u.node.phase = .gate then
        (u.mapMuteAll (fun m => (⟨m.reasons ++ [MuteReason.firstLock], 0, 1, 0, 0⟩ : Mute))).firstAudio else u := by
      simp only [effTimeStep, hd, hm, Bool.not_true, Bool.false_eq_true, if_false]
      rfl
    exact ⟨fun hg => gives_runs (exec_timeStep s) ha (by rw [he, if_neg hg]),
      fun hg => gives_runs (exec_timeStep s) ha (by rw [he, if_pos hg])⟩
  · exact gives_runs (exec_realignExecute s) ha (by simp only [effRealignExecute, hn])
  · exact gives_runs (exec_realignExecute s) ha (by simp only [effRealignExecute, hr, hlt, if_true])
  · exact gives_runs (exec_realignExecute s) ha (by
      simp only [effRealignExecute, hr, Nat.not_lt.2 hle, ho, Bool.not_false, if_true, if_false])
  · exact gives_runs (exec_realignExecute s) ha (by
      simp only [effRealignExecute, hr, Nat.not_lt.2 hle, ho, Bool.not_true, Bool.false_eq_true, if_false]
      rw [if_pos (by simpa using h24)])
  · exact realignExecute_atOnce ha hr hle ho h2 h4
  · exact gives_runs (exec_realignExecute s) ha (by simp only [effRealignExecute, hr, he, Bool.not_false, if_true])
  · exact realignExecute_muted ha hr6 hr he
  · exact gives_runs (exec_rootUnlock s) ha (by simp only [effRootUnlock, hl, Bool.not_true, Bool.false_eq_true, if_false])
  · exact gives_runs (exec_rootUnlock s) ha (by simp only [effRootUnlock, hl, Bool.not_false, if_true])
  · refine ⟨_, (exec_rootPllRelock s).trans (runs_alive _ ha), ?_, rfl, .putBit s true (by decide)⟩
    exact bit_putBit_same s true (by decide) (by decide)

end Sys2Proof.Machine
end

section
/-! What no act of a START changes: the fuses, the command queue, the supply, the reset pin, the cause of the START, the straps and
the writes parked for the amplifier. One lemma for each operation a START is made of. -/

namespace Sys2Proof.Machine

/-- Fuses, command queue, supply, reset pin and cause of the START. -/
def State.kept (s : State) : Fuses × List Instr × Bool × Bool × StartCause :=
  (s.fuses, s.pending, s.node.powered, s.node.inReset, s.node.cause)

/-- These, the straps and the writes parked for the amplifier. -/
def State.pins (s : State) : (Fuses × List Instr × Bool × Bool × StartCause) × Nat × Tbl Nat :=
  (s.kept, s.rg GLB_STRAP, s.amp.parked)

/-! ## The ways in which an operation writes the state -/

theorem pins_of {s t : State} (hf : t.fuses = s.fuses) (hq : t.pending = s.pending) (hp : t.node.powered = s.node.powered)
    (hi : t.node.inReset = s.node.inReset) (hc : t.node.cause = s.node.cause) (hr : t.regs = s.regs)
    (ha : t.amp.parked = s.amp.parked) : t.pins = s.pins := by
  rw [State.pins, State.kept, hf, hq, hp, hi, hc, rg_of_regs hr, ha, State.pins, State.kept]

theorem kept_of_pins {s t : State} (h : t.pins = s.pins) : t.kept = s.kept := congrArg Prod.fst h

theorem strap_of_pins {s t : State} (h : t.pins = s.pins) : t.rg GLB_STRAP = s.rg GLB_STRAP := congrArg (fun p => p.2.1) h

theorem parked_of_pins {s t : State} (h : t.pins = s.pins) : t.amp.parked = s.amp.parked := congrArg (fun p => p.2.2) h

@[simp] theorem pins_mk (s : State) (mem store flt kmp st audio bricks pair net str tu cbus tw0 tw1 dma mortar caps pwr sec free out) :
    State.pins ⟨s.regs, mem, store, s.node, flt, kmp, st, audio, bricks, s.amp, pair, net, str, tu, cbus, tw0, tw1, dma, mortar, caps,
      pwr, s.fuses, sec, free, out, s.pending⟩ = s.pins := pins_of rfl rfl rfl rfl rfl rfl rfl

/-- A node whose supply, reset pin and cause are those that stood. -/
@[simp] theorem pins_mkNode (s : State) (mem store mode prevMode role fs96 lockedOnce phase heard n fresh holdNow serviceNow time pattern
    t0 uptime releaseTo released stepping asked startAsked strapPins grade flt kmp st audio bricks pair net str tu cbus tw0 tw1 dma mortar
    caps pwr sec free out) :
    State.pins ⟨s.regs, mem, store, ⟨s.node.powered, s.node.inReset, mode, prevMode, s.node.cause, role, fs96, lockedOnce, phase, heard,
      n, fresh, holdNow, serviceNow, time, pattern, t0, uptime, releaseTo, released, stepping, asked, startAsked, strapPins, grade⟩,
      flt, kmp, st, audio, bricks, s.amp, pair, net, str, tu, cbus, tw0, tw1, dma, mortar, caps, pwr, s.fuses, sec, free, out,
      s.pending⟩ = s.pins := pins_of rfl rfl rfl rfl rfl rfl rfl

/-- An amplifier whose parked writes are those that stood. -/
@[simp] theorem pins_mkAmp (s : State) (mem store flt kmp st audio bricks chs bits vMin sense mod waiting pair net str tu cbus tw0 tw1
    dma mortar caps pwr sec free out) :
    State.pins ⟨s.regs, mem, store, s.node, flt, kmp, st, audio, bricks, ⟨chs, bits, vMin, sense, mod, waiting, s.amp.parked⟩, pair, net,
      str, tu, cbus, tw0, tw1, dma, mortar, caps, pwr, s.fuses, sec, free, out, s.pending⟩ = s.pins :=
  pins_of rfl rfl rfl rfl rfl rfl rfl

@[simp] theorem pins_ite {c : Prop} [Decidable c] (s t : State) : (if c then s else t).pins = if c then s.pins else t.pins :=
  apply_ite _ _ _ _

theorem pins_foldl {α : Type} {f : State → α → State} (h : ∀ s x, (f s x).pins = s.pins) (l : List α) (s : State) :
    (l.foldl f s).pins = s.pins := foldl_keeps State.pins h l s

theorem pins_iterate {f : State → State} (h : ∀ s, (f s).pins = s.pins) (n : Nat) (s : State) : (iterate f n s).pins = s.pins := by
  induction n generalizing s with
  | zero => rfl
  | succ n ih => exact (ih _).trans (h s)

theorem setRg_pins (s : State) {a : Nat} (v : Nat) (h : a ≠ GLB_STRAP) : (s.setRg a v).pins = s.pins := by
  rw [State.pins, rg_setRg_ne s v h.symm]
  rfl

theorem clearRg_pins (s : State) {a : Nat} (h : a ≠ GLB_STRAP) : (s.clearRg a).pins = s.pins := by
  rw [State.pins, rg_clearRg, if_neg h.symm]
  rfl

theorem put_pins (s : State) {f : Fld} (v : Nat) (h : f.addr ≠ GLB_STRAP) : (s.put f v).pins = s.pins := setRg_pins s _ h

theorem putBit_pins (s : State) {f : Fld} (b : Bool) (h : f.addr ≠ GLB_STRAP) : (s.putBit f b).pins = s.pins := put_pins s _ h

theorem bump_pins (s : State) {f : Fld} (n : Nat) (h : f.addr ≠ GLB_STRAP) : (s.bump f n).pins = s.pins := put_pins s _ h

theorem setRegBit_pins (s : State) {a : Nat} (k : Nat) (b : Bool) (h : a ≠ GLB_STRAP) : (s.setRegBit a k b).pins = s.pins :=
  setRg_pins s _ h

/-! ## Outputs, memories and messages -/

@[simp] theorem emit_pins (s : State) (o : Output) : (s.emit o).pins = s.pins := by simp only [State.emit, pins_mk]

@[simp] theorem nextFree_pins (s : State) : s.nextFree.pins = s.pins := by simp only [State.nextFree, pins_mk]

@[simp] theorem wrByte_pins (s : State) (a : Nat) (v : Byte) : (s.wrByte a v).pins = s.pins := by simp only [State.wrByte, pins_mk]

@[simp] theorem wrBytes_pins (s : State) (a : Nat) (l : List Byte) : (s.wrBytes a l).pins = s.pins := by
  induction l generalizing s a with
  | nil => rfl
  | cons b l ih => rw [State.wrBytes, ih, wrByte_pins]

@[simp] theorem writeWords_pins (s : State) (b w : Nat) (v : List Byte) : (s.writeWords b w v).pins = s.pins := wrBytes_pins s _ _

@[simp] theorem zeroMem_pins (s : State) (a n : Nat) : (s.zeroMem a n).pins = s.pins := by simp only [State.zeroMem, pins_mk]

@[simp] theorem progStore_pins (s : State) (nor : Bool) (a : Nat) (l : List Byte) : (s.progStore nor a l).pins = s.pins := by
  induction l generalizing s a with
  | nil => rfl
  | cons b l ih => simp only [State.progStore, ih, pins_mk]

@[simp] theorem progSome_pins (s : State) (nor : Bool) (n : Nat) (l : List (Nat × List Byte)) : (s.progSome nor n l).pins = s.pins := by
  induction l generalizing s n with
  | nil => rfl
  | cons w l ih => simp only [State.progSome, pins_ite, ih, progStore_pins, ite_self]

@[simp] theorem storeCut_pins (s : State) (group image : Nat) : (s.storeCut group image).pins = s.pins := by
  unfold State.storeCut
  extract_lets t
  have ht : t.pins = s.pins := by unfold t; split <;> simp only [progSome_pins]
  split
  · exact (progSome_pins _ _ _ _).trans ht
  · exact ht

@[simp] theorem cutWrites_pins (s : State) : s.cutWrites.pins = s.pins := by
  simp only [State.cutWrites, pins_ite, nextFree_pins, storeCut_pins, ite_self]

@[simp] theorem zeroMagic_pins (s : State) (a : Nat) : (s.zeroMagic a).pins = s.pins := progStore_pins s _ _ _

@[simp] theorem mapSession_pins (s : State) (n : Nat) (f : Session → Session) : (s.mapSession n f).pins = s.pins := by
  simp only [State.mapSession, pins_mk]

@[simp] theorem sendKmp_pins (s : State) (n type : Nat) (body : List Byte) : (s.sendKmp n type body).pins = s.pins := by
  unfold State.sendKmp
  split
  · rfl
  · simp only [pins_ite, emit_pins, mapSession_pins, ite_self]

@[simp] theorem notifyOne_pins (s : State) (x : Session) (event : Nat) (data : List Byte) : (s.notifyOne x event data).pins = s.pins := by
  simp only [State.notifyOne, pins_ite, mapSession_pins, sendKmp_pins, ite_self]

@[simp] theorem notify_pins (s : State) (event : Nat) (data : List Byte) : (s.notify event data).pins = s.pins :=
  pins_foldl (fun s x => notifyOne_pins s x event data) _ s

@[simp] theorem reply_pins (s : State) (n op reqId status : Nat) (results : List Byte) : (s.reply n op reqId status results).pins = s.pins := by
  simp only [State.reply, sendKmp_pins, mapSession_pins]

@[simp] theorem finish_pins (s : State) (owner : Option (Nat × Nat)) (op status : Nat) (results : List Byte) :
    (s.finish owner op status results).pins = s.pins := by
  unfold State.finish
  split
  · exact reply_pins _ _ _ _ _ _
  · rfl

@[simp] theorem unbar_pins (s : State) (a : PolicyAct) : (s.unbar a).pins = s.pins := by simp only [State.unbar, pins_mk]

@[simp] theorem propose_pins (s : State) (a : PolicyAct) : (s.propose a).pins = s.pins := by
  simp only [State.propose, pins_ite, notify_pins, pins_mk, ite_self]

@[simp] theorem toPartner_pins (s : State) (d port dscp : Nat) (payload : List Byte) : (s.toPartner d port dscp payload).pins = s.pins := by
  simp only [State.toPartner, nextFree_pins, pins_mk]

@[simp] theorem sendWc_pins (s : State) (kind copyId unit fseq : Nat) (last : Bool) (entries : List (List Byte)) :
    (s.sendWc kind copyId unit fseq last entries).pins = s.pins := by
  unfold State.sendWc State.emitWc
  split
  · simp only [toPartner_pins, emit_pins]
  · rfl

/-! ## Mutes and channels -/

@[simp] theorem setCh_pins (s : State) (m : Nat) (c : AmpCh) : (s.setCh m c).pins = s.pins := by simp only [State.setCh, pins_mkAmp]

@[simp] theorem gatesStop_pins (s : State) : s.gatesStop.pins = s.pins :=
  pins_foldl (fun s e => by simp only [pins_ite, emit_pins, setCh_pins, ite_self]) _ s

@[simp] theorem mapMute_pins (s : State) (d : Nat) (f : Mute → Mute) : (s.mapMute d f).pins = s.pins := by
  simp only [State.mapMute, pins_mk]

@[simp] theorem mapMuteAll_pins (s : State) (f : Mute → Mute) : (s.mapMuteAll f).pins = s.pins := by simp only [State.mapMuteAll, pins_mk]

@[simp] theorem mapMuteOut_pins (s : State) (f : Mute → Mute) : (s.mapMuteOut f).pins = s.pins := by simp only [State.mapMuteOut, pins_mk]

@[simp] theorem freshMutes_pins (s : State) (keep : MuteReason → Bool) : (s.freshMutes keep).pins = s.pins := mapMuteAll_pins s _

@[simp] theorem muteOuts_pins (s : State) (r : MuteReason) : (s.muteOuts r).pins = s.pins := mapMuteOut_pins s _

@[simp] theorem unmuteOuts_pins (s : State) (r : MuteReason) : (s.unmuteOuts r).pins = s.pins := mapMuteOut_pins s _

@[simp] theorem unmuteAllOuts_pins (s : State) (r : MuteReason) : (s.unmuteAllOuts r).pins = s.pins := mapMuteAll_pins s _

@[simp] theorem serviceMute_pins (s : State) : s.serviceMute.pins = s.pins := by
  simp only [State.serviceMute, pins_ite, muteOuts_pins, unmuteOuts_pins, ite_self]

@[simp] theorem holdChans_pins (s : State) (k : Nat) (chans : List Nat) : (s.holdChans k chans).pins = s.pins :=
  pins_foldl (fun s m => by simp only [mapMute_pins, pins_ite, pins_mk, ite_self]) _ s

@[simp] theorem freeChan_pins (s : State) (k m : Nat) : (s.freeChan k m).pins = s.pins := by
  simp only [State.freeChan, pins_ite, mapMute_pins, pins_mk, ite_self]

@[simp] theorem freeChans_pins (s : State) : s.freeChans.pins = s.pins :=
  pins_foldl (fun s e => by simp only [pins_ite, freeChan_pins, ite_self]) _ s

/-! ## Entering a mode, HOLD among them -/

@[simp] theorem dropCopy_pins (s : State) : s.dropCopy.pins = s.pins := by
  unfold State.dropCopy
  extract_lets s1 s2 s3 s4
  have h1 : s1.pins = s.pins := by unfold s1; split <;> simp only [sendWc_pins]
  have h2 : s2.pins = s1.pins := by unfold s2; split <;> simp only [sendWc_pins]
  calc State.pins _ = s4.pins := pins_mk s4 ..
    _ = s2.pins := by simp (disch := grind) only [s4, s3, put_pins, pins_ite, ite_self]
    _ = s.pins := h2.trans h1

@[simp] theorem roleEntry_pins (s : State) (old new : Mode) : (s.roleEntry old new).pins = s.pins := by
  simp (disch := grind) only [State.roleEntry, pins_ite, put_pins, putBit_pins, dropCopy_pins, pins_mk, ite_self]

@[simp] theorem setMode_pins (s : State) (m : Mode) : (s.setMode m).pins = s.pins := by
  simp (disch := grind) only [State.setMode, pins_ite, notify_pins, bump_pins, put_pins, pins_mkNode, roleEntry_pins, ite_self]

@[simp] theorem requalify_pins (s : State) : s.requalify.pins = s.pins := by simp only [State.requalify, pins_mk]

@[simp] theorem unmoor_pins (s : State) : s.unmoor.pins = s.pins := by
  simp (disch := grind) only [State.unmoor, pins_ite, pins_mkNode, requalify_pins, putBit_pins, ite_self]

@[simp] theorem zeroStateAreas_pins (s : State) : s.zeroStateAreas.pins = s.pins :=
  pins_foldl (fun s l => by split <;> simp only [zeroMem_pins]) _ s

@[simp] theorem zeroGranules_pins (s : State) (b : DelayBuf) : (s.zeroGranules b).pins = s.pins :=
  pins_foldl (fun s _ => zeroMem_pins s _ _) _ s

@[simp] theorem firstUse_pins (s : State) : s.firstUse.pins = s.pins := by
  unfold State.firstUse
  extract_lets s1 s2 _ s3 _ s4
  have h1 : s1.pins = s.pins := zeroStateAreas_pins s
  have h2 : s2.pins = s1.pins := pins_foldl (fun s e => by split <;> simp only [zeroGranules_pins]) _ s1
  have h3 : s3.pins = s2.pins := pins_mk s2 ..
  have h4 : s4.pins = s3.pins := pins_mkAmp s3 ..
  refine (pins_foldl (fun s j => ?_) _ s4).trans (h4.trans (h3.trans (h2.trans h1)))
  simp (disch := grind) only [clearRg_pins]

@[simp] theorem resetCoil_pins (s : State) : s.resetCoil.pins = s.pins :=
  pins_foldl (fun s m => by simp (disch := grind) only [put_pins, clearRg_pins, pins_ite, setCh_pins, ite_self]) _ s

@[simp] theorem wakeAudio_pins (s : State) (cause index : Nat) : (s.wakeAudio cause index).pins = s.pins := by
  simp (disch := grind) only [State.wakeAudio, put_pins, pins_mk, freshMutes_pins, resetCoil_pins, firstUse_pins, pins_ite, unmoor_pins,
    requalify_pins, ite_self]

@[simp] theorem forgetBlk_pins (s : State) : s.forgetBlk.pins = s.pins := by simp only [State.forgetBlk, pins_mk]

@[simp] theorem abortDormant_pins (s : State) : s.abortDormant.pins = s.pins := by
  simp only [State.abortDormant, pins_ite, unmuteAllOuts_pins, pins_mk, ite_self]

@[simp] theorem masterReset_pins (s : State) (m : Nat) : (s.masterReset m).pins = s.pins := by
  simp (disch := grind) only [State.masterReset, setRg_pins, putBit_pins]

@[simp] theorem enterHold_pins (s : State) (src : Option Nat) : (s.enterHold src).pins = s.pins := by
  unfold State.enterHold
  split
  · rfl
  · extract_lets old s1 lost s2 _ _ s3 s4 s5 s6 s7
    have h1 : s1.pins = s.pins := by simp only [s1, pins_ite, wakeAudio_pins, forgetBlk_pins, abortDormant_pins, ite_self]
    have h2 : s2.pins = s1.pins := by simp (disch := grind) only [s2, put_pins, pins_ite, ite_self]
    have h3 : s3.pins = s2.pins := pins_of rfl rfl rfl rfl rfl rfl rfl
    have h4 : s4.pins = s3.pins := by simp (disch := grind) only [s4, put_pins]
    have h5 : s5.pins = s4.pins := by unfold s5; split <;> simp (disch := grind) only [put_pins]
    have h7 : s7.pins = s5.pins := by
      simp (disch := grind) only [s7, s6, pins_ite, masterReset_pins, put_pins, unmuteAllOuts_pins, ite_self]
    rw [muteOuts_pins, setMode_pins, h7, h5, h4, h3, h2, h1]

/-! ## The fault collector -/

@[simp] theorem pinStep_pins (s t : State) : (s.pinStep t).pins = t.pins := by simp only [State.pinStep, pins_ite, emit_pins, ite_self]

@[simp] theorem policyPin_pins (s : State) : s.policyPin.pins = s.pins := by
  simp (disch := grind) only [State.policyPin, pins_ite, pinStep_pins, putBit_pins, ite_self]

@[simp] theorem reactHold_pins (s : State) (k : Nat) : (s.reactHold k).pins = s.pins := by
  simp only [State.reactHold, pins_ite, enterHold_pins, pins_mkNode, ite_self]

@[simp] theorem reactReset_pins (s : State) (k : Nat) : (s.reactReset k).pins = s.pins := by
  simp (disch := grind) only [State.reactReset, pins_ite, reactHold_pins, put_pins, pins_mk, ite_self]

@[simp] theorem react_pins (s : State) (k cls : Nat) (chans : List Nat) : (s.react k cls chans).pins = s.pins := by
  unfold State.react
  split <;> simp only [pins_ite, holdChans_pins, pins_mk, reactHold_pins, reactReset_pins, ite_self]

@[simp] theorem pulse_pins (s : State) (cls : Nat) : (s.pulse cls).pins = s.pins := by
  simp (disch := grind) only [State.pulse, pins_ite, pinStep_pins, bump_pins, pins_mk, ite_self]

@[simp] theorem newLatch_pins (s : State) (k : Nat) (chans : List Nat) : (s.newLatch k chans).pins = s.pins := by
  simp (disch := grind) only [State.newLatch, policyPin_pins, react_pins, pulse_pins, notify_pins, unbar_pins, bump_pins, setRegBit_pins]

@[simp] theorem latch_pins (s : State) (k : Nat) (chans : List Nat) : (s.latch k chans).pins = s.pins := by
  simp (disch := grind) only [State.latch, pins_ite, holdChans_pins, newLatch_pins, setRg_pins, put_pins, ite_self]

/-! ## The reference selector -/

@[simp] theorem stopSelector_pins (s old : State) : (s.stopSelector old).pins = s.pins := by
  simp only [State.stopSelector, pins_ite, emit_pins, ite_self]

@[simp] theorem showSelector_pins (s : State) : s.showSelector.pins = s.pins := by
  simp (disch := grind) only [State.showSelector, putBit_pins, put_pins, emit_pins, pins_ite, ite_self]

@[simp] theorem setQualified_pins (s : State) (r : Nat) (b : Bool) : (s.setQualified r b).pins = s.pins := by
  simp (disch := grind) only [State.setQualified, State.putMask, put_pins, putBit_pins]

@[simp] theorem mapSel_pins (s : State) (f : Selector → Selector) : (s.mapSel f).pins = s.pins := by simp only [State.mapSel, pins_mk]

@[simp] theorem setRf_pins (s : State) (r : Nat) (v : RefSt) : (s.setRf r v).pins = s.pins := mapSel_pins s _

@[simp] theorem stopWtr_pins (s : State) : s.stopWtr.pins = s.pins :=
  pins_foldl (fun s r => by simp (disch := grind) only [putBit_pins, put_pins, pins_ite, ite_self]) _ s

@[simp] theorem stopWorse_pins (s : State) : s.stopWorse.pins = s.pins :=
  pins_foldl (fun s r => by simp (disch := grind) only [putBit_pins, put_pins, pins_ite, ite_self]) _ s

@[simp] theorem enterBase_pins (s : State) (b : Nat) : (s.enterBase b).pins = s.pins := by
  simp only [State.enterBase, pins_ite, latch_pins, mapSel_pins, ite_self]

@[simp] theorem startSwitch_pins (s : State) (r : Nat) : (s.startSwitch r).pins = s.pins := by
  simp (disch := grind) only [State.startSwitch, pins_ite, bump_pins, put_pins, putBit_pins, enterBase_pins, stopWtr_pins, setRf_pins,
    mapSel_pins, ite_self]

@[simp] theorem goSwitch_pins (s : State) (r : Nat) : (s.goSwitch r).pins = s.pins := by
  simp only [State.goSwitch, pins_ite, startSwitch_pins, propose_pins, ite_self]

@[simp] theorem choose_pins (s : State) : s.choose.pins = s.pins := by
  unfold State.choose
  split
  · split
    · simp only [pins_ite, goSwitch_pins, ite_self]
    · rfl
  · rfl

@[simp] theorem toModel_pins (s : State) (noHistory : Bool) : (s.toModel noHistory).pins = s.pins := by
  simp (disch := grind) only [State.toModel, pins_ite, put_pins, putBit_pins, bump_pins, mapSel_pins, enterBase_pins, stopWtr_pins, ite_self]

@[simp] theorem startWtr_pins (s : State) (r : Nat) : (s.startWtr r).pins = s.pins := by
  simp (disch := grind) only [State.startWtr, pins_ite, put_pins, putBit_pins, setRf_pins, ite_self]

@[simp] theorem startWtrs_pins (s : State) : s.startWtrs.pins = s.pins := pins_foldl startWtr_pins _ s

@[simp] theorem abortSwitch_pins (s : State) : s.abortSwitch.pins = s.pins := by
  simp (disch := grind) only [State.abortSwitch, pins_ite, toModel_pins, startWtrs_pins, enterBase_pins, put_pins, bump_pins, ite_self]

@[simp] theorem unusable_pins (s : State) (r : Nat) : (s.unusable r).pins = s.pins := by
  simp only [State.unusable, pins_ite, choose_pins, toModel_pins, abortSwitch_pins, mapSel_pins, ite_self]

@[simp] theorem disqualify_pins (s : State) (r : Nat) : (s.disqualify r).pins = s.pins := by
  simp (disch := grind) only [State.disqualify, pins_ite, unusable_pins, bump_pins, setQualified_pins, put_pins, putBit_pins, setRf_pins,
    ite_self]

@[simp] theorem qualify_pins (s : State) (r : Nat) : (s.qualify r).pins = s.pins := by
  unfold State.qualify
  extract_lets s1 s2 s3
  have h2 : s2.pins = s.pins := by simp (disch := grind) only [s2, s1, unbar_pins, put_pins, setQualified_pins]
  rw [← h2]
  split
  · split
    · split <;> simp only [s3, goSwitch_pins, abortSwitch_pins]
    · rfl
  · simp only [pins_ite, startSwitch_pins, startWtr_pins, choose_pins, ite_self]

@[simp] theorem checkRef_pins (s : State) (r : Nat) : (s.checkRef r).pins = s.pins := by
  simp (disch := grind) only [State.checkRef, pins_ite, setQualified_pins, putBit_pins, disqualify_pins, qualify_pins, setRf_pins,
    mapSel_pins, put_pins, ite_self]

@[simp] theorem selStep_pins (s : State) {f : State → State} (h : (f s).pins = s.pins) : (s.selStep f).pins = s.pins := by
  simp only [State.selStep, pins_ite, notify_pins, showSelector_pins, mapSel_pins, h, ite_self]

@[simp] theorem refsWritten_pins (s : State) : s.refsWritten.pins = s.pins := by
  unfold State.refsWritten
  split
  · rfl
  · refine selStep_pins s ?_
    simp only [pins_ite, startWtrs_pins, stopWorse_pins, choose_pins, pins_foldl checkRef_pins, ite_self]

end Sys2Proof.Machine
end

section
/-! What loading a configuration leaves as it was: the frame of the acts of a START, for the operations `loadAll` is made of. -/

namespace Sys2Proof.Machine

/-! ## PTP instances as references -/

@[simp] theorem setInst_pins (s : State) (d : Nat) (v : PtpInst) : (s.setInst d v).pins = s.pins := by simp only [State.setInst, pins_mk]

@[simp] theorem mapInst_pins (s : State) (d : Nat) (f : PtpInst → PtpInst) : (s.mapInst d f).pins = s.pins := setInst_pins s d _

@[simp] theorem hearAgain_pins (s : State) (d : Nat) : (s.hearAgain d).pins = s.pins := mapInst_pins s d _

@[simp] theorem refLoss_pins (r : Nat) (s : State) : (effRefLoss r s).pins = s.pins := by
  unfold effRefLoss
  split
  · rfl
  · refine selStep_pins s ?_
    simp (disch := grind) only [disqualify_pins, pins_ite, bump_pins, latch_pins, setRf_pins, putBit_pins, ite_self]

@[simp] theorem refServo_pins (s : State) (d : Nat) : (s.refServo d).pins = s.pins := by
  unfold State.refServo
  split
  · rfl
  · split
    · exact selStep_pins s (by simp (disch := grind) only [checkRef_pins, putBit_pins])
    · exact refLoss_pins d s

@[simp] theorem setServo_pins (s : State) (d code : Nat) : (s.setServo d code).pins = s.pins := by
  unfold State.setServo
  extract_lets old s1 s2 s3 s4
  have h1 : s1.pins = s.pins := by
    unfold s1
    split <;> simp (disch := grind) only [put_pins]
  have h4 : s4.pins = s1.pins := by
    simp (disch := grind) only [s4, s3, s2, pins_ite, latch_pins, bump_pins, setRg_pins, putBit_pins, ite_self]
  simp only [pins_ite, refServo_pins, mapInst_pins, h4, h1, ite_self]

@[simp] theorem setPortState_pins (s : State) (d code : Nat) : (s.setPortState d code).pins = s.pins := put_pins s _ (by grind)

@[simp] theorem ptpEnable_pins (s : State) (d : Nat) : (s.ptpEnable d).pins = s.pins := by
  simp only [State.ptpEnable, pins_ite, hearAgain_pins, setServo_pins, setPortState_pins, setInst_pins, ite_self]

@[simp] theorem ptpFromRank_pins (s : State) (d : Nat) : (s.ptpFromRank d).pins = s.pins := by
  simp (disch := grind) only [State.ptpFromRank, ptpEnable_pins, putBit_pins]

/-! ## The two-wire bus -/

@[simp] theorem setTw0_pins (s : State) (t : Tw0) : (s.setTw0 t).pins = s.pins := by
  simp (disch := grind) only [State.setTw0, putBit_pins, pins_mk]

@[simp] theorem tw0Cmd_pins (s : State) (cmd : Nat) : (s.tw0Cmd cmd).pins = s.pins := by
  simp (disch := grind) only [State.tw0Cmd, put_pins, pins_ite, ite_self]

@[simp] theorem tw0Go_pins (s : State) (cmd : Nat) (owner : Option (Nat × Nat)) : (s.tw0Go cmd owner).pins = s.pins := by
  simp (disch := grind) only [State.tw0Go, pins_ite, putBit_pins, setTw0_pins, pins_mk, tw0Cmd_pins, ite_self]

@[simp] theorem tw0Next_pins (s : State) : s.tw0Next.pins = s.pins := by
  unfold State.tw0Next
  split
  · rfl
  · simp only [pins_ite, tw0Go_pins, setTw0_pins, ite_self]

@[simp] theorem tw0Free_pins (s : State) : s.tw0Free.pins = s.pins := by simp only [State.tw0Free, pins_ite, setTw0_pins, ite_self]

@[simp] theorem tw0End_pins (s : State) (result acked : Nat) (read : List Byte) : (s.tw0End result acked read).pins = s.pins := by
  unfold State.tw0End
  split
  · rfl
  · simp (disch := grind) only [tw0Next_pins, finish_pins, pins_ite, bump_pins, setRg_pins, setTw0_pins, ite_self]

@[simp] theorem tw0Recover_pins (s : State) (how : Recovery) : (s.tw0Recover how).pins = s.pins := by
  cases how <;>
    simp (disch := grind) only [State.tw0Recover, emit_pins, tw0Free_pins, tw0End_pins, latch_pins, putBit_pins, setTw0_pins, bump_pins]

@[simp] theorem tw0Enable_pins (how : Recovery) (s : State) : (effTw0Enable how s).pins = s.pins := by
  simp (disch := grind) only [effTw0Enable, pins_ite, tw0Next_pins, tw0Recover_pins, putBit_pins, ite_self]

@[simp] theorem tw0Abort_pins (acked : Nat) (read : List Byte) (s : State) : (effTw0Abort acked read s).pins = s.pins := by
  unfold effTw0Abort
  split
  · rfl
  · exact tw0End_pins _ _ _ _

@[simp] theorem tw0Disable_pins (acked : Nat) (read : List Byte) (s : State) : (effTw0Disable acked read s).pins = s.pins := by
  simp (disch := grind) only [effTw0Disable, pins_ite, tw0Abort_pins, putBit_pins, ite_self]

/-! ## The control buses -/

@[simp] theorem setMac_pins (s : State) (m : Nat) (c : CbusMac) : (s.setMac m c).pins = s.pins := by
  unfold State.setMac
  extract_lets _ s1 s2 s3 s4 s5
  have h4 : s4.pins = s.pins := by simp (disch := grind) only [s4, s3, s2, s1, putBit_pins, put_pins, pins_mk]
  have h5 : s5.pins = s4.pins := by unfold s5; split <;> simp (disch := grind) only [setRg_pins]
  split <;> simp (disch := grind) only [setRg_pins, h5, h4]

@[simp] theorem macEnabled_pins (s : State) (m : Nat) : (s.macEnabled m).pins = s.pins := by
  simp (disch := grind) only [State.macEnabled, putBit_pins, setMac_pins]

@[simp] theorem cbusCount_pins (s : State) (m k n : Nat) : (s.cbusCount m k n).pins = s.pins := setRg_pins s _ (by grind)

@[simp] theorem plcaRead_pins (s : State) (m : Nat) (plca : Option Bool) : (s.plcaRead m plca).pins = s.pins := by
  unfold State.plcaRead
  cases plca <;> simp (disch := grind) only [nextFree_pins, cbusCount_pins, putBit_pins, put_pins]

@[simp] theorem plcaFrames_pins (s : State) (m : Nat) : (s.plcaFrames m).pins = s.pins := by simp only [State.plcaFrames, emit_pins]

@[simp] theorem cbusEnable_pins (m : Nat) (plca : Option Bool) (s : State) : (effCbusEnable m plca s).pins = s.pins := by
  simp (disch := grind) only [effCbusEnable, pins_ite, macEnabled_pins, setMac_pins, putBit_pins, plcaRead_pins, plcaFrames_pins, ite_self]

@[simp] theorem cbusEnd_pins (s : State) (m result : Nat) : (s.cbusEnd m result).pins = s.pins := by
  unfold State.cbusEnd
  extract_lets c
  split
  · rfl
  · exact setMac_pins _ _ _

@[simp] theorem cbusDiscard_pins (s : State) (m result : Nat) : (s.cbusDiscard m result).pins = s.pins := by
  unfold State.cbusDiscard
  split
  · rfl
  · extract_lets t
    split <;> simp only [t, cbusCount_pins, cbusEnd_pins]

@[simp] theorem cbusDrop_pins (s : State) (m result n : Nat) : (s.cbusDrop m result n).pins = s.pins :=
  (pins_iterate (fun s => cbusDiscard_pins s m result) n _).trans (setMac_pins s m _)

@[simp] theorem cbusFlush_pins (s : State) (m : Nat) : (s.cbusFlush m).pins = s.pins := by
  simp only [State.cbusFlush, pins_ite, setMac_pins, cbusDrop_pins, ite_self]

@[simp] theorem macStop_pins (s : State) (m : Nat) : (s.macStop m).pins = s.pins := by
  simp (disch := grind) only [State.macStop, setMac_pins, putBit_pins, cbusFlush_pins]

@[simp] theorem cbusDisable_pins (m : Nat) (s : State) : (effCbusDisable m s).pins = s.pins := by
  simp (disch := grind) only [effCbusDisable, pins_ite, setMac_pins, macStop_pins, putBit_pins, ite_self]

/-! ## Ports -/

@[simp] theorem cnt_pins (s : State) (p k : Nat) : (s.cnt p k).pins = s.pins := bump_pins s _ (by grind)

@[simp] theorem setPort_pins (s : State) (p : Nat) (v : Port) : (s.setPort p v).pins = s.pins := by
  unfold State.setPort
  split <;> simp only [pins_mk]

@[simp] theorem settleTail_pins (s : State) (r : Nat) : (s.settleTail r).pins = s.pins :=
  pins_iterate (fun s => by simp (disch := grind) only [pins_ite, put_pins, ite_self]) _ s

@[simp] theorem linkDown_pins (p : Nat) (s : State) : (effLinkDown p s).pins = s.pins := by
  simp (disch := grind) only [effLinkDown, pins_ite, latch_pins, pins_foldl settleTail_pins, cnt_pins, putBit_pins, put_pins, setPort_pins,
    emit_pins, ite_self]

/-! ## Items of the configuration -/

/-- GLB_STRAP has no writable field, and is none of the tables' registers. -/
theorem findReg_strap : ∃ d p, findReg GLB_STRAP = some (d, p) ∧ d.fields.all (fun f => !f.writable) = true ∧
    tableBases.contains d.base = false := by
  have h : (findReg GLB_STRAP).any (fun e => e.1.fields.all (fun f => !f.writable) && !tableBases.contains e.1.base) = true := by
    decide +kernel
  obtain ⟨hs, hd⟩ := (Option.any_eq_true_iff_get _ _).1 h
  rw [Bool.and_eq_true, Bool.not_eq_true'] at hd
  exact ⟨_, _, (Option.some_get hs).symm, hd.1, hd.2⟩

theorem imageOver_strap (old v : Nat) : imageOver old GLB_STRAP v = old := by
  obtain ⟨d, ⟨i, j⟩, hf, hw, -⟩ := findReg_strap
  have h : ∀ (l : List FieldDef), l.all (fun f => !f.writable) = true → ∀ n, l.foldl (fun (n : Nat) (f : FieldDef) =>
      if f.writable then withField n f.lo f.width (fieldOf v f.lo f.width) else n) n = n := by
    intro l
    induction l with
    | nil => exact fun _ n => rfl
    | cons f l ih =>
      intro hl n
      simp only [List.all_cons, Bool.and_eq_true, Bool.not_eq_true'] at hl
      rw [List.foldl_cons, hl.1]
      exact ih hl.2 n
  simp only [imageOver, hf]
  exact h _ hw old

theorem setRg_rg_pins (s : State) (a : Nat) : (s.setRg a (s.rg a)).pins = s.pins := by
  rw [State.pins, rg_setRg]
  split
  case isTrue h => rw [← h, Nat.mod_eq_of_lt (rg_lt s _)]; rfl
  · rfl

@[simp] theorem writeImage_pins (s : State) (a v : Nat) : (s.writeImage a v).pins = s.pins := by
  unfold State.writeImage
  split
  · by_cases h : a = GLB_STRAP
    · rw [h, imageOver_strap, setRg_rg_pins]
    · exact setRg_pins s _ h
  · rfl

@[simp] theorem writeItem_pins (s : State) (sec k : Nat) : (s.writeItem sec k).pins = s.pins :=
  pins_foldl (fun s _ => writeImage_pins s _ _) _ s

@[simp] theorem writeTw0Cfg_pins (s : State) (k : Nat) : (s.writeTw0Cfg k).pins = s.pins := by
  simp (disch := grind) only [State.writeTw0Cfg, pins_ite, tw0Enable_pins, tw0Disable_pins, nextFree_pins, putBit_pins, writeItem_pins,
    ite_self]

@[simp] theorem writeCbusCfg_pins (s : State) (m k : Nat) : (s.writeCbusCfg m k).pins = s.pins := by
  simp (disch := grind) only [State.writeCbusCfg, pins_ite, cbusEnable_pins, cbusDisable_pins, nextFree_pins, putBit_pins, writeItem_pins,
    ite_self]

@[simp] theorem writePeripheral_pins (s : State) (k : Nat) : (s.writePeripheral k).pins = s.pins := by
  simp only [State.writePeripheral, pins_ite, writeTw0Cfg_pins, writeCbusCfg_pins, writeItem_pins, ite_self]

@[simp] theorem writePortCfg_pins (s : State) (p k : Nat) : (s.writePortCfg p k).pins = s.pins := by
  simp only [State.writePortCfg, pins_ite, setPort_pins, linkDown_pins, writeItem_pins, ite_self]

@[simp] theorem writeAddr_pins (s : State) (d : Nat) : (s.writeAddr d).pins = s.pins := by
  unfold State.writeAddr
  split <;> simp only [nextFree_pins, pins_mk]

@[simp] theorem writePtpCfg_pins (s : State) (d : Nat) : (s.writePtpCfg d).pins = s.pins := by
  simp (disch := grind) only [State.writePtpCfg, put_pins]

@[simp] theorem writeDomain_pins (s : State) (d : Nat) : (s.writeDomain d).pins = s.pins := by
  unfold State.writeDomain
  split <;> simp (disch := grind) only [writeImage_pins, put_pins]

@[simp] theorem writeRefItem_pins (s : State) (k : Nat) : (s.writeRefItem k).pins = s.pins := by
  simp (disch := grind) only [State.writeRefItem, pins_ite, put_pins, writeDomain_pins, writeItem_pins, ite_self]

@[simp] theorem writeFault_pins (s : State) (k : Nat) : (s.writeFault k).pins = s.pins := by
  simp (disch := grind) only [State.writeFault, policyPin_pins, pins_ite, putBit_pins, writeItem_pins, ite_self]

/-! ## Streams, lines, programs -/

@[simp] theorem reportLeg_pins (s from_ : State) (k j : Nat) (join : Bool) : (s.reportLeg from_ k j join).pins = s.pins := emit_pins s _

@[simp] theorem leaveGone_pins (s old : State) : (s.leaveGone old).pins = s.pins := pins_foldl (fun s _ => reportLeg_pins s old _ _ _) _ s

@[simp] theorem setRxs_pins (s : State) (k : Nat) (v : RxStream) : (s.setRxs k v).pins = s.pins := by simp only [State.setRxs, pins_mk]

@[simp] theorem legWritten_pins (s old : State) (k j : Nat) (filterWritten : Bool) : (s.legWritten old k j filterWritten).pins = s.pins := by
  simp (disch := grind) only [State.legWritten, pins_ite, reportLeg_pins, setRg_pins, setRxs_pins, ite_self]

@[simp] theorem writeStream_pins (s : State) (k : Nat) : (s.writeStream k).pins = s.pins := by
  unfold State.writeStream
  extract_lets old t i mid
  split <;> simp only [t, legWritten_pins, writeItem_pins]

@[simp] theorem attachInst_pins (s : State) (i : Nat) (c : DynCfg) : (s.attachInst i c).pins = s.pins := by
  simp only [State.attachInst, pins_mk]

@[simp] theorem showLine_pins (s : State) (d : Nat) : (s.showLine d).pins = s.pins := by
  simp (disch := grind) only [State.showLine, putBit_pins, put_pins]

@[simp] theorem setLine_pins (s : State) (d : Nat) (l : DelayLine) : (s.setLine d l).pins = s.pins := by
  simp only [State.setLine, showLine_pins, pins_mk]

@[simp] theorem placeLine_pins (s : State) (d img : Nat) : (s.placeLine d img).pins = s.pins := by
  simp (disch := grind) only [State.placeLine, setLine_pins, setRg_pins]

@[simp] theorem placeTables_pins (s : State) (l b : Nat) : (s.placeTables l b).pins = s.pins := by
  unfold State.placeTables
  extract_lets trig io s1 s2 s3
  have h1 : s1.pins = s.pins := pins_foldl (fun s e => by simp (disch := grind) only [pins_ite, setRg_pins, ite_self]) _ s
  have h2 : s2.pins = s1.pins := pins_foldl (fun s e => by simp (disch := grind) only [pins_ite, setRg_pins, ite_self]) _ s1
  have h3 : s3.pins = s2.pins := put_pins s2 _ (by grind)
  simp (disch := grind) only [pins_ite, putBit_pins, h3, h2, h1, ite_self]

@[simp] theorem placeWords_pins (s : State) (l b : Nat) : (s.placeWords l b).pins = s.pins :=
  (pins_foldl (fun s _ => writeWords_pins s b _ _) _ _).trans (pins_foldl (fun s _ => writeWords_pins s b _ _) _ s)

@[simp] theorem placePrograms_pins (s : State) : s.placePrograms.pins = s.pins :=
  pins_foldl (fun s l => by simp only [pins_ite, placeTables_pins, placeWords_pins, ite_self]) _ s

/-- A register whose entries a filter lets through reads as before. -/
theorem cget_filter {α : Type} (d : Nat → α) {p : Nat × α → Bool} {a : Nat} (h : ∀ v, p (a, v) = true) (m : List (Nat × α)) :
    cget d (m.filter p) a = cget d m a := by
  induction m with
  | nil => rfl
  | cons e m ih =>
    obtain ⟨b, v⟩ := e
    by_cases hb : a = b
    · subst hb
      rw [List.filter_cons_of_pos (h v), cget, cget, if_pos rfl, if_pos rfl]
    · rw [List.filter_cons]
      split
      · rw [cget, cget, if_neg hb, if_neg hb, ih]
      · rw [cget, if_neg hb, ih]

@[simp] theorem clearTablesAll_pins (s : State) : s.clearTablesAll.pins = s.pins := by
  obtain ⟨d, ⟨i, j⟩, hf, -, hb⟩ := findReg_strap
  have h : s.clearTablesAll.rg GLB_STRAP = s.rg GLB_STRAP := by
    rw [State.rg, State.clearTablesAll, cget_filter resetValue (fun v => ?_), State.rg]
    simp only [hf, hb, Bool.not_false]
  rw [State.pins, h]
  rfl

end Sys2Proof.Machine
end

section
/-! A full START keeps the fuses (R478), and an image START the straps: the acts from the boot read to the first audio. -/

namespace Sys2Proof.Machine

/-! ## Writes parked for the amplifier (R34, R381) -/

/-- A parked write to GLB_STRAP, none of whose fields is writable, would leave what stands there. -/
def State.ParkedOff (s : State) : Prop := ∀ e ∈ s.amp.parked, e.1 = GLB_STRAP → e.2 = s.rg GLB_STRAP

/-- What stays of `s` while writes are parked. -/
structure Steady (s t : State) : Prop where
  kept : t.kept = s.kept
  strap : t.rg GLB_STRAP = s.rg GLB_STRAP
  parkedOff : s.ParkedOff → t.ParkedOff

namespace Steady

variable {s t u : State}

theorem of_pins (h : t.pins = s.pins) : Steady s t :=
  ⟨kept_of_pins h, strap_of_pins h, fun hs => by
    rw [State.ParkedOff, parked_of_pins h, strap_of_pins h]
    exact hs⟩

theorem trans (h : Steady s t) (k : Steady t u) : Steady s u :=
  ⟨k.kept.trans h.kept, k.strap.trans h.strap, fun hs => k.parkedOff (h.parkedOff hs)⟩

theorem ite {c : Prop} [Decidable c] (ht : Steady s t) (hu : Steady s u) : Steady s (if c then t else u) := by
  split
  · exact ht
  · exact hu

theorem foldl {α : Type} {f : State → α → State} (h : ∀ s x, Steady s (f s x)) (l : List α) (s : State) : Steady s (l.foldl f s) := by
  induction l generalizing s with
  | nil => exact of_pins rfl
  | cons x l ih => exact (h s x).trans (ih _)

end Steady

theorem mem_of_tget {α : Type} {m : Tbl α} {a : Nat} {v : α} (h : tget m a = some v) : (a, v) ∈ m := by
  induction m with
  | nil => cases h
  | cons e m ih =>
    obtain ⟨b, w⟩ := e
    rw [tget] at h
    split at h
    case isTrue hb =>
      cases h
      exact hb ▸ List.mem_cons_self
    · exact List.mem_cons_of_mem _ (ih h)

theorem lastWritten_strap {s : State} (h : s.ParkedOff) : s.lastWritten GLB_STRAP = s.rg GLB_STRAP := by
  unfold State.lastWritten
  cases ht : tget s.amp.parked GLB_STRAP with
  | none => rfl
  | some v => exact h _ (mem_of_tget ht) rfl

@[simp] theorem ampTouched_pins (s : State) (a cmd : Nat) : (s.ampTouched a cmd).pins = s.pins := by simp only [State.ampTouched, pins_mkAmp]

theorem park_steady (s : State) (a v : Nat) : Steady s (s.park a (imageOver (s.lastWritten a) a v)) := by
  refine ⟨rfl, rfl, fun hs e he hstrap => ?_⟩
  obtain rfl | hm := mem_cins he
  · subst hstrap
    rw [imageOver_strap, lastWritten_strap hs]
    rfl
  · exact hs e hm hstrap

theorem parkItem_steady (s : State) (sec k : Nat) : Steady s (s.parkItem sec k) :=
  .foldl (fun s _ => (park_steady s _ _).trans (.of_pins (ampTouched_pins _ _ _))) _ s

theorem writeNode_steady (s : State) (k : Nat) : Steady s (s.writeNode k) :=
  .ite (.of_pins (writePortCfg_pins s _ _)) (.ite (.of_pins (writeAddr_pins s _)) (.ite (.of_pins (writePtpCfg_pins s _))
    (.ite (parkItem_steady s _ _) (.of_pins (writeItem_pins s _ _)))))

theorem settleParked_kept (s : State) : s.settleParked.kept = s.kept :=
  foldl_keeps State.kept (f := fun s (e : Nat × Nat) => s.setRg e.1 e.2) (fun _ _ => rfl) _ _

theorem settleParked_strap {s : State} (h : s.ParkedOff) : s.settleParked.rg GLB_STRAP = s.rg GLB_STRAP := by
  have hl : ∀ (l : List (Nat × Nat)) (t : State), (∀ e ∈ l, e.1 = GLB_STRAP → e.2 = t.rg GLB_STRAP) →
      (l.foldl (fun (s : State) e => s.setRg e.1 e.2) t).rg GLB_STRAP = t.rg GLB_STRAP := by
    intro l
    induction l with
    | nil => exact fun t _ => rfl
    | cons e l ih =>
      intro t ht
      have hstep : (t.setRg e.1 e.2).rg GLB_STRAP = t.rg GLB_STRAP := by
        rw [rg_setRg]
        split
        case isTrue he => rw [ht e List.mem_cons_self he.symm, Nat.mod_eq_of_lt (rg_lt t _)]
        · rfl
      refine (ih _ fun e' he' hs => ?_).trans hstep
      rw [hstep]
      exact ht e' (List.mem_cons_of_mem _ he') hs
  exact hl _ _ h

/-! ## The tables of a configuration -/

/-- The tables the Keeper loads before the NODE items. -/
def State.loadTables (s : State) : State :=
  let c : Cfg := s.st.cfg
  let old := s
  let s := s.clearTablesAll
  let s := (c.items secPatch).foldl (fun s e => s.writeItem secPatch e.1) s
  let s := (c.items secGenerators).foldl (fun s e => s.writeItem secGenerators e.1) s
  let s := (c.items secTdm).foldl (fun s e => s.writeItem secTdm e.1) s
  let s := (c.items secDynamics).foldl (fun s e =>
    let s := s.writeItem secDynamics e.1
    let i := s.dynCfg e.1
    if DynCfg.en i then s.attachInst e.1 i else s) s
  let s := (c.items secLimiters).foldl (fun s e => s.writeItem secLimiters e.1) s
  let s := (c.items secDelay).foldl (fun s e => s.placeLine e.1 (leAt e.2 0 4)) s
  let s := s.placePrograms
  let s := ((c.items secStreams).foldl (fun s e => s.writeStream e.1) s).leaveGone old
  let s := (c.items secAmp).foldl (fun s e => s.writeItem secAmp e.1) s
  let s := (List.range 68).foldl (fun s k =>
    if k < 64 then (if (c.item secFaults k).isSome then s.writeFault k else s) else s.writeFault k) s
  let s := referenceKeys.foldl (fun s k => s.writeRefItem k) s
  let s := ((s.ptpFromRank 0).ptpFromRank 1).refsWritten
  peripheralKeys.foldl (fun s k => s.writePeripheral k) s

theorem loadAll_eq (s : State) : s.loadAll = (nodeKeys.foldl (fun s k => s.writeNode k) s.loadTables).settleParked := rfl

theorem writeItems_pins {α : Type} (sec : Nat) (key : α → Nat) (l : List α) (s : State) :
    (l.foldl (fun s e => s.writeItem sec (key e)) s).pins = s.pins := pins_foldl (fun s _ => writeItem_pins s _ _) l s

theorem loadTables_pins (s : State) : s.loadTables.pins = s.pins := by
  unfold State.loadTables
  extract_lets c old s1 s2 s3 s4 s5 s6 s7 s8 s9 s10 s11 s12 s13
  have h4 : s4.pins = s.pins := by simp only [s4, s3, s2, s1, writeItems_pins, clearTablesAll_pins]
  have h5 : s5.pins = s4.pins := pins_foldl (fun s e => by simp only [pins_ite, attachInst_pins, writeItem_pins, ite_self]) _ s4
  have h7 : s7.pins = s5.pins := (pins_foldl (fun s _ => placeLine_pins s _ _) _ s6).trans (writeItems_pins _ _ _ s5)
  have h9 : s9.pins = s7.pins := (leaveGone_pins _ _).trans ((pins_foldl (fun s _ => writeStream_pins s _) _ s8).trans (placePrograms_pins s7))
  have h10 : s10.pins = s9.pins := writeItems_pins _ _ _ s9
  have h11 : s11.pins = s10.pins := pins_foldl (fun s k => by simp only [pins_ite, writeFault_pins, ite_self]) _ s10
  have h13 : s13.pins = s11.pins := by
    simp only [s13, s12, refsWritten_pins, ptpFromRank_pins, pins_foldl writeRefItem_pins]
  rw [pins_foldl writePeripheral_pins, h13, h11, h10, h9, h7, h5, h4]

theorem loadNode_steady (s : State) : Steady s (nodeKeys.foldl (fun s k => s.writeNode k) s.loadTables) :=
  (Steady.of_pins (loadTables_pins s)).trans (.foldl writeNode_steady _ _)

theorem loadAll_kept (s : State) : s.loadAll.kept = s.kept := by
  rw [loadAll_eq, settleParked_kept, (loadNode_steady s).kept]

theorem loadAll_strap {s : State} (h : s.amp.parked = []) : s.loadAll.rg GLB_STRAP = s.rg GLB_STRAP := by
  have hoff : s.ParkedOff := by
    rw [State.ParkedOff, h]
    exact fun _ he => absurd he List.not_mem_nil
  rw [loadAll_eq, settleParked_strap ((loadNode_steady s).parkedOff hoff), (loadNode_steady s).strap]

/-! ## The store -/

@[simp] theorem showSlots_pins (s : State) : s.showSlots.pins = s.pins := by simp (disch := grind) only [State.showSlots, putBit_pins]

@[simp] theorem storeError_pins (s : State) (code a : Nat) : (s.storeError code a).pins = s.pins := by
  simp (disch := grind) only [State.storeError, setRg_pins, put_pins]

@[simp] theorem showStore_pins (s : State) : s.showStore.pins = s.pins := by
  simp (disch := grind) only [State.showStore, pins_ite, put_pins, putBit_pins, ite_self]

@[simp] theorem takeBoot_pins (s : State) (b : Boot) : (s.takeBoot b).pins = s.pins := by
  unfold State.takeBoot
  extract_lets s1 _ s2 slot s3 s4 s5 s6 s7 s8 s9 s10 s11
  have h1 : s1.pins = s.pins := pins_foldl (fun s _ => zeroMagic_pins s _) _ s
  have h2 : s2.pins = s1.pins := pins_mk s1 ..
  have h7 : s7.pins = s2.pins := by
    simp (disch := grind) only [s7, s6, s5, s4, s3, putBit_pins, showSlots_pins, put_pins, setRg_pins]
  have h8 : s8.pins = s7.pins := by
    unfold s8
    split <;> simp (disch := grind) only [pins_ite, latch_pins, bump_pins, storeError_pins, ite_self]
  have h11 : s11.pins = s8.pins := by
    simp (disch := grind) only [s11, s10, s9, pins_ite, latch_pins, showStore_pins, bump_pins, ite_self]
  simp only [pins_ite, latch_pins, h11, h8, h7, h2, h1, ite_self]

@[simp] theorem noImage_pins (s : State) : s.noImage.pins = s.pins := by
  simp (disch := grind) only [State.noImage, showStore_pins, pins_mk, List.foldl_cons, List.foldl_nil, put_pins, clearRg_pins]

@[simp] theorem showDaymark_pins (s : State) : s.showDaymark.pins = s.pins := by
  unfold State.showDaymark
  extract_lets d before t
  have ht : t.pins = s.pins := pins_foldl (fun s i => by simp (disch := grind) only [setRg_pins]) _ s
  simp only [pins_ite, notify_pins, latch_pins, ht, ite_self]

@[simp] theorem assignRelief_pins (s : State) : s.assignRelief.pins = s.pins :=
  pins_foldl (fun s b => by simp (disch := grind) only [pins_ite, put_pins, ite_self]) _ s

@[simp] theorem slotValid_pins (s : State) (slot : Nat) (b : Bool) : (s.slotValid slot b).pins = s.pins := by
  unfold State.slotValid
  split <;> simp (disch := grind) only [putBit_pins]

@[simp] theorem startCompaction_pins (s : State) (owner : Option (Nat × Nat)) : (s.startCompaction owner).pins = s.pins := by
  simp (disch := grind) only [State.startCompaction, pins_ite, showStore_pins, nextFree_pins, put_pins, pins_mk, slotValid_pins, ite_self]

@[simp] theorem fillCheck_pins (s : State) : s.fillCheck.pins = s.pins := by
  simp only [State.fillCheck, State.ownCompaction, pins_ite, startCompaction_pins, ite_self]

/-! ## The amplifier -/

@[simp] theorem showCh_pins (s : State) (m : Nat) : (s.showCh m).pins = s.pins := by
  simp (disch := grind) only [State.showCh, putBit_pins, put_pins]

@[simp] theorem ampLoaded_pins (s : State) : s.ampLoaded.pins = s.pins :=
  pins_foldl (fun s m => by simp (disch := grind) only [pins_ite, showCh_pins, put_pins, setCh_pins, ite_self]) _ s

@[simp] theorem ignoreSense_pins (s : State) : s.ignoreSense.pins = s.pins := by
  unfold State.ignoreSense
  extract_lets _ s1 s2
  have h1 : s1.pins = s.pins := pins_mkAmp s ..
  have h2 : s2.pins = s1.pins := pins_foldl (fun s m => by simp (disch := grind) only [putBit_pins]) _ s1
  refine (put_pins _ _ (by grind)).trans ((pins_foldl (fun s r => ?_) _ s2).trans (h2.trans h1))
  simp (disch := grind) only [putBit_pins]

@[simp] theorem limitFor_pins (s : State) (m : Nat) (t : Int) : (s.limitFor m t).pins = s.pins := by
  simp (disch := grind) only [State.limitFor, putBit_pins, put_pins, setCh_pins]

@[simp] theorem startLimits_pins (s : State) : s.startLimits.pins = s.pins := pins_foldl (fun s _ => limitFor_pins s _ _) _ s

@[simp] theorem resetBaselines_pins (s : State) : s.resetBaselines.pins = s.pins :=
  pins_foldl (fun s m => by simp (disch := grind) only [clearRg_pins, setCh_pins]) _ s

@[simp] theorem beaconIdentity_pins (s : State) : s.beaconIdentity.pins = s.pins := by
  unfold State.beaconIdentity
  extract_lets ll _ t
  have ht : t.pins = s.pins := pins_mk s ..
  refine (pins_foldl (fun s k => ?_) _ t).trans ht
  simp (disch := grind) only [setRg_pins]

@[simp] theorem endDiag_pins (s : State) (m result : Nat) : (s.endDiag m result).pins = s.pins := by
  unfold State.endDiag
  split
  · rfl
  · simp (disch := grind) only [pins_ite, put_pins, putBit_pins, setCh_pins, ite_self]

@[simp] theorem settleGates_pins (s : State) (m : Nat) : (s.settleGates m).pins = s.pins := by
  simp only [State.settleGates, State.gatesLow, pins_ite, setCh_pins, ite_self]

@[simp] theorem beginDiag_pins (s : State) (m : Nat) (start : Bool) (mode : Nat) : (s.beginDiag m start mode).pins = s.pins := by
  have h : (s.clearSweep m).pins = s.pins := pins_foldl (fun s k => by simp (disch := grind) only [clearRg_pins]) _ s
  simp only [State.beginDiag, showCh_pins, setCh_pins, h]

@[simp] theorem settleCh_pins (s : State) (m : Nat) : (s.settleCh m).pins = s.pins := by
  unfold State.settleCh
  extract_lets t c s1 c1 prot s2 s3
  have h1 : s1.pins = s.pins := by
    unfold s1
    split <;> simp only [pins_ite, endDiag_pins, ite_self]
  simp (disch := grind) only [pins_ite, showCh_pins, freeChans_pins, settleGates_pins, beginDiag_pins, put_pins, s3, s2,
    setCh_pins, h1, ite_self]

@[simp] theorem ampFirstAudio_pins (s : State) : s.ampFirstAudio.pins = s.pins := pins_foldl settleCh_pins _ s

/-! ## The end of a START -/

@[simp] theorem firstAudio_pins (s : State) : s.firstAudio.pins = s.pins := by
  simp only [State.firstAudio, ampFirstAudio_pins, freshMutes_pins, pins_mkNode]

@[simp] theorem announceName_pins (s : State) : s.announceName.pins = s.pins := emit_pins s _

@[simp] theorem finishStart_pins (s : State) (dest : Mode) : (s.finishStart dest).pins = s.pins := by
  unfold State.finishStart
  simp (disch := grind) only [policyPin_pins, fillCheck_pins, pins_ite, mapMuteAll_pins, firstAudio_pins, serviceMute_pins,
    announceName_pins, writeItem_pins, nextFree_pins, setRg_pins, setMode_pins, enterHold_pins, pins_mkNode, ite_self]

@[simp] theorem stepTwelve_pins (s : State) (dest : Mode) (image : Bool) : (s.stepTwelve dest image).pins = s.pins := by
  simp only [State.stepTwelve, pins_ite, finishStart_pins, pins_mkNode, ite_self]

end Sys2Proof.Machine
end

section
/-! A full START keeps the fuses, what the queue holds and its cause (R478, R479); an image START keeps the straps, SVC_BOOT among
them (R63, Table 2.2). -/

namespace Sys2Proof.Machine

/-! ## Steps 6 to 12 -/

/-- Steps 6 to 8: the boot read, and whether it found an image. -/
def State.bootRead (s : State) (full : Bool) : State × Bool :=
  let s := s.put F.STORE_GEOM_DENSITY s.st.density
  let s := s.put F.STORE_GEOM_MEDIUM s.fuses.medium
  let s := if s.st.density = 0 then s
    else ((s.putBit F.STORE_XSPI_CAL_CAL_OK true).put F.STORE_XSPI_CAL_DQS_DELAY (Config.freeWord s.free).toNat).nextFree
  let life := s.lifecycle
  let barred := full && (s.bit F.GLB_STRAP_IMG_BYPASS || life = 0 || life = 3)
  let found := if s.st.density = 0 then (none, none) else s.boot s.sealed
  match barred, found with
  | false, (some b, _) =>
    let s := if b.replay then s.setMode .replay else s
    (s.takeBoot b, true)
  | true, _ => (s, false)
  | false, (none, e) =>
    let s := match e with
      | some (k, a) =>
        let s := if k = 4 then ((s.storeError k a).bump F.SEC_CNT_SIG_FAIL).latch 52 else s.storeError k a
        if s.startTarget false = Mode.beacon then s.latch 60 else s
      | none => s
    (s, false)

/-- Steps 8 and 9 before the tables are loaded: the configuration chosen, with its image or without. -/
def State.choseCfg (s : State) (image : Bool) : State :=
  let s := if image then s
    else
      let s := (if s.st.density = 0 then s else s.showSlots).noImage
      { s with st := { s.st with cfg := beaconCfg (s.bit F.GLB_STRAP_AMP_DEFAULT) } }
  let c : Cfg := s.st.cfg
  let patch := if image && (tget c secKeeper).isSome then (Config.freeWord s.free).toNat % 65536 else 0
  let s := (s.put F.GLB_FW_VER_PATCH_VER patch).nextFree
  let s := s.showDaymark
  let s := { s with node := { s.node with role := c.role, fs96 := c.fs96 } }
  s.zeroStateAreas

/-- Steps 10 and 11: what follows the tables. -/
def State.loaded (s : State) (image : Bool) : State :=
  let s := s.assignRelief
  let s := (if s.node.role = Role.processing then s.ignoreSense else s).ampLoaded
  let s := if image then s else s.beaconIdentity
  s.resetCoil.resetBaselines.startLimits

/-- Step 12, at once or at the block boundary. -/
def State.goOn (s : State) (full : Bool) (dest : Mode) : State :=
  if full then ({ s with node := { s.node with n := 0, fresh := true, t0 := s.node.time } }).stepTwelve dest false
  else { s with node := { s.node with phase := .boundary dest } }

/-- The state in which step 12 begins. -/
def State.beforeStepTwelve (s : State) (full : Bool) : State :=
  (((s.bootRead full).1.choseCfg (s.bootRead full).2).loadAll).loaded (s.bootRead full).2

theorem loadAndGo_eq (s : State) (full : Bool) :
    s.loadAndGo full = (s.beforeStepTwelve full).goOn full ((s.beforeStepTwelve full).startTarget (s.bootRead full).2) := rfl

theorem bootRead_pins (s : State) (full : Bool) : (s.bootRead full).1.pins = s.pins := by
  unfold State.bootRead
  extract_lets s1 s2 s3 life barred found
  have h3 : s3.pins = s.pins := by
    simp (disch := grind) only [s3, s2, s1, pins_ite, nextFree_pins, put_pins, putBit_pins, ite_self]
  clear_value barred found s3
  split
  · simp only [takeBoot_pins, pins_ite, setMode_pins, h3, ite_self]
  · exact h3
  · dsimp only
    split
    · simp (disch := grind) only [pins_ite, latch_pins, bump_pins, storeError_pins, h3, ite_self]
    · exact h3

theorem choseCfg_pins (s : State) (image : Bool) : (s.choseCfg image).pins = s.pins := by
  simp (disch := grind) only [State.choseCfg, zeroStateAreas_pins, pins_mkNode, showDaymark_pins, nextFree_pins, put_pins, pins_ite,
    pins_mk, noImage_pins, showSlots_pins, ite_self]

theorem loaded_pins (s : State) (image : Bool) : (s.loaded image).pins = s.pins := by
  simp only [State.loaded, startLimits_pins, resetBaselines_pins, resetCoil_pins, pins_ite, beaconIdentity_pins, ampLoaded_pins,
    ignoreSense_pins, assignRelief_pins, ite_self]

theorem goOn_kept (s : State) (full : Bool) (dest : Mode) : (s.goOn full dest).kept = s.kept := by
  refine kept_of_pins ?_
  simp only [State.goOn, pins_ite, stepTwelve_pins, pins_mkNode, ite_self]

theorem loadAndGo_kept (s : State) (full : Bool) : (s.loadAndGo full).kept = s.kept := by
  rw [loadAndGo_eq, goOn_kept, State.beforeStepTwelve, kept_of_pins (loaded_pins _ _), loadAll_kept, kept_of_pins (choseCfg_pins _ _),
    kept_of_pins (bootRead_pins s full)]

/-- No register of the configuration is the strap register. -/
theorem beforeStepTwelve_strap {s : State} (full : Bool) (h : s.amp.parked = []) :
    (s.beforeStepTwelve full).rg GLB_STRAP = s.rg GLB_STRAP := by
  have hp := (choseCfg_pins (s.bootRead full).1 (s.bootRead full).2).trans (bootRead_pins s full)
  rw [State.beforeStepTwelve, strap_of_pins (loaded_pins _ _), loadAll_strap ((parked_of_pins hp).trans h), strap_of_pins hp]

/-! ## A full START -/

/-- What is under way stops: writes, sessions, gates. -/
def State.quiesced (s : State) : State :=
  let s := s.cutWrites
  let s := s.kmp.sessions.foldl (fun s x => s.sendKmp x.num 0x03 [0, 4, 0, 0]) s
  s.gatesStop

/-- Everything at its reset value but what a full START carries over from `old`. -/
def State.restarted (old : State) (cause : StartCause) : State :=
  let hist := old.resetHist cause
  let keep : Nat := if cause = .powerOn then 0 else old.rg SEC_ZEROIZE
  let times := match cause with
    | .powerOn | .resetN => []
    | .resetFault => old.node.uptime :: old.recentResets
    | _ => old.flt.resetTimes
  let s : State := { State.reset with
    store := old.store, fuses := old.fuses, free := old.free, out := old.out, pending := old.pending
    node := { Node.reset with
      inReset := false, cause := cause, uptime := old.node.uptime, strapPins := old.node.strapPins, grade := old.node.grade }
    flt := { Flt.reset with resetTimes := times, supplyBad := old.flt.supplyBad }
    st := { StoreSt.reset with density := old.st.density } }
  let s := (s.setRg FLT_RESET_HIST hist).setRg SEC_ZEROIZE keep
  (if old.errLow then s.emit (.errN false) else s).stopSelector old

/-- Step 1: the straps. -/
def State.readStraps (s : State) : State :=
  let p := s.node.strapPins
  let s := (s.putBit F.GLB_STRAP_AMP_DEFAULT (p.testBit 0)).putBit F.GLB_STRAP_SVC_BOOT (p.testBit 1)
  (s.putBit F.GLB_STRAP_IMG_BYPASS (p.testBit 2)).put F.GLB_STRAP_TW1_ADDR (fieldOf p 4 3)

/-- Step 2: the root PLL, and the supply monitor's latch. -/
def State.startRoot (s : State) : State :=
  let s := (((s.putBit F.CLK_STAT_ROOT_LOCK true).emit (.snsClk true)).checkRef 5).showSelector
  if s.flt.supplyBad then s.latch 56 else s

/-- Steps 3 and on: the lifecycle, where nothing halts the engine the store. -/
def State.startLife (s : State) : State :=
  let life := s.lifecycle
  let s := (s.put F.DBG_LEVEL_DEFAULT (debugDefault life)).put F.DBG_LEVEL_LEVEL (debugDefault life)
  if life = 4 then { s with node := { s.node with phase := .halted } }
  else if s.fuses.lifecycle.testBit 2 && !s.fuses.lifecycle.testBit 3 then
    { s with sec := { s.sec with erasing := true }, node := { s.node with phase := .halted } }
  else
    let s := (s.put F.GLB_FW_VER_ROM_VER (Config.freeWord s.free).toNat).nextFree
    s.loadAndGo true

theorem fullStart_eq (s : State) (cause : StartCause) :
    s.fullStart cause = ((s.quiesced.restarted cause).readStraps).startRoot.startLife := rfl

theorem quiesced_pins (s : State) : s.quiesced.pins = s.pins :=
  (gatesStop_pins _).trans ((pins_foldl (fun s _ => sendKmp_pins s _ _ _) _ _).trans (cutWrites_pins s))

theorem setRg_kept (s : State) (a v : Nat) : (s.setRg a v).kept = s.kept := rfl

theorem put_kept (s : State) (f : Fld) (v : Nat) : (s.put f v).kept = s.kept := rfl

theorem putBit_kept (s : State) (f : Fld) (b : Bool) : (s.putBit f b).kept = s.kept := rfl

theorem restarted_kept (s : State) (cause : StartCause) : (s.restarted cause).kept = (s.fuses, s.pending, true, false, cause) := by
  unfold State.restarted
  extract_lets hist keep times reset _ _ _ t u
  have ht : t.kept = (s.fuses, s.pending, true, false, cause) := rfl
  have hu : u.kept = t.kept := by simp only [u, setRg_kept]
  rw [kept_of_pins (stopSelector_pins _ s), ← ht, ← hu]
  refine kept_of_pins ?_
  simp only [pins_ite, emit_pins, ite_self]

theorem readStraps_kept (s : State) : s.readStraps.kept = s.kept := by
  simp only [State.readStraps, put_kept, putBit_kept]

theorem startRoot_kept (s : State) : s.startRoot.kept = s.kept := by
  refine kept_of_pins ?_
  simp (disch := grind) only [State.startRoot, pins_ite, latch_pins, showSelector_pins, checkRef_pins, emit_pins, putBit_pins, ite_self]

theorem startLife_kept (s : State) : s.startLife.kept = s.kept := by
  unfold State.startLife
  extract_lets life s1 _ _ s2
  have h1 : s1.kept = s.kept := by simp only [s1, put_kept]
  split
  · exact h1
  · split
    · exact h1
    · rw [loadAndGo_kept, kept_of_pins (nextFree_pins _), put_kept, h1]

/-- Settles O30: no act of a full START writes the fuses, the queue, the supply, the reset pin or the cause once they are set. -/
theorem fullStartKeepsFuses : Obligations.FullStartKeepsFuses := by
  unfold Obligations.FullStartKeepsFuses
  intro s cause
  have h : (s.fullStart cause).kept = (s.fuses, s.pending, true, false, cause) := by
    have hq : s.quiesced.kept = s.kept := kept_of_pins (quiesced_pins s)
    simp only [State.kept, Prod.mk.injEq] at hq
    rw [fullStart_eq, startLife_kept, startRoot_kept, readStraps_kept, restarted_kept, hq.1, hq.2.1]
  simpa only [State.kept, Prod.mk.injEq] using h

end Sys2Proof.Machine
end

section
/-! An image START of an engine whose strap SVC_BOOT is set goes to SERVICE (Table 2.2), not to LEAD or BEACON. -/

namespace Sys2Proof.Machine

/-! ## What an image START does before the boot read (R63) -/

@[simp] theorem abandonCompaction_pins (s : State) : s.abandonCompaction.pins = s.pins := by
  unfold State.abandonCompaction
  split
  · rfl
  · simp only [finish_pins, showStore_pins, pins_mk, zeroMagic_pins]

@[simp] theorem groupDone_pins (s : State) (g : GroupRun) (late : Bool) : (s.groupDone g late).pins = s.pins := by
  simp only [State.groupDone, notify_pins, reply_pins]

@[simp] theorem closeGroups_pins (s : State) : s.closeGroups.pins = s.pins := by
  unfold State.closeGroups
  extract_lets s1 s2
  have h1 : s1.pins = s.pins := pins_foldl (fun s _ => reply_pins s _ _ _ _ _) _ s
  have h2 : s2.pins = s1.pins := pins_foldl (fun s _ => groupDone_pins s _ _) _ s1
  rw [← h1, ← h2, pins_mk]

@[simp] theorem showBrick_pins (s : State) (b : Nat) : (s.showBrick b).pins = s.pins := by
  simp (disch := grind) only [State.showBrick, setRg_pins, put_pins, putBit_pins]

@[simp] theorem clearTables_pins (s : State) (b : Nat) : (s.clearTables b).pins = s.pins := by
  unfold State.clearTables
  extract_lets s1 s2
  have h1 : s1.pins = s.pins := pins_foldl (fun s k => by simp (disch := grind) only [clearRg_pins]) _ s
  have h2 : s2.pins = s1.pins := pins_foldl (fun s k => by simp (disch := grind) only [clearRg_pins]) _ s1
  simp (disch := grind) only [put_pins, putBit_pins, h2, h1]

@[simp] theorem showPatch_pins (s : State) : s.showPatch.pins = s.pins := by
  simp (disch := grind) only [State.showPatch, putBit_pins, put_pins]

/-- The parked writes are dropped; where there were none, nothing of the kind changes. -/
theorem ampImageStart_pins {s : State} (h : s.amp.parked = []) : s.ampImageStart.pins = s.pins := by
  unfold State.ampImageStart
  extract_lets _ t
  have ht : t.pins = s.pins := pins_of rfl rfl rfl rfl rfl rfl h.symm
  refine (pins_foldl (fun s e => ?_) _ t).trans ht
  simp (disch := grind) only [showCh_pins, pins_ite, put_pins, setCh_pins, endDiag_pins, ite_self]

theorem clearAudio_pins {s : State} (h : s.amp.parked = []) : s.clearAudio.pins = s.pins := by
  unfold State.clearAudio
  extract_lets s1 s2 _ _ s3 s4 t
  have h2 : s2.pins = s.pins := by simp only [s2, s1, firstUse_pins, zeroMem_pins, zeroStateAreas_pins]
  have h3 : s3.pins = s2.pins := pins_mk s2 ..
  have h4 : s4.pins = s3.pins := pins_foldl (fun s q => by simp (disch := grind) only [clearRg_pins]) _ s3
  have hs4 : s4.pins = s.pins := h4.trans (h3.trans h2)
  have hp : s4.amp.parked = [] := (parked_of_pins hs4).trans h
  refine (pins_foldl (fun s b => ?_) _ _).trans ?_
  · simp only [showBrick_pins, pins_ite, clearTables_pins, ite_self]
  · exact (pins_mk t ..).trans ((showPatch_pins _).trans ((ampImageStart_pins hp).trans hs4))

/-- The state in which an image START reads the store. -/
def State.imageCleared (s : State) (cause : StartCause) : State :=
  let s := { s with node := { s.node with phase := .none, cause := cause } }
  let s := if cause = .exitService && s.get F.GLB_MODE_REQ_STATUS = 1 then s.put F.GLB_MODE_REQ_STATUS 2 else s
  let s := ((s.setMode .start).masterReset 0).abandonCompaction
  let s := s.closeGroups.gatesStop.clearAudio
  s.put F.FLT_RESET_HIST_DOWNGRADED 0

theorem imageStart_eq {s : State} {cause : StartCause} (hp : s.node.phase = .imageMute cause) (hm : s.allMuted = true)
    (hw : s.st.writing = none) : effImageStart s = (s.imageCleared cause).loadAndGo false := by
  unfold effImageStart
  rw [hp]
  dsimp only
  rw [if_neg (by rw [hm, hw]; decide)]
  rfl

theorem imageCleared_strap {s : State} (cause : StartCause) (h : s.amp.parked = []) :
    (s.imageCleared cause).rg GLB_STRAP = s.rg GLB_STRAP ∧ (s.imageCleared cause).amp.parked = [] := by
  unfold State.imageCleared
  extract_lets _ t u v w
  have ht : t.rg GLB_STRAP = s.rg GLB_STRAP := rfl
  have htp : t.amp.parked = [] := h
  have hv : v.pins = t.pins := by
    simp (disch := grind) only [v, u, abandonCompaction_pins, masterReset_pins, setMode_pins, pins_ite, put_pins, ite_self]
  have hw : w.pins = t.pins := by
    have hg : (v.closeGroups.gatesStop).pins = v.pins := by simp only [gatesStop_pins, closeGroups_pins]
    exact (clearAudio_pins ((parked_of_pins (hg.trans hv)).trans htp)).trans (hg.trans hv)
  have hput : (w.put F.FLT_RESET_HIST_DOWNGRADED 0).pins = t.pins := (put_pins w 0 (by decide)).trans hw
  exact ⟨(strap_of_pins hput).trans ht, (parked_of_pins hput).trans htp⟩

/-- An image START with SVC_BOOT set waits for the block boundary to enter SERVICE. -/
theorem imageStart_toService {s : State} {cause : StartCause} (hp : s.node.phase = .imageMute cause) (hm : s.allMuted = true)
    (hw : s.st.writing = none) (hq : s.amp.parked = []) (hb : s.bit F.GLB_STRAP_SVC_BOOT = true) :
    (effImageStart s).node.phase = .boundary .service := by
  obtain ⟨hstrap, hpark⟩ := imageCleared_strap cause hq
  have hbit : ((s.imageCleared cause).beforeStepTwelve false).bit F.GLB_STRAP_SVC_BOOT = true := by
    rw [← hb, State.bit, State.get, beforeStepTwelve_strap false hpark, hstrap, State.bit, State.get]
  rw [imageStart_eq hp hm hw, loadAndGo_eq, State.startTarget, if_pos hbit, State.goOn]
  rfl

theorem settleModes_of_inTransition {s : State} (h : s.inTransition = true) : s.settleModes = s := by
  simp [State.settleModes, State.serveAsked, h]

/-- Nothing waits on an image START that goes on to the block boundary. -/
theorem imageStart_gives {s : State} (ha : s.alive = true) (h : (effImageStart s).inTransition = true) :
    Gives .imageStart s (effImageStart s) :=
  gives_runs (exec_imageStart s) ha (settleModes_of_inTransition h)

theorem node_of_gives {i : Instr} {s t u : State} (h : Gives i s t) (hu : exec i s = .next u) : u.node = t.node := by
  unfold Gives at h
  rw [h] at hu
  cases hu
  rfl

/-- SERVICE is left by EXIT_SERVICE, the outputs are mute, and SVC_BOOT is set. -/
def strappedToService : State :=
  let s := State.reset
  let t : State := { s with node := { s.node with inReset := false, mode := .service, phase := .imageMute .exitService } }
  t.putBit F.GLB_STRAP_SVC_BOOT true

/-- Refutes O33: an image START of an engine with the strap SVC_BOOT waits for the boundary to enter SERVICE, neither LEAD nor BEACON. -/
theorem not_startEventsAct : ¬ Obligations.StartEventsAct := by
  unfold Obligations.StartEventsAct
  intro h
  have hphase : strappedToService.node.phase = .imageMute .exitService := by decide
  obtain ⟨-, -, -, -, -, -, -, -, -, himage, -⟩ := h.2 strappedToService (by decide)
  obtain ⟨t, hexec, hbound, -⟩ := himage .exitService hphase (by decide) (by decide)
  have hservice : (effImageStart strappedToService).node.phase = .boundary .service :=
    imageStart_toService hphase (by decide) (by decide) (by decide) (by decide)
  have hwaits : (effImageStart strappedToService).inTransition = true := by
    rw [State.inTransition, hservice]
    rfl
  have ht : t.node.phase = .boundary .service := by
    rw [node_of_gives (imageStart_gives (by decide) hwaits) hexec, hservice]
  rw [ht] at hbound
  exact absurd hbound (by decide)

end Sys2Proof.Machine
end

section
/-! Writes to the store (R90) and what shows its state: which parts of the engine they leave as they were. -/

namespace Sys2Proof.Machine

/-! ## Records change the store alone -/

theorem progAll_only (s : State) (nor : Bool) (ws : List (Nat × List Byte)) :
    s.progAll nor ws = { s with store := (s.progAll nor ws).store } := by
  induction ws generalizing s with
  | nil => rfl
  | cons w ws ih =>
    rw [State.progAll, ih, progStore_only]

theorem writeRecs_only (ok commitLast : Bool) (rs : List (Nat × Rec)) (s : State) :
    (s.writeRecs ok commitLast rs).1 = { s with store := (s.writeRecs ok commitLast rs).1.store } := by
  induction rs generalizing s with
  | nil => rfl
  | cons e rs ih =>
    unfold State.writeRecs
    extract_lets t
    have ht : t = { s with store := t.store } := progAll_only _ _ _
    split
    · exact ht
    · split
      · exact ht
      · rw [ih, progAll_only, ht]

theorem eraseIdleHalf_only (s : State) (pos : Nat) : s.eraseIdleHalf pos = { s with store := (s.eraseIdleHalf pos).store } := by
  unfold State.eraseIdleHalf
  extract_lets half
  split <;> rfl

/-! ## Registers and groups that a compaction leaves as they were -/

theorem showStore_regsBut (s : State) : RegsBut [STORE_STAT] s s.showStore := by
  unfold State.showStore
  extract_lets a b c
  have hc : RegsBut [STORE_STAT] s c :=
    ((RegsBut.put s _ (by decide)).trans (RegsBut.putBit _ _ (by decide))).trans (RegsBut.putBit _ _ (by decide))
  exact .ite (hc.trans (.put _ _ (by decide))) hc

theorem slotValid_regsBut (s : State) (slot : Nat) (b : Bool) : RegsBut [STORE_STAT] s (s.slotValid slot b) := by
  unfold State.slotValid
  split <;> exact .putBit _ _ (by decide)

/-- A compaction that starts shows itself in STORE_STAT alone. -/
theorem startCompaction_regsBut (s : State) (owner : Option (Nat × Nat)) : RegsBut [STORE_STAT] s (s.startCompaction owner) := by
  unfold State.startCompaction
  extract_lets st1 s1 d idle a top gen minStep active s2 s3 c recs len crc placed run st4 s4 s5
  have h2 : RegsBut [STORE_STAT] s s2 := slotValid_regsBut s1 idle false
  have h3 : RegsBut [STORE_STAT] s s3 := h2.trans (.ite (.of_regs rfl) (.refl _ _))
  have h5 : RegsBut [STORE_STAT] s s5 := h3.trans (.put s4 _ (by decide))
  exact .ite (.refl _ _) (h5.trans (showStore_regsBut s5.nextFree))

theorem showStore_st (s : State) : s.showStore.st = s.st := by
  unfold State.showStore
  extract_lets a b c
  have hc : c.st = s.st := (State.putBit_st b _ _).trans ((State.putBit_st a _ _).trans (State.put_st s _ _))
  split
  · exact (State.put_st c _ _).trans hc
  · exact hc

theorem slotValid_st (s : State) (slot : Nat) (b : Bool) : (s.slotValid slot b).st = s.st := rfl

theorem startCompaction_waiting (s : State) (owner : Option (Nat × Nat)) :
    (s.startCompaction owner).st.waiting = s.st.waiting := by
  unfold State.startCompaction
  extract_lets st1 s1 d idle a top gen minStep active s2 s3 c recs len crc placed run st4 s4 s5
  have h3 : s3.st = s1.st := by
    unfold s3
    split <;> exact slotValid_st s1 idle false
  split
  · rfl
  · calc s5.nextFree.showStore.st.waiting = s5.nextFree.st.waiting := by rw [showStore_st]
      _ = s3.st.waiting := rfl
      _ = s.st.waiting := by rw [h3]

theorem fillCheck_regsBut (s : State) : RegsBut [STORE_STAT] s s.fillCheck :=
  .ite (.ite (.refl _ _) (startCompaction_regsBut s none)) (.refl _ _)

theorem fillCheck_waiting (s : State) : s.fillCheck.st.waiting = s.st.waiting := by
  unfold State.fillCheck State.ownCompaction
  split
  · split
    · rfl
    · exact startCompaction_waiting s none
  · rfl

/-! ## Once a group is written -/

theorem eraseAhead_regs (s : State) (len : Nat) : (s.eraseAhead len).regs = s.regs := by
  unfold State.eraseAhead
  split <;> rfl

theorem eraseAhead_waiting (s : State) (len : Nat) : (s.eraseAhead len).st.waiting = s.st.waiting := by
  unfold State.eraseAhead
  split <;> rfl

theorem nextGroup_of_none_waiting {s : State} (n : Nat) (h : s.st.waiting = []) : s.nextGroup n = s := by
  cases n with
  | zero => rfl
  | succ n =>
    rw [State.nextGroup, h]
    exact ite_self _

/-- With no group waiting, what follows a group's end leaves the write position where it stood. -/
theorem rg_wptr_afterGroup {s : State} (n : Nat) (h : s.st.waiting = []) :
    (((s.eraseAhead 0).showStore.fillCheck).nextGroup n).rg STORE_JRN_WPTR = s.rg STORE_JRN_WPTR := by
  have hw : ((s.eraseAhead 0).showStore.fillCheck).st.waiting = [] := by
    rw [fillCheck_waiting, showStore_st, eraseAhead_waiting, h]
  have hr : RegsBut [STORE_STAT] s ((s.eraseAhead 0).showStore.fillCheck) :=
    ((RegsBut.of_regs (eraseAhead_regs s 0)).trans (showStore_regsBut _)).trans (fillCheck_regsBut _)
  rw [nextGroup_of_none_waiting n hw]
  exact hr _ (by decide)

end Sys2Proof.Machine
end

section
/-! The write position that a committed group leaves (R106): all of the number kept for it, not its low 32 bits. -/

namespace Sys2Proof.Machine

/-- A group without records whose write position needs a bit more than STORE_JRN_WPTR has. -/
def wideGroup : GroupRun := ⟨1, 7, [], [], (0x61001C, [3, 4, 5, 6]), none, 1, 2 ^ 32, 9⟩

/-- The engine writes that group. -/
def writingWide : State :=
  let s := State.reset
  { s with node := { s.node with inReset := false }, st := { s.st with density := 1, writing := some wideGroup } }

theorem writingWide_commits : (effGroupCommitted true writingWide).rg STORE_JRN_WPTR = 2 ^ 32 := by decide

/-- Refutes O45: a group whose next position is 2^32 leaves 2^32 as the image of STORE_JRN_WPTR, where the statement has the low 32
bits, 0. (Groups placed in the journal end below its size, so the state is one that no run from reset is known to reach.) -/
theorem not_groupsCommitAndApply : ¬ Obligations.GroupsCommitAndApply := by
  unfold Obligations.GroupsCommitAndApply
  intro h
  obtain ⟨-, hgroup, -⟩ := h writingWide (by decide)
  obtain ⟨-, -, -, -, hcommit⟩ := hgroup wideGroup rfl
  obtain ⟨t, u, hexec, hst, -, hwptr, -, -, -, hload⟩ := hcommit (by decide) rfl (by decide)
  have ht : t = { (((u.eraseAhead 0).showStore.fillCheck).nextGroup 18) with pending := writingWide.pending } := hload [] (by decide)
  have hu : u.st.waiting = [] := by
    rw [hst]
    rfl
  have heff : t.rg STORE_JRN_WPTR = 2 ^ 32 := by
    rw [exec_groupCommitted, execGroupCommitted, runs_alive _ (by decide)] at hexec
    cases hexec
    exact writingWide_commits
  have hzero : t.rg STORE_JRN_WPTR = 0 := by
    rw [ht, rg_pending, rg_wptr_afterGroup 18 hu, hwptr]
    decide
  rw [heff] at hzero
  exact absurd hzero (by decide)

end Sys2Proof.Machine
end

section
/-! How a compaction ends (Table 3.10 steps 6 to 8, Table 3.11). -/

namespace Sys2Proof.Machine

/-! ## Operations on the registers and the store alone -/

/-- No other part of the engine changes but the registers and the store. -/
def RegsStoreOnly (s t : State) : Prop := t = { s with regs := t.regs, store := t.store }

namespace RegsStoreOnly

variable {s t u : State}

theorem trans (h : RegsStoreOnly s t) (k : RegsStoreOnly t u) : RegsStoreOnly s u :=
  Eq.trans k (congrArg (fun x : State => { x with regs := u.regs, store := u.store }) h)

theorem setRg (h : RegsStoreOnly s t) (a v : Nat) : RegsStoreOnly s (t.setRg a v) := h.trans rfl

theorem put (h : RegsStoreOnly s t) (f : Fld) (v : Nat) : RegsStoreOnly s (t.put f v) := h.setRg _ _

theorem putBit (h : RegsStoreOnly s t) (f : Fld) (b : Bool) : RegsStoreOnly s (t.putBit f b) := h.put f _

theorem bump (h : RegsStoreOnly s t) (f : Fld) : RegsStoreOnly s (t.bump f) := h.put f _

theorem of_store {l : List Host.Cell} (h : t = { s with store := l }) : RegsStoreOnly s t := by
  rw [h]
  rfl

theorem st (h : RegsStoreOnly s t) : t.st = s.st := by rw [h]

end RegsStoreOnly

/-! ## Going over to the new image (R111, R113) -/

/-- What the store engine remembers once the marker `m` of compaction `c` is committed. -/
def State.takeImage (s : State) (c : Compaction) (m : Nat × Rec) : State :=
  { s with
    st := { s.st with
      compaction := none, compactTries := 0, compactRetry := false
      base := mergeGroups s.st.base (s.st.journal.filter (fun r => decide (r.2.seq ≤ c.s)))
      journal := s.st.journal.filter (fun r => decide (c.s < r.2.seq)), jrnStartOfs := leAt m.2.payload 16 4 }
    flt := { s.flt with compactBad := false } }

theorem RegsStoreOnly.takeImage {s t : State} (h : RegsStoreOnly s t) (c : Compaction) (m : Nat × Rec) :
    RegsStoreOnly (s.takeImage c m) (t.takeImage c m) := congrArg (State.takeImage · c m) h

/-- The registers show the new image, and the idle anchor half is made ready. -/
def State.showImage (s : State) (c : Compaction) (m : Nat × Rec) : State :=
  let t := ((s.setRg STORE_GENERATION m.2.seq).setRg STORE_JRN_START (c.s + 1)).put F.STORE_STAT_ACTIVE_SLOT c.slot
  ((t.slotValid c.slot true).bump F.STORE_EVT_CNT_COMPACT).eraseIdleHalf m.1

theorem showImage_only (s : State) (c : Compaction) (m : Nat × Rec) : RegsStoreOnly s (s.showImage c m) := by
  unfold State.showImage State.slotValid
  have h : RegsStoreOnly s s := rfl
  exact (((((h.setRg _ _).setRg _ _).put _ _).putBit _ _).bump _).trans (.of_store (eraseIdleHalf_only _ _))

/-- Beside the generation and the journal start, the new image shows in STORE_STAT and STORE_EVT_CNT. -/
theorem showImage_regsBut (s : State) (c : Compaction) (m : Nat × Rec) : RegsBut [STORE_STAT, STORE_EVT_CNT]
    ((s.setRg STORE_GENERATION m.2.seq).setRg STORE_JRN_START (c.s + 1)) (s.showImage c m) := by
  unfold State.showImage State.bump
  extract_lets t
  have hstat : RegsBut [STORE_STAT, STORE_EVT_CNT] t (t.slotValid c.slot true) :=
    fun a ha => slotValid_regsBut t _ _ a (fun h => ha (List.mem_append_left [STORE_EVT_CNT] h))
  have herase : ∀ u : State, (u.eraseIdleHalf m.1).regs = u.regs := fun u => by rw [eraseIdleHalf_only]
  exact (((RegsBut.put _ _ (by decide)).trans hstat).trans (.put _ _ (by decide))).trans (.of_regs (herase _))

theorem rg_start_showImage (s : State) (c : Compaction) (m : Nat × Rec) :
    (s.showImage c m).rg STORE_JRN_START = (c.s + 1) % 2 ^ 64 := by
  rw [showImage_regsBut s c m _ (by decide), rg_setRg_same]

theorem rg_generation_showImage (s : State) (c : Compaction) (m : Nat × Rec) :
    (s.showImage c m).rg STORE_GENERATION = m.2.seq % 2 ^ 64 := by
  rw [showImage_regsBut s c m _ (by decide), rg_setRg_ne _ _ (by decide), rg_setRg_same]

/-! ## The cases of COMPACTION_COMMIT -/

section
variable {s : State} {c : Compaction} {ok : Bool} (hc : s.st.compaction = some c)
include hc

/-- The image's records and the marker read back, and the slot holds what R98 asks. -/
theorem effCompactionCommit_committed (hw : (s.writeRecs ok true c.recs).2 = none)
    (hslot : (s.writeRecs ok true c.recs).1.slotFault c = none)
    (hv : ((s.writeRecs ok true c.recs).1.writeRecs ok true [s.compactMarker c]).2 = none) :
    effCompactionCommit ok s =
      (((((s.writeRecs ok true c.recs).1.writeRecs ok true [s.compactMarker c]).1.takeImage c (s.compactMarker c)).showImage c
        (s.compactMarker c)).showStore.finish c.session 0x22 0 []).fillCheck := by
  simp only [effCompactionCommit, hc, hw, hslot, hv, Option.or]
  rfl

/-- A record of the image does not read back. -/
theorem effCompactionCommit_recordFails {a : Nat} (hw : (s.writeRecs ok true c.recs).2 = some a) :
    effCompactionCommit ok s = (s.writeRecs ok true c.recs).1.failCompaction c a := by
  simp only [effCompactionCommit, hc, hw, Option.or]

/-- The records read back, but the slot does not hold what R98 asks. -/
theorem effCompactionCommit_slotFails {a : Nat} (hw : (s.writeRecs ok true c.recs).2 = none)
    (hslot : (s.writeRecs ok true c.recs).1.slotFault c = some a) :
    effCompactionCommit ok s = (s.writeRecs ok true c.recs).1.failCompaction c a := by
  simp only [effCompactionCommit, hc, hw, hslot, Option.or]

/-- The marker does not read back. -/
theorem effCompactionCommit_markerFails {a : Nat} (hw : (s.writeRecs ok true c.recs).2 = none)
    (hslot : (s.writeRecs ok true c.recs).1.slotFault c = none)
    (ha : ((s.writeRecs ok true c.recs).1.writeRecs ok true [s.compactMarker c]).2 = some a) :
    effCompactionCommit ok s =
      ((s.writeRecs ok true c.recs).1.writeRecs ok true [s.compactMarker c]).1.failCompaction c a := by
  simp only [effCompactionCommit, hc, hw, hslot, ha, Option.or]

end

/-- Without a compaction nothing is committed. -/
theorem effCompactionCommit_none {s : State} (ok : Bool) (h : s.st.compaction = none) : effCompactionCommit ok s = s := by
  simp only [effCompactionCommit, h]

end Sys2Proof.Machine
end

section
/-! The last words of CODE runs and of BANKs (R174, R194), and O46. -/

namespace Sys2Proof.Machine

/-- Run `k` of logical Brick `l` is no longer under way, and the trigger entries that waited for it get their place. -/
def State.runWritten (s : State) (l k : Nat) : State :=
  { s with st := { s.st with
    codeLoads := s.st.codeLoads.filter (fun q => !(q.l == l && q.index == k))
    trigWaits := s.st.trigWaits.map (fun w => if w.l = l ∧ w.run = k then { w with due := some (s.nextPlace w.block) } else w) } }

theorem effCodeRunLoaded_none {s : State} {l k : Nat}
    (h : s.st.codeLoads.find? (fun r => r.l == l && r.index == k) = none) : effCodeRunLoaded l k s = s := by
  simp only [effCodeRunLoaded, h]

theorem effCodeRunLoaded_some {s : State} {l k : Nat} {r : CodeLoad}
    (h : s.st.codeLoads.find? (fun r => r.l == l && r.index == k) = some r) :
    effCodeRunLoaded l k s = ((s.loadWords l [(2 * k, r.bytes)]).runWritten l k).releaseLoads
      ((s.loadWords l [(2 * k, r.bytes)]).node.n.toNat + 1) := by
  simp only [effCodeRunLoaded, h]
  rfl

/-- The words of bank `b` are written. -/
def State.bankWritten (s : State) (b : BankLoad) : State :=
  { s with st := { s.st with bankLoads := s.st.bankLoads.map (fun q => if q = b then { q with written := true } else q) } }

/-- The selectors of the group that ends at `seq` get their place once the last of its words is written. -/
def State.selectorsDue (s : State) (seq : Nat) : State :=
  if s.banksWritten seq then { s with st := { s.st with bankLoads := s.st.bankLoads.map (fun q =>
    if q.applied && q.seq == seq then { q with due := some (s.nextPlace q.block) } else q) } } else s

theorem effBankSwitch_none {s : State} {l k : Nat}
    (h : s.st.bankLoads.find? (fun b => b.l == l && b.index == k && !b.written) = none) : effBankSwitch l k s = s := by
  simp only [effBankSwitch, h]

theorem effBankSwitch_some {s : State} {l k : Nat} {b : BankLoad}
    (h : s.st.bankLoads.find? (fun b => b.l == l && b.index == k && !b.written) = some b) :
    effBankSwitch l k s =
      let w := ((s.loadWords l b.words).bankWritten b).selectorsDue b.seq
      w.releaseLoads (w.node.n.toNat + 1) := by
  unfold effBankSwitch
  split
  next h' => simp [h] at h'
  next c hc =>
    cases h.symm.trans hc
    extract_lets t stl u stu w
    have hw : w = u.selectorsDue b.seq := by
      unfold w State.selectorsDue
      cases u.banksWritten b.seq <;> rfl
    exact congrArg (fun y : State => y.releaseLoads (y.node.n.toNat + 1)) hw

/-- Settles O46, case by case: what the device reads back decides how a compaction ends, and what waits decides what a load does. -/
theorem compactionsAndLoadsEnd : Obligations.CompactionsAndLoadsEnd := by
  unfold Obligations.CompactionsAndLoadsEnd
  intro s ha
  refine ⟨?_, ?_, ?_, ?_⟩
  · exact fun hc ok => gives_runs (exec_compactionCommit s) ha (effCompactionCommit_none ok hc)
  · intro c hc w m v hw hslot hv
    have heff := effCompactionCommit_committed hc hw hslot hv
    obtain ⟨t, hexec, ht⟩ := next_of_gives (gives_runs (exec_compactionCommit s) ha heff)
    have hwrites : RegsStoreOnly s v.1 :=
      RegsStoreOnly.trans (.of_store (writeRecs_only _ _ _ s)) (.of_store (writeRecs_only _ _ _ w.1))
    have hu : RegsStoreOnly (s.takeImage c m) ((v.1.takeImage c m).showImage c m) := (hwrites.takeImage c m).trans (showImage_only _ c m)
    have hst : ((v.1.takeImage c m).showImage c m).st = (s.takeImage c m).st := hu.st
    refine ⟨t, (v.1.takeImage c m).showImage c m, hexec, ht, rg_start_showImage _ c m, rg_generation_showImage _ c m,
      congrArg StoreSt.compaction hst, congrArg StoreSt.compactTries hst, congrArg StoreSt.compactRetry hst,
      congrArg StoreSt.journal hst, congrArg StoreSt.base hst, ?_⟩
    rw [hst]
    exact hu
  · intro c ok hc w v fails
    have fail {x : State} {a : Nat} (heff : effCompactionCommit ok s = x.failCompaction c a) :
        Gives (.compactionCommit ok) s (fails x a) := gives_runs (exec_compactionCommit s) ha heff
    exact ⟨fun a hw => fail (effCompactionCommit_recordFails hc hw), fun a hw hslot => fail (effCompactionCommit_slotFails hc hw hslot),
      fun a hw hslot hv => fail (effCompactionCommit_markerFails hc hw hslot hv)⟩
  · exact fun l k => ⟨fun h => gives_runs (exec_codeRunLoaded s) ha (effCodeRunLoaded_none h),
      fun r h => gives_runs (exec_codeRunLoaded s) ha (effCodeRunLoaded_some h),
      fun h => gives_runs (exec_bankSwitch s) ha (effBankSwitch_none h),
      fun b h => gives_runs (exec_bankSwitch s) ha (effBankSwitch_some h)⟩

end Sys2Proof.Machine
end

section
/-! What one bundle leaves in its context: the registers each stage of it writes and those it leaves (R159, R163 to R167). -/

namespace Sys2Proof.Machine

/-! ## Stages of a bundle -/

/-- `d` holds the registers of `c`; it may stand elsewhere in its program, with other loops and return entries. -/
def SameRegisters (c d : Ctx) : Prop := d = { c with pc := d.pc, rets := d.rets, loops := d.loops }

namespace SameRegisters

theorem refl (c : Ctx) : SameRegisters c c := rfl

theorem trans {c d e : Ctx} (h : SameRegisters c d) (k : SameRegisters d e) : SameRegisters c e := by
  unfold SameRegisters at *; rw [k, h]

theorem x {c d : Ctx} (h : SameRegisters c d) : d.x = c.x := by rw [h]
theorem a {c d : Ctx} (h : SameRegisters c d) : d.a = c.a := by rw [h]
theorem f {c d : Ctx} (h : SameRegisters c d) : d.f = c.f := by rw [h]
theorem tn {c d : Ctx} (h : SameRegisters c d) : d.tn = c.tn := by rw [h]
theorem gen {c d : Ctx} (h : SameRegisters c d) (file : GenFile) (g : Fin 8) : d.gen file g = c.gen file g := by
  rw [h]; cases file <;> rfl

end SameRegisters

/-- F as the bundle leaves it: what an MTG into F writes comes last (R164). -/
def writeF (o c : Ctx) : Move → Ctx
  | .mtgF r => { c with f := Flags.ofBits o.x[r] }
  | _ => c

@[simp] theorem writeF_x (o c : Ctx) (mv : Move) : (writeF o c mv).x = c.x := by cases mv <;> rfl
@[simp] theorem writeF_a (o c : Ctx) (mv : Move) : (writeF o c mv).a = c.a := by cases mv <;> rfl
@[simp] theorem writeF_tn (o c : Ctx) (mv : Move) : (writeF o c mv).tn = c.tn := by cases mv <;> rfl
@[simp] theorem writeF_gen (o c : Ctx) (mv : Move) (file : GenFile) (g : Fin 8) : (writeF o c mv).gen file g = c.gen file g := by
  cases mv <;> cases file <;> rfl

theorem writeF_f {o c : Ctx} {mv : Move} (h : Move.keepsF mv) : (writeF o c mv).f = c.f := by
  cases mv with
  | mtgF r => exact absurd rfl (h r)
  | _ => rfl

/-- What the move of a bundle leaves: the context, the word it stores, whether its conversion saturated. -/
def State.moveLeaves (s : State) (b : Fin 96) (c : CtxSel) (bd : Bundle) : Ctx × Option (Nat × Word32) × Bool :=
  moveEffect (s.ctxOf b c) { s.ctxOf b c with p := (agBoth (s.ctxOf b c) bd).2.2 } (s.fieldAddr b c bd .a) (s.fieldAddr b c bd .b)
    (s.fieldWord b c bd .a) (s.fieldWord b c bd .b) bd.mv

/-- What the operation then leaves: the context, whether an accumulate saturated, whether its conversion did. -/
def State.opLeaves (s : State) (b : Fin 96) (c : CtxSel) (bd : Bundle) : Ctx × Bool × Bool :=
  arith (s.ctxOf b c) (s.moveLeaves b c bd).1 (s.fieldWord b c bd .a) (s.fieldWord b c bd .b) bd.op

/-- The effect of a bundle on a context of a Brick. -/
def State.effectOf (s : State) (b : Fin 96) (c : CtxSel) (bd : Bundle) : BundleEffect :=
  bundleEffect (s.ctxOf b c) (s.fieldWord b c bd .a) (s.fieldWord b c bd .b) bd

theorem ctx_effectOf (s : State) (b : Fin 96) (c : CtxSel) (bd : Bundle) : (s.effectOf b c bd).ctx =
    (control (s.ctxOf b c) (writeF (s.ctxOf b c) (s.opLeaves b c bd).1 bd.mv) bd.op).1 := rfl

theorem ended_effectOf (s : State) (b : Fin 96) (c : CtxSel) (bd : Bundle) : (s.effectOf b c bd).ended =
    (control (s.ctxOf b c) (writeF (s.ctxOf b c) (s.opLeaves b c bd).1 bd.mv) bd.op).2.2.1 := rfl

/-- An operand is what its selector names among the words the bundle accesses. -/
theorem operand_eq_selVal (s : State) (b : Fin 96) (c : CtxSel) (bd : Bundle) (sel : Sel) :
    s.operand b c bd sel = selVal (s.ctxOf b c) (s.fieldWord b c bd .a) (s.fieldWord b c bd .b) sel := by
  cases sel with
  | x r => rfl
  | mem g => cases g <;> rfl

/-! ## Frames of the stages -/

/-- An operation writes data registers, accumulators and F alone. -/
theorem arith_frame (o c : Ctx) (ma mb : Word32) (op : BrickOp) :
    (arith o c ma mb op).1 =
      { c with x := (arith o c ma mb op).1.x, a := (arith o c ma mb op).1.a, f := (arith o c ma mb op).1.f } := by
  cases op <;> rfl

theorem arith_tn (o c : Ctx) (ma mb : Word32) (op : BrickOp) : (arith o c ma mb op).1.tn = c.tn := by
  rw [arith_frame]

theorem arith_gen (o c : Ctx) (ma mb : Word32) (op : BrickOp) (file : GenFile) (g : Fin 8) :
    (arith o c ma mb op).1.gen file g = c.gen file g := by
  rw [arith_frame]; cases file <;> rfl

theorem setX_same (c : Ctx) (d : Fin 16) (v : Word32) : (c.setX d v).x[d] = v := by simp [Ctx.setX]

theorem setX_ne (c : Ctx) {d r : Fin 16} (v : Word32) (h : d ≠ r) : (c.setX d v).x[r] = c.x[r] := by
  have : d.val ≠ r.val := fun e => h (Fin.ext e)
  simp [Ctx.setX, Vector.getElem_set_ne, this]

/-- An operation leaves every data register but its destination. -/
theorem arith_x {o c : Ctx} {ma mb : Word32} {op : BrickOp} {r : Fin 16} (h : op.dstX ≠ some r) :
    (arith o c ma mb op).1.x[r] = c.x[r] := by
  cases op with
  | alu _ d | abs d | neg d | mpyx d | ldi d | lsi d | cls d => exact setX_ne c _ fun e => h (congrArg some e)
  | _ => rfl

/-- Only MPYX converts (R132). -/
theorem arith_converts {op : BrickOp} (o c : Ctx) (ma mb : Word32)
    (h : ∀ (d : Fin 16) (al : Fin 4) (sa sb : Sel), op ≠ .mpyx d al sa sb) : (arith o c ma mb op).2.2 = false := by
  cases op with
  | mpyx d al sa sb => exact absurd rfl (h d al sa sb)
  | _ => rfl

theorem setGen_same (c : Ctx) (file : GenFile) (g : Fin 8) (v : BitVec 16) : (c.setGen file g v).gen file g = v := by
  cases file <;> simp [Ctx.setGen, Ctx.setP, Ctx.gen]

/-- A move writes data registers, generator registers and F alone. -/
theorem moveEffect_frame (o c : Ctx) (aa ab : Nat) (ma mb : Word32) (mv : Move) :
    let n := (moveEffect o c aa ab ma mb mv).1
    n = { c with x := n.x, p := n.p, b := n.b, l := n.l, f := n.f } := by
  cases mv with
  | mtg file => cases file <;> rfl
  | _ => rfl

theorem moveEffect_a (o c : Ctx) (aa ab : Nat) (ma mb : Word32) (mv : Move) : (moveEffect o c aa ab ma mb mv).1.a = c.a := by
  rw [moveEffect_frame]

theorem moveEffect_tn (o c : Ctx) (aa ab : Nat) (ma mb : Word32) (mv : Move) : (moveEffect o c aa ab ma mb mv).1.tn = c.tn := by
  rw [moveEffect_frame]

/-- No conversion changes AS (R164). -/
theorem moveEffect_asat (o c : Ctx) (aa ab : Nat) (ma mb : Word32) (mv : Move) :
    (moveEffect o c aa ab ma mb mv).1.f.asat = c.f.asat := by
  cases mv with
  | mtg file => cases file <;> rfl
  | _ => rfl

theorem sameRegisters_moved (c : Ctx) (pc : BitVec 15) (rets : List (BitVec 15)) (loops : List LoopFrame) :
    SameRegisters c { c with pc := pc, rets := rets, loops := loops } := rfl

/-- A branch, a loop or an end writes no register. -/
theorem control_registers (o c : Ctx) (op : BrickOp) : SameRegisters c (control o c op).1 := by
  unfold control
  cases op with
  | br cc rel => dsimp only; split <;> exact sameRegisters_moved _ _ _ _
  | call cc rel => dsimp only; split <;> exact sameRegisters_moved _ _ _ _
  | ret => dsimp only; split <;> exact sameRegisters_moved _ _ _ _
  | loop len n => dsimp only; split <;> exact sameRegisters_moved _ _ _ _
  | loopr len x =>
    dsimp only
    split
    · exact sameRegisters_moved _ _ _ _
    · split <;> exact sameRegisters_moved _ _ _ _
  | _ => exact sameRegisters_moved _ _ _ _

/-- END, and RET on an empty stack, clear both stacks and end the run (Table 5.9). -/
theorem control_ends {o : Ctx} (c : Ctx) {op : BrickOp} (h : op = .endp ∨ op = .ret ∧ o.rets = []) :
    control o c op = ({ c with rets := [], loops := [] }, false, true, false, false) := by
  rcases h with rfl | ⟨rfl, h⟩
  · rfl
  · obtain ⟨x, a, p, b, l, f, tn, pc, rets, loops⟩ := o
    cases h
    rfl

theorem registers_effectOf (s : State) (b : Fin 96) (c : CtxSel) (bd : Bundle) :
    SameRegisters (writeF (s.ctxOf b c) (s.opLeaves b c bd).1 bd.mv) (s.effectOf b c bd).ctx :=
  control_registers _ _ _

/-- TN stays through a bundle. -/
theorem tn_effectOf (s : State) (b : Fin 96) (c : CtxSel) (bd : Bundle) : (s.effectOf b c bd).ctx.tn = (s.ctxOf b c).tn := by
  rw [(registers_effectOf s b c bd).tn, writeF_tn, State.opLeaves, arith_tn, State.moveLeaves, moveEffect_tn]

/-- No bundle that holds to R160 writes a data register twice. -/
theorem ne_dstX_of_ok {bd : Bundle} (hok : bundleOk bd = true) {d : Fin 16} (h : bd.mv.dstX = some d) : bd.op.dstX ≠ some d := by
  intro e
  simp only [bundleOk, Bool.and_eq_true] at hok
  obtain ⟨⟨⟨⟨hdst, -⟩, -⟩, -⟩, -⟩ := hok
  simp [h, e] at hdst

end Sys2Proof.Machine
end

section
/-! An issued bundle (R136, R160): what the next state holds of its effect, whether its program goes on or ends. -/

namespace Sys2Proof.Machine

/-! ## The store and the counters of a bundle -/

/-- The word a bundle stores is written. -/
def State.withStore (s : State) (b : Nat) : Option (Nat × Word32) → State
  | some (w, v) => s.setBrickWord b w v
  | none => s

@[simp] theorem withStore_regs (s : State) (b : Nat) (w : Option (Nat × Word32)) : (s.withStore b w).regs = s.regs := by
  cases w with
  | none => rfl
  | some w => exact State.setBrickWord_regs s b w.1 w.2

/-- The store and the saturations of a bundle's effect reach memory and BRK_SAT_CNT. -/
def State.tookEffect (s : State) (b : Nat) (e : BundleEffect) : State :=
  let s1 := s.withStore b e.store
  let s2 := if e.accSat then s1.bump (F.BRK_SAT_CNT_ACC_SAT b) else s1
  if e.convSats = 0 then s2 else s2.bump (F.BRK_SAT_CNT_STORE_SAT b) e.convSats

theorem tookEffect_mem (s : State) (b : Nat) (e : BundleEffect) : (s.tookEffect b e).mem = (s.withStore b e.store).mem := by
  rw [State.tookEffect, apply_ite State.mem, State.bump_mem, ite_self, apply_ite State.mem, State.bump_mem, ite_self]

/-- A count that holds at its maximum has not passed it. -/
theorem get_eq_min (s : State) (f : Fld) : s.get f = min (2 ^ f.width - 1) (s.get f) := by
  have := get_lt s f
  omega

/-- Counting a field up leaves another field of its register. -/
theorem get_bump_disjoint (s : State) {f g : Fld} (n : Nat) (hf : f.lo + f.width ≤ 64) (ha : g.addr = f.addr)
    (h : g.lo + g.width ≤ f.lo ∨ f.lo + f.width ≤ g.lo) : (s.bump f n).get g = s.get g :=
  get_put_disjoint s _ hf ha h

/-- Two counts of one register, one counted up by one when `p`, the other by `n`, each held at its maximum. -/
theorem get_two_counts (s : State) {f g : Fld} (p : Bool) (n : Nat) (hf : f.lo + f.width ≤ 64) (hg : g.lo + g.width ≤ 64)
    (ha : g.addr = f.addr) (h : f.lo + f.width ≤ g.lo) :
    let u := if p then s.bump g else s
    let t := if n = 0 then u else u.bump f n
    t.get g = min (2 ^ g.width - 1) (s.get g + if p then 1 else 0) ∧ t.get f = min (2 ^ f.width - 1) (s.get f + n) := by
  intro u t
  have hug : u.get g = min (2 ^ g.width - 1) (s.get g + if p then 1 else 0) := by
    cases p with
    | false => exact get_eq_min s g
    | true => exact get_bump_same s g 1 hg
  have huf : u.get f = s.get f := by
    cases p with
    | false => rfl
    | true => exact get_bump_disjoint s 1 hg ha.symm (.inl h)
  by_cases hn : n = 0
  · rw [show t = u from if_pos hn, hug, huf, hn]
    exact ⟨rfl, get_eq_min s f⟩
  · rw [show t = u.bump f n from if_neg hn, get_bump_disjoint u n hf ha (.inr h), hug, get_bump_same u f n hf, huf]
    exact ⟨rfl, rfl⟩

/-- What a bundle's effect counts in BRK_SAT_CNT. -/
theorem get_satCnt_tookEffect (s : State) (b : Nat) (e : BundleEffect) :
    (s.tookEffect b e).get (F.BRK_SAT_CNT_ACC_SAT b) = min (2 ^ (F.BRK_SAT_CNT_ACC_SAT b).width - 1)
      (s.get (F.BRK_SAT_CNT_ACC_SAT b) + if e.accSat then 1 else 0) ∧
    (s.tookEffect b e).get (F.BRK_SAT_CNT_STORE_SAT b) = min (2 ^ (F.BRK_SAT_CNT_STORE_SAT b).width - 1)
      (s.get (F.BRK_SAT_CNT_STORE_SAT b) + e.convSats) := by
  have h := get_two_counts (s.withStore b e.store) (f := F.BRK_SAT_CNT_STORE_SAT b) (g := F.BRK_SAT_CNT_ACC_SAT b) e.accSat
    e.convSats (by simp) (by simp) rfl (by simp)
  rwa [get_of_regs (withStore_regs s b e.store), get_of_regs (withStore_regs s b e.store)] at h

/-! ## How the program goes on -/

section
variable {s : State} {b : Fin 96} {c : CtxSel} {bd : Bundle}

/-- A context without work takes the effect alone. -/
theorem issueBundle_idle (h : s.Issues b bd) (hw : (s.brick b.val).work c = none) : issueBundle b.val c bd s =
    (s.tookEffect b.val (s.effectOf b c bd)).setBrick b.val ((s.brick b.val).setCtx (s.effectOf b c bd).ctx c) := by
  obtain ⟨-, hs, hok⟩ := h
  simp only [issueBundle, hs, hok, if_true, Bool.false_eq_true, if_false, hw]
  rfl

/-- The run of a context's work after a bundle, and the port of its Brick. -/
def State.issued (s : State) (b : Fin 96) (c : CtxSel) (bd : Bundle) (w : Work) : Work × CPort :=
  w.issue (s.ctxOf b c) bd (s.effectOf b c bd) (s.brick b.val).port

/-- The state after a bundle of a context that has work, before the end of its program. -/
def State.issuedState (s : State) (b : Fin 96) (c : CtxSel) (bd : Bundle) (w : Work) : State :=
  (s.tookEffect b.val (s.effectOf b c bd)).setBrick b.val
    ({ (s.brick b.val).setCtx (s.effectOf b c bd).ctx c with port := (s.issued b c bd w).2 }.setWork (some (s.issued b c bd w).1) c)

theorem issueBundle_works {w : Work} (h : s.Issues b bd) (hw : (s.brick b.val).work c = some w) : issueBundle b.val c bd s =
    if (s.effectOf b c bd).ended then endProgram b.val c (s.issued b c bd w).1 (s.issuedState b c bd w)
    else s.issuedState b c bd w := by
  obtain ⟨-, hs, hok⟩ := h
  simp only [issueBundle, hs, hok, if_true, Bool.false_eq_true, if_false, hw]
  rfl

end

theorem endProgram_last {b : Nat} {c : CtxSel} {w : Work} (s : State) (h : w.rest = []) : endProgram b c w s =
    (s.setBrick b ({ s.brick b with port := { (s.brick b).port with stores := w.storeCycles } }.setWork none c)).recordCycles b c
      w.cycles := by
  simp only [endProgram, h]

theorem endProgram_next {b : Nat} {c : CtxSel} {w : Work} (s : State) {k : Nat} {rest : List Nat} (h : w.rest = k :: rest) :
    endProgram b c w s =
      s.enterEntry b c k (s.get (F.BRK_TRIG_ENTRY b k)) ((s.brick b).ctx c).tn { w with rest := rest } := by
  simp only [endProgram, h]

@[simp] theorem work_setWork (br : Brick) (w : Option Work) (c : CtxSel) : (br.setWork w c).work c = w := by cases c <;> rfl

@[simp] theorem ctx_port (br : Brick) (p : CPort) (c : CtxSel) : ({ br with port := p } : Brick).ctx c = br.ctx c := by
  cases c <;> rfl

@[simp] theorem recordCycles_brick (s : State) (b : Nat) (c : CtxSel) (n b' : Nat) :
    (s.recordCycles b c n).brick b' = s.brick b' := by
  cases c <;> rw [State.recordCycles, State.brick, State.put_bricks, State.put_bricks, State.brick]

theorem recordCycles_mem (s : State) (b : Nat) (c : CtxSel) (n : Nat) : (s.recordCycles b c n).mem = s.mem := by
  cases c <;> rw [State.recordCycles, State.put_mem, State.put_mem]

/-- The cycle registers of a Brick are not its saturation counts. -/
theorem get_recordCycles (s : State) (b : Nat) (c : CtxSel) (n : Nat) {f : Fld} (h : f.addr = BRK_SAT_CNT b) :
    (s.recordCycles b c n).get f = s.get f := by
  have hne (k : Nat) (hk : k ≠ 0x200000c) : f.addr ≠ k + 0x10000 * b := by rw [h]; unfold BRK_SAT_CNT; omega
  cases c
  · exact (get_put_ne _ _ (hne 0x2000014 (by decide))).trans (get_put_ne _ _ (hne 0x2000014 (by decide)))
  · exact (get_put_ne _ _ (hne 0x2000018 (by decide))).trans (get_put_ne _ _ (hne 0x2000018 (by decide)))

/-- The context of a Brick in which a trigger entry starts. -/
theorem ctx_enterEntry (s : State) (b : Nat) (c : CtxSel) (k entry : Nat) (tn : Word32) (w : Work) :
    ((s.enterEntry b c k entry tn w).brick b).ctx c =
      { (s.brick b).ctx c with pc := BitVec.ofNat 15 entry, tn := tn, rets := [], loops := [] } := by
  simp only [State.enterEntry, brick_setBrick, ctx_setWork, ctx_port]
  cases c <;> rfl

/-- `t` holds what a bundle leaves in `u`: the registers of context `x`, memory and the saturation counts. -/
structure HoldsEffect (u t : State) (b : Nat) (c : CtxSel) (x : Ctx) : Prop where
  registers : SameRegisters x ((t.brick b).ctx c)
  mem : t.mem = u.mem
  counts : ∀ f : Fld, f.addr = BRK_SAT_CNT b → t.get f = u.get f

/-- The end of a program keeps the registers of its context, TN among them. -/
theorem endProgram_holds {u s : State} {b : Nat} {c : CtxSel} {x : Ctx} (w : Work) (h : HoldsEffect u s b c x) :
    HoldsEffect u (endProgram b c w s) b c x := by
  cases hr : w.rest with
  | nil =>
    rw [endProgram_last s hr]
    exact ⟨by simpa using h.registers, (recordCycles_mem _ _ _ _).trans h.mem,
      fun f hf => (get_recordCycles _ _ _ _ hf).trans (h.counts f hf)⟩
  | cons k rest =>
    rw [endProgram_next s hr]
    refine ⟨h.registers.trans ?_, h.mem, h.counts⟩
    rw [ctx_enterEntry]
    rfl

/-- What the next state holds of a bundle that issues. -/
theorem issueBundle_holds {s : State} {b : Fin 96} {bd : Bundle} (c : CtxSel) (h : s.Issues b bd) :
    HoldsEffect (s.tookEffect b.val (s.effectOf b c bd)) (issueBundle b.val c bd s) b.val c (s.effectOf b c bd).ctx := by
  cases hw : (s.brick b.val).work c with
  | none =>
    rw [issueBundle_idle h hw]
    exact ⟨by rw [brick_setBrick, ctx_setCtx]; exact .refl _, rfl, fun _ _ => rfl⟩
  | some w =>
    have hs : HoldsEffect (s.tookEffect b.val (s.effectOf b c bd)) (s.issuedState b c bd w) b.val c (s.effectOf b c bd).ctx := by
      refine ⟨?_, rfl, fun _ _ => rfl⟩
      rw [State.issuedState, brick_setBrick, ctx_setWork, ctx_port, ctx_setCtx]
      exact .refl _
    rw [issueBundle_works h hw]
    split
    · exact endProgram_holds _ hs
    · exact hs

/-! ## The command of a bundle -/

/-- `t` is what a bundle leaves of `s`: its move and its operation in the registers, its store in memory, its saturations counted. -/
structure Issued (s t : State) (b : Fin 96) (c : CtxSel) (bd : Bundle) : Prop where
  registers : SameRegisters (writeF (s.ctxOf b c) (s.opLeaves b c bd).1 bd.mv) (t.ctxOf b c)
  mem : t.mem = (s.withStore b.val (s.moveLeaves b c bd).2.1).mem
  accSat : CountsAccSat s t b (s.opLeaves b c bd).2.1
  storeSat : t.get (F.BRK_SAT_CNT_STORE_SAT b.val) = min (2 ^ (F.BRK_SAT_CNT_STORE_SAT b.val).width - 1)
    (s.get (F.BRK_SAT_CNT_STORE_SAT b.val) +
      ((if (s.moveLeaves b c bd).2.2 then 1 else 0) + (if (s.opLeaves b c bd).2.2 then 1 else 0)))

/-- A Brick command whose bundle issues answers what the bundle leaves. -/
theorem next_of_issue {i : Instr} {s : State} {b : Fin 96} {c : CtxSel} {bd : Bundle}
    (he : exec i s = runs s (issueBundle b.val c bd)) (h : s.Issues b bd) : ∃ t, exec i s = .next t ∧ Issued s t b c bd := by
  obtain ⟨hregs, hmem, hcounts⟩ := issueBundle_holds c h
  refine ⟨_, he.trans (runs_alive _ h.1), (registers_effectOf s b c bd).trans hregs, hmem.trans (tookEffect_mem _ _ _), ?_, ?_⟩
  · exact (hcounts _ rfl).trans (get_satCnt_tookEffect _ _ _).1
  · exact (hcounts _ rfl).trans (get_satCnt_tookEffect _ _ _).2

end Sys2Proof.Machine
end

section
/-! The accumulator operations (R128, R129, R163): the exact result limited to 80 bits, its flags and its count. -/

namespace Sys2Proof.Machine

/-! ## One write of an accumulator -/

theorem accSatW_saturates (c : Ctx) (k : Fin 4) (v : Int) : (accSatW c k v).2 = decide (sat80 v ≠ v) := by
  by_cases h : sat80 v = v <;> simp [accSatW, h]

/-- An accumulate takes the value limited to 80 bits and shows in V and AS whether it was (R129). -/
theorem accSatW_takes {o c : Ctx} (ha : c.a = o.a) (hf : c.f.asat = o.f.asat) (mv : Move) (k : Fin 4) (v : Int) :
    AccTakes o (accSatW c k v).1 mv k (sat80 v) (decide (sat80 v ≠ v)) := by
  refine ⟨?_, fun j hj => ?_, fun _ => ⟨⟨rfl, rfl, accSatW_saturates c k v⟩, ?_⟩⟩
  · simp [accSatW, Ctx.setA]
  · have hkj : k.val ≠ j.val := fun e => hj (Fin.ext e.symm)
    simp [accSatW, Ctx.setA, Vector.getElem_set_ne, hkj, ha]
  · show (c.f.asat || (accSatW c k v).2) = _
    rw [hf, accSatW_saturates]

theorem sat80_of_fits {v : Int} (hl : -2 ^ 79 ≤ v) (hh : v < 2 ^ 79) : sat80 v = v :=
  satTo_of_mem hl (by omega)

/-- A value within the accumulator's range is written alike by an accumulate and by an operation that cannot saturate. -/
theorem accPlain_eq_accSatW (c : Ctx) (k : Fin 4) {v : Int} (hl : -2 ^ 79 ≤ v) (hh : v < 2 ^ 79) : accPlain c k v = accSatW c k v := by
  have hv : (BitVec.ofInt 80 v).toInt = v := BitVec.toInt_ofInt_eq_self (by decide) hl hh
  simp [accPlain, accSatW, sat80_of_fits hl hh, Flags.accum, Flags.result, hv]

/-- What an accumulator holds, and F where the move leaves it to the operation, is all that `AccTakes` speaks of. -/
theorem AccTakes.congr {o m n : Ctx} {mv : Move} {k : Fin 4} {v : Int} {sat : Bool} (h : AccTakes o m mv k v sat) (ha : n.a = m.a)
    (hf : Move.keepsF mv → n.f = m.f) : AccTakes o n mv k v sat := by
  obtain ⟨hk, hj, hF⟩ := h
  exact ⟨ha ▸ hk, ha ▸ hj, fun hm => hf hm ▸ hF hm⟩

/-! ## The commands -/

section
variable {i : Instr} {s : State} {b : Fin 96} {c : CtxSel} {bd : Bundle} {k : Fin 4} {v : Int}

/-- The operation of a bundle writes the exact value `v` into accumulator `k`, by `write`. -/
def State.WritesAcc (s : State) (b : Fin 96) (c : CtxSel) (bd : Bundle) (write : Ctx → Fin 4 → Int → Ctx × Bool) (k : Fin 4)
    (v : Int) : Prop :=
  s.opLeaves b c bd = ((write (s.moveLeaves b c bd).1 k v).1, (write (s.moveLeaves b c bd).1 k v).2, false)

theorem writesAcc_of_plain (hl : -2 ^ 79 ≤ v) (hh : v < 2 ^ 79) (h : s.WritesAcc b c bd accPlain k v) :
    s.WritesAcc b c bd accSatW k v := by
  rw [State.WritesAcc, h, accPlain_eq_accSatW _ k hl hh]

/-- A command whose operation accumulates `v` leaves it in the accumulator limited to 80 bits. -/
theorem next_of_accumulates (hop : s.WritesAcc b c bd accSatW k v) (he : exec i s = runs s (issueBundle b.val c bd)) (h : s.Issues b bd) :
    ∃ t, exec i s = .next t ∧ AccTakes (s.ctxOf b c) (t.ctxOf b c) bd.mv k (sat80 v) (decide (sat80 v ≠ v)) ∧
      CountsAccSat s t b (decide (sat80 v ≠ v)) := by
  obtain ⟨t, hex, hregs, -, hcount, -⟩ := next_of_issue he h
  have ha : (s.moveLeaves b c bd).1.a = (s.ctxOf b c).a := moveEffect_a ..
  have hs : (s.moveLeaves b c bd).1.f.asat = (s.ctxOf b c).f.asat := moveEffect_asat ..
  refine ⟨t, hex, (accSatW_takes ha hs bd.mv k v).congr ?_ fun hmv => ?_, ?_⟩
  · rw [hregs.a, writeF_a, hop]
  · rw [hregs.f, writeF_f hmv, hop]
  · rwa [hop, accSatW_saturates] at hcount

/-- A command whose operation leaves a value of the range leaves it exact. -/
theorem next_of_loads (hl : -2 ^ 79 ≤ v) (hh : v < 2 ^ 79) (hop : s.WritesAcc b c bd accPlain k v)
    (he : exec i s = runs s (issueBundle b.val c bd)) (h : s.Issues b bd) :
    -2 ^ 79 ≤ v ∧ v < 2 ^ 79 ∧ ∃ t, exec i s = .next t ∧ AccTakes (s.ctxOf b c) (t.ctxOf b c) bd.mv k v false ∧
      CountsAccSat s t b false := by
  have ht := next_of_accumulates (writesAcc_of_plain hl hh hop) he h
  rw [sat80_of_fits hl hh, show decide (v ≠ v) = false by simp] at ht
  exact ⟨hl, hh, ht⟩

end

/-! ## The values that stay within the range -/

/-- R128: an aligned product has at most 66 bits. -/
theorem alignedProduct_range (x y : Word32) (al : Fin 4) : -2 ^ 65 ≤ alignedProduct x y al ∧ alignedProduct x y al ≤ 2 ^ 65 := by
  have hx := BitVec.two_mul_toInt_lt (x := x)
  have hx' := BitVec.le_two_mul_toInt (x := x)
  have hy := BitVec.two_mul_toInt_lt (x := y)
  have hy' := BitVec.le_two_mul_toInt (x := y)
  have hxy : |x.toInt * y.toInt| ≤ 2 ^ 31 * 2 ^ 31 := by
    rw [abs_mul]
    exact mul_le_mul (abs_le.2 ⟨by omega, by omega⟩) (abs_le.2 ⟨by omega, by omega⟩) (abs_nonneg _) (by norm_num)
  have hal : (2 : Int) ^ al.val ≤ 2 ^ 3 := pow_le_pow_right₀ (by norm_num) (by omega)
  have h : |alignedProduct x y al| ≤ 2 ^ 62 * 2 ^ 3 := by
    rw [alignedProduct, abs_mul, abs_of_pos (pow_pos (by norm_num : (0 : Int) < 2) _)]
    exact mul_le_mul (hxy.trans (by norm_num)) hal (by positivity) (by norm_num)
  obtain ⟨h1, h2⟩ := abs_le.1 h
  exact ⟨by omega, by omega⟩

theorem acc_range (a : Acc) : -2 ^ 79 ≤ a.toInt ∧ a.toInt < 2 ^ 79 :=
  ⟨BitVec.le_toInt a, BitVec.toInt_lt⟩

/-- A shift to the right stays within the range. -/
theorem acc_shiftRight_range (a : Acc) (n : Nat) : -2 ^ 79 ≤ a.toInt / 2 ^ n ∧ a.toInt / 2 ^ n < 2 ^ 79 := by
  obtain ⟨hl, hh⟩ := acc_range a
  have hp : (0 : Int) < 2 ^ n := by positivity
  constructor
  · rw [Int.le_ediv_iff_mul_le hp]
    nlinarith
  · rw [Int.ediv_lt_iff_lt_mul hp]
    nlinarith

/-- The value ALDX writes. -/
theorem word_aligned_range (x : Word32) : -2 ^ 79 ≤ x.toInt * 2 ^ 32 ∧ x.toInt * 2 ^ 32 < 2 ^ 79 := by
  have hl := BitVec.le_toInt x
  have hh := BitVec.toInt_lt (x := x)
  omega

/-- The value ARES puts together is one of 80 bits. -/
theorem restored_range (x m h : Word32) :
    -2 ^ 79 ≤ ((h.truncate 16 : BitVec 16).toInt * 2 ^ 64 + m.toNat * 2 ^ 32 + x.toNat : Int) ∧
      ((h.truncate 16 : BitVec 16).toInt * 2 ^ 64 + m.toNat * 2 ^ 32 + x.toNat : Int) < 2 ^ 79 := by
  have hl := BitVec.le_toInt (h.truncate 16 : BitVec 16)
  have hh := BitVec.toInt_lt (x := (h.truncate 16 : BitVec 16))
  have hm := m.isLt
  have hx := x.isLt
  omega

/-! ## Products -/

section
variable (s : State) (b : Fin 96) (c : CtxSel) (aga agb : AgField) (mv : Move) (k al : Fin 4) (sa sb : Sel)

/-- The exact product of a bundle's operands, aligned (R128). -/
def State.product (s : State) (b : Fin 96) (c : CtxSel) (bd : Bundle) (al : Fin 4) (sa sb : Sel) : Int :=
  (s.operand b c bd sa).toInt * (s.operand b c bd sb).toInt * 2 ^ al.val

theorem product_eq_aligned (bd : Bundle) : s.product b c bd al sa sb =
    alignedProduct (selVal (s.ctxOf b c) (s.fieldWord b c bd .a) (s.fieldWord b c bd .b) sa)
      (selVal (s.ctxOf b c) (s.fieldWord b c bd .a) (s.fieldWord b c bd .b) sb) al := by
  rw [State.product, operand_eq_selVal, operand_eq_selVal]
  rfl

theorem product_range (bd : Bundle) : -2 ^ 65 ≤ s.product b c bd al sa sb ∧ s.product b c bd al sa sb ≤ 2 ^ 65 := by
  rw [product_eq_aligned]
  exact alignedProduct_range _ _ _

theorem writesAcc_mac : s.WritesAcc b c ⟨.mac k al sa sb, aga, agb, mv⟩ accSatW k
    ((s.ctxOf b c).a[k].toInt + s.product b c ⟨.mac k al sa sb, aga, agb, mv⟩ al sa sb) := by
  rw [product_eq_aligned]
  rfl

theorem writesAcc_msu : s.WritesAcc b c ⟨.msu k al sa sb, aga, agb, mv⟩ accSatW k
    ((s.ctxOf b c).a[k].toInt - s.product b c ⟨.msu k al sa sb, aga, agb, mv⟩ al sa sb) := by
  rw [product_eq_aligned]
  rfl

theorem writesAcc_mpy : s.WritesAcc b c ⟨.mpy k al sa sb, aga, agb, mv⟩ accPlain k
    (s.product b c ⟨.mpy k al sa sb, aga, agb, mv⟩ al sa sb) := by
  rw [product_eq_aligned]
  rfl

theorem writesAcc_mpn : s.WritesAcc b c ⟨.mpn k al sa sb, aga, agb, mv⟩ accPlain k
    (-s.product b c ⟨.mpn k al sa sb, aga, agb, mv⟩ al sa sb) := by
  rw [product_eq_aligned]
  rfl

/-- A product, and its negative, fit the accumulator. -/
theorem product_fits (bd : Bundle) : -2 ^ 79 ≤ s.product b c bd al sa sb ∧ s.product b c bd al sa sb < 2 ^ 79 ∧
    -2 ^ 79 ≤ -s.product b c bd al sa sb ∧ -s.product b c bd al sa sb < 2 ^ 79 := by
  obtain ⟨hl, hh⟩ := product_range s b c al sa sb bd
  omega

end

/-! ## O6 and O7 -/

/-- Settles O6: each operation accumulates its exact result, a product being one that fits. -/
theorem accumulatesSaturate : Obligations.AccumulatesSaturate := by
  unfold Obligations.AccumulatesSaturate
  intro s sl k j b c o bd gives
  refine ⟨fun al sa sb => ⟨?_, ?_, ?_, ?_⟩, ?_, ?_, ?_, ?_, fun sh => ?_⟩
  · exact next_of_accumulates (writesAcc_mac s b c sl.aga sl.agb sl.mv k al sa sb) (exec_mac s)
  · exact next_of_accumulates (writesAcc_msu s b c sl.aga sl.agb sl.mv k al sa sb) (exec_msu s)
  · obtain ⟨hl, hh, -, -⟩ := product_fits s b c al sa sb (bd (.mpy k al sa sb))
    exact next_of_accumulates (writesAcc_of_plain hl hh (writesAcc_mpy s b c sl.aga sl.agb sl.mv k al sa sb)) (exec_mpy s)
  · obtain ⟨-, -, hl, hh⟩ := product_fits s b c al sa sb (bd (.mpn k al sa sb))
    exact next_of_accumulates (writesAcc_of_plain hl hh (writesAcc_mpn s b c sl.aga sl.agb sl.mv k al sa sb)) (exec_mpn s)
  · exact next_of_accumulates (bd := bd (.aadd k j)) rfl (exec_aadd s)
  · exact next_of_accumulates (bd := bd (.asub k j)) rfl (exec_asub s)
  · exact next_of_accumulates (bd := bd (.aneg k j)) rfl (exec_aneg s)
  · exact next_of_accumulates (bd := bd (.aabs k j)) rfl (exec_aabs s)
  · exact next_of_accumulates (bd := bd (.ashl k j sh)) rfl (exec_ashl s)

/-- Settles O7: each value of Table 5.7 that these operations write fits the accumulator. -/
theorem accumulatorLoadsAreExact : Obligations.AccumulatorLoadsAreExact := by
  unfold Obligations.AccumulatorLoadsAreExact
  intro s sl k j b c o bd gives
  refine ⟨fun al sa sb => ⟨?_, ?_⟩, ?_, ?_, fun sh => ?_, fun xl => ?_, fun xl xm xh => ?_⟩
  · obtain ⟨hl, hh, -, -⟩ := product_fits s b c al sa sb (bd (.mpy k al sa sb))
    exact next_of_loads hl hh (writesAcc_mpy s b c sl.aga sl.agb sl.mv k al sa sb) (exec_mpy s)
  · obtain ⟨-, -, hl, hh⟩ := product_fits s b c al sa sb (bd (.mpn k al sa sb))
    exact next_of_loads hl hh (writesAcc_mpn s b c sl.aga sl.agb sl.mv k al sa sb) (exec_mpn s)
  · exact next_of_loads (bd := bd (.aclr k)) (by norm_num) (by norm_num) rfl (exec_aclr s)
  · obtain ⟨hl, hh⟩ := acc_range o.a[j]
    exact next_of_loads (bd := bd (.amov k j)) hl hh rfl (exec_amov s)
  · obtain ⟨hl, hh⟩ := acc_shiftRight_range o.a[j] sh
    exact next_of_loads (bd := bd (.ashr k j sh)) hl hh rfl (exec_ashr s)
  · obtain ⟨hl, hh⟩ := word_aligned_range o.x[xl]
    exact next_of_loads (bd := bd (.aldx k xl)) hl hh rfl (exec_aldx s)
  · obtain ⟨hl, hh⟩ := restored_range o.x[xl] o.x[xm] o.x[xh]
    exact next_of_loads (bd := bd (.ares k xl xm xh)) hl hh rfl (exec_ares s)

end Sys2Proof.Machine
end

section
/-! The end of a program's run (R146, R166, Table 5.9), and O12. -/

namespace Sys2Proof.Machine

section
variable {s : State} {b : Fin 96} {c : CtxSel} {bd : Bundle}

theorem effectOf_ends (h : bd.op = .endp ∨ bd.op = .ret ∧ (s.ctxOf b c).rets = []) :
    (s.effectOf b c bd).ended = true ∧ (s.effectOf b c bd).ctx.rets = [] ∧ (s.effectOf b c bd).ctx.loops = [] := by
  rw [ended_effectOf, ctx_effectOf, control_ends _ h]
  exact ⟨rfl, rfl, rfl⟩

/-- The registers of a bundle's counters aside, the register file stays. -/
theorem rg_tookEffect (s : State) {b a : Nat} (e : BundleEffect) (h : a ≠ BRK_SAT_CNT b) : (s.tookEffect b e).rg a = s.rg a := by
  have hbump (u : State) (f : Fld) (n : Nat) (hf : f.addr = BRK_SAT_CNT b) : (u.bump f n).rg a = u.rg a := rg_put_ne u _ (hf ▸ h)
  have hstore : (s.withStore b e.store).rg a = s.rg a := rg_of_regs (withStore_regs s b e.store) a
  rw [State.tookEffect, apply_ite (fun u : State => u.rg a), hbump _ _ _ rfl, ite_self, apply_ite (fun u : State => u.rg a),
    hbump _ _ _ rfl, ite_self, hstore]

theorem get_trigEntry_issuedState (w : Work) (k : Nat) :
    (s.issuedState b c bd w).get (F.BRK_TRIG_ENTRY b.val k) = s.get (F.BRK_TRIG_ENTRY b.val k) := by
  have hrg := rg_tookEffect s (b := b.val) (s.effectOf b c bd) (show BRK_TRIG b.val k ≠ BRK_SAT_CNT b.val by
    unfold BRK_TRIG BRK_SAT_CNT; omega)
  exact congrArg (fieldOf · 0 15) hrg

/-- A bundle that ends its program, in a context that has work: the program ends after what the bundle leaves. -/
theorem issueBundle_ends {w : Work} (h : s.Issues b bd) (hw : (s.brick b.val).work c = some w)
    (hend : (s.effectOf b c bd).ended = true) :
    issueBundle b.val c bd s = endProgram b.val c (s.issued b c bd w).1 (s.issuedState b c bd w) := by
  rw [issueBundle_works h hw, if_pos hend]

theorem ctx_issuedState (w : Work) : ((s.issuedState b c bd w).brick b.val).ctx c = (s.effectOf b c bd).ctx := by
  rw [State.issuedState, brick_setBrick, ctx_setWork, ctx_port, ctx_setCtx]

/-- The context in which a program has ended: both stacks clear, TN as it was. -/
theorem ctx_endProgram (s : State) (b : Nat) (c : CtxSel) (w : Work) (hr : ((s.brick b).ctx c).rets = [])
    (hl : ((s.brick b).ctx c).loops = []) :
    (((endProgram b c w s).brick b).ctx c).rets = [] ∧ (((endProgram b c w s).brick b).ctx c).loops = [] ∧
      (((endProgram b c w s).brick b).ctx c).tn = ((s.brick b).ctx c).tn := by
  cases hw : w.rest with
  | nil =>
    rw [endProgram_last s hw, recordCycles_brick, brick_setBrick, ctx_setWork, ctx_port]
    exact ⟨hr, hl, rfl⟩
  | cons k rest =>
    rw [endProgram_next s hw, ctx_enterEntry]
    exact ⟨rfl, rfl, rfl⟩

/-- When no entry of the trigger is left, the context's work is done. -/
theorem work_endProgram_last (s : State) (b : Nat) (c : CtxSel) {w : Work} (h : w.rest = []) :
    ((endProgram b c w s).brick b).work c = none := by
  rw [endProgram_last s h, recordCycles_brick, brick_setBrick, work_setWork]

/-- Else the next entry starts at its ENTRY, with the entries after it left. -/
theorem endProgram_starts (s : State) (b : Nat) (c : CtxSel) {w : Work} {k : Nat} {rest : List Nat} (h : w.rest = k :: rest) :
    (((endProgram b c w s).brick b).ctx c).pc = BitVec.ofNat 15 (s.get (F.BRK_TRIG_ENTRY b k)) ∧
      ∃ w', ((endProgram b c w s).brick b).work c = some w' ∧ w'.rest = rest := by
  rw [endProgram_next s h, ctx_enterEntry, State.enterEntry, brick_setBrick, work_setWork]
  exact ⟨rfl, _, rfl, rfl⟩

/-- The end of a run, for a context without work and for one whose trigger has no entry or a further entry left. -/
theorem issueBundle_endsRun (h : s.Issues b bd) (hop : bd.op = .endp ∨ bd.op = .ret ∧ (s.ctxOf b c).rets = []) :
    let u := issueBundle b.val c bd s
    (u.ctxOf b c).rets = [] ∧ (u.ctxOf b c).loops = [] ∧ (u.ctxOf b c).tn = (s.ctxOf b c).tn ∧
      (∀ w, (s.brick b.val).work c = some w → w.rest = [] → (u.brick b.val).work c = none) ∧
      ∀ w k rest, (s.brick b.val).work c = some w → w.rest = k :: rest →
        (u.ctxOf b c).pc = BitVec.ofNat 15 (s.get (F.BRK_TRIG_ENTRY b.val k)) ∧
          ∃ w', (u.brick b.val).work c = some w' ∧ w'.rest = rest := by
  intro u
  obtain ⟨hend, hrets, hloops⟩ := effectOf_ends hop
  have htn := tn_effectOf s b c bd
  cases hw : (s.brick b.val).work c with
  | none =>
    have hctx : u.ctxOf b c = (s.effectOf b c bd).ctx := by
      rw [State.ctxOf, show u = _ from issueBundle_idle h hw, brick_setBrick, ctx_setCtx]
    rw [hctx]
    exact ⟨hrets, hloops, htn, nofun, nofun⟩
  | some w =>
    have hctx := ctx_issuedState (s := s) (b := b) (c := c) (bd := bd) w
    rw [State.ctxOf, show u = _ from issueBundle_ends h hw hend]
    obtain ⟨hr, hl, ht⟩ := ctx_endProgram (s.issuedState b c bd w) b.val c (s.issued b c bd w).1 (by rw [hctx, hrets])
      (by rw [hctx, hloops])
    refine ⟨hr, hl, ht.trans ((congrArg Ctx.tn hctx).trans htn), ?_, ?_⟩
    · rintro w' ⟨⟩ hrest
      exact work_endProgram_last _ _ _ hrest
    · rintro w' k rest ⟨⟩ hrest
      rw [← get_trigEntry_issuedState (s := s) (c := c) (bd := bd) w k]
      exact endProgram_starts _ _ _ hrest

end

/-- Settles O12: END and RET on an empty stack have one effect. -/
theorem endEndsTheRun : Obligations.EndEndsTheRun := by
  unfold Obligations.EndEndsTheRun
  intro s sl i op b c o hi h
  have he : exec i s = runs s (issueBundle b.val c ⟨op, sl.aga, sl.agb, sl.mv⟩) := by
    rcases hi with ⟨rfl, rfl⟩ | ⟨rfl, rfl, -⟩
    · exact exec_end_ s
    · exact exec_ret s
  exact ⟨_, he.trans (runs_alive _ h.1), issueBundle_endsRun h (hi.imp And.right And.right)⟩

end Sys2Proof.Machine
end

section
/-! The moves of a bundle (R132, R158, R159, R164), and O13. -/

namespace Sys2Proof.Machine

section
variable {s t : State} {b : Fin 96} {c : CtxSel} {bd : Bundle}

/-- A data register the move writes holds what the move left: the operation has another destination (R160). -/
theorem Issued.moved_x (h : Issued s t b c bd) (hok : bundleOk bd = true) {d : Fin 16} (hd : bd.mv.dstX = some d) :
    (t.ctxOf b c).x[d] = (s.moveLeaves b c bd).1.x[d] := by
  rw [Fin.getElem_fin, h.registers.x, writeF_x]
  exact arith_x (ne_dstX_of_ok hok hd)

/-- A generator register holds what the move left. -/
theorem Issued.moved_gen (h : Issued s t b c bd) (file : GenFile) (g : Fin 8) :
    (t.ctxOf b c).gen file g = (s.moveLeaves b c bd).1.gen file g := by
  rw [h.registers.gen, writeF_gen, State.opLeaves, arith_gen]

/-- A bundle that stores nothing leaves memory. -/
theorem Issued.mem_of_no_store (h : Issued s t b c bd) (hst : (s.moveLeaves b c bd).2.1 = none) : t.mem = s.mem := by
  rw [h.mem, hst]
  rfl

theorem rdBytes_of_mem (h : t.mem = s.mem) (n a : Nat) : t.rdBytes n a = s.rdBytes n a := by
  induction n generalizing a with
  | zero => rfl
  | succ n ih => rw [State.rdBytes, State.rdBytes, State.rdByte, State.rdByte, h, ih]

theorem rd32_of_mem (h : t.mem = s.mem) (a : Nat) : t.rd32 a = s.rd32 a := by
  rw [State.rd32, State.rd32, rdBytes_of_mem h]

/-- The word a bundle stores reads back. -/
theorem Issued.brickWord_stored (h : Issued s t b c bd) {a : Nat} {w : Word32} (hst : (s.moveLeaves b c bd).2.1 = some (a, w)) :
    t.brickWord b.val a = w := by
  have hmem : t.mem = (s.wr32 (brickWordAddr b.val a) w).mem := by
    rw [h.mem, hst]
    exact State.setBrickWord_mem s b.val a w
  rw [State.brickWord, rd32_of_mem hmem, rd32_wr32_same]

/-- Beside an operation that converts nothing, STORE_SAT counts the move's conversion (R132). -/
theorem Issued.counts_move (h : Issued s t b c bd) (hq : ∀ (d : Fin 16) (al : Fin 4) (sa sb : Sel), bd.op ≠ .mpyx d al sa sb) :
    t.get (F.BRK_SAT_CNT_STORE_SAT b.val) = min (2 ^ (F.BRK_SAT_CNT_STORE_SAT b.val).width - 1)
      (s.get (F.BRK_SAT_CNT_STORE_SAT b.val) + (if (s.moveLeaves b c bd).2.2 then 1 else 0)) := by
  have hop : (s.opLeaves b c bd).2.2 = false := arith_converts _ _ _ _ hq
  have hcount := h.storeSat
  rwa [hop] at hcount

end

/-- Settles O13: each move's effect is read off `moveEffect`, and the rest of the bundle keeps it. -/
theorem movesMoveOldValues : Obligations.MovesMoveOldValues := by
  unfold Obligations.MovesMoveOldValues
  intro s sl b c o bd quiet counts
  refine ⟨fun d g h => ?_, fun d r h => ?_, fun r g h => ?_, fun k fmt g h => ?_, fun k fmt d h => ?_, fun file g r h => ?_,
    fun r h => ?_, fun file g d h => ?_, fun d h => ?_⟩
  · obtain ⟨t, hex, ht⟩ := next_of_issue (exec_ld s) h
    refine ⟨t, hex, (ht.moved_x h.2.2 rfl).trans ((setX_same _ _ _).trans ?_), ht.mem_of_no_store rfl⟩
    cases g <;> rfl
  · obtain ⟨t, hex, ht⟩ := next_of_issue (exec_mov s) h
    exact ⟨t, hex, (ht.moved_x h.2.2 rfl).trans (setX_same _ _ _), ht.mem_of_no_store rfl⟩
  · obtain ⟨t, hex, ht⟩ := next_of_issue (exec_st s) h
    exact ⟨t, hex, ht.brickWord_stored (by cases g <;> rfl), ht.counts_move⟩
  · obtain ⟨t, hex, ht⟩ := next_of_issue (exec_sta s) h
    exact ⟨t, hex, ht.brickWord_stored (by cases g <;> rfl), ht.counts_move⟩
  · obtain ⟨t, hex, ht⟩ := next_of_issue (exec_cvt s) h
    exact ⟨t, hex, (ht.moved_x h.2.2 rfl).trans (setX_same _ _ _), ht.counts_move, ht.mem_of_no_store rfl⟩
  · obtain ⟨t, hex, ht⟩ := next_of_issue (bd := bd (.mtg file g r)) (exec_mtg (sl := sl) (dest := .gen file g) s) h
    exact ⟨t, hex, (ht.moved_gen file g).trans ((setGen_same _ _ _ _).trans (BitVec.ofNat_toNat _ _).symm), ht.mem_of_no_store rfl⟩
  · obtain ⟨t, hex, ht⟩ := next_of_issue (bd := bd (.mtgF r)) (exec_mtg (sl := sl) (dest := .flags) s) h
    exact ⟨t, hex, ht.registers.f, ht.mem_of_no_store rfl⟩
  · obtain ⟨t, hex, ht⟩ := next_of_issue (bd := bd (.mfg file g d)) (exec_mfg (sl := sl) (fr := .gen file g) s) h
    exact ⟨t, hex, (ht.moved_x h.2.2 rfl).trans ((setX_same _ _ _).trans (BitVec.ofNat_toNat _ _).symm), ht.mem_of_no_store rfl⟩
  · obtain ⟨t, hex, ht⟩ := next_of_issue (bd := bd (.mfgTN d)) (exec_mfg (sl := sl) (fr := .tn) s) h
    exact ⟨t, hex, (ht.moved_x h.2.2 rfl).trans (setX_same _ _ _), ht.mem_of_no_store rfl⟩

end Sys2Proof.Machine
end

section
/-! Circular addresses (R145), spills and restores (R131): O16 and O17. -/

namespace Sys2Proof.Machine

/-- Settles O16: a step of at most the buffer's length passes one end of it at most, and wrap brings it back by the length. -/
theorem circularAddressesStayInTheBuffer : Obligations.CircularAddressesStayInTheBuffer := by
  unfold Obligations.CircularAddressesStayInTheBuffer
  intro p st b l hb hl hp hpb hst hbl
  have hst' : -l ≤ st ∧ st ≤ l := by omega
  have key : ∃ t : Int, (wrap p st b l : Int) = t ∧ b ≤ t ∧ t < b + l ∧ (t = p + st - l ∨ t = p + st + l ∨ t = p + st) := by
    unfold wrap
    rw [if_neg (by omega)]
    split
    · exact ⟨p + st - l, by omega⟩
    · split
      · exact ⟨p + st + l, by omega⟩
      · exact ⟨p + st, by omega⟩
  obtain ⟨t, ht, hlo, hhi, hcases⟩ := key
  rw [ht]
  refine ⟨hlo, hhi, ?_⟩
  rcases hcases with rfl | rfl | rfl
  · rw [show p + st - l - (p + st) = -l by omega, Int.neg_emod_self]
  · rw [show p + st + l - (p + st) = l by omega, Int.emod_self]
  · rw [sub_self, Int.zero_emod]

/-- The low half of the word that holds a 16-bit number is that number. -/
theorem truncate_ofInt_toInt (w : BitVec 16) : ((BitVec.ofInt 32 w.toInt).truncate 16 : BitVec 16) = w := by
  show (w.signExtend 32).setWidth 16 = w
  ext i hi
  rw [BitVec.getElem_setWidth, BitVec.getLsbD_signExtend]
  simp [hi, show i < 32 by omega]

/-- Settles O17: the three words are the top, the middle and the low digits of the accumulator in base 2^32. -/
theorem spillAndRestoreAreExact : Obligations.SpillAndRestoreAreExact := by
  unfold Obligations.SpillAndRestoreAreExact
  intro a w
  refine ⟨?_, rfl, rfl, rfl⟩
  obtain ⟨hl, hh⟩ := acc_range a
  have h0 : ((w .spill0).toNat : Int) = a.toInt % 2 ^ 32 := by
    show ((BitVec.ofInt 32 (BitVec.ofInt 32 a.toInt).toInt).toNat : Int) = _
    rw [BitVec.ofInt_toInt, BitVec.toNat_ofInt]
    omega
  have h1 : ((w .spill1).toNat : Int) = a.toInt / 2 ^ 32 % 2 ^ 32 := by
    show ((BitVec.ofInt 32 (BitVec.ofInt 32 (a.toInt / 2 ^ 32)).toInt).toNat : Int) = _
    rw [BitVec.ofInt_toInt, BitVec.toNat_ofInt]
    omega
  have h2 : ((w .spill2).truncate 16 : BitVec 16).toInt = a.toInt / 2 ^ 64 := by
    show ((BitVec.ofInt 32 (BitVec.ofInt 16 (a.toInt / 2 ^ 64)).toInt).truncate 16 : BitVec 16).toInt = _
    rw [truncate_ofInt_toInt]
    exact BitVec.toInt_ofInt_eq_self (by decide) (by omega) (by omega)
  rw [h0, h1, h2, show a.toInt / 2 ^ 64 * 2 ^ 64 + a.toInt / 2 ^ 32 % 2 ^ 32 * 2 ^ 32 + a.toInt % 2 ^ 32 = a.toInt by omega,
    BitVec.ofInt_toInt]

end Sys2Proof.Machine
end

section
/-! Bricks out of service, bundles that break R160 and overruns (R126, R151, R160): O18. -/

namespace Sys2Proof.Machine

/-- A bundle that breaks R160 runs as the bundle that does nothing. -/
theorem issueBundle_of_not_ok {bd : Bundle} (s : State) (b : Nat) (c : CtxSel) (h : bundleOk bd = false) :
    issueBundle b c bd s = issueBundle b c nopBundle s := by
  have hnop : bundleOk nopBundle = true := rfl
  simp only [issueBundle, h, hnop, if_true, Bool.false_eq_true, if_false]

theorem effBrickOverrun_idle {s : State} {b : Nat} {c : CtxSel} (h : (s.brick b).work c = none) : effBrickOverrun b c s = s := by
  simp only [effBrickOverrun, h]

theorem effBrickOverrun_fg {s : State} {b : Nat} {w : Work} (h : (s.brick b).work .fg = some w) :
    effBrickOverrun b .fg s = s.stopOverrun b .fg := by
  simp only [effBrickOverrun, h]

theorem effBrickOverrun_bg {s : State} {b : Nat} {w : Work} (h : (s.brick b).work .bg = some w) :
    effBrickOverrun b .bg s = if 2 ≤ w.age then s.stopOverrun b .bg else s := by
  simp only [effBrickOverrun, h]

/-- An overrun of a context shows in its OVR bit and counts in its BRK_OVR_CNT field. -/
def State.countOverrun (s : State) (b : Nat) : CtxSel → State
  | .fg => (s.putBit (F.BRK_STAT_OVR_FG b) true).bump (F.BRK_OVR_CNT_FG b)
  | .bg => (s.putBit (F.BRK_STAT_OVR_BG b) true).bump (F.BRK_OVR_CNT_BG b)

theorem stopOverrun_works {s : State} {b : Nat} {c : CtxSel} {w : Work} (h : (s.brick b).work c = some w) :
    s.stopOverrun b c =
      let br := ((s.brick b).setWork none c).clearStacks c
      let r := (s.setBrick b { br with ready := br.ready.filter (fun e => !w.rest.contains e.1) }).recordCycles b c w.cycles
      ((r.countOverrun b c).showBrick b).latch 2 := by
  cases c <;> simp only [State.stopOverrun, State.countOverrun, h]

/-- Settles O18: by the cases of a bundle and of an overrun. -/
theorem stoppedBricksBadBundlesAndOverruns : Obligations.StoppedBricksBadBundlesAndOverruns := by
  unfold Obligations.StoppedBricksBadBundlesAndOverruns
  refine ⟨fun s b c bd h => issueBundle_out c bd h, fun s b c bd h => issueBundle_of_not_ok s b.val c h, fun s b ha => ⟨?_, ?_, ?_⟩⟩
  · exact fun c hw => gives_runs (exec_brickOverrun s) ha (effBrickOverrun_idle hw)
  · exact fun w hw => gives_runs (exec_brickOverrun s) ha ((effBrickOverrun_fg hw).trans (stopOverrun_works hw))
  · refine fun w hw => ⟨fun hage => ?_, fun hage => ?_⟩
    · exact gives_runs (exec_brickOverrun s) ha ((effBrickOverrun_bg hw).trans ((if_pos hage).trans (stopOverrun_works hw)))
    · exact gives_runs (exec_brickOverrun s) ha ((effBrickOverrun_bg hw).trans (if_neg (by omega)))

end Sys2Proof.Machine
end

section
/-! Where a Brick stands in the engine: its memory window and its control range, and how a bundle in service goes on (R136, R168). -/

namespace Sys2Proof.Machine

/-! ## The window and the control range of a Brick (Table 1.10) -/

/-- An address in the memory window of Brick `b`. -/
def InWindow (b : Fin 96) (a : Nat) : Prop := 0x10000000 + 0x40000 * b.val ≤ a ∧ a < 0x10000000 + 0x40000 * (b.val + 1)

/-- An address in the BRICK control range of Brick `b`. -/
def InControl (b : Fin 96) (a : Nat) : Prop := 0x2000000 + 0x10000 * b.val ≤ a ∧ a < 0x2000000 + 0x10000 * (b.val + 1)

/-- The four bytes of a Brick's word lie in its window. -/
theorem inWindow_brickWord (b : Fin 96) (w : Nat) {i : Nat} (h : i < 4) : InWindow b (brickWordAddr b.val w + i) := by
  unfold InWindow brickWordAddr
  omega

/-- So does the row that holds the word. -/
theorem inWindow_row (b : Fin 96) (w : Nat) : InWindow b (8 * (brickWordAddr b.val w / 8)) := by
  unfold InWindow brickWordAddr
  omega

/-- The registers at a Brick's own offsets lie in its control range. -/
theorem inControl_offset (b : Fin 96) {k : Nat} (h : 0x2000000 ≤ k) (hk : k < 0x2010000) : InControl b (k + 0x10000 * b.val) := by
  unfold InControl
  omega

/-- Each of the 16 trigger entries (R146) lies in it. -/
theorem inControl_trig (b : Fin 96) {k : Nat} (h : k < 16) : InControl b (BRK_TRIG b.val k) := by
  unfold InControl BRK_TRIG
  omega

/-! ## Registers, bytes and Bricks that an update leaves -/

theorem brick_setBrick_ne (s : State) {b b' : Nat} (v : Brick) (h : b' ≠ b) : (s.setBrick b v).brick b' = s.brick b' := by
  rw [State.brick, tgetD, State.setBrick, tget_cins_ne _ _ h, State.brick, tgetD]

theorem rdByte_of_mem {s t : State} (h : t.mem = s.mem) (a : Nat) : t.rdByte a = s.rdByte a := by
  rw [State.rdByte, h, State.rdByte]

theorem rdByte_setBrickWord (s : State) (b w : Nat) (v : Word32) (a : Nat) :
    (s.setBrickWord b w v).rdByte a = (s.wr32 (brickWordAddr b w) v).rdByte a :=
  rdByte_of_mem (State.setBrickWord_mem s b w v) a

/-- A byte that is not one of the four of a stored word stays. -/
theorem rdByte_setBrickWord_out (s : State) (b w : Nat) (v : Word32) {a : Nat}
    (h : ¬ (brickWordAddr b w ≤ a ∧ a < brickWordAddr b w + 4)) : (s.setBrickWord b w v).rdByte a = s.rdByte a := by
  rw [rdByte_setBrickWord, State.wr32, rdByte_wrBytes_out]
  rw [leBytes_length]
  omega

/-! ## A bundle in service -/

section
variable {s : State} {b : Fin 96} {c : CtxSel} {bd : Bundle}

/-- A context without work takes the effect alone, whether the engine runs or not. -/
theorem issueBundle_inService_idle (hs : s.outOfService b.val = false) (hok : bundleOk bd = true)
    (hw : (s.brick b.val).work c = none) : issueBundle b.val c bd s =
      (s.tookEffect b.val (s.effectOf b c bd)).setBrick b.val ((s.brick b.val).setCtx (s.effectOf b c bd).ctx c) := by
  simp only [issueBundle, hs, hok, if_true, Bool.false_eq_true, if_false, hw]
  rfl

/-- The work of a context goes on, or ends its program. -/
theorem issueBundle_inService_works {w : Work} (hs : s.outOfService b.val = false) (hok : bundleOk bd = true)
    (hw : (s.brick b.val).work c = some w) : issueBundle b.val c bd s =
      if (s.effectOf b c bd).ended then endProgram b.val c (s.issued b c bd w).1 (s.issuedState b c bd w)
      else s.issuedState b c bd w := by
  simp only [issueBundle, hs, hok, if_true, Bool.false_eq_true, if_false, hw]
  rfl

end

theorem withStore_brick (s : State) (b : Nat) (w : Option (Nat × Word32)) (b' : Nat) : (s.withStore b w).brick b' = s.brick b' := by
  cases w with
  | none => rfl
  | some w => exact congrArg (tgetD · b' Brick.zero) (State.setBrickWord_bricks s b w.1 w.2)

theorem tookEffect_brick (s : State) (b : Nat) (e : BundleEffect) (b' : Nat) : (s.tookEffect b e).brick b' = s.brick b' := by
  have hbump (u : State) (f : Fld) (n : Nat) : (u.bump f n).brick b' = u.brick b' := rfl
  rw [State.tookEffect, apply_ite (State.brick · b'), hbump, ite_self, apply_ite (State.brick · b'), hbump, ite_self,
    withStore_brick]

end Sys2Proof.Machine
end

section
/-! The frame of a bundle (R132, R144, R168): its Brick, its window, its control registers, and the word it stores. O14. -/

namespace Sys2Proof.Machine

/-! ## What a context keeps of the other one -/

/-- The contexts other than `c` are the same in both, with their work. -/
def SameBeside (c : CtxSel) (v w : Brick) : Prop := ∀ c' : CtxSel, c' ≠ c → w.ctx c' = v.ctx c' ∧ w.work c' = v.work c'

namespace SameBeside

variable {c : CtxSel} {u v w : Brick}

theorem refl (c : CtxSel) (v : Brick) : SameBeside c v v := fun _ _ => ⟨rfl, rfl⟩

theorem trans (h : SameBeside c u v) (k : SameBeside c v w) : SameBeside c u w := fun c' hc =>
  ⟨(k c' hc).1.trans (h c' hc).1, (k c' hc).2.trans (h c' hc).2⟩

theorem setCtx (v : Brick) (x : Ctx) (c : CtxSel) : SameBeside c v (v.setCtx x c) := fun c' hc =>
  ⟨ctx_setCtx_ne v x hc, by cases c <;> cases c' <;> rfl⟩

theorem setWork (v : Brick) (x : Option Work) (c : CtxSel) : SameBeside c v (v.setWork x c) := fun c' hc => by
  refine ⟨ctx_setWork v x c c', ?_⟩
  cases c with
  | fg =>
    cases c' with
    | fg => exact absurd rfl hc
    | bg => rfl
  | bg =>
    cases c' with
    | fg => rfl
    | bg => exact absurd rfl hc

theorem port (c : CtxSel) (v : Brick) (p : CPort) : SameBeside c v { v with port := p } := fun c' _ => by
  cases c' <;> exact ⟨rfl, rfl⟩

theorem dispatched (c : CtxSel) (v : Brick) (k e : Nat) : SameBeside c v (v.dispatched k e) := fun c' _ => by
  cases c' <;> exact ⟨rfl, rfl⟩

end SameBeside

/-! ## The frame, step by step -/

/-- Nothing changes from `s` to `t` but context `c` of Brick `b`, its window, its control registers, and what is kept of the rows
of the window (R138, R326). -/
structure StaysInBrick (b : Fin 96) (c : CtxSel) (s t : State) : Prop where
  state : t = { s with
    regs := t.regs, mem := t.mem, bricks := t.bricks
    mortar := { s.mortar with softRows := t.mortar.softRows }, pair := { s.pair with wrote := t.pair.wrote } }
  rows : ∀ r, ¬ InWindow b (8 * r) →
    (r ∈ t.mortar.softRows ↔ r ∈ s.mortar.softRows) ∧ (8 * r ∈ t.pair.wrote ↔ 8 * r ∈ s.pair.wrote)
  bricks : ∀ b' : Nat, b' ≠ b.val → t.brick b' = s.brick b'
  beside : SameBeside c (s.brick b.val) (t.brick b.val)
  regs : ∀ a, ¬ InControl b a → t.rg a = s.rg a
  bytes : ∀ a, ¬ InWindow b a → t.rdByte a = s.rdByte a

namespace StaysInBrick

variable {b : Fin 96} {c : CtxSel} {s t u : State}

theorem refl (b : Fin 96) (c : CtxSel) (s : State) : StaysInBrick b c s s :=
  ⟨rfl, fun _ _ => ⟨.rfl, .rfl⟩, fun _ _ => rfl, .refl c _, fun _ _ => rfl, fun _ _ => rfl⟩

theorem trans (h : StaysInBrick b c s t) (k : StaysInBrick b c t u) : StaysInBrick b c s u where
  state := by rw [k.state, h.state]
  rows r hr := ⟨(k.rows r hr).1.trans (h.rows r hr).1, (k.rows r hr).2.trans (h.rows r hr).2⟩
  bricks b' hb := (k.bricks b' hb).trans (h.bricks b' hb)
  beside := h.beside.trans k.beside
  regs a ha := (k.regs a ha).trans (h.regs a ha)
  bytes a ha := (k.bytes a ha).trans (h.bytes a ha)

theorem put (s : State) {f : Fld} (v : Nat) (hf : InControl b f.addr) : StaysInBrick b c s (s.put f v) where
  state := rfl
  rows _ _ := ⟨.rfl, .rfl⟩
  bricks _ _ := rfl
  beside := .refl c _
  regs _ ha := rg_put_ne s v fun e => ha (e ▸ hf)
  bytes _ _ := rfl

theorem bump (s : State) {f : Fld} (n : Nat) (hf : InControl b f.addr) : StaysInBrick b c s (s.bump f n) := put s _ hf

theorem setBrick (s : State) {v : Brick} (h : SameBeside c (s.brick b.val) v) : StaysInBrick b c s (s.setBrick b.val v) where
  state := rfl
  rows _ _ := ⟨.rfl, .rfl⟩
  bricks _ hb := brick_setBrick_ne s v hb
  beside := by rwa [brick_setBrick]
  regs _ _ := rfl
  bytes _ _ := rfl

theorem mendRow (s : State) {a : Nat} (h : InWindow b (8 * (a / 8))) : StaysInBrick b c s (s.mendRow a) where
  state := rfl
  rows r hr := by
    have hne : r ≠ a / 8 := fun e => hr (e ▸ h)
    simp [State.mendRow, hne]
  bricks _ _ := rfl
  beside := .refl c _
  regs _ _ := rfl
  bytes _ _ := rfl

theorem noteRow (s : State) {a : Nat} (h : InWindow b (8 * (a / 8))) : StaysInBrick b c s (s.noteRow a) := by
  unfold State.noteRow
  split
  · refine ⟨rfl, fun r hr => ⟨.rfl, ?_⟩, fun _ _ => rfl, .refl c _, fun _ _ => rfl, fun _ _ => rfl⟩
    have hne : 8 * r ≠ a / 8 * 8 := fun e => hr (by rw [e, Nat.mul_comm]; exact h)
    simp [hne]
  · exact refl b c s

theorem wrByte (s : State) {a : Nat} (v : Byte) (h : InWindow b a) : StaysInBrick b c s (s.wrByte a v) where
  state := rfl
  rows _ _ := ⟨.rfl, .rfl⟩
  bricks _ _ := rfl
  beside := .refl c _
  regs _ _ := rfl
  bytes x hx := (rdByte_wrByte s a x v).trans (if_neg fun e : x = a => hx (e ▸ h))

theorem wrBytes (s : State) {a : Nat} {bs : List Byte} (h : ∀ i < bs.length, InWindow b (a + i)) :
    StaysInBrick b c s (s.wrBytes a bs) := by
  induction bs generalizing s a with
  | nil => exact refl b c s
  | cons v bs ih =>
    refine (wrByte s v (h 0 (Nat.succ_pos _))).trans (ih _ fun i hi => ?_)
    rw [Nat.add_assoc, Nat.add_comm 1]
    exact h (i + 1) (Nat.succ_lt_succ hi)

theorem setBrickWord (s : State) (w : Nat) (v : Word32) : StaysInBrick b c s (s.setBrickWord b.val w v) := by
  refine ((wrBytes s fun i hi => ?_).trans (mendRow _ (inWindow_row b w))).trans (noteRow _ (inWindow_row b w))
  exact inWindow_brickWord b w (by rwa [leBytes_length] at hi)

theorem withStore (s : State) (w : Option (Nat × Word32)) : StaysInBrick b c s (s.withStore b.val w) := by
  cases w with
  | none => exact refl b c s
  | some w => exact setBrickWord s w.1 w.2

theorem ite {p : Prop} [Decidable p] (ht : StaysInBrick b c s t) (hu : StaysInBrick b c s u) :
    StaysInBrick b c s (if p then t else u) := by
  split
  · exact ht
  · exact hu

theorem tookEffect (s : State) (e : BundleEffect) : StaysInBrick b c s (s.tookEffect b.val e) := by
  have hcnt : InControl b (BRK_SAT_CNT b.val) := inControl_offset b (by decide) (by decide)
  have hstore : StaysInBrick b c s (s.withStore b.val e.store) := withStore s e.store
  have hacc := ite (p := e.accSat) (hstore.trans (bump (f := F.BRK_SAT_CNT_ACC_SAT b.val) _ 1 hcnt)) hstore
  exact ite hacc (hacc.trans (bump (f := F.BRK_SAT_CNT_STORE_SAT b.val) _ e.convSats hcnt))

theorem recordCycles (s : State) (n : Nat) : StaysInBrick b c s (s.recordCycles b.val c n) := by
  cases c with
  | fg =>
    have h : InControl b (BRK_CYC_FG b.val) := inControl_offset b (by decide) (by decide)
    exact (put (f := F.BRK_CYC_FG_LAST b.val) s _ h).trans (put (f := F.BRK_CYC_FG_MAX b.val) _ _ h)
  | bg =>
    have h : InControl b (BRK_CYC_BG b.val) := inControl_offset b (by decide) (by decide)
    exact (put (f := F.BRK_CYC_BG_LAST b.val) s _ h).trans (put (f := F.BRK_CYC_BG_MAX b.val) _ _ h)

theorem programEnd (s : State) (w : Work) : StaysInBrick b c s (endProgram b.val c w s) := by
  cases hr : w.rest with
  | nil =>
    rw [endProgram_last s hr]
    exact (setBrick s ((SameBeside.port c _ _).trans (.setWork _ _ c))).trans (recordCycles _ _)
  | cons k rest =>
    rw [endProgram_next s hr]
    exact setBrick s ((((SameBeside.setCtx _ _ c).trans (.dispatched c _ _ _)).trans (.port c _ _)).trans (.setWork _ _ c))

/-- A Brick put after a bundle's effect has been counted. -/
theorem tookEffect_setBrick (s : State) (e : BundleEffect) {v : Brick} (h : SameBeside c (s.brick b.val) v) :
    StaysInBrick b c s ((s.tookEffect b.val e).setBrick b.val v) :=
  (tookEffect s e).trans (setBrick _ (by rwa [tookEffect_brick]))

theorem issuedState (s : State) (bd : Bundle) (w : Work) : StaysInBrick b c s (s.issuedState b c bd w) :=
  tookEffect_setBrick s _ (((SameBeside.setCtx _ _ c).trans (.port c _ _)).trans (.setWork _ _ c))

/-- A bundle that holds to R160. -/
theorem bundle_of_ok (s : State) {bd : Bundle} (hok : bundleOk bd = true) : StaysInBrick b c s (issueBundle b.val c bd s) := by
  cases hs : s.outOfService b.val with
  | true => rw [issueBundle_out c bd hs]; exact refl b c s
  | false =>
    cases hw : (s.brick b.val).work c with
    | none =>
      rw [issueBundle_inService_idle hs hok hw]
      exact tookEffect_setBrick s _ (.setCtx _ _ c)
    | some w =>
      rw [issueBundle_inService_works hs hok hw]
      exact ite ((issuedState s bd w).trans (programEnd _ _)) (issuedState s bd w)

/-- Every bundle: one that breaks R160 runs as NOP. -/
theorem bundle (s : State) (bd : Bundle) : StaysInBrick b c s (issueBundle b.val c bd s) := by
  cases hok : bundleOk bd with
  | true => exact bundle_of_ok s hok
  | false =>
    rw [issueBundle_of_not_ok s b.val c hok]
    exact bundle_of_ok s rfl

end StaysInBrick

/-! ## The stored word -/

/-- A bundle stores nothing when no store names a field. -/
theorem moveLeaves_no_store (s : State) (b : Fin 96) (c : CtxSel) {bd : Bundle} (ha : bd.stores .a = false)
    (hb : bd.stores .b = false) :
    (s.moveLeaves b c bd).2.1 = none := by
  obtain ⟨op, aga, agb, mv⟩ := bd
  cases mv with
  | st r g => cases g <;> simp [Bundle.stores] at ha hb
  | sta k fmt g => cases g <;> simp [Bundle.stores] at ha hb
  | _ => rfl

/-- A store through a field goes to the address the field gives (R144). -/
theorem moveLeaves_stores (s : State) (b : Fin 96) (c : CtxSel) {bd : Bundle} {g : Ag} (h : bd.stores g = true) :
    ∃ w, (s.moveLeaves b c bd).2.1 = some (s.fieldAddr b c bd g, w) := by
  obtain ⟨op, aga, agb, mv⟩ := bd
  cases mv with
  | st r f => obtain rfl : f = g := eq_of_beq h; cases f <;> exact ⟨_, rfl⟩
  | sta k fmt f => obtain rfl : f = g := eq_of_beq h; cases f <;> exact ⟨_, rfl⟩
  | _ => cases h

/-- Memory after a bundle: the word its move stores is written. -/
theorem mem_issueBundle {s : State} {b : Fin 96} (c : CtxSel) {bd : Bundle} (h : s.Issues b bd) :
    (issueBundle b.val c bd s).mem = (s.withStore b.val (s.moveLeaves b c bd).2.1).mem :=
  (issueBundle_holds c h).mem.trans (tookEffect_mem s b.val _)

/-- Settles O14: the frame holds of each update a bundle makes, and the bytes of memory are those its move stores. -/
theorem bundlesStayInTheirBrick : Obligations.BundlesStayInTheirBrick := by
  unfold Obligations.BundlesStayInTheirBrick
  constructor
  · rintro s t b c bd rfl
    obtain ⟨hstate, hrows, hbricks, hbeside, hregs, hbytes⟩ := StaysInBrick.bundle (b := b) (c := c) s bd
    exact ⟨hstate, hrows, fun b' hb => hbricks b'.val (Fin.val_ne_of_ne hb), hbeside, hregs, hbytes⟩
  · rintro s t b c bd h rfl
    have hmem := mem_issueBundle c h
    refine ⟨fun ha hb => ?_, fun g hg a ha => ?_⟩
    · rw [hmem, moveLeaves_no_store s b c ha hb]
      rfl
    · obtain ⟨w, hst⟩ := moveLeaves_stores s b c hg
      rw [hst] at hmem
      exact (rdByte_of_mem hmem a).trans (rdByte_setBrickWord_out s b.val _ w ha)

end Sys2Proof.Machine
end

section
/-! What a bundle sees (R143, R168): its own Brick, as long as the entries still to start are trigger entries (R146). O15. -/

namespace Sys2Proof.Machine

/-- A bundle leaves the entries still to start. -/
theorem rest_issued (s : State) (b : Fin 96) (c : CtxSel) (bd : Bundle) (w : Work) : (s.issued b c bd w).1.rest = w.rest := rfl

/-! ## Engines that agree on a Brick -/

/-- Two engines agree on Brick `b`: on its registers and work, its memory window and its control registers. -/
structure SameBrick (b : Fin 96) (s u : State) : Prop where
  brick : s.brick b.val = u.brick b.val
  bytes : ∀ a, InWindow b a → s.rdByte a = u.rdByte a
  regs : ∀ a, InControl b a → s.rg a = u.rg a

namespace SameBrick

variable {b : Fin 96} {c : CtxSel} {bd : Bundle} {s u : State}

theorem get (h : SameBrick b s u) {f : Fld} (hf : InControl b f.addr) : s.get f = u.get f := by
  rw [State.get, h.regs _ hf, State.get]

theorem put (h : SameBrick b s u) {f : Fld} (hf : InControl b f.addr) {v w : Nat} (hv : v = w) :
    SameBrick b (s.put f v) (u.put f w) where
  brick := h.brick
  bytes := h.bytes
  regs a ha := by rw [State.put, State.put, rg_setRg, rg_setRg, h.regs _ hf, h.regs _ ha, hv]

theorem bump (h : SameBrick b s u) {f : Fld} (hf : InControl b f.addr) (n : Nat) : SameBrick b (s.bump f n) (u.bump f n) :=
  h.put hf (by rw [h.get hf])

theorem setBrick (h : SameBrick b s u) {v w : Brick} (hv : v = w) : SameBrick b (s.setBrick b.val v) (u.setBrick b.val w) :=
  ⟨by rw [brick_setBrick, brick_setBrick, hv], h.bytes, h.regs⟩

theorem bytesOfWord (h : SameBrick b s u) (w : Nat) {n i : Nat} (hn : i + n ≤ 4) :
    s.rdBytes n (brickWordAddr b.val w + i) = u.rdBytes n (brickWordAddr b.val w + i) := by
  induction n generalizing i with
  | zero => rfl
  | succ n ih =>
    rw [State.rdBytes, State.rdBytes, h.bytes _ (inWindow_brickWord b w (by omega)), Nat.add_assoc, ih (by omega)]

theorem word (h : SameBrick b s u) (w : Nat) : s.brickWord b.val w = u.brickWord b.val w :=
  congrArg (fun l => BitVec.ofNat 32 (leNat l)) (h.bytesOfWord w (n := 4) (i := 0) (Nat.le_refl 4))

theorem wrByte (h : SameBrick b s u) (a : Nat) (v : Byte) : SameBrick b (s.wrByte a v) (u.wrByte a v) :=
  ⟨h.brick, fun x hx => by rw [rdByte_wrByte, rdByte_wrByte, h.bytes x hx], h.regs⟩

theorem wrBytes (h : SameBrick b s u) (a : Nat) (bs : List Byte) : SameBrick b (s.wrBytes a bs) (u.wrBytes a bs) := by
  induction bs generalizing s u a with
  | nil => exact h
  | cons v bs ih => exact ih (h.wrByte a v) (a + 1)

theorem withStore (h : SameBrick b s u) (w : Option (Nat × Word32)) : SameBrick b (s.withStore b.val w) (u.withStore b.val w) := by
  cases w with
  | none => exact h
  | some w =>
    have hw := h.wrBytes (brickWordAddr b.val w.1) (leBytes 4 w.2.toNat)
    refine ⟨?_, fun a ha => ?_, fun a ha => ?_⟩
    · exact (withStore_brick s b.val (some w) b.val).trans (h.brick.trans (withStore_brick u b.val (some w) b.val).symm)
    · exact (rdByte_setBrickWord s b.val w.1 w.2 a).trans ((hw.bytes a ha).trans (rdByte_setBrickWord u b.val w.1 w.2 a).symm)
    · exact (rg_of_regs (State.setBrickWord_regs s b.val w.1 w.2) a).trans
        ((h.regs a ha).trans (rg_of_regs (State.setBrickWord_regs u b.val w.1 w.2) a).symm)

theorem ite {p : Prop} [Decidable p] {t v : State} (h : SameBrick b s u) (k : SameBrick b t v) :
    SameBrick b (if p then s else t) (if p then u else v) := by
  split
  · exact h
  · exact k

theorem tookEffect (h : SameBrick b s u) (e : BundleEffect) : SameBrick b (s.tookEffect b.val e) (u.tookEffect b.val e) := by
  have hcnt : InControl b (BRK_SAT_CNT b.val) := inControl_offset b (by decide) (by decide)
  have hacc := ((h.withStore e.store).bump (f := F.BRK_SAT_CNT_ACC_SAT b.val) hcnt 1).ite (p := e.accSat) (h.withStore e.store)
  exact hacc.ite (hacc.bump (f := F.BRK_SAT_CNT_STORE_SAT b.val) hcnt e.convSats)

theorem recordCycles (h : SameBrick b s u) (c : CtxSel) (n : Nat) :
    SameBrick b (s.recordCycles b.val c n) (u.recordCycles b.val c n) := by
  cases c with
  | fg =>
    have ha : InControl b (BRK_CYC_FG b.val) := inControl_offset b (by decide) (by decide)
    exact (h.put (f := F.BRK_CYC_FG_LAST b.val) ha rfl).put (f := F.BRK_CYC_FG_MAX b.val) ha
      (by rw [h.get (f := F.BRK_CYC_FG_MAX b.val) ha])
  | bg =>
    have ha : InControl b (BRK_CYC_BG b.val) := inControl_offset b (by decide) (by decide)
    exact (h.put (f := F.BRK_CYC_BG_LAST b.val) ha rfl).put (f := F.BRK_CYC_BG_MAX b.val) ha
      (by rw [h.get (f := F.BRK_CYC_BG_MAX b.val) ha])

/-- The ENTRY of a further entry is the Brick's own where the entry is one of the 16. -/
theorem endProgram (h : SameBrick b s u) {w : Work} (hk : ∀ k ∈ w.rest, k < 16) :
    SameBrick b (endProgram b.val c w s) (endProgram b.val c w u) := by
  cases hr : w.rest with
  | nil =>
    rw [endProgram_last s hr, endProgram_last u hr, h.brick]
    exact (h.setBrick rfl).recordCycles c _
  | cons k rest =>
    have hentry : InControl b (F.BRK_TRIG_ENTRY b.val k).addr := inControl_trig b (hk k (by simp [hr]))
    rw [endProgram_next s hr, endProgram_next u hr, h.get hentry, h.brick, State.enterEntry, State.enterEntry, h.brick]
    exact h.setBrick rfl

theorem outOfService (h : SameBrick b s u) : s.outOfService b.val = u.outOfService b.val := by
  rw [State.outOfService, h.get (inControl_offset b (by decide) (by decide)), State.outOfService]

/-- A bundle's effect is a function of the Brick. -/
theorem effectOf (h : SameBrick b s u) (c : CtxSel) (bd : Bundle) : s.effectOf b c bd = u.effectOf b c bd := by
  have hctx : s.ctxOf b c = u.ctxOf b c := congrArg (Brick.ctx · c) h.brick
  have haddr (g : Ag) : s.fieldAddr b c bd g = u.fieldAddr b c bd g := by simp only [State.fieldAddr, hctx]
  have hword (g : Ag) : s.fieldWord b c bd g = u.fieldWord b c bd g := by
    rw [State.fieldWord, haddr, h.word, State.fieldWord]
  rw [State.effectOf, hctx, hword, hword, State.effectOf]

theorem issued (h : SameBrick b s u) (c : CtxSel) (bd : Bundle) (w : Work) : s.issued b c bd w = u.issued b c bd w := by
  rw [State.issued, State.ctxOf, h.effectOf, h.brick, State.issued, State.ctxOf]

theorem issuedState (h : SameBrick b s u) (c : CtxSel) (bd : Bundle) (w : Work) :
    SameBrick b (s.issuedState b c bd w) (u.issuedState b c bd w) := by
  rw [State.issuedState, h.effectOf, h.issued, State.issuedState]
  exact (h.tookEffect _).setBrick (by rw [h.brick])

theorem bundle_of_ok (h : SameBrick b s u) (hk : ∀ w, (s.brick b.val).work c = some w → ∀ k ∈ w.rest, k < 16)
    (hok : bundleOk bd = true) : SameBrick b (issueBundle b.val c bd s) (issueBundle b.val c bd u) := by
  cases hs : s.outOfService b.val with
  | true =>
    rw [issueBundle_out c bd hs, issueBundle_out c bd (h.outOfService.symm.trans hs)]
    exact h
  | false =>
    have hu := h.outOfService.symm.trans hs
    cases hw : (s.brick b.val).work c with
    | none =>
      rw [issueBundle_inService_idle hs hok hw, issueBundle_inService_idle hu hok (h.brick ▸ hw), h.effectOf]
      exact (h.tookEffect _).setBrick (by rw [h.brick])
    | some w =>
      rw [issueBundle_inService_works hs hok hw, issueBundle_inService_works hu hok (h.brick ▸ hw), h.effectOf, h.issued]
      have hrest : ∀ k ∈ (u.issued b c bd w).1.rest, k < 16 := by rw [rest_issued]; exact hk w hw
      exact ((h.issuedState c bd w).endProgram hrest).ite (h.issuedState c bd w)

/-- R168, R143: engines that agree on a Brick agree on it after the same bundle, when the entries still to start are trigger
entries. -/
theorem bundle (h : SameBrick b s u) (hk : ∀ w, (s.brick b.val).work c = some w → ∀ k ∈ w.rest, k < 16) (bd : Bundle) :
    SameBrick b (issueBundle b.val c bd s) (issueBundle b.val c bd u) := by
  cases hok : bundleOk bd with
  | true => exact h.bundle_of_ok hk hok
  | false =>
    rw [issueBundle_of_not_ok s b.val c hok, issueBundle_of_not_ok u b.val c hok]
    exact h.bundle_of_ok hk rfl

end SameBrick

/-! ## Entries above the table -/

/-- Dispatch starts trigger entries alone: those a Brick has enabled are numbered below 16 (R146). -/
theorem lt_of_mem_triggers {s : State} {b : Nat} {e : Nat × Nat} (h : e ∈ s.triggers b) : e.1 < 16 := by
  obtain ⟨k, hk, he⟩ := List.mem_filterMap.1 h
  obtain ⟨-, hke⟩ := Option.ite_none_right_eq_some.1 he
  cases hke
  exact List.mem_range.1 hk

/-- Work of Brick 0's foreground with one entry still to start, numbered far above the 16 entries of R146. -/
def strayEntry : State :=
  let s := State.reset
  { s with
    node := { s.node with inReset := false, phase := .none }
    bricks := [(0, { Brick.zero with fgWork := some { rest := [0x4000], cycles := 0, recent := [], age := 0 } })] }

/-- The same engine with another ENTRY in the first trigger entry of Brick 1, whose register stands 0x4000 entries further on. -/
def strayEntryMoved : State := strayEntry.put (F.BRK_TRIG_ENTRY 1 0) 5

theorem strayEntry_agrees : SameBrick 0 strayEntry strayEntryMoved where
  brick := rfl
  bytes _ _ := rfl
  regs a ha := (rg_put_ne strayEntry 5 (by rintro rfl; exact absurd ha.2 (by decide))).symm

/-- The bundle that is an END and nothing else. -/
def endBundle : Bundle := ⟨.endp, .none, .none, .none⟩

/-- An END starts the next entry at the ENTRY its number names. -/
theorem pc_issue_endBundle {s : State} {b : Fin 96} {c : CtxSel} {w : Work} {k : Nat} {rest : List Nat} (h : s.Issues b endBundle)
    (hw : (s.brick b.val).work c = some w) (hrest : w.rest = k :: rest) :
    ((issueBundle b.val c endBundle s).ctxOf b c).pc = BitVec.ofNat 15 (s.get (F.BRK_TRIG_ENTRY b.val k)) := by
  obtain ⟨-, -, -, -, hstart⟩ := issueBundle_endsRun (c := c) h (.inl rfl)
  exact (hstart w k rest hw hrest).1

theorem pc_strayEntry : ((issueBundle 0 .fg endBundle strayEntry).ctxOf 0 .fg).pc = 0 :=
  (pc_issue_endBundle (b := 0) (k := 0x4000) ⟨by decide, by decide, by decide⟩ rfl rfl).trans (by decide)

theorem pc_strayEntryMoved : ((issueBundle 0 .fg endBundle strayEntryMoved).ctxOf 0 .fg).pc = 5 :=
  (pc_issue_endBundle (b := 0) (k := 0x4000) ⟨by decide, by decide, by decide⟩ rfl rfl).trans (by decide)

/-- Refutes O15: the ENTRY of a further entry k is read 4 × k bytes on from the Brick's first, also where k is 16 or more, and that of
0x4000 is the first entry of the next Brick. `strayEntry` and `strayEntryMoved` agree on Brick 0, and an END leaves PC 0 there in
one and 5 in the other. (Dispatch takes the list from a Brick's trigger entries, `lt_of_mem_triggers`, so the state is one that no
run from reset is known to reach; where the entries left are below 16, `SameBrick.bundle` proves what O15 says.) -/
theorem not_bricksSeeOnlyThemselves : ¬ Obligations.BricksSeeOnlyThemselves := by
  unfold Obligations.BricksSeeOnlyThemselves
  intro h
  obtain ⟨hbrick, hbytes, hregs⟩ := strayEntry_agrees
  obtain ⟨hafter, -, -⟩ := h strayEntry strayEntryMoved 0 .fg endBundle ⟨hbrick, hbytes, hregs⟩
  have hpc := congrArg (fun br : Brick => (br.ctx .fg).pc) hafter
  exact absurd (pc_strayEntry.symm.trans (hpc.trans pc_strayEntryMoved)) (by decide)

end Sys2Proof.Machine
end

section
/-! The operations that write data registers (Table 5.7, R128, R132, R163, R164): O8 and O9. -/

namespace Sys2Proof.Machine

/-! ## Frames of the data registers -/

/-- An operation that names no accumulator to write leaves all four. -/
theorem arith_a {o c : Ctx} {ma mb : Word32} {op : BrickOp} (h : op.dstA = none) : (arith o c ma mb op).1.a = c.a := by
  cases op with
  | mac | msu | mpy | mpn | aclr | amov | aadd | asub | aneg | aabs | ashl | ashr | aldx | ares => cases h
  | _ => rfl

/-- A move leaves every data register but its destination. -/
theorem moveEffect_x {o c : Ctx} {aa ab : Nat} {ma mb : Word32} {mv : Move} {r : Fin 16} (h : mv.dstX ≠ some r) :
    (moveEffect o c aa ab ma mb mv).1.x[r] = c.x[r] := by
  cases mv with
  | ld d | cvt _ _ d | mov d | mfg _ _ d | mfgTN d => exact setX_ne c _ fun e => h (congrArg some e)
  | mtg file => cases file <;> rfl
  | _ => rfl

/-- A bundle whose operation leaves `w` in its destination. -/
theorem Issued.regTakes {s t : State} {b : Fin 96} {c : CtxSel} {bd : Bundle} {d : Fin 16} {w : Word32} (h : Issued s t b c bd)
    (hd : bd.op.dstX = some d) (ha : bd.op.dstA = none) (hw : (s.opLeaves b c bd).1.x[d] = w) :
    RegTakes (s.ctxOf b c) (t.ctxOf b c) bd.mv d w := by
  have hx : (t.ctxOf b c).x = (s.opLeaves b c bd).1.x := h.registers.x.trans (writeF_x _ _ _)
  have hacc : (t.ctxOf b c).a = (s.ctxOf b c).a := by
    rw [h.registers.a, writeF_a, State.opLeaves, arith_a ha, State.moveLeaves, moveEffect_a]
  refine ⟨hx ▸ hw, fun r hr hmv => ?_, fun k => by rw [hacc]⟩
  have hop : bd.op.dstX ≠ some r := fun e => hr (Option.some.inj (e.symm.trans hd))
  rw [hx]
  exact (arith_x hop).trans (moveEffect_x hmv)

/-- F is the operation's where the move leaves it. -/
theorem Issued.flags {s t : State} {b : Fin 96} {c : CtxSel} {bd : Bundle} (h : Issued s t b c bd) (hmv : Move.keepsF bd.mv) :
    (t.ctxOf b c).f = (s.opLeaves b c bd).1.f := by
  rw [h.registers.f, writeF_f hmv]

theorem keepsF_none : Move.keepsF .none := nofun

theorem operandB_eq_selBVal (s : State) (b : Fin 96) (c : CtxSel) (bd : Bundle) (sel : SelB) :
    s.operandB b c bd sel = selBVal (s.ctxOf b c) (s.fieldWord b c bd .a) (s.fieldWord b c bd .b) sel := by
  cases sel with
  | sel x => exact operand_eq_selVal s b c bd x
  | imm v => rfl

/-! ## One write of a data register with its flags -/

section
variable {i : Instr} {s : State} {b : Fin 96} {c : CtxSel} {bd : Bundle} {d : Fin 16}

/-- A command whose operation writes a result by `xFlags`: register and flags show it. -/
theorem next_of_xFlags {r : Word32 × Int × Bool} (he : exec i s = runs s (issueBundle b.val c bd))
    (hop : s.opLeaves b c bd = (xFlags (s.moveLeaves b c bd).1 d r, false, false)) (hd : bd.op.dstX = some d)
    (ha : bd.op.dstA = none) (h : s.Issues b bd) :
    ∃ t, exec i s = .next t ∧ RegTakes (s.ctxOf b c) (t.ctxOf b c) bd.mv d r.1 ∧
      (Move.keepsF bd.mv → (t.ctxOf b c).f.describe r.2.1 r.2.2) := by
  obtain ⟨t, hex, ht⟩ := next_of_issue he h
  refine ⟨t, hex, ht.regTakes hd ha ?_, fun hmv => ?_⟩
  · rw [hop]
    exact setX_same _ _ _
  · rw [ht.flags hmv, hop]
    exact ⟨rfl, rfl, rfl⟩

/-- A command of the ALU, by the value its operation gives of the operands. -/
theorem next_of_alu {op : AluOp} {aga agb : AgField} {mv : Move} {sa : Sel} {sb : SelB} {r : Word32 × Int × Bool}
    (he : exec i s = runs s (issueBundle b.val c ⟨.alu op d sa sb, aga, agb, mv⟩))
    (hr : aluResult op (s.operand b c ⟨.alu op d sa sb, aga, agb, mv⟩ sa)
      (s.operandB b c ⟨.alu op d sa sb, aga, agb, mv⟩ sb) = r)
    (h : s.Issues b ⟨.alu op d sa sb, aga, agb, mv⟩) :
    ∃ t, exec i s = .next t ∧ RegTakes (s.ctxOf b c) (t.ctxOf b c) mv d r.1 ∧
      (Move.keepsF mv → (t.ctxOf b c).f.describe r.2.1 r.2.2) := by
  rw [operand_eq_selVal, operandB_eq_selBVal] at hr
  subst hr
  exact next_of_xFlags (bd := ⟨.alu op d sa sb, aga, agb, mv⟩) he rfl rfl rfl h

end

/-! ## The results of Table 5.7 -/

/-- A value limited to 32 bits, as ADDS, SUBS, ABS and NEG write it, with the flag that shows the limit. -/
theorem limited_eq (v : Int) : ((BitVec.ofInt 32 (sat32 v), sat32 v, sat32 v != v) : Word32 × Int × Bool) =
    (BitVec.ofInt 32 (sat32 v), sat32 v, decide (sat32 v ≠ v)) := by
  by_cases h : sat32 v = v <;> simp [h]

/-- A result that is written as it is, with V clear. -/
def plainResult (w : Word32) : Word32 × Int × Bool := (w, w.toInt, false)

theorem aluResult_shl (x y : Word32) :
    aluResult .shl x y = plainResult (BitVec.ofNat 32 (x.toNat * 2 ^ (y.toNat % 32))) := by
  have h : x <<< (y.toNat % 32) = BitVec.ofNat 32 (x.toNat * 2 ^ (y.toNat % 32)) := by
    rw [← Nat.shiftLeft_eq]
    rfl
  rw [← h]
  rfl

theorem aluResult_shr (x y : Word32) :
    aluResult .shr x y = plainResult (BitVec.ofNat 32 (x.toNat / 2 ^ (y.toNat % 32))) := by
  have h : x >>> (y.toNat % 32) = BitVec.ofNat 32 (x.toNat / 2 ^ (y.toNat % 32)) := by
    rw [← Nat.shiftRight_eq_div_pow, ← BitVec.toNat_ushiftRight, BitVec.ofNat_toNat, BitVec.setWidth_eq]
  rw [← h]
  rfl

theorem aluResult_asr (x y : Word32) :
    aluResult .asr x y = plainResult (BitVec.ofInt 32 (x.toInt / 2 ^ (y.toNat % 32))) := by
  have h : x.sshiftRight (y.toNat % 32) = BitVec.ofInt 32 (x.toInt / 2 ^ (y.toNat % 32)) := by
    rw [BitVec.sshiftRight, Int.shiftRight_eq_div_pow]
    norm_cast
  rw [← h]
  rfl

theorem aluResult_min (x y : Word32) :
    aluResult .min x y = plainResult (BitVec.ofInt 32 (min x.toInt y.toInt)) := by
  have h : (if x.toInt ≤ y.toInt then x else y) = BitVec.ofInt 32 (min x.toInt y.toInt) := by
    rw [min_def, apply_ite (BitVec.ofInt 32), BitVec.ofInt_toInt, BitVec.ofInt_toInt]
  rw [← h]
  rfl

theorem aluResult_max (x y : Word32) :
    aluResult .max x y = plainResult (BitVec.ofInt 32 (max x.toInt y.toInt)) := by
  have h : (if x.toInt ≤ y.toInt then y else x) = BitVec.ofInt 32 (max x.toInt y.toInt) := by
    rw [max_def, apply_ite (BitVec.ofInt 32), BitVec.ofInt_toInt, BitVec.ofInt_toInt]
  rw [← h]
  rfl

/-- A command that limits the exact value `v`. -/
theorem next_of_limits {i : Instr} {s : State} {b : Fin 96} {c : CtxSel} {bd : Bundle} {d : Fin 16} {v : Int}
    (he : exec i s = runs s (issueBundle b.val c bd))
    (hop : s.opLeaves b c bd =
      (xFlags (s.moveLeaves b c bd).1 d (BitVec.ofInt 32 (sat32 v), sat32 v, sat32 v != v), false, false))
    (hd : bd.op.dstX = some d) (ha : bd.op.dstA = none) (h : s.Issues b bd) :
    ∃ t, exec i s = .next t ∧ RegTakes (s.ctxOf b c) (t.ctxOf b c) bd.mv d (BitVec.ofInt 32 (sat32 v)) ∧
      (Move.keepsF bd.mv → (t.ctxOf b c).f.describe (sat32 v) (decide (sat32 v ≠ v))) := by
  rw [limited_eq] at hop
  exact next_of_xFlags he hop hd ha h

/-! ## CMP -/

/-- CMP writes no register: the registers are the move's, and F describes the exact difference. -/
theorem next_of_cmp {i : Instr} {s : State} {b : Fin 96} {c : CtxSel} {aga agb : AgField} {mv : Move} {sa : Sel} {sb : SelB}
    (he : exec i s = runs s (issueBundle b.val c ⟨.cmp sa sb, aga, agb, mv⟩)) (h : s.Issues b ⟨.cmp sa sb, aga, agb, mv⟩) :
    ∃ t, exec i s = .next t ∧ (∀ r : Fin 16, mv.dstX ≠ some r → (t.ctxOf b c).x[r] = (s.ctxOf b c).x[r]) ∧
      (Move.keepsF mv → (t.ctxOf b c).f.describe ((s.operand b c ⟨.cmp sa sb, aga, agb, mv⟩ sa).toInt -
        (s.operandB b c ⟨.cmp sa sb, aga, agb, mv⟩ sb).toInt) false) := by
  obtain ⟨t, hex, ht⟩ := next_of_issue he h
  refine ⟨t, hex, fun r hr => ?_, fun hmv => ?_⟩
  · have hx : (t.ctxOf b c).x = (s.moveLeaves b c ⟨.cmp sa sb, aga, agb, mv⟩).1.x := ht.registers.x.trans (writeF_x _ _ _)
    rw [hx]
    exact moveEffect_x hr
  · rw [ht.flags hmv, operand_eq_selVal, operandB_eq_selBVal]
    exact ⟨rfl, rfl, rfl⟩

/-- Settles O8: each operation writes by `xFlags` the value its lemma gives. -/
theorem registerOperations : Obligations.RegisterOperations := by
  unfold Obligations.RegisterOperations
  intro s sl d sa sb b c o bd gives exact limited
  refine ⟨?_, ?_, ?_, ?_, ?_, ?_, ?_, ?_, ?_, ?_, ?_, ?_, ?_, ?_, ?_⟩
  · exact next_of_alu (exec_add s) rfl
  · exact next_of_alu (exec_sub s) rfl
  · exact next_of_alu (exec_and s) rfl
  · exact next_of_alu (exec_or s) rfl
  · exact next_of_alu (exec_xor s) rfl
  · exact next_of_alu (exec_shl s) (aluResult_shl _ _)
  · exact next_of_alu (exec_shr s) (aluResult_shr _ _)
  · exact next_of_alu (exec_asr s) (aluResult_asr _ _)
  · exact next_of_alu (exec_min s) (aluResult_min _ _)
  · exact next_of_alu (exec_max s) (aluResult_max _ _)
  · exact next_of_alu (exec_adds s) (limited_eq _)
  · exact next_of_alu (exec_subs s) (limited_eq _)
  · refine next_of_limits (bd := bd (.abs d sa)) (exec_abs s) ?_ rfl rfl
    rw [operand_eq_selVal]
    rfl
  · refine next_of_limits (bd := bd (.neg d sa)) (exec_neg s) ?_ rfl rfl
    rw [operand_eq_selVal]
    rfl
  · exact next_of_cmp (exec_cmp s)

/-! ## MPYX, LDI, LSI and CLS -/

section
variable {i : Instr} {s : State} {b : Fin 96} {c : CtxSel} {bd : Bundle} {d : Fin 16}

/-- A command whose operation writes a register and no flag. -/
theorem next_of_setX {w : Word32} (he : exec i s = runs s (issueBundle b.val c bd))
    (hop : (s.opLeaves b c bd).1 = (s.moveLeaves b c bd).1.setX d w) (hd : bd.op.dstX = some d) (ha : bd.op.dstA = none)
    (h : s.Issues b bd) :
    ∃ t, exec i s = .next t ∧ RegTakes (s.ctxOf b c) (t.ctxOf b c) bd.mv d w ∧
      (bd.mv = .none → (t.ctxOf b c).f = (s.ctxOf b c).f) := by
  obtain ⟨t, hex, ht⟩ := next_of_issue he h
  refine ⟨t, hex, ht.regTakes hd ha (by rw [hop]; exact setX_same _ _ _), fun hmv => ?_⟩
  rw [ht.flags (hmv ▸ keepsF_none), hop, State.moveLeaves, hmv]
  rfl

/-- A command whose operation converts a product (R128, R130, R132, R164). -/
theorem next_of_converts {r : Int × Bool} (he : exec i s = runs s (issueBundle b.val c bd))
    (hop : s.opLeaves b c bd = ({ (s.moveLeaves b c bd).1.setX d (BitVec.ofInt 32 r.1) with
      f := (s.moveLeaves b c bd).1.f.convert r.1 r.2 }, false, r.2))
    (hd : bd.op.dstX = some d) (ha : bd.op.dstA = none) (h : s.Issues b bd) :
    ∃ t, exec i s = .next t ∧ RegTakes (s.ctxOf b c) (t.ctxOf b c) bd.mv d (BitVec.ofInt 32 r.1) ∧
      (Move.keepsF bd.mv → (t.ctxOf b c).f.describe r.1 r.2) ∧
      (bd.mv = .none → (t.ctxOf b c).f.ss = ((s.ctxOf b c).f.ss || r.2) ∧
        t.get (F.BRK_SAT_CNT_STORE_SAT b.val) = min (2 ^ (F.BRK_SAT_CNT_STORE_SAT b.val).width - 1)
          (s.get (F.BRK_SAT_CNT_STORE_SAT b.val) + (if r.2 then 1 else 0))) := by
  obtain ⟨t, hex, ht⟩ := next_of_issue he h
  refine ⟨t, hex, ht.regTakes hd ha (by rw [hop]; exact setX_same _ _ _), fun hmv => ?_, fun hmv => ⟨?_, ?_⟩⟩
  · rw [ht.flags hmv, hop]
    exact ⟨rfl, rfl, rfl⟩
  · rw [ht.flags (hmv ▸ keepsF_none), hop, State.moveLeaves, hmv]
    rfl
  · rw [ht.storeSat, hop, State.moveLeaves, hmv]
    exact congrArg (fun n => min _ (s.get _ + n)) (Nat.zero_add _)

end

/-- What LSI shifts in. -/
theorem lsi_eq (x : Word32) (imm : BitVec 12) : x * 4096 + imm.zeroExtend 32 = BitVec.ofNat 32 (x.toNat * 4096 + imm.toNat) := by
  apply BitVec.eq_of_toNat_eq
  have h := imm.isLt
  simp [BitVec.toNat_add, BitVec.toNat_mul, BitVec.toNat_setWidth]

/-! ## CLS -/

/-- The bits below the sign, from the highest down. -/
def bitsBelowSign (a : Acc) : List Bool := (List.range 79).map (fun i => a.getLsbD (78 - i))

theorem length_bitsBelowSign (a : Acc) : (bitsBelowSign a).length = 79 := by simp [bitsBelowSign]

theorem getElem_bitsBelowSign (a : Acc) {i : Nat} (h : i < (bitsBelowSign a).length) : (bitsBelowSign a)[i] = a.getLsbD (78 - i) := by
  simp [bitsBelowSign]

/-- CLS counts up to the first bit that differs from the sign. -/
theorem signRun_eq (a : Acc) : signRun a = (bitsBelowSign a).findIdx (fun v => !(v == a.getLsbD 79)) := by
  rw [show signRun a = ((bitsBelowSign a).takeWhile (fun v => v == a.getLsbD 79)).length from rfl,
    List.takeWhile_eq_take_findIdx_not, List.length_take, Nat.min_eq_left List.findIdx_le_length]

theorem signRun_le (a : Acc) : signRun a ≤ 79 := by
  rw [signRun_eq, ← length_bitsBelowSign a]
  exact List.findIdx_le_length

/-- The bits counted equal the sign. -/
theorem getLsbD_of_lt_signRun {a : Acc} {i : Nat} (h : i < signRun a) : a.getLsbD (78 - i) = a.getLsbD 79 := by
  have hi : i < (bitsBelowSign a).length := by
    have := signRun_le a
    rw [length_bitsBelowSign]
    omega
  rw [signRun_eq] at h
  have hbit := List.not_of_lt_findIdx h
  rw [getElem_bitsBelowSign a hi] at hbit
  simpa using hbit

/-- The bit below them does not. -/
theorem getLsbD_signRun_ne {a : Acc} (h : signRun a < 79) : a.getLsbD (78 - signRun a) ≠ a.getLsbD 79 := by
  have hi : signRun a < (bitsBelowSign a).length := by rwa [length_bitsBelowSign]
  have hbit := List.findIdx_getElem (w := signRun_eq a ▸ hi)
  simp only [← signRun_eq, getElem_bitsBelowSign] at hbit
  simpa using hbit

/-- Settles O9: each operation writes one register; the count of CLS is `signRun`. -/
theorem productsConstantsAndSigns : Obligations.ProductsConstantsAndSigns := by
  unfold Obligations.ProductsConstantsAndSigns
  intro s sl d b c o bd
  refine ⟨fun al sa sb => ?_, fun imm => ?_, fun imm => ?_, fun k h => ?_⟩
  · refine next_of_converts (bd := bd (.mpyx d al sa sb))
      (r := convert (s.product b c (bd (.mpyx d al sa sb)) al sa sb) (if al = 0 then .int32 else .q31)) (exec_mpyx s) ?_ rfl rfl
    rw [product_eq_aligned]
    rfl
  · exact next_of_setX (bd := bd (.ldi d imm)) (exec_ldi s) rfl rfl rfl
  · refine next_of_setX (bd := bd (.lsi d imm)) (exec_lsi s) ?_ rfl rfl
    rw [← lsi_eq]
    rfl
  · obtain ⟨t, hex, hreg, hf⟩ := next_of_setX (bd := bd (.cls d k)) (exec_cls s) rfl rfl rfl h
    exact ⟨t, hex, signRun o.a[k], signRun_le _, hreg, hf, fun i => getLsbD_of_lt_signRun, getLsbD_signRun_ne⟩

end Sys2Proof.Machine
end

section
/-! Where a bundle leaves the program (R165 to R167, Table 5.9): branches, calls, returns, jumps and loops. O10 and O11. -/

namespace Sys2Proof.Machine

/-! ## The PC and the stacks before control -/

/-- The context of a bundle when its move and its operation have written their registers, before its control flow. -/
def State.beforeControl (s : State) (b : Fin 96) (c : CtxSel) (bd : Bundle) : Ctx :=
  writeF (s.ctxOf b c) (s.opLeaves b c bd).1 bd.mv

/-- `d` stands in its program where `c` does, with its loops and return entries. -/
structure SamePlace (c d : Ctx) : Prop where
  pc : d.pc = c.pc
  rets : d.rets = c.rets
  loops : d.loops = c.loops

theorem SamePlace.trans {c d e : Ctx} (h : SamePlace c d) (k : SamePlace d e) : SamePlace c e :=
  ⟨k.pc.trans h.pc, k.rets.trans h.rets, k.loops.trans h.loops⟩

theorem samePlace_move (o c : Ctx) (aa ab : Nat) (ma mb : Word32) (mv : Move) : SamePlace c (moveEffect o c aa ab ma mb mv).1 := by
  rw [moveEffect_frame]
  exact ⟨rfl, rfl, rfl⟩

theorem samePlace_arith (o c : Ctx) (ma mb : Word32) (op : BrickOp) : SamePlace c (arith o c ma mb op).1 := by
  rw [arith_frame]
  exact ⟨rfl, rfl, rfl⟩

theorem samePlace_writeF (o c : Ctx) (mv : Move) : SamePlace c (writeF o c mv) := by
  cases mv <;> exact ⟨rfl, rfl, rfl⟩

/-- Neither the move nor the operation moves the program. -/
theorem samePlace_beforeControl (s : State) (b : Fin 96) (c : CtxSel) (bd : Bundle) :
    SamePlace (s.ctxOf b c) (s.beforeControl b c bd) := by
  have hfields : SamePlace (s.ctxOf b c) { s.ctxOf b c with p := (agBoth (s.ctxOf b c) bd).2.2 } := ⟨rfl, rfl, rfl⟩
  have hmove : SamePlace (s.ctxOf b c) (s.moveLeaves b c bd).1 := hfields.trans (samePlace_move ..)
  exact (hmove.trans (samePlace_arith ..)).trans (samePlace_writeF ..)

/-! ## Control flow, case by case -/

/-- The context of a bundle that goes on in sequence. -/
def inSequence (o c : Ctx) : Ctx := { c with pc := (sequential o.pc o.loops).1, loops := (sequential o.pc o.loops).2.1 }

/-- The context of a LOOP or LOOPR that enters its body (Table 5.9). -/
def entersLoop (o c : Ctx) (len count : Nat) : Ctx :=
  { c with
    pc := pcAdd o.pc 1
    loops := if 2 ≤ o.loops.length then c.loops else ⟨(pcAdd o.pc 1).toNat, (pcAdd o.pc len).toNat, count⟩ :: o.loops }

theorem control_nop (o c : Ctx) : (control o c .nop).1 = inSequence o c := rfl

theorem control_br_taken {o : Ctx} (c : Ctx) {cc : Cond} (rel : BitVec 12) (h : o.f.test cc = true) :
    (control o c (.br cc rel)).1 =
      { c with pc := pcAdd o.pc rel.toInt, loops := keepLoops (pcAdd o.pc rel.toInt).toNat o.loops } :=
  congrArg Prod.fst (if_pos h)

theorem control_br_not_taken {o : Ctx} (c : Ctx) {cc : Cond} (rel : BitVec 12) (h : o.f.test cc = false) :
    (control o c (.br cc rel)).1 = inSequence o c :=
  congrArg Prod.fst (if_neg (ne_true_of_eq_false h))

theorem control_call_taken {o : Ctx} (c : Ctx) {cc : Cond} (rel : BitVec 12) (h : o.f.test cc = true) :
    (control o c (.call cc rel)).1 = { c with pc := pcAdd o.pc rel.toInt, rets := (pcAdd o.pc 1 :: o.rets).take 4 } :=
  congrArg Prod.fst (if_pos h)

theorem control_call_not_taken {o : Ctx} (c : Ctx) {cc : Cond} (rel : BitVec 12) (h : o.f.test cc = false) :
    (control o c (.call cc rel)).1 = inSequence o c :=
  congrArg Prod.fst (if_neg (ne_true_of_eq_false h))

theorem control_ret {o : Ctx} (c : Ctx) {q : BitVec 15} {rest : List (BitVec 15)} (h : o.rets = q :: rest) :
    control o c .ret = ({ c with pc := q, rets := rest }, true, false, false, false) := by
  obtain ⟨x, a, p, b, l, f, tn, pc, rets, loops⟩ := o
  cases h
  rfl

theorem control_jmpx (o c : Ctx) (x : Fin 16) : (control o c (.jmpx x)).1 =
    { c with pc := o.x[x].truncate 15, loops := keepLoops (o.x[x].truncate 15 : BitVec 15).toNat o.loops } := rfl

theorem control_loop (o c : Ctx) (len : BitVec 6) (count : BitVec 10) :
    (control o c (.loop len count)).1 = entersLoop o c len.toNat (if count = 0 then 1024 else count.toNat) := by
  unfold control entersLoop
  dsimp only
  split <;> rfl

theorem control_loopr {o : Ctx} (c : Ctx) (len : BitVec 6) {x : Fin 16} (h : (o.x[x].truncate 16 : BitVec 16).toNat ≠ 0) :
    (control o c (.loopr len x)).1 = entersLoop o c len.toNat (o.x[x].truncate 16 : BitVec 16).toNat := by
  unfold control entersLoop
  dsimp only
  rw [if_neg h]
  split <;> rfl

theorem control_loopr_skips {o : Ctx} (c : Ctx) (len : BitVec 6) {x : Fin 16} (h : (o.x[x].truncate 16 : BitVec 16).toNat = 0) :
    (control o c (.loopr len x)).1 = { c with pc := pcAdd o.pc (len.toNat + 1) } :=
  congrArg Prod.fst (if_pos h)

/-- No operation but END, and RET on an empty stack, ends the run. -/
theorem control_not_ended {o : Ctx} (c : Ctx) {op : BrickOp} (he : op ≠ .endp) (hr : op = .ret → o.rets ≠ []) :
    (control o c op).2.2.1 = false := by
  cases op with
  | endp => exact absurd rfl he
  | ret =>
    obtain ⟨q, rest, h⟩ := List.exists_cons_of_ne_nil (hr rfl)
    rw [control_ret c h]
  | br cc rel => unfold control; dsimp only; split <;> rfl
  | call cc rel => unfold control; dsimp only; split <;> rfl
  | loop len n => unfold control; dsimp only; split <;> rfl
  | loopr len x =>
    unfold control
    dsimp only
    split
    · rfl
    · split <;> rfl
  | _ => rfl

theorem pcAdd_one (pc : BitVec 15) : pcAdd pc 1 = pc + 1 := by
  rw [pcAdd, BitVec.ofInt_add]
  simp

/-! ## The command of a bundle that does not end its run -/

/-- The next state of a command whose bundle goes on: what control leaves of the bundle's context. -/
theorem next_of_control {i : Instr} {s : State} {b : Fin 96} {c : CtxSel} {bd : Bundle}
    (he : exec i s = runs s (issueBundle b.val c bd)) (hop : bd.op ≠ .endp) (hret : bd.op = .ret → (s.ctxOf b c).rets ≠ [])
    (h : s.Issues b bd) :
    ∃ t, exec i s = .next t ∧ t.ctxOf b c = (control (s.ctxOf b c) (s.beforeControl b c bd) bd.op).1 := by
  refine ⟨_, he.trans (runs_alive _ h.1), ?_⟩
  have hend : (s.effectOf b c bd).ended = false := (ended_effectOf s b c bd).trans (control_not_ended _ hop hret)
  exact (issueBundle_ctx h.2.1 h.2.2 hend).trans (ctx_effectOf s b c bd)

/-! ## RET on an empty stack is END (Table 5.9) -/

/-- RET and END read and produce the same for the interlocks of Table 4.6. -/
theorem issue_ret_eq_end (w : Work) (o : Ctx) (aga agb : AgField) (mv : Move) (e : BundleEffect) (p : CPort) :
    w.issue o ⟨.ret, aga, agb, mv⟩ e p = w.issue o ⟨.endp, aga, agb, mv⟩ e p := by
  have hbefore : notBefore o ⟨.ret, aga, agb, mv⟩ = notBefore o ⟨.endp, aga, agb, mv⟩ := rfl
  have hleaving : notLeaving ⟨.ret, aga, agb, mv⟩ = notLeaving ⟨.endp, aga, agb, mv⟩ := rfl
  have hwords : wordsRead o ⟨.ret, aga, agb, mv⟩ = wordsRead o ⟨.endp, aga, agb, mv⟩ := rfl
  have hproduced : produced ⟨.ret, aga, agb, mv⟩ = produced ⟨.endp, aga, agb, mv⟩ := rfl
  simp only [Work.issue, hbefore, hleaving, hwords, hproduced]

theorem effect_ret_eq_end {o : Ctx} (h : o.rets = []) (ma mb : Word32) (aga agb : AgField) (mv : Move) :
    bundleEffect o ma mb ⟨.ret, aga, agb, mv⟩ = bundleEffect o ma mb ⟨.endp, aga, agb, mv⟩ := by
  have hcontrol (c : Ctx) : control o c .ret = control o c .endp :=
    (control_ends c (.inr ⟨rfl, h⟩)).trans (control_ends c (.inl rfl)).symm
  simp only [bundleEffect, hcontrol]
  rfl

/-- With the return stack empty the two bundles do the same, whether they issue or not. -/
theorem issueBundle_ret_eq_end {s : State} {b : Nat} {c : CtxSel} (h : ((s.brick b).ctx c).rets = []) (aga agb : AgField) (mv : Move) :
    issueBundle b c ⟨.ret, aga, agb, mv⟩ s = issueBundle b c ⟨.endp, aga, agb, mv⟩ s := by
  have hok : bundleOk ⟨.ret, aga, agb, mv⟩ = bundleOk ⟨.endp, aga, agb, mv⟩ := rfl
  have hag : agBoth ((s.brick b).ctx c) ⟨.ret, aga, agb, mv⟩ = agBoth ((s.brick b).ctx c) ⟨.endp, aga, agb, mv⟩ := rfl
  cases hbd : bundleOk ⟨.endp, aga, agb, mv⟩ with
  | false => rw [issueBundle_of_not_ok s b c hbd, issueBundle_of_not_ok s b c (hok.trans hbd)]
  | true =>
    simp only [issueBundle, hok, hbd, if_true, hag, effect_ret_eq_end h, issue_ret_eq_end]

/-- Commands that run act alike where their effects on the state are alike. -/
theorem runs_congr {s : State} {f g : State → State} (h : f s = g s) : runs s f = runs s g := by
  simp only [runs, always, h]

/-- Settles O10: each case of `control` is read on the context before the bundle. -/
theorem branchesAndCalls : Obligations.BranchesAndCalls := by
  unfold Obligations.BranchesAndCalls
  intro s sl b c o bd
  have hplace (op : BrickOp) := samePlace_beforeControl s b c (bd op)
  refine ⟨fun cc rel h => ?_, fun cc rel h => ?_, fun q rest hq h => ?_, fun hq => ?_, fun x h => ?_⟩
  · obtain ⟨t, hex, ht⟩ := next_of_control (exec_br s) nofun nofun h
    refine ⟨t, hex, ?_, fun hcc => ?_, fun hcc => ?_⟩
    · cases hcc : o.f.test cc with
      | true => rw [ht, control_br_taken _ rel hcc]; exact (hplace _).rets
      | false => rw [ht, control_br_not_taken _ rel hcc]; exact (hplace _).rets
    · rw [ht, control_br_taken _ rel hcc]; rfl
    · rw [ht, control_br_not_taken _ rel hcc]; rfl
  · obtain ⟨t, hex, ht⟩ := next_of_control (exec_call s) nofun nofun h
    refine ⟨t, hex, fun hcc => ?_, fun hcc => ?_⟩
    · rw [ht, control_call_taken _ rel hcc]
      exact ⟨rfl, congrArg (fun q => (q :: o.rets).take 4) (pcAdd_one o.pc), (hplace _).loops⟩
    · rw [ht, control_call_not_taken _ rel hcc]
      exact ⟨rfl, (hplace _).rets⟩
  · obtain ⟨t, hex, ht⟩ := next_of_control (exec_ret s) nofun (fun _ e => nomatch hq.symm.trans e) h
    refine ⟨t, hex, ?_⟩
    rw [ht, control_ret _ hq]
    exact ⟨rfl, rfl, (hplace _).loops⟩
  · exact runs_congr (issueBundle_ret_eq_end hq sl.aga sl.agb sl.mv)
  · obtain ⟨t, hex, ht⟩ := next_of_control (exec_jmpx s) nofun nofun h
    refine ⟨t, hex, ?_⟩
    rw [ht, control_jmpx]
    exact ⟨(BitVec.ofNat_toNat 15 o.x[x]).symm, (hplace _).rets⟩

/-! ## Loops -/

theorem toNat_pcAdd (pc : BitVec 15) (n : Nat) : (pcAdd pc n).toNat = (pc.toNat + n) % 32768 := by
  rw [pcAdd, BitVec.toNat_ofInt]
  omega

/-- With fewer than two loops active the body and its count are pushed. -/
theorem loops_entersLoop_push {o : Ctx} (c : Ctx) (len count : Nat) (h : o.loops.length < 2) :
    (entersLoop o c len count).loops = ⟨(o.pc.toNat + 1) % 32768, (o.pc.toNat + len) % 32768, count⟩ :: o.loops := by
  have hfirst : (pcAdd o.pc 1).toNat = (o.pc.toNat + 1) % 32768 := toNat_pcAdd o.pc 1
  rw [entersLoop, if_neg (by omega), hfirst, toNat_pcAdd]

/-- With two active nothing is. -/
theorem loops_entersLoop_full {o : Ctx} (c : Ctx) (len count : Nat) (h : 2 ≤ o.loops.length) :
    (entersLoop o c len count).loops = c.loops :=
  if_pos h

/-- At the last bundle of a body with runs due, the next run begins. -/
theorem sequential_again {pc : BitVec 15} {fr : LoopFrame} (rest : List LoopFrame) (hpc : pc.toNat = fr.last) (h : 1 < fr.left) :
    sequential pc (fr :: rest) = (BitVec.ofNat 15 fr.first, { fr with left := fr.left - 1 } :: rest, true) := by
  rw [sequential, if_pos hpc, if_pos h]

/-- After the last run the loop ends, and what encloses it goes on. -/
theorem sequential_done {pc : BitVec 15} {fr : LoopFrame} (rest : List LoopFrame) (hpc : pc.toNat = fr.last) (h : fr.left ≤ 1) :
    sequential pc (fr :: rest) = sequential pc rest := by
  rw [sequential, if_pos hpc, if_neg (by omega)]

/-- Where no innermost body ends, the next bundle follows. -/
theorem sequential_within {pc : BitVec 15} {loops : List LoopFrame} (h : ∀ fr ∈ loops.head?, pc.toNat ≠ fr.last) :
    sequential pc loops = (pc + 1, loops, false) := by
  rw [← pcAdd_one]
  cases loops with
  | nil => rfl
  | cons fr rest => rw [sequential, if_neg (h fr rfl)]

/-- Settles O11: `entersLoop` gives what LOOP and LOOPR push, and `sequential` where a body comes round or ends. -/
theorem loopsRunTheirCount : Obligations.LoopsRunTheirCount := by
  unfold Obligations.LoopsRunTheirCount
  intro s sl b c o bd enters
  have hplace (op : BrickOp) := samePlace_beforeControl s b c (bd op)
  have henters {t : State} {op : BrickOp} {len : BitVec 6} {n : Nat}
      (ht : t.ctxOf b c = entersLoop o (s.beforeControl b c (bd op)) len.toNat n) : enters t len n := by
    refine ⟨?_, ?_, fun h => ?_, fun h => ?_⟩
    · rw [ht, ← pcAdd_one]; rfl
    · rw [ht]; exact (hplace op).rets
    · rw [ht, loops_entersLoop_push _ _ _ h]
    · rw [ht, loops_entersLoop_full _ _ _ h]; exact (hplace op).loops
  refine ⟨fun len count h => ?_, fun len x h => ?_, fun h => ?_⟩
  · obtain ⟨t, hex, ht⟩ := next_of_control (exec_loop s) nofun nofun h
    exact ⟨t, hex, henters (ht.trans (control_loop _ _ _ _))⟩
  · have hcount : (o.x[x].truncate 16 : BitVec 16).toNat = o.x[x].toNat % 65536 := BitVec.toNat_setWidth 16 o.x[x]
    obtain ⟨t, hex, ht⟩ := next_of_control (exec_loopr s) nofun nofun h
    refine ⟨t, hex, fun hn => ?_, fun hn => ?_⟩
    · rw [← hcount] at hn ⊢
      exact henters (ht.trans (control_loopr _ _ hn))
    · rw [← hcount] at hn
      rw [ht, control_loopr_skips _ _ hn]
      refine ⟨?_, (hplace _).loops⟩
      apply BitVec.eq_of_toNat_eq
      rw [BitVec.toNat_ofNat, Nat.add_assoc]
      exact toNat_pcAdd o.pc (len.toNat + 1)
  · obtain ⟨t, hex, ht⟩ := next_of_control (exec_nop s) nofun nofun h
    have hseq : t.ctxOf b c = inSequence o (s.beforeControl b c (bd .nop)) := ht.trans (control_nop _ _)
    refine ⟨t, hex, ?_, fun k => ?_, fun fr rest hl hpc hleft => ?_, fun fr rest hl hpc hleft hout => ?_, fun fr rest hl hpc => ?_,
      fun hl => ?_⟩
    · rw [hseq]; exact (hplace .nop).rets
    · rw [hseq, inSequence, State.beforeControl, writeF_a, State.opLeaves, arith_a rfl, State.moveLeaves, moveEffect_a]
    · rw [hseq, inSequence, hl, sequential_again rest hpc hleft]
      exact ⟨rfl, rfl⟩
    · rw [hseq, inSequence, hl, sequential_done rest hpc hleft,
        sequential_within fun outer ho => hpc ▸ (hout outer (List.mem_of_mem_head? ho)).symm]
      exact ⟨rfl, rfl⟩
    · rw [hseq, inSequence, hl, sequential_within fun f hf => by cases hf; exact hpc]
      exact ⟨rfl, rfl⟩
    · rw [hseq, inSequence, hl, sequential_within (loops := []) nofun]
      exact ⟨rfl, rfl⟩

end Sys2Proof.Machine
end

section
/-! The ends of the patch engine's ramps, fades and waits, and the rewriting of a damaged entry (R188, R189, R192, R196, R199). O42. -/

namespace Sys2Proof.Machine

variable {s : State} {i : Nat}

/-! ## Gain ramps (R188) -/

theorem effGainRampEnd_none (h : (s.pe i).ramp = none) : effGainRampEnd i s = s := by
  simp only [effGainRampEnd, h]

theorem effGainRampEnd_running {r : Ramp} (h : (s.pe i).ramp = some r) (hk : r.k < r.len) : effGainRampEnd i s = s := by
  simp only [effGainRampEnd, h, if_neg (Nat.not_le.2 hk)]

theorem effGainRampEnd_run {r : Ramp} (h : (s.pe i).ramp = some r) (hk : r.len ≤ r.k) :
    effGainRampEnd i s = s.setPe i { s.pe i with ramp := none } := by
  simp only [effGainRampEnd, h, if_pos hk]

/-! ## Fades (R189, R192, R193) -/

theorem Fade.done_of_run {f : Fade} (h : f.len ≤ f.k) : f.done = true := decide_eq_true h

theorem Fade.done_of_running {f : Fade} (h : f.k < f.len) : f.done = false := decide_eq_false (Nat.not_le.2 h)

theorem effFadeEnd_none (hf : (s.pe i).fade = none) (hs : (s.pe i).shadow = none) : effFadeEnd i s = s := by
  simp [effFadeEnd, hf, hs]

theorem effFadeEnd_running {f : Fade} (hf : (s.pe i).fade = some f) (hk : f.k < f.len) : effFadeEnd i s = s := by
  simp [effFadeEnd, hf, Fade.done_of_running hk]

/-- An entry that fades in with no shadow entry and nothing waiting stands at its value once its half has run. -/
theorem effFadeEnd_in {f : Fade} (hf : (s.pe i).fade = some f) (hk : f.len ≤ f.k) (hs : (s.pe i).shadow = none)
    (hw : (s.pe i).waiting = none) :
    effFadeEnd i s = (s.setPe i { s.pe i with fade := none }).takeShadows.showPatch := by
  simp [effFadeEnd, hf, hs, hw, Fade.done_of_run hk]

/-- When both halves have run the shadow entry is free, and the change that waited for the fade goes on. -/
theorem effFadeEnd_both {f g : Fade} {x : Shadow} {w : Option WaitId} {new : Word64} (hf : (s.pe i).fade = some f) (hk : f.len ≤ f.k)
    (hs : (s.pe i).shadow = some x) (hx : x.fade = some g) (hg : g.len ≤ g.k) (hw : (s.pe i).waiting = some (.fade w, new)) :
    effFadeEnd i s =
      ((s.setPe i { s.pe i with fade := none, shadow := none }).resumeChange i (.fade w) new).takeShadows.showPatch := by
  simp [effFadeEnd, hf, hs, hx, hw, Fade.done_of_run hk, Fade.done_of_run hg]

/-- FADE_END answers the effect on the entry, then what follows from it for a class change and for the role. -/
theorem gives_fadeEnd {j : Fin 16384} {t : State} (ha : s.alive = true) (h : effFadeEnd j.val s = t) :
    Gives (.fadeEnd j) s t.endClassFades.settleRole :=
  gives_runs (exec_fadeEnd s) ha (congrArg (fun u : State => u.endClassFades.settleRole) h)

/-! ## Waits for programs (R196) -/

theorem waitReady_iff (s : State) (w : WaitId) :
    s.waitReady w = true ↔ ∀ e ∈ s.audio.patch, ∀ v, e.2.inWait w = some v → s.valueWaits v = false := by
  rw [State.waitReady, List.all_eq_true]
  refine forall₂_congr fun e _ => ?_
  cases e.2.inWait w with
  | none => simp
  | some v => simp

theorem effProgramWaitEnd_within (h : (s.node.n.toNat + 1) % 8 ≠ 0) (d : Nat) : effProgramWaitEnd d s = s :=
  if_pos (bne_iff_ne.2 h)

/-- At a block boundary each ready wait into the destination lets its entries go. -/
theorem effProgramWaitEnd_boundary (h : (s.node.n.toNat + 1) % 8 = 0) (d : Nat) :
    effProgramWaitEnd d s = (((s.waitsInto d).filter s.waitReady).foldl
      (fun s w => (s.waiters w).foldl (fun s e => s.releaseWait e.1 e.2) s) s).showPatch :=
  if_neg (by simp [h])

theorem effProgramWaitEnd_notReady {d : Nat} (h : (s.node.n.toNat + 1) % 8 = 0) (hw : ∀ w ∈ s.waitsInto d, s.waitReady w = false) :
    effProgramWaitEnd d s = s.showPatch := by
  have hnone : (s.waitsInto d).filter s.waitReady = [] := List.filter_eq_nil_iff.2 fun w hm => by simp [hw w hm]
  rw [effProgramWaitEnd_boundary h, hnone, List.foldl_nil]

theorem effProgramWaitEnd_ready {d : Nat} {w : WaitId} (h : (s.node.n.toNat + 1) % 8 = 0) (hd : s.waitsInto d = [w])
    (hw : s.waitReady w = true) :
    effProgramWaitEnd d s = ((s.waiters w).foldl (fun u e => u.releaseWait e.1 e.2) s).showPatch := by
  rw [effProgramWaitEnd_boundary h, hd, List.filter_cons_of_pos hw, List.filter_nil, List.foldl_cons, List.foldl_nil]

/-! ## Damaged entries (R199) -/

/-- The word of entry `i` in the PATCH section, 0 where the section has none. -/
def State.storedEntry (s : State) (i : Nat) : Word64 :=
  match s.cfgItem secPatch i with
  | some bs => BitVec.ofNat 64 (leAt bs 0 8)
  | none => 0

/-- The state with entry `i` of the table rewritten from the PATCH section. -/
def State.rewritten (s : State) (i : Nat) : State := s.setRg (PATCH_ENTRY i) (s.storedEntry i).toNat

theorem effPatchEntryRewrite_undamaged (h : (s.pe i).damaged = false) : effPatchEntryRewrite i s = s := by
  simp [effPatchEntryRewrite, h]

/-- A rewritten entry plays its value anew, fading in where it sounds. -/
def State.playAnew (s : State) (i : Nat) : State :=
  let v := s.playImage i
  let f : Option Fade := if sounding v then some ⟨false, 0, s.rampLen (peRamp v)⟩ else none
  let s := if f.isSome then s.countFades 1 else s
  (s.setPe i ⟨v, none, f, none, none, false, none⟩).takeShadows.showPatch

theorem effPatchEntryRewrite_damaged (h : (s.pe i).damaged = true) : effPatchEntryRewrite i s = (s.rewritten i).playAnew i :=
  if_neg (by simp [h])

theorem playAnew_sounding (h : sounding (s.playImage i) = true) :
    s.playAnew i = ((s.countFades 1).setPe i
      ⟨s.playImage i, none, some ⟨false, 0, s.rampLen (peRamp (s.playImage i))⟩, none, none, false, none⟩).takeShadows.showPatch := by
  simp only [State.playAnew, if_pos h, Option.isSome_some, if_true]

theorem playAnew_silent (h : sounding (s.playImage i) = false) :
    s.playAnew i = (s.setPe i ⟨s.playImage i, none, none, none, none, false, none⟩).takeShadows.showPatch := by
  simp only [State.playAnew, h, Bool.false_eq_true, if_false, Option.isSome_none]

/-- Settles O42: each end, in the case of what is under way, is the equation of its effect there. -/
theorem patchRampsAndFadesEnd : Obligations.PatchRampsAndFadesEnd := by
  unfold Obligations.PatchRampsAndFadesEnd
  intro s ha
  refine ⟨fun i => ⟨fun h => ?_, fun r h => ⟨fun hk => ?_, fun hk => ?_⟩⟩,
    fun i => ⟨fun hf hs => ?_, fun f hf hk => ?_, fun f hf hk hs hw => ?_, fun f x g w new hf hk hs hx hg hw => ?_⟩,
    waitReady_iff s, fun d => ⟨fun h => ?_, fun h hw => ?_, fun w h hd hw => ?_⟩,
    fun i => ⟨fun h => ?_, fun h => ⟨fun hv => ?_, fun hv => ?_⟩⟩⟩
  · exact gives_runs (exec_gainRampEnd s) ha (effGainRampEnd_none h)
  · exact gives_runs (exec_gainRampEnd s) ha (effGainRampEnd_running h hk)
  · exact gives_runs (exec_gainRampEnd s) ha (effGainRampEnd_run h hk)
  · exact gives_fadeEnd ha (effFadeEnd_none hf hs)
  · exact gives_fadeEnd ha (effFadeEnd_running hf hk)
  · exact gives_fadeEnd ha (effFadeEnd_in hf hk hs hw)
  · exact gives_fadeEnd ha (effFadeEnd_both hf hk hs hx hg hw)
  · exact gives_runs (exec_programWaitEnd s) ha (effProgramWaitEnd_within h d.val)
  · exact gives_runs (exec_programWaitEnd s) ha (effProgramWaitEnd_notReady h hw)
  · exact gives_runs (exec_programWaitEnd s) ha (effProgramWaitEnd_ready h hd hw)
  · exact gives_runs (exec_patchEntryRewrite s) ha (effPatchEntryRewrite_undamaged h)
  · exact gives_runs (exec_patchEntryRewrite s) ha ((effPatchEntryRewrite_damaged h).trans (playAnew_sounding hv))
  · exact gives_runs (exec_patchEntryRewrite s) ha ((effPatchEntryRewrite_damaged h).trans (playAnew_silent hv))

end Sys2Proof.Machine
end

section
/-! The ends of meter windows, delay fades, detachments and look-ahead mutes (R202, R210, R211, R219, R220). O44. -/

namespace Sys2Proof.Machine

variable {s : State}

theorem tget_tmap {α : Type} (f : Nat → α → α) (m : Tbl α) (a : Nat) : tget (tmap f m) a = (tget m a).map (f a) := by
  induction m with
  | nil => rfl
  | cons e m ih =>
    obtain ⟨b, v⟩ := e
    change (if a = b then some (f b v) else tget (tmap f m) a) = (if a = b then some v else tget m a).map (f a)
    split
    case isTrue h => rw [h, Option.map_some]
    case isFalse => exact ih

/-! ## Meter windows (R202) -/

/-- Meter `i` after the window of meter `j` has been shown: where they are the same, that window is done with. -/
def windowShown (j i : Nat) (m : Meter) : Meter := if i = j then { m with done := none } else m

/-- The code of the RMS of `w` samples whose squares make `sum`. -/
def rmsCode (sum w : Nat) : Nat :=
  if sum = 0 then 0x8000
  else unsigned 16 (satTo (-32767) 32767 (rhe ((fxLnNat sum - fxLnNat (w * 2 ^ 62)) * 2560) fxLn10))

/-- The state in which the RMS of a window of meter `j` is shown. -/
def State.showWindow (s : State) (j sum w : Nat) : State :=
  { s with
    regs := (s.put (F.METER_RMS_RMS_DB j) (rmsCode sum w)).regs
    audio := { s.audio with meters := tmap (windowShown j) s.audio.meters } }

theorem effMeterWindowEnd_none {j : Nat} (h : (tget s.audio.meters j).bind (fun m => m.done) = none) :
    effMeterWindowEnd j s = s := by
  simp only [effMeterWindowEnd, h]

theorem effMeterWindowEnd_done {j sum w : Nat} (h : (tget s.audio.meters j).bind (fun m => m.done) = some (sum, w)) :
    effMeterWindowEnd j s = s.showWindow j sum w := by
  simp only [effMeterWindowEnd, h]
  rw [put_only]
  rfl

theorem rmsCode_zero (w : Nat) : rmsCode 0 w = 0x8000 := if_pos rfl

theorem rmsCode_of_ne {sum : Nat} (h : sum ≠ 0) (w : Nat) : rmsCode sum w =
    unsigned 16 (satTo (-32767) 32767 (rhe ((fxLnNat sum - fxLnNat (w * 2 ^ 62)) * 2560) fxLn10)) := if_neg h

theorem rg_showWindow (s : State) (j sum w a : Nat) :
    (s.showWindow j sum w).rg a = (s.put (F.METER_RMS_RMS_DB j) (rmsCode sum w)).rg a := by
  simp only [State.rg, State.showWindow]

theorem get_showWindow (s : State) (j sum w : Nat) (f : Fld) :
    (s.showWindow j sum w).get f = (s.put (F.METER_RMS_RMS_DB j) (rmsCode sum w)).get f := by
  rw [State.get, rg_showWindow, State.get]

theorem get_showWindow_zero (s : State) (j w : Nat) : (s.showWindow j 0 w).get (F.METER_RMS_RMS_DB j) = 0x8000 := by
  rw [get_showWindow, rmsCode_zero]
  exact get_put_same s (f := F.METER_RMS_RMS_DB j) 0x8000 (by decide : 0 + 16 ≤ 64)

/-- A level held within the range of RMS_DB reads back. -/
theorem getS_put_rms (s : State) (j : Nat) (x : Int) :
    (s.put (F.METER_RMS_RMS_DB j) (unsigned 16 (satTo (-32767) 32767 x))).getS (F.METER_RMS_RMS_DB j) = satTo (-32767) 32767 x := by
  obtain ⟨hl, hh⟩ := satTo_mem (lo := -32767) (hi := 32767) (by decide) x
  exact getS_put_same s (f := F.METER_RMS_RMS_DB j) (by decide : 0 + 16 ≤ 64) (by decide : 0 < 16)
    (le_trans (by decide : -2 ^ (16 - 1) ≤ (-32767 : Int)) hl) (lt_of_le_of_lt hh (by decide : (32767 : Int) < 2 ^ (16 - 1)))

theorem getS_showWindow {sum : Nat} (h : sum ≠ 0) (s : State) (j w : Nat) : (s.showWindow j sum w).getS (F.METER_RMS_RMS_DB j) =
    satTo (-32767) 32767 (rhe ((fxLnNat sum - fxLnNat (w * 2 ^ 62)) * 2560) fxLn10) := by
  rw [State.getS, get_showWindow, rmsCode_of_ne h, ← State.getS, getS_put_rms]

theorem done_showWindow (s : State) (j sum w : Nat) :
    (tget (s.showWindow j sum w).audio.meters j).bind (fun m => m.done) = none := by
  change (tget (tmap (windowShown j) s.audio.meters) j).bind (fun m => m.done) = none
  rw [tget_tmap]
  cases tget s.audio.meters j with
  | none => rfl
  | some m => simp [windowShown]

theorem regsBut_showWindow (s : State) (j sum w : Nat) : RegsBut [(F.METER_RMS_RMS_DB j).addr] s (s.showWindow j sum w) := by
  intro a h
  rw [rg_showWindow, rg_put_ne s _ (List.ne_of_not_mem_cons h)]

theorem showWindow_frame (s : State) (j sum w : Nat) : s.showWindow j sum w =
    { s with regs := (s.showWindow j sum w).regs, audio := { s.audio with meters := (s.showWindow j sum w).audio.meters } } := rfl

/-- Stated of any registers: a comparison of the queue then does not evaluate the code that a meter shows. -/
theorem pending_regs_audio (s : State) (r : List (Nat × Word64)) (a : Audio) :
    ({ s with regs := r, audio := a } : State).pending = s.pending := rfl

theorem showWindow_pending (s : State) (j sum w : Nat) : (s.showWindow j sum w).pending = s.pending := pending_regs_audio s _ _

/-- A command whose effect leaves the queue as it was answers its effect. -/
theorem exec_of_gives {i : Instr} {t : State} (h : Gives i s t) (hp : t.pending = s.pending) : exec i s = .next t := by
  rw [h, ← hp]

/-- METER_WINDOW_END with a window that has ended answers the state that shows it. -/
theorem exec_meterWindowEnd_done (ha : s.alive = true) {j : Fin 256} {sum w : Nat}
    (h : (tget s.audio.meters j.val).bind (fun m => m.done) = some (sum, w)) :
    exec (.meterWindowEnd j) s = .next (s.showWindow j.val sum w) :=
  exec_of_gives (gives_runs (exec_meterWindowEnd s) ha (effMeterWindowEnd_done h)) (showWindow_pending s j.val sum w)

/-! ## Delay lines (R210, R211) -/

section
variable {d : Nat} {b : DelayBuf} {f : Fade}

theorem effDelayFadeStart_none (h : (s.line d).next = none) : effDelayFadeStart d s = s := by
  simp only [effDelayFadeStart, h]

theorem effDelayFadeStart_filling (h : (s.line d).next = some (b, none)) (hb : b.cnt < b.delay) : effDelayFadeStart d s = s := by
  simp only [effDelayFadeStart, h, if_neg (Nat.not_le.2 hb)]

theorem effDelayFadeStart_full (h : (s.line d).next = some (b, none)) (hb : b.delay ≤ b.cnt) :
    effDelayFadeStart d s = s.setLine d { s.line d with next := some (b, some ⟨false, 0, s.rampLen b.ramp⟩) } := by
  simp only [effDelayFadeStart, h, if_pos hb]

theorem effDelayFadeStart_fading (h : (s.line d).next = some (b, some f)) : effDelayFadeStart d s = s := by
  simp only [effDelayFadeStart, h]

theorem effDelayFadeEnd_none (h : (s.line d).next = none) : effDelayFadeEnd d s = s := by
  simp only [effDelayFadeEnd, h]

theorem effDelayFadeEnd_waiting (h : (s.line d).next = some (b, none)) : effDelayFadeEnd d s = s := by
  simp only [effDelayFadeEnd, h]

theorem effDelayFadeEnd_fading (h : (s.line d).next = some (b, some f)) (hk : f.k < f.len) : effDelayFadeEnd d s = s := by
  simp only [effDelayFadeEnd, h, if_neg (Nat.not_le.2 hk)]

theorem effDelayFadeEnd_run (h : (s.line d).next = some (b, some f)) (hk : f.len ≤ f.k) (hp : (s.line d).pend = none) :
    effDelayFadeEnd d s = s.setLine d ⟨b, none, none⟩ := by
  simp only [effDelayFadeEnd, h, if_pos hk, hp]

theorem effDelayFadeEnd_pending {img : Word32} (h : (s.line d).next = some (b, some f)) (hk : f.len ≤ f.k)
    (hp : (s.line d).pend = some img) : effDelayFadeEnd d s = (s.setLine d ⟨b, none, none⟩).changeLine d img.toNat := by
  simp only [effDelayFadeEnd, h, if_pos hk, hp]

end

/-! ## Detachments (R219) -/

theorem DynInst.gone_iff (d : DynInst) : d.gone = true ↔ d.g = 0 ∧ d.makeup.len ≤ d.makeup.k := by
  simp [DynInst.gone]

/-- Of the detaching instances only those of number `i` that stand at 0 dB go. -/
theorem mem_effDynDetach (s : State) (i : Nat) (e : Nat × DynInst) : e ∈ (effDynDetach i s).audio.detaching ↔
    e ∈ s.audio.detaching ∧ ¬ (e.1 = i ∧ e.2.g = 0 ∧ e.2.makeup.len ≤ e.2.makeup.k) := by
  rw [← DynInst.gone_iff]
  exact List.mem_filter.trans (and_congr_right' (by simp [imp_iff_not_or]))

/-! ## What a change of images and of a mute leaves -/

/-- Nothing but the instances, attached and detaching, differs. -/
def InstsOnly (s t : State) : Prop :=
  t = { s with audio := { s.audio with dyn := t.audio.dyn, detaching := t.audio.detaching } }

theorem makeInstChange_instsOnly (s : State) (i : Nat) (c : DynCfg) : InstsOnly s (s.makeInstChange i c) := by
  unfold State.makeInstChange
  split
  · split
    · exact rfl
    · exact rfl
  · split
    · exact rfl
    · split
      · exact rfl
      · exact rfl

/-- Nothing but the mutes that destinations have of their own differs. -/
def MutesOnly (s t : State) : Prop := t = { s with audio := { s.audio with mutes := t.audio.mutes } }

theorem MutesOnly.trans {t u : State} (h : MutesOnly s t) (k : MutesOnly t u) : MutesOnly s u := by
  unfold MutesOnly at *; rw [k, h]

/-- The mute that destination `d` shares with its class. -/
def State.muteClass (s : State) (d : Nat) : Mute := if isNetDst d then s.audio.muteNet else s.audio.muteOut

theorem muteOf_eq (s : State) (d : Nat) : s.muteOf d = (tget s.audio.mutes d).getD (s.muteClass d) := rfl

theorem muteClass_mapMute (s : State) (d : Nat) (f : Mute → Mute) (e : Nat) : (s.mapMute d f).muteClass e = s.muteClass e := rfl

theorem muteOf_mapMute_same (s : State) (d : Nat) (f : Mute → Mute) : (s.mapMute d f).muteOf d = f (s.muteOf d) := by
  have hown : tget (s.mapMute d f).audio.mutes d =
      if f (s.muteOf d) = s.muteClass d then none else some (f (s.muteOf d)) := (tget_tput _ d d _).trans (if_pos rfl)
  rw [muteOf_eq, hown, muteClass_mapMute]
  split
  case isTrue h => exact h.symm
  case isFalse => rfl

theorem muteOf_mapMute_ne (s : State) {d e : Nat} (f : Mute → Mute) (h : e ≠ d) : (s.mapMute d f).muteOf e = s.muteOf e := by
  have hown : tget (s.mapMute d f).audio.mutes e = tget s.audio.mutes e := (tget_tput _ d e _).trans (if_neg h)
  rw [muteOf_eq, hown, muteClass_mapMute, muteOf_eq]

/-! ## Look-ahead changes (R220) -/

/-- Destination `d` is muted no more for the look-ahead of number `i`, and fades in. -/
def State.unmuteLook (s : State) (i d : Nat) : State := s.mapMute d (Mute.remove (.lookahead i) (s.rampLen 0))

theorem unmuteLook_mutesOnly (i : Nat) (s : State) (d : Nat) : MutesOnly s (s.unmuteLook i d) := rfl

theorem foldl_unmuteLook_mutesOnly (i : Nat) (l : List Nat) (s : State) : MutesOnly s (l.foldl (fun s d => s.unmuteLook i d) s) := by
  induction l generalizing s with
  | nil => exact rfl
  | cons d l ih => exact (unmuteLook_mutesOnly i s d).trans (ih _)

theorem muteOf_unmuteLook_ne (s : State) (i : Nat) {d e : Nat} (h : e ≠ d) : (s.unmuteLook i d).muteOf e = s.muteOf e :=
  muteOf_mapMute_ne s _ h

theorem notMem_unmuteLook (s : State) (i d : Nat) : .lookahead i ∉ ((s.unmuteLook i d).muteOf d).reasons := by
  have hd : (s.unmuteLook i d).muteOf d = Mute.remove (.lookahead i) (s.rampLen 0) (s.muteOf d) := muteOf_mapMute_same s d _
  rw [hd]
  exact not_mem_remove _ _ _

theorem muteOf_foldl_unmuteLook (i : Nat) {d : Nat} {l : List Nat} (h : d ∉ l) (s : State) :
    (l.foldl (fun s d => s.unmuteLook i d) s).muteOf d = s.muteOf d := by
  induction l generalizing s with
  | nil => rfl
  | cons e l ih =>
    obtain ⟨hne, hl⟩ := List.ne_and_not_mem_of_not_mem_cons h
    exact (ih hl _).trans (muteOf_unmuteLook_ne s i hne)

/-- A destination the mute was taken from stays without it, whichever others follow. -/
theorem notMem_foldl_unmuteLook {i d : Nat} {l : List Nat} (h : d ∈ l ∨ .lookahead i ∉ (s.muteOf d).reasons) :
    .lookahead i ∉ ((l.foldl (fun s d => s.unmuteLook i d) s).muteOf d).reasons := by
  induction l generalizing s with
  | nil => exact h.resolve_left List.not_mem_nil
  | cons e l ih =>
    by_cases he : d = e
    · exact ih (.inr (he ▸ notMem_unmuteLook s i d))
    · refine ih (h.imp (fun hd => (List.mem_cons.1 hd).resolve_left he) fun hr => ?_)
      rw [muteOf_unmuteLook_ne s i he]
      exact hr

/-- The change of number `i` to the images `c` that waited for its mute, made. -/
def State.lookMade (s : State) (i : Nat) (c : DynCfg) : State :=
  ({ s with audio := { s.audio with lookWait := cdel s.audio.lookWait i } } : State).makeInstChange i c

/-- The private delay of number `i` cleared, and its look-ahead gone where it detaches. -/
def State.clearLooks (s : State) (i : Nat) : State :=
  { s with audio := { s.audio with
    detaching := s.audio.detaching.map (fun (e : Nat × DynInst) => if e.1 = i then (e.1, e.2.noLook) else e)
    dyn := s.audio.dyn.map (fun (e : Nat × DynInst) => if e.1 = i then (e.1, e.2.clearLook) else e) } }

theorem lookMade_instsOnly (s : State) (i : Nat) (c : DynCfg) :
    InstsOnly { s with audio := { s.audio with lookWait := cdel s.audio.lookWait i } } (s.lookMade i c) :=
  makeInstChange_instsOnly _ i c

theorem lookMuted_lookMade (s : State) (i : Nat) (c : DynCfg) : ((s.lookMade i c).clearLooks i).lookMuted i = s.lookMuted i := by
  change (s.lookMade i c).lookMuted i = s.lookMuted i
  rw [lookMade_instsOnly s i c]
  rfl

theorem effLookaheadChange_none {i : Nat} (h : tget s.audio.lookWait i = none) : effLookaheadChange i s = s := by
  simp only [effLookaheadChange, h]

theorem effLookaheadChange_unmuted {i : Nat} (h : ∃ d ∈ s.lookMuted i, (s.muteOf d).ended = false) :
    effLookaheadChange i s = s := by
  have hall : (s.lookMuted i).all (fun d => (s.muteOf d).ended) = false := by simpa using h
  unfold effLookaheadChange
  split
  · rfl
  · exact if_pos (by rw [hall]; rfl)

theorem effLookaheadChange_muted {i : Nat} {c : DynCfg} (h : tget s.audio.lookWait i = some c)
    (hm : ∀ d ∈ s.lookMuted i, (s.muteOf d).ended = true) :
    effLookaheadChange i s = (s.lookMuted i).foldl (fun s d => s.unmuteLook i d) ((s.lookMade i c).clearLooks i) := by
  have hall : (s.lookMuted i).all (fun d => (s.muteOf d).ended) = true := List.all_eq_true.2 hm
  rw [← lookMuted_lookMade s i c]
  simp only [effLookaheadChange, h, hall, Bool.not_true, Bool.false_eq_true, if_false]
  rfl

/-- Settles O44: each end, in the case of what is under way, is the equation of its effect there; the look-ahead change turns on
the mutes, which a change of images leaves and its end takes from the destinations muted for it alone. -/
theorem metersDelaysAndDynamicsEnd : Obligations.MetersDelaysAndDynamicsEnd := by
  unfold Obligations.MetersDelaysAndDynamicsEnd
  intro s ha
  refine ⟨fun j => ⟨fun h => ?_, fun sum w h => ?_⟩,
    fun d => ⟨fun h => ⟨?_, ?_⟩, fun b h => ⟨?_, fun hb => ?_, fun hb => ?_⟩,
      fun b f h => ⟨?_, fun hk => ?_, fun hk hp => ?_, fun hk img hp => ?_⟩⟩,
    fun i => ?_, fun i => ⟨fun h => ?_, fun h => ?_, fun c h hm => ?_⟩⟩
  · exact gives_runs (exec_meterWindowEnd s) ha (effMeterWindowEnd_none h)
  · refine ⟨_, exec_meterWindowEnd_done ha h, fun hz => ?_, fun hz => getS_showWindow hz s j.val w, done_showWindow s j.val sum w,
      regsBut_showWindow s j.val sum w, showWindow_frame s j.val sum w⟩
    subst hz
    exact get_showWindow_zero s j.val w
  · exact gives_runs (exec_delayFadeStart s) ha (effDelayFadeStart_none h)
  · exact gives_runs (exec_delayFadeEnd s) ha (effDelayFadeEnd_none h)
  · exact gives_runs (exec_delayFadeEnd s) ha (effDelayFadeEnd_waiting h)
  · exact gives_runs (exec_delayFadeStart s) ha (effDelayFadeStart_filling h hb)
  · exact gives_runs (exec_delayFadeStart s) ha (effDelayFadeStart_full h hb)
  · exact gives_runs (exec_delayFadeStart s) ha (effDelayFadeStart_fading h)
  · exact gives_runs (exec_delayFadeEnd s) ha (effDelayFadeEnd_fading h hk)
  · exact gives_runs (exec_delayFadeEnd s) ha (effDelayFadeEnd_run h hk hp)
  · exact gives_runs (exec_delayFadeEnd s) ha (effDelayFadeEnd_pending h hk hp)
  · exact ⟨_, gives_runs (exec_dynDetach s) ha rfl, rfl, mem_effDynDetach s i.val⟩
  · exact gives_runs (exec_lookaheadChange s) ha (effLookaheadChange_none h)
  · exact gives_runs (exec_lookaheadChange s) ha (effLookaheadChange_unmuted h)
  · have hmade := lookMade_instsOnly s i.val c
    have hmutes := foldl_unmuteLook_mutesOnly i.val (s.lookMuted i.val) ((s.lookMade i.val c).clearLooks i.val)
    refine ⟨_, s.lookMade i.val c, gives_runs (exec_lookaheadChange s) ha (effLookaheadChange_muted h hm), rfl, ?_, ?_,
      fun d hd => notMem_foldl_unmuteLook (.inl hd), fun d hd => muteOf_foldl_unmuteLook i.val hd _⟩
    · rw [hmutes]; rfl
    · rw [hmutes]
      change tget (s.lookMade i.val c).audio.lookWait i.val = none
      rw [hmade]
      exact tget_cdel_same _ _

end Sys2Proof.Machine
end

section
/-! Where a frame of the switch goes (R230, Table 8.2), which copy a deadline takes (R255, Table 8.9), and what a control-bus frame is
on the wire (R396, Table 13.3). O54. -/

namespace Sys2Proof.Machine

/-! ## The ports of a frame (Table 8.2) -/

/-- The external ports that a frame of domain `d` from `i` may go to: those of its domain but its own. -/
def State.othersOf (s : State) (d : Nat) (i : Option Nat) : List Nat :=
  (List.range 4).filter (fun p => s.portDomain p = d && i != some p)

theorem mem_othersOf {s : State} {d p : Nat} {i : Option Nat} : p ∈ s.othersOf d i ↔ p < 4 ∧ s.portDomain p = d ∧ i ≠ some p := by
  simp [State.othersOf]

/-- A route that names no external port but those listed. -/
def Route.Within (l : List Nat) (r : Route) : Prop := r.ext ⊆ l

namespace Route.Within

variable {l : List Nat}

theorem ite {c : Prop} [Decidable c] {r q : Route} (hr : Within l r) (hq : Within l q) : Within l (if c then r else q) := by
  split
  · exact hr
  · exact hq

theorem nil (int limited : Bool) : Within l ⟨[], int, limited⟩ := List.nil_subset l

theorem all (int limited : Bool) : Within l ⟨l, int, limited⟩ := List.Subset.refl l

theorem some_of (f : Nat → Bool) (int limited : Bool) : Within l ⟨l.filter f, int, limited⟩ := List.filter_sublist.subset

end Route.Within

/-- Each row of Table 8.2 names some of these ports. -/
theorem route_within (s : State) (d : Nat) (i : Option Nat) (b : List Byte) : (s.route d i b).Within (s.othersOf d i) := by
  unfold State.route
  dsimp only
  split
  · refine .ite (.nil _ _) (.ite ?unicast (.ite (.all _ _) (.ite (.all _ _) (.ite ?multicast (.all _ _)))))
    case unicast =>
      split
      · exact .some_of _ _ _
      · exact .all _ _
    case multicast =>
      split
      · exact .some_of _ _ _
      · split
        · exact .all _ _
        · exact .nil _ _
  · refine .ite (.nil _ _) (.ite ?_ (.all _ _))
    split
    · exact .some_of _ _ _
    · exact .all _ _

theorem route_ext_engine {s : State} {b : List Byte} (h : (viewFrame b).dst = s.fuses.mac) (d : Nat) (i : Option Nat) :
    (s.route d i b).ext = [] := by
  unfold State.route
  dsimp only
  split
  · rw [if_pos h]
  · rw [if_pos h]

/-! ## The copy of a deadline (Table 8.9) -/

/-- Copy `c` goes before copy `e`: a higher claim, or an equal one on a leg that is not above. -/
def RxCopy.Precedes (c e : RxCopy) : Prop :=
  (viewRtp e.rtp).claim < (viewRtp c.rtp).claim ∨ ((viewRtp e.rtp).claim = (viewRtp c.rtp).claim ∧ c.leg ≤ e.leg)

theorem RxCopy.Precedes.refl (c : RxCopy) : c.Precedes c := .inr ⟨rfl, Nat.le_refl _⟩

theorem RxCopy.Precedes.trans {a b c : RxCopy} (h : a.Precedes b) (k : b.Precedes c) : a.Precedes c := by
  unfold RxCopy.Precedes at *
  omega

/-- Of the best copy so far and the next one, the one taken. -/
def RxCopy.orNext (b c : RxCopy) : RxCopy :=
  if (viewRtp b.rtp).claim < (viewRtp c.rtp).claim || ((viewRtp b.rtp).claim = (viewRtp c.rtp).claim && decide (c.leg < b.leg)) then c else b

theorem RxCopy.orNext_cases (b c : RxCopy) : b.orNext c = b ∧ b.Precedes c ∨ b.orNext c = c ∧ c.Precedes b := by
  unfold RxCopy.orNext RxCopy.Precedes
  simp only [Bool.or_eq_true, decide_eq_true_eq, Bool.and_eq_true]
  split
  case isTrue h => exact .inr ⟨rfl, by omega⟩
  case isFalse h => exact .inl ⟨rfl, by omega⟩

theorem bestCopy_concat_first {cs : List RxCopy} (h : bestCopy cs = none) (c : RxCopy) : bestCopy (cs ++ [c]) = some c := by
  unfold bestCopy at h ⊢
  rw [List.foldl_append, h]
  rfl

theorem bestCopy_concat_next {cs : List RxCopy} {b : RxCopy} (h : bestCopy cs = some b) (c : RxCopy) :
    bestCopy (cs ++ [c]) = some (b.orNext c) := by
  unfold bestCopy at h ⊢
  rw [List.foldl_append, h]
  exact (apply_ite some _ c b).symm

/-- The best of some copies is one of them that precedes them all. -/
def IsBest (cs : List RxCopy) : Option RxCopy → Prop
  | none => cs = []
  | some c => c ∈ cs ∧ ∀ e ∈ cs, c.Precedes e

theorem isBest_orNext {cs : List RxCopy} {b : RxCopy} (h : IsBest cs (some b)) (c : RxCopy) : IsBest (cs ++ [c]) (some (b.orNext c)) := by
  obtain ⟨hmem, hall⟩ := h
  simp only [IsBest, List.mem_append, List.mem_singleton, or_imp, forall_and, forall_eq]
  rcases b.orNext_cases c with ⟨hb, hp⟩ | ⟨hc, hp⟩
  · rw [hb]
    exact ⟨.inl hmem, hall, hp⟩
  · rw [hc]
    exact ⟨.inr rfl, fun e he => hp.trans (hall e he), .refl c⟩

theorem isBest_bestCopy (cs : List RxCopy) : IsBest cs (bestCopy cs) := by
  induction cs using List.reverseRecOn with
  | nil => exact rfl
  | append_singleton cs c ih =>
    cases hb : bestCopy cs with
    | none =>
      rw [hb] at ih
      obtain rfl : cs = [] := ih
      rw [bestCopy_concat_first hb]
      exact ⟨List.mem_singleton_self c, fun e he => List.mem_singleton.1 he ▸ .refl c⟩
    | some b =>
      rw [hb] at ih
      rw [bestCopy_concat_next hb]
      exact isBest_orNext ih c

theorem bestCopy_eq_none {cs : List RxCopy} : bestCopy cs = none ↔ cs = [] :=
  ⟨fun h => by simpa only [h, IsBest] using isBest_bestCopy cs, fun h => h ▸ rfl⟩

theorem bestCopy_eq_some {cs : List RxCopy} {c : RxCopy} (h : bestCopy cs = some c) : c ∈ cs ∧ ∀ e ∈ cs, c.Precedes e := by
  simpa only [h, IsBest] using isBest_bestCopy cs

/-! ## A control-bus frame on the wire (Table 13.3) -/

/-- A frame padded to 60 bytes. -/
def padded (b : List Byte) : List Byte := b ++ List.replicate (60 - b.length) 0

theorem cbusWire_eq (b : List Byte) : cbusWire b = padded b ++ leBytes 4 (crc32 (padded b)) := rfl

theorem length_padded (b : List Byte) : 60 ≤ (padded b).length ∧ b.length ≤ (padded b).length := by
  simp [padded]
  omega

/-- What is followed by its own FCS checks. -/
theorem fcsGood_append (p : List Byte) : fcsGood (p ++ leBytes 4 (crc32 p)) = true := by
  simp [fcsGood, leBytes_length]

/-- Settles O54: each row of Table 8.2 takes its ports from those of the frame's domain but its own; the best copy is followed through
the list of copies; the wire form is the padded frame and its FCS. -/
theorem framesAndCopiesKeepTheirRules : Obligations.FramesAndCopiesKeepTheirRules := by
  unfold Obligations.FramesAndCopiesKeepTheirRules
  refine ⟨fun s d i b => ⟨fun p hp => mem_othersOf.1 (route_within s d i b hp), fun h => route_ext_engine h d i⟩,
    fun b => ⟨?_, ?_, ?_⟩, fun cs => ⟨bestCopy_eq_none, fun c h => bestCopy_eq_some h⟩⟩
  · have := (length_padded b).1
    rw [cbusWire_eq, List.length_append, leBytes_length]
    omega
  · exact fcsGood_append (padded b)
  · rw [cbusWire_eq, padded, List.append_assoc, List.take_left]

end Sys2Proof.Machine
end

section
/-! States that differ in some registers alone, and the external ports: their state, their queues and their links (R225, R226, R239,
R260). -/

namespace Sys2Proof.Machine

/-! ## States that differ in registers alone -/

theorem bit_put_ne (s : State) {f g : Fld} (v : Nat) (h : g.addr ≠ f.addr) : (s.put f v).bit g = s.bit g := by
  rw [State.bit, get_put_ne s v h, State.bit]

theorem bit_put_disjoint (s : State) {f g : Fld} (v : Nat) (hf : f.lo + f.width ≤ 64) (ha : g.addr = f.addr)
    (h : g.lo + g.width ≤ f.lo ∨ f.lo + f.width ≤ g.lo) : (s.put f v).bit g = s.bit g := by
  rw [State.bit, get_put_disjoint s v hf ha h, State.bit]

theorem get_putBit_disjoint (s : State) {f g : Fld} (b : Bool) (hf : f.lo + f.width ≤ 64) (ha : g.addr = f.addr)
    (h : g.lo + g.width ≤ f.lo ∨ f.lo + f.width ≤ g.lo) : (s.putBit f b).get g = s.get g :=
  get_put_disjoint s _ hf ha h

theorem bit_putBit_disjoint (s : State) {f g : Fld} (b : Bool) (hf : f.lo + f.width ≤ 64) (ha : g.addr = f.addr)
    (h : g.lo + g.width ≤ f.lo ∨ f.lo + f.width ≤ g.lo) : (s.putBit f b).bit g = s.bit g :=
  bit_put_disjoint s _ hf ha h

namespace OnlyRegs

variable {l : List Nat} {s t u : State}

theorem refl (l : List Nat) (s : State) : OnlyRegs l s s := ⟨rfl, .refl l s⟩

theorem trans (h : OnlyRegs l s t) (k : OnlyRegs l t u) : OnlyRegs l s u := by
  obtain ⟨ht, hr⟩ := h
  obtain ⟨hu, kr⟩ := k
  refine ⟨?_, hr.trans kr⟩
  rw [hu, ht]

theorem setRg (s : State) {a : Nat} (v : Nat) (h : a ∈ l) : OnlyRegs l s (s.setRg a v) := ⟨rfl, .setRg s v h⟩

theorem put (s : State) {f : Fld} (v : Nat) (h : f.addr ∈ l) : OnlyRegs l s (s.put f v) := setRg s _ h

theorem putBit (s : State) {f : Fld} (b : Bool) (h : f.addr ∈ l) : OnlyRegs l s (s.putBit f b) := put s _ h

theorem ite {c : Prop} [Decidable c] (ht : OnlyRegs l s t) (hu : OnlyRegs l s u) : OnlyRegs l s (if c then t else u) := by
  split
  · exact ht
  · exact hu

theorem andPut (h : OnlyRegs l s t) (f : Fld) (v : Nat) (hf : f.addr ∈ l) : OnlyRegs l s (t.put f v) := h.trans (put t v hf)

theorem andPutBit (h : OnlyRegs l s t) (f : Fld) (b : Bool) (hf : f.addr ∈ l) : OnlyRegs l s (t.putBit f b) := h.andPut f _ hf

theorem iterate {f : State → State} (h : ∀ s, OnlyRegs l s (f s)) (n : Nat) (s : State) : OnlyRegs l s (iterate f n s) := by
  induction n generalizing s with
  | zero => exact refl l s
  | succ n ih => exact (h s).trans (ih (f s))

theorem foldl {α : Type} {f : State → α → State} {m : List α} (h : ∀ s, ∀ x ∈ m, OnlyRegs l s (f s x)) (s : State) :
    OnlyRegs l s (m.foldl f s) := by
  induction m generalizing s with
  | nil => exact refl l s
  | cons x m ih => exact (h s x List.mem_cons_self).trans (ih (fun s y hy => h s y (List.mem_cons_of_mem x hy)) _)

theorem get (h : OnlyRegs l s t) {f : Fld} (hf : f.addr ∉ l) : t.get f = s.get f := h.2.get hf

theorem bit (h : OnlyRegs l s t) {f : Fld} (hf : f.addr ∉ l) : t.bit f = s.bit f := by rw [State.bit, h.get hf, State.bit]

theorem net (h : OnlyRegs l s t) : t.net = s.net := by rw [h.1]

theorem pending (h : OnlyRegs l s t) : t.pending = s.pending := by rw [h.1]

theorem out (h : OnlyRegs l s t) : t.out = s.out := by rw [h.1]

end OnlyRegs

/-! ## The state of a port -/

section
variable (s : State) (p : Fin 4) (v : Port)

theorem setPort_eq : s.setPort p.val v = { s with net := { s.net with ports := s.net.ports.set p v } } := by
  simp only [State.setPort, finOf, p.isLt, dif_pos]

theorem port_eq : s.port p.val = s.net.ports[p] := by
  simp [State.port]

theorem port_withPorts : ({ s with net := { s.net with ports := s.net.ports.set p v } } : State).port p.val = v := by
  rw [port_eq]
  simp

@[simp] theorem port_setPort_same : (s.setPort p.val v).port p.val = v := by
  rw [setPort_eq]
  exact port_withPorts s p v

@[simp] theorem setPort_out (q : Nat) : (s.setPort q v).out = s.out := by
  unfold State.setPort
  split <;> rfl

theorem port_of_net {s t : State} (h : t.net = s.net) (p : Nat) : t.port p = s.port p := by rw [State.port, h, State.port]

/-- The shaper's credit changes nothing of the frame being sent. -/
theorem sending_creditTo (t : Nat) : ((s.creditTo p.val t).port p.val).sending = (s.port p.val).sending := by
  unfold State.creditTo
  simp only [port_setPort_same]

end

/-! ## The tails of the transmit rings (R260) -/

/-- The registers of the rings' heads and tails. -/
def txPtrs : List Nat := (List.range 8).map NET_TXR_PTR

theorem mem_txPtrs {r : Nat} (h : r < 8) : NET_TXR_PTR r ∈ txPtrs := List.mem_map_of_mem (List.mem_range.2 h)

theorem settleTail_onlyRegs (s : State) {r : Nat} (h : r < 8) : OnlyRegs txPtrs s (s.settleTail r) :=
  .iterate (fun t => .ite (.refl _ t) (.put t _ (mem_txPtrs h))) _ s

theorem settleTails_onlyRegs (s : State) : OnlyRegs txPtrs s ((List.range 8).foldl (fun v r => v.settleTail r) s) :=
  .foldl (fun t _ hr => settleTail_onlyRegs t (List.mem_range.1 hr)) s

theorem portStat_notMem_txPtrs (p : Nat) : NET_PORT_STAT p ∉ txPtrs := by
  simp only [txPtrs, List.mem_map, List.mem_range, not_exists, not_and]
  intro r hr
  unfold NET_TXR_PTR NET_PORT_STAT
  omega

/-! ## LINK_UP (R226) -/

/-- A port may show link: it is enabled, and the power state leaves it powered. -/
def State.portReady (s : State) (p : Nat) : Bool :=
  s.bit (F.NET_PORT_CFG_EN p) && decide (s.get F.PWR_STAT_STATE < 3 ∨ (s.get F.PWR_STAT_STATE = 3 ∧ p = s.pwr.p3port))

/-- Port `p` with link at a rate, with or without FEC. -/
def State.linked (s : State) (p rate : Nat) (fec : Bool) : State :=
  ((s.putBit (F.NET_PORT_STAT_LINK p) true).put (F.NET_PORT_STAT_RATE_NOW p) rate).putBit (F.NET_PORT_STAT_FEC_ON p) fec

section
variable {s : State} {p rate : Nat} {fec : Bool}

theorem effLinkUp_none (h : s.attempt p = none) : effLinkUp p s = s := by
  simp only [effLinkUp, h]

theorem effLinkUp_some (h : s.attempt p = some (rate, fec)) : effLinkUp p s = if s.portReady p = true then s.linked p rate fec else s := by
  have hc : (!s.bit (F.NET_PORT_CFG_EN p) || 4 ≤ s.get F.PWR_STAT_STATE || (s.get F.PWR_STAT_STATE = 3 && p != s.pwr.p3port)) =
      !s.portReady p := by
    cases hen : s.bit (F.NET_PORT_CFG_EN p) with
    | false => simp only [State.portReady, hen, Bool.not_false, Bool.true_or, Bool.false_and]
    | true =>
      rw [State.portReady, hen, Bool.eq_iff_iff]
      simp only [Bool.not_true, Bool.false_or, Bool.true_and, Bool.or_eq_true, Bool.and_eq_true, Bool.not_eq_true', decide_eq_true_eq,
        decide_eq_false_iff_not, bne_iff_ne]
      omega
  simp only [effLinkUp, h, hc]
  cases s.portReady p <;> rfl

end

theorem linked_onlyRegs (s : State) (p rate : Nat) (fec : Bool) : OnlyRegs [NET_PORT_STAT p] s (s.linked p rate fec) := by
  have hm := List.mem_singleton_self (NET_PORT_STAT p)
  exact (((OnlyRegs.refl _ s).andPutBit (F.NET_PORT_STAT_LINK p) true hm).andPut (F.NET_PORT_STAT_RATE_NOW p) rate hm).andPutBit
    (F.NET_PORT_STAT_FEC_ON p) fec hm

theorem linked_shows (s : State) (p rate : Nat) (fec : Bool) : (s.linked p rate fec).bit (F.NET_PORT_STAT_LINK p) = true ∧
    (s.linked p rate fec).get (F.NET_PORT_STAT_RATE_NOW p) = rate % 2 ^ (F.NET_PORT_STAT_RATE_NOW p).width ∧
    (s.linked p rate fec).bit (F.NET_PORT_STAT_FEC_ON p) = fec := by
  unfold State.linked
  refine ⟨?_, ?_, bit_putBit_same _ fec (by simp) rfl⟩
  · refine (bit_putBit_disjoint (f := F.NET_PORT_STAT_FEC_ON p) (g := F.NET_PORT_STAT_LINK p) _ fec (by simp) rfl (by simp)).trans ?_
    refine (bit_put_disjoint (f := F.NET_PORT_STAT_RATE_NOW p) (g := F.NET_PORT_STAT_LINK p) _ rate (by simp) rfl (by simp)).trans ?_
    exact bit_putBit_same s true (by simp) rfl
  · refine (get_putBit_disjoint (f := F.NET_PORT_STAT_FEC_ON p) (g := F.NET_PORT_STAT_RATE_NOW p) _ fec (by simp) rfl (by simp)).trans ?_
    exact get_put_same _ rate (by simp)

/-! ## LINK_DOWN -/

/-- The frame that port `p` is sending ends stomped, and is counted. -/
def State.stompSending (s : State) (p : Nat) : State :=
  if (s.port p).sending.isSome then (s.cnt p 6).emit (.stomped p) else s

/-- Port `p` without frames, at the first attempt. -/
def State.emptied (s t : State) (p : Nat) : State :=
  t.setPort p { s.port p with queues := Vector.replicate 4 [], sending := none, attempt := 0 }

/-- The registers of port `p` show its link as lost. -/
def State.unlinked (s : State) (p : Nat) : State :=
  (((s.put (F.NET_PORT_STAT_RATE_NOW p) 0).putBit (F.NET_PORT_STAT_FEC_ON p) false).putBit (F.NET_PORT_STAT_LINK p) false).putBit
    (F.NET_PORT_STAT_LINK_LOST p) true

/-- Port `p` after its link is lost, before the fault is latched. -/
def State.linkLost (s : State) (p : Nat) : State :=
  (List.range 8).foldl (fun v r => v.settleTail r) (((s.emptied (s.stompSending p) p).unlinked p).cnt p 9)

theorem effLinkDown_off {s : State} {p : Nat} (h : s.bit (F.NET_PORT_STAT_LINK p) = false) : effLinkDown p s = s := by
  simp only [effLinkDown, h, Bool.not_false, if_true]

theorem effLinkDown_on {s : State} {p : Nat} (h : s.bit (F.NET_PORT_STAT_LINK p) = true) :
    effLinkDown p s = (s.linkLost p).latch (21 + p) := by
  simp only [effLinkDown, h, Bool.not_true, Bool.false_eq_true, if_false]
  rfl

theorem unlinked_onlyRegs (s : State) (p : Nat) : OnlyRegs [NET_PORT_STAT p] s (s.unlinked p) := by
  have hm := List.mem_singleton_self (NET_PORT_STAT p)
  exact ((((OnlyRegs.refl _ s).andPut (F.NET_PORT_STAT_RATE_NOW p) 0 hm).andPutBit (F.NET_PORT_STAT_FEC_ON p) false hm).andPutBit
    (F.NET_PORT_STAT_LINK p) false hm).andPutBit (F.NET_PORT_STAT_LINK_LOST p) true hm

theorem unlinked_shows (s : State) (p : Nat) : (s.unlinked p).bit (F.NET_PORT_STAT_LINK p) = false ∧
    (s.unlinked p).bit (F.NET_PORT_STAT_LINK_LOST p) = true ∧ (s.unlinked p).get (F.NET_PORT_STAT_RATE_NOW p) = 0 := by
  unfold State.unlinked
  refine ⟨?_, bit_putBit_same _ true (by simp) rfl, ?_⟩
  · refine (bit_putBit_disjoint (f := F.NET_PORT_STAT_LINK_LOST p) (g := F.NET_PORT_STAT_LINK p) _ true (by simp) rfl (by simp)).trans ?_
    exact bit_putBit_same _ false (by simp) rfl
  · refine (get_putBit_disjoint (f := F.NET_PORT_STAT_LINK_LOST p) (g := F.NET_PORT_STAT_RATE_NOW p) _ true (by simp) rfl
      (by simp)).trans ?_
    refine (get_putBit_disjoint (f := F.NET_PORT_STAT_LINK p) (g := F.NET_PORT_STAT_RATE_NOW p) _ false (by simp) rfl (by simp)).trans ?_
    refine (get_putBit_disjoint (f := F.NET_PORT_STAT_FEC_ON p) (g := F.NET_PORT_STAT_RATE_NOW p) _ false (by simp) rfl (by simp)).trans ?_
    exact get_put_same s 0 (by simp)

theorem stompSending_out (s : State) (p : Nat) : (s.stompSending p).out =
    s.out ++ (if (s.port p).sending.isSome then [.stomped p] else []) := by
  unfold State.stompSending
  split
  · rw [State.emit_out, State.cnt, State.bump_out]
  · exact (List.append_nil _).symm

theorem cnt_onlyRegs (s : State) (p k : Nat) : OnlyRegs [NET_CNT p k] s (s.cnt p k) := .put s _ (List.mem_singleton_self _)

/-- Of a port's registers a count changes none that shows its state. -/
theorem portStat_notMem_cnt (p k : Nat) : NET_PORT_STAT p ∉ [NET_CNT p k] := by
  unfold NET_CNT NET_PORT_STAT
  simp
  omega

theorem linkLost_get (s : State) (p : Nat) {f : Fld} (hf : f.addr = NET_PORT_STAT p) :
    (s.linkLost p).get f = ((s.emptied (s.stompSending p) p).unlinked p).get f :=
  ((settleTails_onlyRegs _).get (hf ▸ portStat_notMem_txPtrs p)).trans ((cnt_onlyRegs _ p 9).get (hf ▸ portStat_notMem_cnt p 9))

theorem linkLost_bit (s : State) (p : Nat) {f : Fld} (hf : f.addr = NET_PORT_STAT p) :
    (s.linkLost p).bit f = ((s.emptied (s.stompSending p) p).unlinked p).bit f := by
  rw [State.bit, linkLost_get s p hf, State.bit]

theorem linkLost_net (s : State) (p : Nat) : (s.linkLost p).net = (s.emptied (s.stompSending p) p).net :=
  (settleTails_onlyRegs _).net.trans ((cnt_onlyRegs _ p 9).net.trans (unlinked_onlyRegs _ p).net)

theorem linkLost_port (s : State) (p : Fin 4) :
    (s.linkLost p.val).port p.val = { s.port p.val with queues := Vector.replicate 4 [], sending := none, attempt := 0 } :=
  (port_of_net (linkLost_net s p.val) p.val).trans (port_setPort_same _ p _)

theorem linkLost_out (s : State) (p : Nat) : (s.linkLost p).out =
    s.out ++ (if (s.port p).sending.isSome then [.stomped p] else []) :=
  (settleTails_onlyRegs _).out.trans ((cnt_onlyRegs _ p 9).out.trans ((unlinked_onlyRegs _ p).out.trans
    ((setPort_out _ _ p).trans (stompSending_out s p))))

theorem queue_empty {v : Port} (h : v.queues = Vector.replicate 4 []) {q : Nat} (hq : q < 4) : v.queue q = [] := by
  rw [Port.queue, h, Vector.toList_replicate, List.getD_replicate _ hq]

theorem linkLost_spec (s : State) (p : Fin 4) : (s.linkLost p.val).bit (F.NET_PORT_STAT_LINK p.val) = false ∧
    (s.linkLost p.val).bit (F.NET_PORT_STAT_LINK_LOST p.val) = true ∧ (s.linkLost p.val).get (F.NET_PORT_STAT_RATE_NOW p.val) = 0 ∧
    ((s.linkLost p.val).port p.val).sending = none ∧ (∀ q < 4, ((s.linkLost p.val).port p.val).queue q = []) ∧
    (s.linkLost p.val).out = s.out ++ (if (s.port p.val).sending.isSome then [.stomped p.val] else []) := by
  obtain ⟨hlink, hlost, hrate⟩ := unlinked_shows (s.emptied (s.stompSending p.val) p.val) p.val
  have hp := linkLost_port s p
  exact ⟨(linkLost_bit s p.val rfl).trans hlink, (linkLost_bit s p.val rfl).trans hlost, (linkLost_get s p.val rfl).trans hrate,
    congrArg Port.sending hp, fun q hq => queue_empty (congrArg Port.queues hp) hq, linkLost_out s p.val⟩

/-! ## RATE_ATTEMPT_TIMEOUT (R225) -/

theorem effRateAttemptTimeout_off {s : State} {p : Nat} (h : (s.bit (F.NET_PORT_CFG_EN p) && !s.bit (F.NET_PORT_STAT_LINK p)) = false) :
    effRateAttemptTimeout p s = s := by
  simp only [effRateAttemptTimeout, h, Bool.false_eq_true, if_false]

theorem effRateAttemptTimeout_on {s : State} {p : Nat} (he : s.bit (F.NET_PORT_CFG_EN p) = true)
    (hl : s.bit (F.NET_PORT_STAT_LINK p) = false) : effRateAttemptTimeout p s =
      s.setPort p { s.port p with attempt := ((s.port p).attempt + 1) % max 1 (s.attempts p).length } := by
  simp only [effRateAttemptTimeout, he, hl, Bool.not_false, Bool.and_self, if_true]

/-! ## EGRESS_FRAME_SENT (R239, R260) -/

/-- Port `p` has sent frame `f`: it is free, the frame is counted and leaves the engine. -/
def State.sent (s : State) (p : Nat) (f : EgressFrame) : State :=
  ((s.setPort p { s.port p with sending := none }).cnt p 5).emit (.frame p f.bytes)

/-- Descriptor `i` of ring `r` shows the time `y` at which its frame started to leave, and the ring's tail moves. -/
def State.stamped (s : State) (r i y : Nat) : State :=
  (s.wrShared 4 (s.txDesc r i + 8) (leBytes 8 (y / 65536) ++ leBytes 2 y)).settleTail r

section
variable {s : State} {p : Fin 4} {f : EgressFrame} {q y : Nat}

theorem effEgressFrameSent_idle (h : (s.port p.val).sending = none) (x : Nat) :
    effEgressFrameSent p.val x s = (s.creditTo p.val x).startNext p.val x := by
  simp only [effEgressFrameSent, sending_creditTo, h]

theorem effEgressFrameSent_own (h : (s.port p.val).sending = some (f, q, y)) (hd : f.desc = none) (x : Nat) :
    effEgressFrameSent p.val x s = ((s.creditTo p.val x).sent p.val f).startNext p.val x := by
  simp only [effEgressFrameSent, sending_creditTo, h, hd]
  rfl

theorem effEgressFrameSent_ring {r i : Nat} (h : (s.port p.val).sending = some (f, q, y)) (hd : f.desc = some (r, i)) (x : Nat) :
    effEgressFrameSent p.val x s = (((s.creditTo p.val x).sent p.val f).stamped r i y).startNext p.val x := by
  simp only [effEgressFrameSent, sending_creditTo, h, hd]
  rfl

end

end Sys2Proof.Machine
end

section
/-! A frame that arrives (R229 to R235): what is done with a bad one and with a good one. -/

namespace Sys2Proof.Machine

theorem frameBad_iff (f : FrameIn) : frameBad f = true ↔ f.fcsOk = false ∨ f.cut = true ∨ misshapen f = true := by
  simp [frameBad, or_assoc]

theorem frameBad_eq_false {f : FrameIn} (hf : f.fcsOk = true) (hc : f.cut = false) (hm : misshapen f = false) : frameBad f = false := by
  simp [frameBad, hf, hc, hm]

/-- A bad frame is counted at its port by what is wrong with it. -/
def State.countBad (s : State) (f : FrameIn) : State :=
  if misshapen f then s.cnt f.port.val 2 else if f.fcsOk then s else s.cnt f.port.val 1

/-- BC_LIMIT, for a frame that it counts (R232). -/
def State.limitTo (s : State) (limited : Bool) (f : FrameIn) : Bool × State :=
  if limited then s.admits f.port.val f.ts else (true, s)

/-- A bad frame ends stomped where it has been cut through (R234); BC_LIMIT counts it only where it leaves. -/
def State.stompBad (s : State) (f : FrameIn) (rt : Route) : State :=
  let leaves := rt.ext.any (fun q => s.portUp q && s.cutsThrough f.port.val q)
  let v := s.limitTo (rt.limited && leaves) f
  if v.1 = true then v.2.stompAt f rt.ext else v.2

/-- The source and the reported groups of a good frame of domain `d` (R230, R231). -/
def State.learnFrom (s : State) (d : Nat) (f : FrameIn) : State :=
  let t := s.learn d f.port.val (viewFrame f.bytes).src
  match (viewFrame f.bytes).ip f.bytes with
  | some ip => t.snoop d f.port.val f.bytes ip
  | none => t

/-- A good frame takes its place at its egress ports, where the switch forwards. -/
def State.passOn (s : State) (f : FrameIn) (rt : Route) : State :=
  if s.forwards then
    (rt.ext.foldl (fun v e => v.enqueue e (s.queueOf f.port.val f.bytes) ⟨f.bytes, some f.ts, none⟩
      (f.ts + v.residence f.port.val e f.dur)) s).nextFree
  else s

/-- The frame is counted, and its ports are those of Table 8.2. -/
def State.routeOf (s : State) (f : FrameIn) : Route :=
  (s.cnt f.port.val 0).route ((s.cnt f.port.val 0).portDomain f.port.val) (some f.port.val) f.bytes

section
variable {s : State} {f : FrameIn}

theorem effFrameReceived_off (h : s.portUp f.port.val = false ∨ s.get F.PWR_STAT_STATE = 4) : effFrameReceived f s = s := by
  unfold effFrameReceived
  refine if_pos ?_
  simpa using h

theorem effFrameReceived_on (hup : s.portUp f.port.val = true) (hst : s.get F.PWR_STAT_STATE ≠ 4) : effFrameReceived f s =
    let c := s.cnt f.port.val 0
    let d := c.portDomain f.port.val
    if frameBad f then
      let u := c.countBad f
      if !u.forwards || !f.alignOk || f.bytes.length < 60 then u else u.stompBad f (s.routeOf f)
    else
      let a := c.limitTo (s.routeOf f).limited f
      let u := a.2.learnFrom d f
      if !a.1 then u
      else
        let w := u.passOn f (s.routeOf f)
        if (s.routeOf f).int then w.deliver d f.port.val f.bytes f.ts (f.ts + f.dur) else w := by
  unfold effFrameReceived
  exact if_neg (by simp [hup, hst])

theorem effFrameReceived_bad (hup : s.portUp f.port.val = true) (hst : s.get F.PWR_STAT_STATE ≠ 4) (hbad : frameBad f = true) :
    effFrameReceived f s =
      if ((s.cnt f.port.val 0).countBad f).forwards ∧ f.alignOk = true ∧ 60 ≤ f.bytes.length then
        ((s.cnt f.port.val 0).countBad f).stompBad f (s.routeOf f)
      else (s.cnt f.port.val 0).countBad f := by
  rw [effFrameReceived_on hup hst]
  dsimp only
  rw [if_pos hbad]
  split
  case isTrue h =>
    refine (if_neg ?_).symm
    simp only [Bool.or_eq_true, Bool.not_eq_true', decide_eq_true_eq] at h
    rintro ⟨hf, ha, hl⟩
    rcases h with (h | h) | h
    · exact Bool.false_ne_true (h.symm.trans hf)
    · exact Bool.false_ne_true (h.symm.trans ha)
    · omega
  case isFalse h =>
    refine (if_pos ?_).symm
    simpa [and_assoc] using h

theorem effFrameReceived_refused (hup : s.portUp f.port.val = true) (hst : s.get F.PWR_STAT_STATE ≠ 4) (hgood : frameBad f = false)
    (ha : ((s.cnt f.port.val 0).limitTo (s.routeOf f).limited f).1 = false) : effFrameReceived f s =
      ((s.cnt f.port.val 0).limitTo (s.routeOf f).limited f).2.learnFrom ((s.cnt f.port.val 0).portDomain f.port.val) f := by
  rw [effFrameReceived_on hup hst]
  dsimp only
  rw [if_neg (by simp [hgood]), if_pos (by simp [ha])]

theorem effFrameReceived_admitted (hup : s.portUp f.port.val = true) (hst : s.get F.PWR_STAT_STATE ≠ 4) (hgood : frameBad f = false)
    (ha : ((s.cnt f.port.val 0).limitTo (s.routeOf f).limited f).1 = true) : effFrameReceived f s =
      let d := (s.cnt f.port.val 0).portDomain f.port.val
      let w := (((s.cnt f.port.val 0).limitTo (s.routeOf f).limited f).2.learnFrom d f).passOn f (s.routeOf f)
      if (s.routeOf f).int then w.deliver d f.port.val f.bytes f.ts (f.ts + f.dur) else w := by
  rw [effFrameReceived_on hup hst]
  dsimp only
  rw [if_neg (by simp [hgood]), if_neg (by simp [ha])]

end

end Sys2Proof.Machine
end

section
/-! The ages of the switch's tables (R230, R231) and the heads of the transmit rings (R260). -/

namespace Sys2Proof.Machine

/-! ## Table ages -/

theorem showSwitch_net (s : State) : s.showSwitch.net = s.net := by
  rw [State.showSwitch, State.put_net, State.put_net]

/-- The entry of a group set, without regard to room in the table. -/
def State.withGroup (s : State) (k m : Nat) : State :=
  ({ s with net := { s.net with groups := tput s.net.groups k (if m = 0 then none else some m) } } : State).showSwitch

theorem withGroup_net (s : State) (k m : Nat) :
    (s.withGroup k m).net = { s.net with groups := tput s.net.groups k (if m = 0 then none else some m) } := showSwitch_net _

theorem tget_withGroup (s : State) (k m a : Nat) :
    tget (s.withGroup k m).net.groups a = if a = k then (if m = 0 then none else some m) else tget s.net.groups a := by
  rw [withGroup_net, tget_tput]

theorem setGroup_cases (s : State) (k m : Nat) :
    tget s.net.groups k = none ∧ s.setGroup k m = s ∨ s.setGroup k m = s.withGroup k m := by
  unfold State.setGroup
  split
  case isTrue h =>
    obtain ⟨hk, -⟩ := Bool.and_eq_true_iff.1 h
    exact .inl ⟨Option.isNone_iff_eq_none.1 hk, rfl⟩
  case isFalse => exact .inr rfl

theorem setGroup_known {s : State} {k : Nat} (h : (tget s.net.groups k).isSome = true) (m : Nat) : s.setGroup k m = s.withGroup k m := by
  rcases setGroup_cases s k m with ⟨hk, -⟩ | hw
  · rw [hk] at h; cases h
  · exact hw

/-- Only the groups of the switch change, and of them one entry. -/
theorem setGroup_frame (s : State) (k m : Nat) : (s.setGroup k m).net.addrs = s.net.addrs ∧ (s.setGroup k m).net.ports = s.net.ports ∧
    ∀ a, a ≠ k → tget (s.setGroup k m).net.groups a = tget s.net.groups a := by
  rcases setGroup_cases s k m with ⟨-, hs⟩ | hw
  · rw [hs]
    exact ⟨rfl, rfl, fun _ _ => rfl⟩
  · rw [hw]
    refine ⟨by rw [withGroup_net], by rw [withGroup_net], fun a ha => ?_⟩
    rw [tget_withGroup, if_neg ha]

theorem tgetD_setGroup_known {s : State} {k : Nat} (h : (tget s.net.groups k).isSome = true) (m : Nat) :
    tgetD (s.setGroup k m).net.groups k 0 = m := by
  rw [setGroup_known h, tgetD, tget_withGroup, if_pos rfl]
  split
  case isTrue hm => exact hm.symm
  case isFalse => rfl

theorem tget_setGroup_none {s : State} {k : Nat} (h : tget s.net.groups k = none) : tget (s.setGroup k 0).net.groups k = none := by
  rcases setGroup_cases s k 0 with ⟨-, hs⟩ | hw
  · rw [hs, h]
  · rw [hw, tget_withGroup, if_pos rfl, if_pos rfl]

/-- An address leaves the table alone: the others, the groups and the ports stay. -/
theorem effAddressAgeOut_spec (d mac : Nat) (s : State) : tget (effAddressAgeOut d mac s).net.addrs (d * 2 ^ 48 + mac) = none ∧
    (∀ k, k ≠ d * 2 ^ 48 + mac → tget (effAddressAgeOut d mac s).net.addrs k = tget s.net.addrs k) ∧
    (effAddressAgeOut d mac s).net.groups = s.net.groups ∧ (effAddressAgeOut d mac s).net.ports = s.net.ports := by
  unfold effAddressAgeOut
  rw [showSwitch_net]
  exact ⟨(tget_tput s.net.addrs _ _ none).trans (if_pos rfl), fun k hk => (tget_tput s.net.addrs _ k none).trans (if_neg hk), rfl, rfl⟩

theorem effGroupAgeOut_none {s : State} {d g : Nat} (h : tget s.net.groups (groupKey (d, g)) = none) :
    tget (effGroupAgeOut d g s).net.groups (groupKey (d, g)) = none := by
  have hz : tgetD s.net.groups (groupKey (d, g)) 0 &&& 16 = 0 := by rw [tgetD, h]; rfl
  unfold effGroupAgeOut
  dsimp only
  rw [hz]
  exact tget_setGroup_none h

/-! ## Transmit rings (R260) -/

/-- The engine sends descriptor `k` places after `old` of ring `r`, as far as the paths of the shared SRAM take it. -/
def State.sendDesc (r size old : Nat) (v : State) (k : Nat) : State :=
  let i := (old + k) % size
  let da := ringDesc (v.rg (NET_TXR_CFG r)) i
  let len := v.rdShared 2 (da + 4)
  let a := 0x30000000 + v.rdShared 4 da
  let q := v.sharedPath 4 (0x30000000 + da) 32
  let w := v.sharedPath 4 a len
  if q.2 = false then q.1 else if w.2 = false then w.1
  else if v.sramFails (0x30000000 + da) 8 || v.sramFails a len then v.latch 9
  else v.sendFrame (if (v.rdShared 1 (da + 7)).testBit 1 then 1 else 0) (v.rdShared 1 (da + 6)) (v.rdBytes len a) (some (r, i)) v.node.time

section
variable {s : State} {r : Nat}

theorem put_head_keeps (h : Nat) : (s.put (F.NET_TXR_PTR_HEAD r) h).bit (F.NET_TXR_CFG_EN r) = s.bit (F.NET_TXR_CFG_EN r) ∧
    (s.put (F.NET_TXR_PTR_HEAD r) h).get F.PWR_STAT_STATE = s.get F.PWR_STAT_STATE :=
  ⟨bit_put_ne s h (by show NET_TXR_CFG r ≠ NET_TXR_PTR r; unfold NET_TXR_CFG NET_TXR_PTR; omega),
    get_put_ne s h (by show PWR_STAT ≠ NET_TXR_PTR r; unfold PWR_STAT NET_TXR_PTR; omega)⟩

theorem effTxRingHead_off (ho : s.bit (F.NET_TXR_CFG_EN r) = false ∨ s.get F.PWR_STAT_STATE = 4) (h : Nat) :
    effTxRingHead r h s = s.put (F.NET_TXR_PTR_HEAD r) h := by
  obtain ⟨hen, hst⟩ := put_head_keeps (s := s) (r := r) h
  unfold effTxRingHead
  dsimp only
  rw [hen, hst]
  exact if_pos (by simpa using ho)

theorem effTxRingHead_on (he : s.bit (F.NET_TXR_CFG_EN r) = true) (hp : s.get F.PWR_STAT_STATE ≠ 4) (h : Nat) :
    effTxRingHead r h s =
      let size := 2 ^ s.get (F.NET_TXR_CFG_SIZE r)
      let old := s.get (F.NET_TXR_PTR_HEAD r)
      ((List.range ((h + size - old % size) % size)).foldl (State.sendDesc r size old) (s.put (F.NET_TXR_PTR_HEAD r) h)).settleTail r := by
  obtain ⟨hen, hst⟩ := put_head_keeps (s := s) (r := r) h
  unfold effTxRingHead
  dsimp only
  rw [hen, hst, if_neg (by simp [he, hp])]
  refine congrArg (State.settleTail · r) (List.foldl_ext _ _ _ fun v k _ => ?_)
  unfold State.sendDesc
  simp only [Bool.not_eq_true']

/-- From a head to itself there is no descriptor to send. -/
theorem ring_distance_self {h old size : Nat} (hs : 0 < size) (he : h % size = old % size) : (h + size - old % size) % size = 0 := by
  have hlt := Nat.mod_lt h hs
  rw [← he, show h + size - h % size = size * (h / size) + size by have := Nat.div_add_mod h size; omega]
  simp

end

end Sys2Proof.Machine
end

section
/-! The deadline of a receive stream (R254, R255, Tables 8.8 and 8.9), and O53. -/

namespace Sys2Proof.Machine

/-! ## What a deadline finds -/

section
variable (s : State) (k t : Nat)

/-- Samples between the first sample of a packet of stream `k` and its deadline. -/
def State.rxDelay : Nat := cfgPo (s.rg (STR_RX_CFG k))

/-- Samples per packet of stream `k`. -/
def State.rxLen : Nat := s.packetLen (s.rg (STR_RX_CFG k))

/-- Stream `k` closes a packet at tick `t`. -/
def State.rxOpen : Prop :=
  s.bit (F.STR_RX_CFG_EN k) = true ∧ s.rxLen k ≠ 0 ∧ s.rxDelay k ≤ t ∧ s.audio.running = true ∧
    ∀ c, (s.rxs k).closed = some c → c < t

/-- The copies whose deadline has come, each with what it fails. -/
def State.rxChecks : List (RxCopy × Option (Fld × Bool)) :=
  s.checkCopies k [] ((s.rxs k).held.filter (fun c => decide (s.copyN0 k c + s.rxDelay k ≤ t)))

/-- Of these, the copies of the packet of tick `t` that passed. -/
def State.rxGood : List RxCopy :=
  (s.rxChecks k t).filterMap (fun e => if e.2.isNone && decide (s.copyN0 k e.1 = (t - s.rxDelay k : Nat)) then some e.1 else none)

/-- The stream without the copies whose deadline has come. -/
def State.rxLeft : RxStream :=
  { s.rxs k with held := (s.rxs k).held.filter (fun c => decide ((t : Int) < s.copyN0 k c + s.rxDelay k)), closed := some t }

/-- The state once these copies are checked and counted. -/
def State.rxChecked : State :=
  ((s.rxChecks k t).foldl (fun s e => match e.2 with
    | some f => s.countCopy f
    | none => s) s).setRxs k (s.rxLeft k t)

/-- A packet of the stream begins `rxDelay` before tick `t`, and has not been closed. -/
def State.rxDue : Prop :=
  (((t - s.rxDelay k : Nat) : Int) - (s.rxChecked k t).get (F.STR_RX_MISC_PHASE k)) % (s.rxLen k : Int) = 0 ∧
    ∀ p ∈ (s.rxs k).packets, p.n0 ≠ t - s.rxDelay k

/-- The packet is closed with the claim and the payload taken, and the legs that brought a copy are shown. -/
def State.rxClosed (sel : Option (Nat × List Byte)) : State :=
  ((s.rxChecked k t).setRxs k { s.rxLeft k t with packets := ⟨t - s.rxDelay k, sel⟩ :: (s.rxs k).packets.take 2 }).put
    (F.STR_RX_STAT_LEGS_OK k) (bitsNat ((List.range 4).map (fun j => (s.rxGood k t).any (fun c => c.leg = j))))

/-- The stream shows the claim and the leg of the copy it plays. -/
def State.showTaken (c : RxCopy) : State :=
  ((s.putBit (F.STR_RX_STAT_LOST_LAST k) false).put (F.STR_RX_STAT_CLAIM k) (viewRtp c.rtp).claim).put (F.STR_RX_STAT_LEG k) c.leg

/-- The stream shows the Daymark of a copy, its slack and the least slack. -/
def State.showSlack (tag slack : Nat) : State :=
  let u := (s.setRg (STR_RX_DAYMARK k) tag).put (F.STR_RX_SLACK_LAST k) slack
  u.put (F.STR_RX_SLACK_MIN k) (min (u.get (F.STR_RX_SLACK_MIN k)) slack)

/-- Time from the end of a copy's frame to the deadline's last moment, in units of 16 ns, as far as the register shows it. -/
def State.slackOf (c : RxCopy) : Nat := min 0xFFFF ((s.tickTime t - 1000 * 65536 - c.endT) / (16 * 65536))

/-- The stream plays copy `c`. -/
def State.showPlayed (c : RxCopy) : State := (s.showTaken k c).showSlack k (viewRtp c.rtp).dtag (s.slackOf t c)

theorem showTaken_onlyRegs (c : RxCopy) : OnlyRegs [STR_RX_STAT k] s (s.showTaken k c) := by
  have hm := List.mem_singleton_self (STR_RX_STAT k)
  exact (((OnlyRegs.refl _ s).andPutBit (F.STR_RX_STAT_LOST_LAST k) false hm).andPut (F.STR_RX_STAT_CLAIM k) _ hm).andPut
    (F.STR_RX_STAT_LEG k) _ hm

theorem showSlack_onlyRegs (tag slack : Nat) : OnlyRegs [STR_RX_DAYMARK k, STR_RX_SLACK k] s (s.showSlack k tag slack) := by
  have hd : STR_RX_DAYMARK k ∈ [STR_RX_DAYMARK k, STR_RX_SLACK k] := List.mem_cons_self
  have hs : STR_RX_SLACK k ∈ [STR_RX_DAYMARK k, STR_RX_SLACK k] := List.mem_cons_of_mem _ (List.mem_singleton_self _)
  exact ((OnlyRegs.setRg s tag hd).andPut (F.STR_RX_SLACK_LAST k) slack hs).andPut (F.STR_RX_SLACK_MIN k) _ hs

theorem showTaken_shows (c : RxCopy) : (s.showTaken k c).bit (F.STR_RX_STAT_LOST_LAST k) = false ∧
    (s.showTaken k c).get (F.STR_RX_STAT_LEG k) = c.leg % 2 ^ (F.STR_RX_STAT_LEG k).width ∧
    (s.showTaken k c).get (F.STR_RX_STAT_CLAIM k) = (viewRtp c.rtp).claim % 2 ^ (F.STR_RX_STAT_CLAIM k).width := by
  unfold State.showTaken
  refine ⟨?_, get_put_same _ _ (by simp), ?_⟩
  · refine (bit_put_disjoint (f := F.STR_RX_STAT_LEG k) (g := F.STR_RX_STAT_LOST_LAST k) _ _ (by simp) rfl (by simp)).trans ?_
    refine (bit_put_disjoint (f := F.STR_RX_STAT_CLAIM k) (g := F.STR_RX_STAT_LOST_LAST k) _ _ (by simp) rfl (by simp)).trans ?_
    exact bit_putBit_same s false (by simp) rfl
  · refine (get_put_disjoint (f := F.STR_RX_STAT_LEG k) (g := F.STR_RX_STAT_CLAIM k) _ _ (by simp) rfl (by simp)).trans ?_
    exact get_put_same _ _ (by simp)

theorem rxStat_notMem_slack : STR_RX_STAT k ∉ [STR_RX_DAYMARK k, STR_RX_SLACK k] := by
  unfold STR_RX_STAT STR_RX_DAYMARK STR_RX_SLACK
  simp

theorem showPlayed_shows (c : RxCopy) : (s.showPlayed k t c).bit (F.STR_RX_STAT_LOST_LAST k) = false ∧
    (s.showPlayed k t c).get (F.STR_RX_STAT_LEG k) = c.leg % 2 ^ (F.STR_RX_STAT_LEG k).width ∧
    (s.showPlayed k t c).get (F.STR_RX_STAT_CLAIM k) = (viewRtp c.rtp).claim % 2 ^ (F.STR_RX_STAT_CLAIM k).width := by
  obtain ⟨hlost, hleg, hclaim⟩ := showTaken_shows s k c
  have hs := showSlack_onlyRegs (s.showTaken k c) k (viewRtp c.rtp).dtag (s.slackOf t c)
  have hn := rxStat_notMem_slack k
  exact ⟨(hs.bit hn).trans hlost, (hs.get hn).trans hleg, (hs.get hn).trans hclaim⟩

/-- Playing a copy changes registers alone. -/
theorem showPlayed_only (c : RxCopy) : s.showPlayed k t c = { s with regs := (s.showPlayed k t c).regs } := by
  have ht := (showTaken_onlyRegs s k c).1
  have hs := (showSlack_onlyRegs (s.showTaken k c) k (viewRtp c.rtp).dtag (s.slackOf t c)).1
  unfold State.showPlayed
  rw [hs, ht]

theorem rxs_setRxs {v : RxStream} (h : v ≠ ⟨[], none, []⟩) : (s.setRxs k v).rxs k = v := by
  unfold State.rxs State.setRxs
  rw [tget_tput, if_pos rfl, if_neg h]
  rfl

theorem rxs_of_str {s t : State} (h : t.str = s.str) (k : Nat) : t.rxs k = s.rxs k := by rw [State.rxs, h, State.rxs]

theorem packets_rxClosed (sel : Option (Nat × List Byte)) :
    ((s.rxClosed k t sel).rxs k).packets = ⟨t - s.rxDelay k, sel⟩ :: (s.rxs k).packets.take 2 := by
  have h := rxs_setRxs (s.rxChecked k t) k (v := { s.rxLeft k t with packets := ⟨t - s.rxDelay k, sel⟩ :: (s.rxs k).packets.take 2 })
    (fun e => List.cons_ne_nil _ _ (congrArg RxStream.packets e))
  exact congrArg RxStream.packets h

end

/-! ## The cases of a deadline -/

section
variable {s : State} {k t : Nat}

theorem rxOpen_iff : s.rxOpen k t ↔ (!s.bit (F.STR_RX_CFG_EN k) || s.rxLen k = 0 || t < s.rxDelay k || !s.audio.running ||
    (s.rxs k).closed.any (fun c => decide (t ≤ c))) = false := by
  simp [State.rxOpen, and_assoc, Option.any_eq_false]

theorem closePacket_shut (h : ¬ s.rxOpen k t) : s.closePacket k t = s := by
  rw [rxOpen_iff, Bool.not_eq_false] at h
  exact if_pos h

theorem closePacket_open (h : s.rxOpen k t) : s.closePacket k t =
    if (((t - s.rxDelay k : Nat) : Int) - (s.rxChecked k t).get (F.STR_RX_MISC_PHASE k)) % (s.rxLen k : Int) != 0 ||
        (s.rxs k).packets.any (fun p => p.n0 = t - s.rxDelay k) then s.rxChecked k t
    else
      let best := bestCopy (s.rxGood k t)
      let u := s.rxClosed k t (best.map (fun c => ((viewRtp c.rtp).claim, (viewRtp c.rtp).payload)))
      match best with
      | none => ((u.putBit (F.STR_RX_STAT_LOST_LAST k) true).bump (F.STR_RX_CNT0_LOST k)).latch 27
      | some c => u.showPlayed k t c := by
  rw [rxOpen_iff] at h
  exact if_neg (ne_true_of_eq_false h)

theorem rxDue_iff : s.rxDue k t ↔
    ((((t - s.rxDelay k : Nat) : Int) - (s.rxChecked k t).get (F.STR_RX_MISC_PHASE k)) % (s.rxLen k : Int) != 0 ||
      (s.rxs k).packets.any (fun p => p.n0 = t - s.rxDelay k)) = false := by
  rw [State.rxDue, Bool.or_eq_false_iff, bne_eq_false_iff_eq, List.any_eq_false]
  simp only [decide_eq_true_eq, ne_eq]

theorem closePacket_notDue (h : s.rxOpen k t) (hd : ¬ s.rxDue k t) : s.closePacket k t = s.rxChecked k t := by
  rw [rxDue_iff, Bool.not_eq_false] at hd
  rw [closePacket_open h, if_pos hd]

theorem closePacket_due (h : s.rxOpen k t) (hd : s.rxDue k t) : s.closePacket k t =
    let best := bestCopy (s.rxGood k t)
    let u := s.rxClosed k t (best.map (fun c => ((viewRtp c.rtp).claim, (viewRtp c.rtp).payload)))
    match best with
    | none => ((u.putBit (F.STR_RX_STAT_LOST_LAST k) true).bump (F.STR_RX_CNT0_LOST k)).latch 27
    | some c => u.showPlayed k t c := by
  rw [rxDue_iff] at hd
  rw [closePacket_open h, if_neg (ne_true_of_eq_false hd)]

theorem closePacket_lost (h : s.rxOpen k t) (hd : s.rxDue k t) (hb : bestCopy (s.rxGood k t) = none) : s.closePacket k t =
    (((s.rxClosed k t none).putBit (F.STR_RX_STAT_LOST_LAST k) true).bump (F.STR_RX_CNT0_LOST k)).latch 27 := by
  rw [closePacket_due h hd, hb]
  rfl

theorem closePacket_played (h : s.rxOpen k t) (hd : s.rxDue k t) {c : RxCopy} (hb : bestCopy (s.rxGood k t) = some c) :
    s.closePacket k t = (s.rxClosed k t (some ((viewRtp c.rtp).claim, (viewRtp c.rtp).payload))).showPlayed k t c := by
  rw [closePacket_due h hd, hb]
  rfl

theorem streamDeadline_played {s : State} (ha : s.alive = true) {k : Fin 256} (h : s.rxOpen k.val (s.node.n.toNat + 1))
    (hd : s.rxDue k.val (s.node.n.toNat + 1)) {c : RxCopy} (hb : bestCopy (s.rxGood k.val (s.node.n.toNat + 1)) = some c) :
    ∃ t, exec (.streamDeadline k) s = .next t ∧ (t.rxs k.val).packets.head? =
        some ⟨s.node.n.toNat + 1 - s.rxDelay k.val, some ((viewRtp c.rtp).claim, (viewRtp c.rtp).payload)⟩ ∧
      t.bit (F.STR_RX_STAT_LOST_LAST k.val) = false ∧
      t.get (F.STR_RX_STAT_LEG k.val) = c.leg % 2 ^ (F.STR_RX_STAT_LEG k.val).width ∧
      t.get (F.STR_RX_STAT_CLAIM k.val) = (viewRtp c.rtp).claim % 2 ^ (F.STR_RX_STAT_CLAIM k.val).width ∧
      t = { s.rxClosed k.val (s.node.n.toNat + 1) (some ((viewRtp c.rtp).claim, (viewRtp c.rtp).payload)) with
        regs := t.regs, pending := s.pending } := by
  have hx := gives_runs (exec_streamDeadline s) ha (closePacket_played h hd hb)
  have hpackets := packets_rxClosed s k.val (s.node.n.toNat + 1) (some ((viewRtp c.rtp).claim, (viewRtp c.rtp).payload))
  generalize s.rxClosed k.val (s.node.n.toNat + 1) (some ((viewRtp c.rtp).claim, (viewRtp c.rtp).payload)) = u at hx hpackets ⊢
  obtain ⟨hlost, hleg, hclaim⟩ := showPlayed_shows u k.val (s.node.n.toNat + 1) c
  have honly := showPlayed_only u k.val (s.node.n.toNat + 1) c
  generalize u.showPlayed k.val (s.node.n.toNat + 1) c = w at hx hlost hleg hclaim honly
  refine ⟨{ w with pending := s.pending }, hx, ?_, (bit_pending w _ _).trans hlost, (get_pending w _ _).trans hleg,
    (get_pending w _ _).trans hclaim, by rw [honly]⟩
  have hstr : ({ w with pending := s.pending } : State).str = u.str := by rw [honly]
  rw [rxs_of_str hstr, hpackets, List.head?_cons]

end

/-! ## The commands -/

/-- Settles O53: each event, in the case the state meets, is the equation of its effect there; what a lost link, a group's age and a
packet played leave behind is read off the state that the equation names. -/
theorem networkEventsAct : Obligations.NetworkEventsAct := by
  unfold Obligations.NetworkEventsAct
  intro s ha
  refine ⟨fun p => ?port, fun f => ⟨fun h => ?_, fun hup hst => ⟨fun hb => ?bad, fun hf hc hm => ?good⟩⟩,
    fun d a => ⟨?address, ?group⟩,
    fun r h => ⟨fun ho => ?_, fun he hp => ⟨?_, fun hm => ?same⟩⟩, fun k => ?deadline⟩
  case port =>
    refine ⟨fun h => ?_, fun rate fec h => ⟨fun hr => ?up, fun hr => ?_⟩, fun h => ?_, fun h => ⟨?_, linkLost_spec s p⟩,
      fun he hl => ?attempt, fun h => ?_, fun x => ⟨fun h => ?_, fun f q y h => ⟨fun hd => ?_, fun r i hd => ?_⟩⟩⟩
    case up =>
      obtain ⟨hlink, hrate, hfec⟩ := linked_shows s p.val rate fec
      have hregs := linked_onlyRegs s p.val rate fec
      have hx := gives_runs (exec_linkUp s) ha ((effLinkUp_some h).trans (if_pos hr))
      exact ⟨_, exec_of_gives hx hregs.pending, hlink, hrate, hfec, hregs⟩
    case attempt =>
      have hx := gives_runs (exec_rateAttemptTimeout s) ha (effRateAttemptTimeout_on he hl)
      rw [setPort_eq] at hx
      refine ⟨_, exec_of_gives hx rfl, rfl, ?_⟩
      exact congrArg Port.attempt (port_withPorts s p _)
    · exact gives_runs (exec_linkUp s) ha (effLinkUp_none h)
    · exact gives_runs (exec_linkUp s) ha ((effLinkUp_some h).trans (if_neg (ne_true_of_eq_false hr)))
    · exact gives_runs (exec_linkDown s) ha (effLinkDown_off h)
    · exact gives_runs (exec_linkDown s) ha (effLinkDown_on h)
    · exact gives_runs (exec_rateAttemptTimeout s) ha (effRateAttemptTimeout_off h)
    · exact gives_runs (exec_egressFrameSent s) ha (effEgressFrameSent_idle h x)
    · exact gives_runs (exec_egressFrameSent s) ha (effEgressFrameSent_own h hd x)
    · exact gives_runs (exec_egressFrameSent s) ha (effEgressFrameSent_ring h hd x)
  case bad => exact gives_runs (exec_frameReceived s) ha (effFrameReceived_bad hup hst ((frameBad_iff f).2 hb))
  case good =>
    have hgood := frameBad_eq_false hf hc hm
    exact ⟨fun hadm => gives_runs (exec_frameReceived s) ha (effFrameReceived_refused hup hst hgood hadm),
      fun hadm => gives_runs (exec_frameReceived s) ha (effFrameReceived_admitted hup hst hgood hadm)⟩
  case address => exact ⟨_, gives_runs (exec_addressAgeOut s) ha rfl, effAddressAgeOut_spec d.val a s⟩
  case group =>
    obtain ⟨haddrs, hports, hothers⟩ := setGroup_frame s (groupKey (d.val, a)) (tgetD s.net.groups (groupKey (d.val, a)) 0 &&& 16)
    exact ⟨_, gives_runs (exec_groupAgeOut s) ha rfl, fun h => tgetD_setGroup_known h _, effGroupAgeOut_none, hothers, haddrs, hports⟩
  case same =>
    have hz := ring_distance_self (Nat.two_pow_pos (s.get (F.NET_TXR_CFG_SIZE r.val))) hm
    refine gives_runs (exec_txRingHead s) ha ((effTxRingHead_on he hp h).trans ?_)
    dsimp only
    rw [hz]
    rfl
  case deadline =>
    refine ⟨fun h => ?_, fun h => ⟨fun hd => ?_, fun hd hb => ?_, fun hd c hb => ?played⟩⟩
    case played => exact streamDeadline_played ha h hd hb
    · exact gives_runs (exec_streamDeadline s) ha (closePacket_shut h)
    · exact gives_runs (exec_streamDeadline s) ha (closePacket_notDue h hd)
    · exact gives_runs (exec_streamDeadline s) ha (closePacket_lost h hd hb)
  · exact gives_runs (exec_frameReceived s) ha (effFrameReceived_off h)
  · exact gives_runs (exec_txRingHead s) ha (effTxRingHead_off ho h)
  · exact gives_runs (exec_txRingHead s) ha (effTxRingHead_on he hp h)

end Sys2Proof.Machine
end

section
/-! A full START leaves no capture of the TMS_NOW registers (R533): none of its acts makes one, by one lemma for each. -/

namespace Sys2Proof.Machine

/-! ## The captures, and the ways in which an operation writes the state -/

/-- What each master has captured of the TMS_NOW registers (R533). -/
def State.nows (s : State) : Tbl (Nat × Nat) := s.tu.now

theorem nows_of_tu {s t : State} (h : t.tu = s.tu) : t.nows = s.nows := congrArg TimeUnit.now h

theorem nows_of_now {s t : State} (h : t.tu.now = s.tu.now) : t.nows = s.nows := h

@[simp] theorem nows_mk (s : State) (regs mem store node flt kmp st audio bricks amp pair net str cbus tw0 tw1 dma mortar caps pwr fuses sec
    free out pending) :
    State.nows ⟨regs, mem, store, node, flt, kmp, st, audio, bricks, amp, pair, net, str, s.tu, cbus, tw0, tw1, dma, mortar, caps, pwr,
      fuses, sec, free, out, pending⟩ = s.nows := nows_of_tu rfl

@[simp] theorem nows_ite {c : Prop} [Decidable c] (s t : State) : (if c then s else t).nows = if c then s.nows else t.nows :=
  apply_ite _ _ _ _

@[simp] theorem nows_foldl {α : Type} {f : State → α → State} (h : ∀ s x, (f s x).nows = s.nows) (l : List α) (s : State) :
    (l.foldl f s).nows = s.nows := foldl_keeps State.nows h l s

@[simp] theorem nows_iterate {f : State → State} (h : ∀ s, (f s).nows = s.nows) (n : Nat) (s : State) : (iterate f n s).nows = s.nows := by
  induction n generalizing s with
  | zero => rfl
  | succ n ih => exact (ih _).trans (h s)

@[simp] theorem setRg_nows (s : State) (a v : Nat) : (s.setRg a v).nows = s.nows := nows_of_tu rfl

@[simp] theorem clearRg_nows (s : State) (a : Nat) : (s.clearRg a).nows = s.nows := nows_of_tu rfl

@[simp] theorem put_nows (s : State) (f : Fld) (v : Nat) : (s.put f v).nows = s.nows := setRg_nows s _ _

@[simp] theorem putBit_nows (s : State) (f : Fld) (b : Bool) : (s.putBit f b).nows = s.nows := put_nows s _ _

@[simp] theorem bump_nows (s : State) (f : Fld) (n : Nat) : (s.bump f n).nows = s.nows := put_nows s _ _

@[simp] theorem setRegBit_nows (s : State) (a k : Nat) (b : Bool) : (s.setRegBit a k b).nows = s.nows := setRg_nows s _ _

section
variable (s : State)

/-! ## Outputs, memories and messages -/

@[simp] theorem emit_nows (o : Output) : (s.emit o).nows = s.nows := nows_of_tu rfl

@[simp] theorem nextFree_nows : s.nextFree.nows = s.nows := nows_of_tu rfl

@[simp] theorem wrByte_nows (a : Nat) (v : Byte) : (s.wrByte a v).nows = s.nows := nows_of_tu rfl

@[simp] theorem wrBytes_nows (a : Nat) (l : List Byte) : (s.wrBytes a l).nows = s.nows := by
  induction l generalizing s a with
  | nil => rfl
  | cons b l ih => rw [State.wrBytes, ih, wrByte_nows]

@[simp] theorem writeWords_nows (b w : Nat) (v : List Byte) : (s.writeWords b w v).nows = s.nows := by simp [State.writeWords]

@[simp] theorem zeroMem_nows (a n : Nat) : (s.zeroMem a n).nows = s.nows := nows_of_tu rfl

@[simp] theorem progStore_nows (nor : Bool) (a : Nat) (l : List Byte) : (s.progStore nor a l).nows = s.nows := by
  induction l generalizing s a with
  | nil => rfl
  | cons b l ih => simp only [State.progStore, ih, nows_mk]

@[simp] theorem progSome_nows (nor : Bool) (n : Nat) (l : List (Nat × List Byte)) : (s.progSome nor n l).nows = s.nows := by
  induction l generalizing s n with
  | nil => rfl
  | cons w l ih => simp only [State.progSome, nows_ite, ih, progStore_nows, ite_self]

@[simp] theorem storeCut_nows (group image : Nat) : (s.storeCut group image).nows = s.nows := by
  unfold State.storeCut
  extract_lets t
  have ht : t.nows = s.nows := by unfold t; split <;> simp only [progSome_nows]
  split
  · exact (progSome_nows _ _ _ _).trans ht
  · exact ht

@[simp] theorem cutWrites_nows : s.cutWrites.nows = s.nows := by simp [State.cutWrites]

@[simp] theorem zeroMagic_nows (a : Nat) : (s.zeroMagic a).nows = s.nows := nows_of_tu rfl

@[simp] theorem mapSession_nows (n : Nat) (f : Session → Session) : (s.mapSession n f).nows = s.nows := nows_of_tu rfl

@[simp] theorem sendKmp_nows (n type : Nat) (body : List Byte) : (s.sendKmp n type body).nows = s.nows := by
  unfold State.sendKmp
  split <;> simp

@[simp] theorem notifyOne_nows (x : Session) (event : Nat) (data : List Byte) : (s.notifyOne x event data).nows = s.nows := by
  simp [State.notifyOne]

@[simp] theorem notify_nows (event : Nat) (data : List Byte) : (s.notify event data).nows = s.nows := by simp [State.notify]

@[simp] theorem reply_nows (n op reqId status : Nat) (results : List Byte) : (s.reply n op reqId status results).nows = s.nows := by
  simp [State.reply]

@[simp] theorem finish_nows (owner : Option (Nat × Nat)) (op status : Nat) (results : List Byte) :
    (s.finish owner op status results).nows = s.nows := by
  unfold State.finish
  split <;> simp

@[simp] theorem unbar_nows (a : PolicyAct) : (s.unbar a).nows = s.nows := nows_of_tu rfl

@[simp] theorem propose_nows (a : PolicyAct) : (s.propose a).nows = s.nows := by simp [State.propose]

/-! ## Mutes and channels -/

@[simp] theorem setCh_nows (m : Nat) (c : AmpCh) : (s.setCh m c).nows = s.nows := nows_of_tu rfl

@[simp] theorem gatesStop_nows : s.gatesStop.nows = s.nows := by simp [State.gatesStop]

@[simp] theorem mapMute_nows (d : Nat) (f : Mute → Mute) : (s.mapMute d f).nows = s.nows := nows_of_tu rfl

@[simp] theorem mapMuteAll_nows (f : Mute → Mute) : (s.mapMuteAll f).nows = s.nows := nows_of_tu rfl

@[simp] theorem mapMuteOut_nows (f : Mute → Mute) : (s.mapMuteOut f).nows = s.nows := nows_of_tu rfl

@[simp] theorem freshMutes_nows (keep : MuteReason → Bool) : (s.freshMutes keep).nows = s.nows := nows_of_tu rfl

@[simp] theorem muteOuts_nows (r : MuteReason) : (s.muteOuts r).nows = s.nows := nows_of_tu rfl

@[simp] theorem unmuteOuts_nows (r : MuteReason) : (s.unmuteOuts r).nows = s.nows := nows_of_tu rfl

@[simp] theorem unmuteAllOuts_nows (r : MuteReason) : (s.unmuteAllOuts r).nows = s.nows := nows_of_tu rfl

@[simp] theorem serviceMute_nows : s.serviceMute.nows = s.nows := by simp [State.serviceMute]

@[simp] theorem holdChans_nows (k : Nat) (chans : List Nat) : (s.holdChans k chans).nows = s.nows := by simp [State.holdChans]

@[simp] theorem freeChan_nows (k m : Nat) : (s.freeChan k m).nows = s.nows := by simp [State.freeChan]

@[simp] theorem freeChans_nows : s.freeChans.nows = s.nows := by simp [State.freeChans]

/-! ## Entering a mode, HOLD among them -/

@[simp] theorem roleEntry_nows (old new : Mode) : (s.roleEntry old new).nows = s.nows := nows_of_tu (by rw [roleEntry_pairOnly s old new])

@[simp] theorem setMode_nows (m : Mode) : (s.setMode m).nows = s.nows := by simp [State.setMode]

@[simp] theorem requalify_nows : s.requalify.nows = s.nows := nows_of_now rfl

@[simp] theorem unmoor_nows : s.unmoor.nows = s.nows := by simp [State.unmoor]

@[simp] theorem zeroStateAreas_nows : s.zeroStateAreas.nows = s.nows := nows_foldl (fun _ _ => by split <;> simp) _ _

@[simp] theorem zeroGranules_nows (b : DelayBuf) : (s.zeroGranules b).nows = s.nows := by simp [State.zeroGranules]

@[simp] theorem firstUse_nows : s.firstUse.nows = s.nows := by
  unfold State.firstUse
  extract_lets s1 s2 _ s3 _ s4
  have h1 : s1.nows = s.nows := zeroStateAreas_nows s
  have h2 : s2.nows = s1.nows := nows_foldl (fun s e => by split <;> simp) _ s1
  have h3 : s3.nows = s2.nows := nows_mk s2 ..
  have h4 : s4.nows = s3.nows := nows_mk s3 ..
  refine (nows_foldl (fun s j => ?_) _ s4).trans (h4.trans (h3.trans (h2.trans h1)))
  simp only [clearRg_nows]

@[simp] theorem resetCoil_nows : s.resetCoil.nows = s.nows := by simp [State.resetCoil]

@[simp] theorem wakeAudio_nows (cause index : Nat) : (s.wakeAudio cause index).nows = s.nows := by simp [State.wakeAudio]

@[simp] theorem forgetBlk_nows : s.forgetBlk.nows = s.nows := nows_of_tu rfl

@[simp] theorem abortDormant_nows : s.abortDormant.nows = s.nows := by simp [State.abortDormant]

@[simp] theorem masterReset_nows (m : Nat) : (s.masterReset m).nows = s.nows := by simp [State.masterReset]

@[simp] theorem enterHold_nows (src : Option Nat) : (s.enterHold src).nows = s.nows := by
  unfold State.enterHold
  split
  · rfl
  · extract_lets old s1 lost s2 _ _ s3 s4 s5 s6 s7
    have h1 : s1.nows = s.nows := by simp only [s1, nows_ite, wakeAudio_nows, forgetBlk_nows, abortDormant_nows, ite_self]
    have h2 : s2.nows = s1.nows := by simp only [s2, put_nows, nows_ite, ite_self]
    have h3 : s3.nows = s2.nows := nows_of_tu rfl
    have h4 : s4.nows = s3.nows := by simp only [s4, put_nows]
    have h5 : s5.nows = s4.nows := by unfold s5; split <;> simp only [put_nows]
    have h7 : s7.nows = s5.nows := by
      simp only [s7, s6, nows_ite, masterReset_nows, put_nows, unmuteAllOuts_nows, ite_self]
    rw [muteOuts_nows, setMode_nows, h7, h5, h4, h3, h2, h1]

/-! ## The fault collector -/

@[simp] theorem pinStep_nows (t : State) : (s.pinStep t).nows = t.nows := by simp [State.pinStep]

@[simp] theorem policyPin_nows : s.policyPin.nows = s.nows := by simp [State.policyPin]

@[simp] theorem reactHold_nows (k : Nat) : (s.reactHold k).nows = s.nows := by simp [State.reactHold]

@[simp] theorem reactReset_nows (k : Nat) : (s.reactReset k).nows = s.nows := by simp [State.reactReset]

@[simp] theorem react_nows (k cls : Nat) (chans : List Nat) : (s.react k cls chans).nows = s.nows := by
  unfold State.react
  split <;> simp

@[simp] theorem pulse_nows (cls : Nat) : (s.pulse cls).nows = s.nows := by simp [State.pulse]

@[simp] theorem newLatch_nows (k : Nat) (chans : List Nat) : (s.newLatch k chans).nows = s.nows := by simp [State.newLatch]

@[simp] theorem latch_nows (k : Nat) (chans : List Nat) : (s.latch k chans).nows = s.nows := by simp [State.latch]

/-! ## The reference selector -/

@[simp] theorem stopSelector_nows (old : State) : (s.stopSelector old).nows = s.nows := by simp [State.stopSelector]

@[simp] theorem showSelector_nows : s.showSelector.nows = s.nows := by simp [State.showSelector]

@[simp] theorem setQualified_nows (r : Nat) (b : Bool) : (s.setQualified r b).nows = s.nows := by
  simp only [State.setQualified, State.putMask, put_nows, putBit_nows]

@[simp] theorem mapSel_nows (f : Selector → Selector) : (s.mapSel f).nows = s.nows := nows_of_now rfl

@[simp] theorem setRf_nows (r : Nat) (v : RefSt) : (s.setRf r v).nows = s.nows := by simp [State.setRf]

@[simp] theorem stopWtr_nows : s.stopWtr.nows = s.nows := by simp [State.stopWtr]

@[simp] theorem stopWorse_nows : s.stopWorse.nows = s.nows := by simp [State.stopWorse]

@[simp] theorem enterBase_nows (b : Nat) : (s.enterBase b).nows = s.nows := by simp [State.enterBase]

@[simp] theorem startSwitch_nows (r : Nat) : (s.startSwitch r).nows = s.nows := by simp [State.startSwitch]

@[simp] theorem goSwitch_nows (r : Nat) : (s.goSwitch r).nows = s.nows := by simp [State.goSwitch]

@[simp] theorem choose_nows : s.choose.nows = s.nows := by
  unfold State.choose
  split
  · split
    · simp only [nows_ite, goSwitch_nows, ite_self]
    · rfl
  · rfl

@[simp] theorem toModel_nows (noHistory : Bool) : (s.toModel noHistory).nows = s.nows := by simp [State.toModel]

@[simp] theorem startWtr_nows (r : Nat) : (s.startWtr r).nows = s.nows := by simp [State.startWtr]

@[simp] theorem startWtrs_nows : s.startWtrs.nows = s.nows := by simp [State.startWtrs]

@[simp] theorem abortSwitch_nows : s.abortSwitch.nows = s.nows := by simp [State.abortSwitch]

@[simp] theorem unusable_nows (r : Nat) : (s.unusable r).nows = s.nows := by simp [State.unusable]

@[simp] theorem disqualify_nows (r : Nat) : (s.disqualify r).nows = s.nows := by simp [State.disqualify]

@[simp] theorem qualify_nows (r : Nat) : (s.qualify r).nows = s.nows := by
  unfold State.qualify
  extract_lets s1 s2 s3
  have h2 : s2.nows = s.nows := by simp only [s2, s1, unbar_nows, put_nows, setQualified_nows]
  rw [← h2]
  split
  · split
    · split <;> simp only [s3, goSwitch_nows, abortSwitch_nows]
    · rfl
  · simp only [nows_ite, startSwitch_nows, startWtr_nows, choose_nows, ite_self]

@[simp] theorem checkRef_nows (r : Nat) : (s.checkRef r).nows = s.nows := by simp [State.checkRef]

@[simp] theorem selStep_nows {f : State → State} (h : (f s).nows = s.nows) : (s.selStep f).nows = s.nows := by
  simp only [State.selStep, nows_ite, notify_nows, showSelector_nows, mapSel_nows, h, ite_self]

@[simp] theorem refsWritten_nows : s.refsWritten.nows = s.nows := by simp [State.refsWritten]

/-! ## PTP instances as references -/

@[simp] theorem setInst_nows (d : Nat) (v : PtpInst) : (s.setInst d v).nows = s.nows := nows_of_now rfl

@[simp] theorem mapInst_nows (d : Nat) (f : PtpInst → PtpInst) : (s.mapInst d f).nows = s.nows := by simp [State.mapInst]

@[simp] theorem hearAgain_nows (d : Nat) : (s.hearAgain d).nows = s.nows := by simp [State.hearAgain]

@[simp] theorem refLoss_nows (r : Nat) : (effRefLoss r s).nows = s.nows := by simp [effRefLoss]

@[simp] theorem refServo_nows (d : Nat) : (s.refServo d).nows = s.nows := by simp [State.refServo]

@[simp] theorem setServo_nows (d code : Nat) : (s.setServo d code).nows = s.nows := by simp [State.setServo]

@[simp] theorem setPortState_nows (d code : Nat) : (s.setPortState d code).nows = s.nows := nows_of_tu rfl

@[simp] theorem ptpEnable_nows (d : Nat) : (s.ptpEnable d).nows = s.nows := by simp [State.ptpEnable]

@[simp] theorem ptpFromRank_nows (d : Nat) : (s.ptpFromRank d).nows = s.nows := by simp [State.ptpFromRank]

/-! ## The two-wire bus -/

@[simp] theorem setTw0_nows (t : Tw0) : (s.setTw0 t).nows = s.nows := by simp [State.setTw0]

@[simp] theorem tw0Cmd_nows (cmd : Nat) : (s.tw0Cmd cmd).nows = s.nows := by simp [State.tw0Cmd]

@[simp] theorem tw0Go_nows (cmd : Nat) (owner : Option (Nat × Nat)) : (s.tw0Go cmd owner).nows = s.nows := by simp [State.tw0Go]

@[simp] theorem tw0Next_nows : s.tw0Next.nows = s.nows := by
  unfold State.tw0Next
  split <;> simp

@[simp] theorem tw0Free_nows : s.tw0Free.nows = s.nows := by simp [State.tw0Free]

@[simp] theorem tw0End_nows (result acked : Nat) (read : List Byte) : (s.tw0End result acked read).nows = s.nows := by
  unfold State.tw0End
  split <;> simp

@[simp] theorem tw0Recover_nows (how : Recovery) : (s.tw0Recover how).nows = s.nows := by
  unfold State.tw0Recover
  split <;> simp

@[simp] theorem tw0Enable_nows (how : Recovery) : (effTw0Enable how s).nows = s.nows := by simp [effTw0Enable]

@[simp] theorem tw0Abort_nows (acked : Nat) (read : List Byte) : (effTw0Abort acked read s).nows = s.nows := by
  unfold effTw0Abort
  split <;> simp

@[simp] theorem tw0Disable_nows (acked : Nat) (read : List Byte) : (effTw0Disable acked read s).nows = s.nows := by simp [effTw0Disable]

/-! ## The control buses -/

@[simp] theorem setMac_nows (m : Nat) (c : CbusMac) : (s.setMac m c).nows = s.nows := by
  unfold State.setMac
  extract_lets _ s1 s2 s3 s4 s5
  have h4 : s4.nows = s.nows := by simp only [s4, s3, s2, s1, putBit_nows, put_nows, nows_mk]
  have h5 : s5.nows = s4.nows := by unfold s5; split <;> simp only [setRg_nows]
  split <;> simp only [setRg_nows, h5, h4]

@[simp] theorem macEnabled_nows (m : Nat) : (s.macEnabled m).nows = s.nows := by simp [State.macEnabled]

@[simp] theorem cbusCount_nows (m k n : Nat) : (s.cbusCount m k n).nows = s.nows := nows_of_tu rfl

@[simp] theorem plcaRead_nows (m : Nat) (plca : Option Bool) : (s.plcaRead m plca).nows = s.nows := by
  unfold State.plcaRead
  cases plca <;> simp only [nextFree_nows, cbusCount_nows, putBit_nows, put_nows]

@[simp] theorem plcaFrames_nows (m : Nat) : (s.plcaFrames m).nows = s.nows := by simp [State.plcaFrames]

@[simp] theorem cbusEnable_nows (m : Nat) (plca : Option Bool) : (effCbusEnable m plca s).nows = s.nows := by simp [effCbusEnable]

@[simp] theorem cbusEnd_nows (m result : Nat) : (s.cbusEnd m result).nows = s.nows := by
  unfold State.cbusEnd
  extract_lets c
  split
  · rfl
  · exact setMac_nows _ _ _

@[simp] theorem cbusDiscard_nows (m result : Nat) : (s.cbusDiscard m result).nows = s.nows := by
  unfold State.cbusDiscard
  split
  · rfl
  · extract_lets t
    split <;> simp only [t, cbusCount_nows, cbusEnd_nows]

@[simp] theorem cbusDrop_nows (m result n : Nat) : (s.cbusDrop m result n).nows = s.nows := by simp [State.cbusDrop]

@[simp] theorem cbusFlush_nows (m : Nat) : (s.cbusFlush m).nows = s.nows := by simp [State.cbusFlush]

@[simp] theorem macStop_nows (m : Nat) : (s.macStop m).nows = s.nows := by simp [State.macStop]

@[simp] theorem cbusDisable_nows (m : Nat) : (effCbusDisable m s).nows = s.nows := by simp [effCbusDisable]

/-! ## Ports -/

@[simp] theorem cnt_nows (p k : Nat) : (s.cnt p k).nows = s.nows := by simp [State.cnt]

@[simp] theorem setPort_nows (p : Nat) (v : Port) : (s.setPort p v).nows = s.nows := by
  unfold State.setPort
  split <;> simp

@[simp] theorem settleTail_nows (r : Nat) : (s.settleTail r).nows = s.nows := by simp [State.settleTail]

@[simp] theorem linkDown_nows (p : Nat) : (effLinkDown p s).nows = s.nows := by simp [effLinkDown]

/-! ## Items of the configuration -/

@[simp] theorem writeImage_nows (a v : Nat) : (s.writeImage a v).nows = s.nows := by simp [State.writeImage]

@[simp] theorem writeItem_nows (sec k : Nat) : (s.writeItem sec k).nows = s.nows := by simp [State.writeItem]

@[simp] theorem writeTw0Cfg_nows (k : Nat) : (s.writeTw0Cfg k).nows = s.nows := by simp [State.writeTw0Cfg]

@[simp] theorem writeCbusCfg_nows (m k : Nat) : (s.writeCbusCfg m k).nows = s.nows := by simp [State.writeCbusCfg]

@[simp] theorem writePeripheral_nows (k : Nat) : (s.writePeripheral k).nows = s.nows := by simp [State.writePeripheral]

@[simp] theorem writePortCfg_nows (p k : Nat) : (s.writePortCfg p k).nows = s.nows := by simp [State.writePortCfg]

@[simp] theorem writeAddr_nows (d : Nat) : (s.writeAddr d).nows = s.nows := by
  unfold State.writeAddr
  split <;> simp

@[simp] theorem writePtpCfg_nows (d : Nat) : (s.writePtpCfg d).nows = s.nows := by simp [State.writePtpCfg]

@[simp] theorem writeDomain_nows (d : Nat) : (s.writeDomain d).nows = s.nows := by
  unfold State.writeDomain
  split <;> simp

@[simp] theorem writeRefItem_nows (k : Nat) : (s.writeRefItem k).nows = s.nows := by simp [State.writeRefItem]

@[simp] theorem writeFault_nows (k : Nat) : (s.writeFault k).nows = s.nows := by simp [State.writeFault]

/-! ## Streams, lines, programs -/

@[simp] theorem reportLeg_nows (from_ : State) (k j : Nat) (join : Bool) : (s.reportLeg from_ k j join).nows = s.nows := nows_of_tu rfl

@[simp] theorem leaveGone_nows (old : State) : (s.leaveGone old).nows = s.nows := by simp [State.leaveGone]

@[simp] theorem setRxs_nows (k : Nat) (v : RxStream) : (s.setRxs k v).nows = s.nows := nows_of_tu rfl

@[simp] theorem legWritten_nows (old : State) (k j : Nat) (filterWritten : Bool) : (s.legWritten old k j filterWritten).nows = s.nows := by
  simp [State.legWritten]

@[simp] theorem writeStream_nows (k : Nat) : (s.writeStream k).nows = s.nows := by
  unfold State.writeStream
  split <;> simp

@[simp] theorem attachInst_nows (i : Nat) (c : DynCfg) : (s.attachInst i c).nows = s.nows := nows_of_tu rfl

@[simp] theorem showLine_nows (d : Nat) : (s.showLine d).nows = s.nows := by
  simp only [State.showLine, putBit_nows, put_nows]

@[simp] theorem setLine_nows (d : Nat) (l : DelayLine) : (s.setLine d l).nows = s.nows := by simp [State.setLine]

@[simp] theorem placeLine_nows (d img : Nat) : (s.placeLine d img).nows = s.nows := by simp [State.placeLine]

@[simp] theorem placeTables_nows (l b : Nat) : (s.placeTables l b).nows = s.nows := by simp [State.placeTables]

@[simp] theorem placeWords_nows (l b : Nat) : (s.placeWords l b).nows = s.nows := by simp [State.placeWords]

@[simp] theorem placePrograms_nows : s.placePrograms.nows = s.nows := by simp [State.placePrograms]

@[simp] theorem clearTablesAll_nows : s.clearTablesAll.nows = s.nows := nows_of_tu rfl

@[simp] theorem ampTouched_nows (a cmd : Nat) : (s.ampTouched a cmd).nows = s.nows := nows_of_tu rfl

/-! ## The store -/

@[simp] theorem showSlots_nows : s.showSlots.nows = s.nows := nows_of_tu rfl

@[simp] theorem storeError_nows (code a : Nat) : (s.storeError code a).nows = s.nows := nows_of_tu rfl

@[simp] theorem showStore_nows : s.showStore.nows = s.nows := by
  simp only [State.showStore, nows_ite, put_nows, putBit_nows, ite_self]

@[simp] theorem takeBoot_nows (b : Boot) : (s.takeBoot b).nows = s.nows := by
  unfold State.takeBoot
  split <;> simp

@[simp] theorem noImage_nows : s.noImage.nows = s.nows := by simp [State.noImage]

@[simp] theorem showDaymark_nows : s.showDaymark.nows = s.nows := by simp [State.showDaymark]

@[simp] theorem assignRelief_nows : s.assignRelief.nows = s.nows := by simp [State.assignRelief]

@[simp] theorem slotValid_nows (slot : Nat) (b : Bool) : (s.slotValid slot b).nows = s.nows := nows_of_tu rfl

@[simp] theorem startCompaction_nows (owner : Option (Nat × Nat)) : (s.startCompaction owner).nows = s.nows := by
  simp [State.startCompaction]

@[simp] theorem fillCheck_nows : s.fillCheck.nows = s.nows := by
  simp only [State.fillCheck, State.ownCompaction, nows_ite, startCompaction_nows, ite_self]

/-! ## The amplifier -/

@[simp] theorem showCh_nows (m : Nat) : (s.showCh m).nows = s.nows := by simp [State.showCh]

@[simp] theorem ampLoaded_nows : s.ampLoaded.nows = s.nows := by simp [State.ampLoaded]

@[simp] theorem ignoreSense_nows : s.ignoreSense.nows = s.nows := by
  unfold State.ignoreSense
  extract_lets _ s1 s2
  have h1 : s1.nows = s.nows := nows_mk s ..
  have h2 : s2.nows = s1.nows := nows_foldl (fun s m => by simp only [putBit_nows]) _ s1
  refine (put_nows _ _ _).trans ((nows_foldl (fun s r => ?_) _ s2).trans (h2.trans h1))
  simp only [putBit_nows]

@[simp] theorem limitFor_nows (m : Nat) (t : Int) : (s.limitFor m t).nows = s.nows := by simp [State.limitFor]

@[simp] theorem startLimits_nows : s.startLimits.nows = s.nows := by simp [State.startLimits]

@[simp] theorem resetBaselines_nows : s.resetBaselines.nows = s.nows := by simp [State.resetBaselines]

@[simp] theorem beaconIdentity_nows : s.beaconIdentity.nows = s.nows := by simp [State.beaconIdentity]

@[simp] theorem endDiag_nows (m result : Nat) : (s.endDiag m result).nows = s.nows := by
  unfold State.endDiag
  split <;> simp

@[simp] theorem settleGates_nows (m : Nat) : (s.settleGates m).nows = s.nows := by
  simp only [State.settleGates, State.gatesLow, nows_ite, setCh_nows, ite_self]

@[simp] theorem beginDiag_nows (m : Nat) (start : Bool) (mode : Nat) : (s.beginDiag m start mode).nows = s.nows := by
  have h : (s.clearSweep m).nows = s.nows := nows_foldl (fun s k => by simp only [clearRg_nows]) _ s
  simp only [State.beginDiag, showCh_nows, setCh_nows, h]

@[simp] theorem settleCh_nows (m : Nat) : (s.settleCh m).nows = s.nows := by
  unfold State.settleCh
  extract_lets t c s1 c1 prot s2 s3
  have h1 : s1.nows = s.nows := by
    unfold s1
    split <;> simp only [nows_ite, endDiag_nows, ite_self]
  simp only [nows_ite, showCh_nows, freeChans_nows, settleGates_nows, beginDiag_nows, put_nows, s3, s2,
    setCh_nows, h1, ite_self]

@[simp] theorem ampFirstAudio_nows : s.ampFirstAudio.nows = s.nows := nows_foldl (fun _ _ => by simp) _ _

/-! ## The end of a START -/

@[simp] theorem firstAudio_nows : s.firstAudio.nows = s.nows := by simp [State.firstAudio]

@[simp] theorem announceName_nows : s.announceName.nows = s.nows := nows_of_tu rfl

@[simp] theorem finishStart_nows (dest : Mode) : (s.finishStart dest).nows = s.nows := by simp [State.finishStart]

@[simp] theorem stepTwelve_nows (dest : Mode) (image : Bool) : (s.stepTwelve dest image).nows = s.nows := by simp [State.stepTwelve]

/-! ## From the boot read to the first audio -/

@[simp] theorem park_nows (a v : Nat) : (s.park a v).nows = s.nows := nows_of_tu rfl

@[simp] theorem parkItem_nows (sec k : Nat) : (s.parkItem sec k).nows = s.nows := by simp [State.parkItem]

@[simp] theorem writeNode_nows (k : Nat) : (s.writeNode k).nows = s.nows := by simp [State.writeNode]

@[simp] theorem settleParked_nows : s.settleParked.nows = s.nows := by simp [State.settleParked]

@[simp] theorem loadTables_nows : s.loadTables.nows = s.nows := by simp [State.loadTables]

@[simp] theorem loadAll_nows : s.loadAll.nows = s.nows := by simp [loadAll_eq]

@[simp] theorem bootRead_nows (full : Bool) : (s.bootRead full).1.nows = s.nows := by
  unfold State.bootRead
  extract_lets s1 s2 s3 life barred found
  have h3 : s3.nows = s.nows := by
    simp only [s3, s2, s1, nows_ite, nextFree_nows, put_nows, putBit_nows, ite_self]
  clear_value barred found s3
  split
  · simp [h3]
  · exact h3
  · dsimp only
    split <;> simp [h3]

@[simp] theorem choseCfg_nows (image : Bool) : (s.choseCfg image).nows = s.nows := by simp [State.choseCfg]

@[simp] theorem loaded_nows (image : Bool) : (s.loaded image).nows = s.nows := by simp [State.loaded]

@[simp] theorem goOn_nows (full : Bool) (dest : Mode) : (s.goOn full dest).nows = s.nows := by simp [State.goOn]

@[simp] theorem loadAndGo_nows (full : Bool) : (s.loadAndGo full).nows = s.nows := by simp [loadAndGo_eq, State.beforeStepTwelve]

/-! ## A full START -/

theorem restarted_nows (cause : StartCause) : (s.restarted cause).nows = [] := by
  unfold State.restarted
  extract_lets hist keep times reset _ _ _ t u
  have ht : t.nows = [] := rfl
  simp [u, ht]

@[simp] theorem readStraps_nows : s.readStraps.nows = s.nows := by simp [State.readStraps]

@[simp] theorem startRoot_nows : s.startRoot.nows = s.nows := by simp [State.startRoot]

@[simp] theorem startLife_nows : s.startLife.nows = s.nows := by simp [State.startLife]

/-- No master holds a capture after a full START. -/
theorem fullStart_nows (cause : StartCause) : (s.fullStart cause).nows = [] := by
  rw [fullStart_eq, startLife_nows, startRoot_nows, readStraps_nows, restarted_nows]

end

end Sys2Proof.Machine
end

section
/-! The TMS_NOW registers as their captures show them (R533), and O37. -/

namespace Sys2Proof.Machine

/-! ## What the TMS_NOW registers read as -/

/-- A TMS_NOW register shows the master's capture. -/
theorem view_now (s : State) (m : Master) {a : Nat} (h : a ∈ [TMS_NOW_NS, TMS_NOW_SEC, TMS_NOW_WNS, TMS_NOW_N]) :
    s.view m a = s.nowImage m a := by
  simp only [List.mem_cons, List.not_mem_nil, or_false] at h
  obtain rfl | rfl | rfl | rfl := h <;> rfl

theorem nowImage_none {s : State} {m : Master} (h : tget s.tu.now (masterKey m) = none) (a : Nat) : s.nowImage m a = 0 := by
  rw [State.nowImage, h]

theorem nowImage_some {s : State} {m : Master} {x n : Nat} (h : tget s.tu.now (masterKey m) = some (x, n)) :
    s.nowImage m TMS_NOW_NS = x / 65536 % 1000000000 * 2 ^ 32 + x % 65536 * 2 ^ 16 ∧
      s.nowImage m TMS_NOW_SEC = x / (65536 * 1000000000) % 2 ^ 48 ∧ s.nowImage m TMS_NOW_WNS = x / 65536 % 2 ^ 64 ∧
      s.nowImage m TMS_NOW_N = n := by
  unfold State.nowImage
  rw [h]
  exact ⟨rfl, rfl, rfl, rfl⟩

theorem findReg_nowNs : ∃ d p, findReg TMS_NOW_NS = some (d, p) ∧ findReg (TMS_NOW_NS + 4) = some (d, p) ∧
    d.instAddr p.1 p.2 = TMS_NOW_NS ∧ d.bits = 64 := by
  have h : (findReg TMS_NOW_NS).any (fun e => findReg (TMS_NOW_NS + 4) == some e && e.1.instAddr e.2.1 e.2.2 == TMS_NOW_NS &&
      e.1.bits == 64) = true := by decide +kernel
  obtain ⟨hs, hd⟩ := (Option.any_eq_true_iff_get _ _).1 h
  simp only [Bool.and_eq_true, beq_iff_eq] at hd
  obtain ⟨⟨hu, ha⟩, hb⟩ := hd
  exact ⟨_, _, (Option.some_get hs).symm, hu, ha, hb⟩

/-- The upper word of TMS_NOW_NS comes from the capture, not from the word R25 keeps. -/
theorem readReg_nowNs_upper (s : State) (m : Master) :
    s.readReg m false (TMS_NOW_NS + 4) false = (s, s.nowImage m TMS_NOW_NS / 2 ^ 32) := by
  obtain ⟨d, ⟨i, j⟩, -, hu, ha, -⟩ := findReg_nowNs
  rw [← view_now s m (by simp)]
  unfold State.readReg
  rw [hu]
  dsimp only
  rw [ha]
  rfl

/-- A read of TMS_NOW_NS, or of its lower word, captures. -/
theorem readReg_nowNs (s : State) (m : Master) (wide : Bool) : (s.readReg m false TMS_NOW_NS wide).1 = s.captureNow m := by
  obtain ⟨d, ⟨i, j⟩, hl, -, ha, -⟩ := findReg_nowNs
  unfold State.readReg
  rw [hl]
  dsimp only
  rw [ha]
  rfl

theorem busRead_nowNs {s : State} {m : Master} (h : s.mayReach m TMS_NOW_NS false = true) (wide : Bool) :
    ∃ v, s.busRead m false TMS_NOW_NS wide = (s.captureNow m, .done v) := by
  obtain ⟨d, ⟨i, j⟩, hl, -, ha, hb⟩ := findReg_nowNs
  refine ⟨(s.readReg m false TMS_NOW_NS wide).2, ?_⟩
  rw [← readReg_nowNs s m wide]
  unfold State.busRead
  have hal : TMS_NOW_NS % (if wide = true then 8 else 4) = 0 := by cases wide <;> rfl
  have hreg : regionAt TMS_NOW_NS = .regs := by decide
  simp [hal, hreg, h, hl, ha, hb]

/-- Settles O37: the captures outlast everything but a full START and the master's own next capture, and the registers read from them. -/
theorem timeReadsCapture : Obligations.TimeReadsCapture := by
  unfold Obligations.TimeReadsCapture
  refine ⟨fun s m wide halive hreach htap => ?_, fun s cause m => ?_, fun s m => ⟨fun hnone => ?_, fun x n hsome => ?_⟩⟩
  · obtain ⟨v, hread⟩ := busRead_nowNs hreach wide
    have heff : effTmsNowCapture m wide s = (s.captureNow m).emit (.data v) := by
      rw [effTmsNowCapture, htap, hread, State.answer]
    refine ⟨_, gives_runs (exec_tmsNowCapture s) halive heff, ?_, rfl⟩
    exact tget_cins_same s.tu.now (masterKey m) (s.node.time, s.node.n.toNat)
  · rw [show (s.fullStart cause).tu.now = [] from fullStart_nows s cause, tget_nil]
  · rw [view_now s m (by simp), view_now s m (by simp), view_now s m (by simp), readReg_nowNs_upper]
    simp [nowImage_none hnone]
  · rw [view_now s m (by simp), view_now s m (by simp), view_now s m (by simp), readReg_nowNs_upper]
    obtain ⟨hns, hsec, hwns, hn⟩ := nowImage_some hsome
    refine ⟨hsec, hwns, hn, Prod.ext rfl ?_⟩
    rw [hns]
    omega

end Sys2Proof.Machine
end

section
/-! Pulse outputs (R277, R278): what their settings take of a write, and what arming, disarming and an edge leave. -/

namespace Sys2Proof.Machine

theorem emit_get (s : State) (o : Output) (f : Fld) : (s.emit o).get f = s.get f := rfl

theorem get_of_rg {s t : State} {f : Fld} (h : t.rg f.addr = s.rg f.addr) : t.get f = s.get f := by rw [State.get, h, State.get]

theorem bit_of_rg {s t : State} {f : Fld} (h : t.rg f.addr = s.rg f.addr) : t.bit f = s.bit f := by rw [State.bit, get_of_rg h, State.bit]

/-- A one-bit field is its bit of the register. -/
theorem bit_eq_testBit (s : State) {f : Fld} (h : f.width = 1) : s.bit f = (s.rg f.addr).testBit f.lo := by
  rw [State.bit, State.get, h, fieldOf, pow_one, Nat.testBit_eq_decide_div_mod_eq]
  obtain h0 | h1 := Nat.mod_two_eq_zero_or_one (s.rg f.addr / 2 ^ f.lo)
  · rw [h0]; rfl
  · rw [h1]; rfl

/-- A number one field of which is replaced by itself. -/
theorem withField_fieldOf (v lo w : Nat) : withField v lo w (fieldOf v lo w) = v := by
  apply Nat.eq_of_testBit_eq
  intro i
  rw [testBit_withField, testBit_fieldOf]
  split
  case isTrue h =>
    rw [Nat.add_sub_cancel' h.1]
    simp [show i - lo < w by omega]
  · rfl

/-! ## The settings of an output (R23, log 94) -/

/-- What TMS_PULSE_CFG takes of a write of `cfg`, with the WIDTH and the mode (PERIODIC and BASE) that stand after it. -/
def pulseImage (cfg width mode : Nat) : Nat := withField (withField (withField cfg 31 1 0) 0 28 width) 29 2 mode

section
variable (cfg width mode : Nat)

theorem pulseImage_en : fieldOf (pulseImage cfg width mode) 31 1 = 0 := by
  rw [pulseImage, fieldOf_withField_disjoint (by omega), fieldOf_withField_disjoint (by omega), fieldOf_withField_same, Nat.zero_mod]

theorem pulseImage_pol : (pulseImage cfg width mode).testBit 28 = cfg.testBit 28 := by
  simp [pulseImage, testBit_withField]

theorem pulseImage_width : fieldOf (pulseImage cfg width mode) 0 28 = width % 2 ^ 28 := by
  rw [pulseImage, fieldOf_withField_disjoint (by omega), fieldOf_withField_same]

/-- Where no field keeps its old value, the write is taken but for EN. -/
theorem pulseImage_own : pulseImage cfg (fieldOf cfg 0 28) (fieldOf cfg 29 2) = withField cfg 31 1 0 := by
  have hw : fieldOf cfg 0 28 = fieldOf (withField cfg 31 1 0) 0 28 := (fieldOf_withField_disjoint (by omega)).symm
  have hm : fieldOf cfg 29 2 = fieldOf (withField cfg 31 1 0) 29 2 := (fieldOf_withField_disjoint (by omega)).symm
  rw [pulseImage, hw, withField_fieldOf, hm, withField_fieldOf]

theorem pulseImage_lt (h : cfg < 2 ^ 64) : pulseImage cfg width mode < 2 ^ 64 :=
  withField_lt (withField_lt (withField_lt h (by omega)) (by omega)) (by omega)

end

section
variable (s : State) (i : Nat) (cfg : Word32)

theorem pulseCfg_out : (s.pulseCfg i cfg).out = s.out := by rw [State.pulseCfg, State.setRg_out]

theorem pulseCfg_node : (s.pulseCfg i cfg).node = s.node := by rw [State.pulseCfg, State.setRg_node]

theorem effPulseArm_eq : effPulseArm i cfg s = ((s.pulseCfg i cfg).putBit (F.TMS_PULSE_CFG_EN i) true).pulseArm i := by
  rw [effPulseArm]

theorem effPulseDisarm_eq : effPulseDisarm i cfg s = (s.pulseCfg i cfg).pulseOff i := by rw [effPulseDisarm]

theorem rg_pulseCfg : (s.pulseCfg i cfg).rg (TMS_PULSE_CFG i) = pulseImage cfg.toNat
    (if fieldOf cfg.toNat 0 28 = 0 then fieldOf (s.rg (TMS_PULSE_CFG i)) 0 28 else fieldOf cfg.toNat 0 28)
    (if (!cfg.getLsbD 30 || periodOk (cfg.getLsbD 29) (s.rg (TMS_PULSE_PERIOD i))) = true then fieldOf cfg.toNat 29 2
      else fieldOf (s.rg (TMS_PULSE_CFG i)) 29 2) :=
  (rg_setRg_same s _ _).trans (Nat.mod_eq_of_lt (pulseImage_lt _ _ _ (Nat.lt_trans cfg.isLt (by decide))))

theorem pulseCfg_en : (s.pulseCfg i cfg).bit (F.TMS_PULSE_CFG_EN i) = false := by
  rw [State.bit, State.get, rg_pulseCfg, pulseImage_en]
  rfl

theorem pulseCfg_pol : (s.pulseCfg i cfg).bit (F.TMS_PULSE_CFG_POL i) = cfg.getLsbD 28 := by
  rw [bit_eq_testBit _ rfl, rg_pulseCfg, pulseImage_pol, BitVec.getLsbD]

/-- A WIDTH of 0 is reserved. -/
theorem pulseCfg_noWidth (h : cfg.toNat % 2 ^ 28 = 0) :
    (s.pulseCfg i cfg).get (F.TMS_PULSE_CFG_WIDTH i) = s.get (F.TMS_PULSE_CFG_WIDTH i) := by
  have h0 : fieldOf cfg.toNat 0 28 = 0 := by rwa [fieldOf, pow_zero, Nat.div_one]
  rw [State.get, rg_pulseCfg, pulseImage_width, if_pos h0, Nat.mod_eq_of_lt (fieldOf_lt _ _ _), State.get]

theorem pulseCfg_taken (hw : cfg.toNat % 2 ^ 28 ≠ 0)
    (hp : cfg.getLsbD 30 = false ∨ periodOk (cfg.getLsbD 29) (s.rg (TMS_PULSE_PERIOD i)) = true) :
    (s.pulseCfg i cfg).rg (TMS_PULSE_CFG i) = withField cfg.toNat 31 1 0 := by
  have h0 : fieldOf cfg.toNat 0 28 ≠ 0 := by rwa [fieldOf, pow_zero, Nat.div_one]
  rw [rg_pulseCfg, if_neg h0, if_pos (by simpa using hp), pulseImage_own]

end

/-! ## Arming and disarming -/

section
variable (s : State) (i : Nat)

theorem disarm_pulses : tget (s.disarm i).tu.pulses i = none := tget_cdel_same s.tu.pulses i

theorem arm_pulses (p : PulseRun) : tget (s.arm i p).tu.pulses i = some p := tget_cins_same s.tu.pulses i p

theorem disarm_out : (s.disarm i).out = s.out := by rw [State.disarm, State.putBit_out]

theorem arm_out (p : PulseRun) : (s.arm i p).out = s.out := by rw [State.arm, State.putBit_out]

theorem disarm_armed : (s.disarm i).bit (F.TMS_PULSE_STAT_ARMED i) = false :=
  bit_putBit_same _ false (by simp) rfl

theorem disarm_rg {a : Nat} (h : a ≠ TMS_PULSE_STAT i) : (s.disarm i).rg a = s.rg a := rg_put_ne _ _ h

/-- ARMED lies beside FIRED. -/
theorem disarm_fired : (s.disarm i).get (F.TMS_PULSE_STAT_FIRED i) = s.get (F.TMS_PULSE_STAT_FIRED i) :=
  get_putBit_disjoint (f := F.TMS_PULSE_STAT_ARMED i) (g := F.TMS_PULSE_STAT_FIRED i) _ false (by simp) rfl (by simp)

theorem arm_fired (p : PulseRun) : (s.arm i p).get (F.TMS_PULSE_STAT_FIRED i) = s.get (F.TMS_PULSE_STAT_FIRED i) :=
  get_putBit_disjoint (f := F.TMS_PULSE_STAT_ARMED i) (g := F.TMS_PULSE_STAT_FIRED i) _ true (by simp) rfl (by simp)

/-- The registers of an output's settings are not that of its status. -/
theorem pulseCfg_ne_stat : TMS_PULSE_CFG i ≠ TMS_PULSE_STAT i := by
  unfold TMS_PULSE_CFG TMS_PULSE_STAT
  omega

/-- An output that goes inactive is disarmed, its settings as they stood. -/
theorem pulseOff_shows : tget (s.pulseOff i).tu.pulses i = none ∧ (s.pulseOff i).bit (F.TMS_PULSE_STAT_ARMED i) = false ∧
    (s.pulseOff i).rg (TMS_PULSE_CFG i) = s.rg (TMS_PULSE_CFG i) ∧
    (s.pulseOff i).out = s.out ++ [.pulse i (s.bit (F.TMS_PULSE_CFG_POL i)) s.node.time 0] := by
  refine ⟨disarm_pulses s i, disarm_armed s i, disarm_rg s i (pulseCfg_ne_stat i), ?_⟩
  rw [State.pulseOff, State.emit_out, State.pulseLevel, Bool.false_bne, disarm_out]

end

/-- PULSE_DISARM (R23, R277). -/
theorem pulseDisarm_spec {s : State} (ha : s.alive = true) (i : Fin 8) (cfg : Word32) :
    ∃ t, exec (.pulseDisarm i cfg) s = .next t ∧ tget t.tu.pulses i.val = none ∧ t.bit (F.TMS_PULSE_STAT_ARMED i.val) = false ∧
      t.bit (F.TMS_PULSE_CFG_EN i.val) = false ∧
      (cfg.toNat % 2 ^ 28 = 0 → t.get (F.TMS_PULSE_CFG_WIDTH i.val) = s.get (F.TMS_PULSE_CFG_WIDTH i.val)) ∧
      (cfg.toNat % 2 ^ 28 ≠ 0 → cfg.getLsbD 30 = false ∨ periodOk (cfg.getLsbD 29) (s.rg (TMS_PULSE_PERIOD i.val)) = true →
        t.rg (TMS_PULSE_CFG i.val) = withField cfg.toNat 31 1 0) ∧
      t.out = s.out ++ [.pulse i.val (cfg.getLsbD (F.TMS_PULSE_CFG_POL i.val).lo) s.node.time 0] := by
  have hx := gives_runs (exec_pulseDisarm s) ha (effPulseDisarm_eq s i.val cfg)
  obtain ⟨hpulses, harmed, hcfg, hout⟩ := pulseOff_shows (s.pulseCfg i.val cfg) i.val
  rw [pulseCfg_pol, pulseCfg_out, pulseCfg_node] at hout
  have hen : ((s.pulseCfg i.val cfg).pulseOff i.val).bit (F.TMS_PULSE_CFG_EN i.val) = false := by
    rw [bit_of_rg (f := F.TMS_PULSE_CFG_EN i.val) hcfg, pulseCfg_en]
  have hwidth (hw : cfg.toNat % 2 ^ 28 = 0) :
      ((s.pulseCfg i.val cfg).pulseOff i.val).get (F.TMS_PULSE_CFG_WIDTH i.val) = s.get (F.TMS_PULSE_CFG_WIDTH i.val) := by
    rw [get_of_rg (f := F.TMS_PULSE_CFG_WIDTH i.val) hcfg, pulseCfg_noWidth s i.val cfg hw]
  have htaken := pulseCfg_taken s i.val cfg
  rw [← hcfg] at htaken
  generalize (s.pulseCfg i.val cfg).pulseOff i.val = w at hx hpulses harmed hout hen hwidth htaken
  exact ⟨_, hx, hpulses, (bit_pending w _ _).trans harmed, (bit_pending w _ _).trans hen,
    fun hw => (get_pending w _ _).trans (hwidth hw), fun hw hp => (rg_pending w _ _).trans (htaken hw hp), hout⟩

/-! ## An edge (R277) -/

/-- The target of an armed pulse falls due before the tick after next. -/
def State.pulseDue (s : State) (p : PulseRun) : Prop :=
  if p.tick = true then s.pulseAhead p ≤ 1 else s.pulseAhead p ≤ wideDiff (s.tickTime (s.node.n.toNat + 1)) s.node.time

/-- The edge counted and put out. -/
def State.pulseFired (s : State) (i : Nat) (p : PulseRun) : State :=
  (s.bump (F.TMS_PULSE_STAT_FIRED i)).emit (.pulse i (s.pulseLevel i true) (s.edgeAt p)
    ((s.get (F.TMS_PULSE_CFG_WIDTH i) * 65536 + 159999) / 160000))

section
variable {s : State} {i : Nat}

theorem effPulseEdge_unarmed (h : tget s.tu.pulses i = none) : effPulseEdge i s = s := by
  rw [effPulseEdge, h]

theorem effPulseEdge_armed {p : PulseRun} (h : tget s.tu.pulses i = some p) : effPulseEdge i s =
    if !(if p.tick then decide (s.pulseAhead p ≤ 1)
      else decide (s.pulseAhead p ≤ wideDiff (s.tickTime (s.node.n.toNat + 1)) s.node.time)) then s
    else if p.periodic then (s.pulseFired i p).arm i { p with k := p.k + 1 } else (s.pulseFired i p).disarm i := by
  simp only [effPulseEdge, h, State.pulseFired]

theorem pulseDue_iff {p : PulseRun} : s.pulseDue p ↔ (if p.tick then decide (s.pulseAhead p ≤ 1)
    else decide (s.pulseAhead p ≤ wideDiff (s.tickTime (s.node.n.toNat + 1)) s.node.time)) = true := by
  unfold State.pulseDue
  split <;> exact decide_eq_true_iff.symm

theorem effPulseEdge_notDue {p : PulseRun} (h : tget s.tu.pulses i = some p) (hd : ¬ s.pulseDue p) : effPulseEdge i s = s := by
  rw [pulseDue_iff, Bool.not_eq_true] at hd
  rw [effPulseEdge_armed h, hd]
  exact if_pos rfl

theorem effPulseEdge_due {p : PulseRun} (h : tget s.tu.pulses i = some p) (hd : s.pulseDue p) : effPulseEdge i s =
    if p.periodic then (s.pulseFired i p).arm i { p with k := p.k + 1 } else (s.pulseFired i p).disarm i := by
  rw [pulseDue_iff] at hd
  rw [effPulseEdge_armed h, hd]
  exact if_neg Bool.false_ne_true

theorem pulseFired_fired (s : State) (i : Nat) (p : PulseRun) : (s.pulseFired i p).get (F.TMS_PULSE_STAT_FIRED i) =
    min (2 ^ (F.TMS_PULSE_STAT_FIRED i).width - 1) (s.get (F.TMS_PULSE_STAT_FIRED i) + 1) := by
  rw [State.pulseFired, emit_get, get_bump_same s _ 1 (by simp)]

theorem pulseFired_out (s : State) (i : Nat) (p : PulseRun) : (s.pulseFired i p).out =
    s.out ++ [.pulse i (s.pulseLevel i true) (s.edgeAt p) ((s.get (F.TMS_PULSE_CFG_WIDTH i) * 65536 + 159999) / 160000)] := by
  rw [State.pulseFired, State.emit_out, State.bump_out]

/-- An edge that falls due is put out and counted, and arms the next target or disarms. -/
theorem effPulseEdge_shows {p : PulseRun} (h : tget s.tu.pulses i = some p) (hd : s.pulseDue p) :
    (effPulseEdge i s).out = s.out ++ [.pulse i (s.pulseLevel i true) (s.edgeAt p)
      ((s.get (F.TMS_PULSE_CFG_WIDTH i) * 65536 + 159999) / 160000)] ∧
    (effPulseEdge i s).get (F.TMS_PULSE_STAT_FIRED i) =
      min (2 ^ (F.TMS_PULSE_STAT_FIRED i).width - 1) (s.get (F.TMS_PULSE_STAT_FIRED i) + 1) ∧
    tget (effPulseEdge i s).tu.pulses i = if p.periodic then some { p with k := p.k + 1 } else none := by
  rw [effPulseEdge_due h hd]
  split
  · exact ⟨(arm_out _ i _).trans (pulseFired_out s i p), (arm_fired _ i _).trans (pulseFired_fired s i p), arm_pulses _ i _⟩
  · exact ⟨(disarm_out _ i).trans (pulseFired_out s i p), (disarm_fired _ i).trans (pulseFired_fired s i p), disarm_pulses _ i⟩

end

end Sys2Proof.Machine
end

section
/-! Capture inputs (R280, R281): which edges count, what the queue and its registers hold after an edge and after a pop, and O49. -/

namespace Sys2Proof.Machine

/-- The queue of a capture input. -/
def State.capOf (s : State) (j : Nat) : CapQueue := tgetD s.tu.caps j ⟨[], false⟩

/-! ## The registers of a queue -/

section
variable (s : State) (j : Nat)

theorem showCap_tu : (s.showCap j).tu = s.tu := by
  unfold State.showCap
  dsimp only
  split
  · rw [State.setRg_tu, State.setRg_tu, State.put_tu]
  · rw [State.putBit_tu, State.putBit_tu, State.putBit_tu, State.putBit_tu, State.put_tu, State.setRg_tu, State.put_tu]

theorem capOf_showCap : (s.showCap j).capOf j = s.capOf j := by rw [State.capOf, showCap_tu, State.capOf]

/-- The queue of an input is set, its registers as they stood. -/
def State.withCap (q : CapQueue) : State :=
  { s with tu := { s.tu with caps := tput s.tu.caps j (if q.entries.isEmpty && !q.lost then none else some q) } }

theorem setCap_eq (q : CapQueue) : s.setCap j q = (s.withCap j q).showCap j := rfl

/-- An empty queue that has lost nothing is not listed, and reads the same. -/
theorem capOf_withCap (q : CapQueue) : (s.withCap j q).capOf j = q := by
  rw [State.capOf, State.withCap, tgetD, tget_tput, if_pos rfl]
  split
  case isTrue h =>
    obtain ⟨entries, lost⟩ := q
    simp only [Bool.and_eq_true, List.isEmpty_iff, Bool.not_eq_true'] at h
    obtain ⟨rfl, rfl⟩ := h
    rfl
  · rfl

theorem capOf_setCap (q : CapQueue) : (s.setCap j q).capOf j = q := by
  rw [setCap_eq, capOf_showCap, capOf_withCap]

theorem capStat_ne_wns : TMS_CAP_STAT j ≠ TMS_CAP_WNS j := by unfold TMS_CAP_STAT TMS_CAP_WNS; omega

theorem capStat_ne_sub : TMS_CAP_STAT j ≠ TMS_CAP_SUB j := by unfold TMS_CAP_STAT TMS_CAP_SUB; omega

theorem capWns_ne_sub : TMS_CAP_WNS j ≠ TMS_CAP_SUB j := by unfold TMS_CAP_WNS TMS_CAP_SUB; omega

/-- TMS_CAP_SUB shows an entry. -/
def State.showCapSub (s : State) (j : Nat) (e : CapEntry) : State :=
  ((((s.put (F.TMS_CAP_SUB_SUB j) (e.t % 65536)).putBit (F.TMS_CAP_SUB_VALID j) true).putBit (F.TMS_CAP_SUB_FALL j) e.fall).putBit
    (F.TMS_CAP_SUB_OVF_BEFORE j) e.ovf).putBit (F.TMS_CAP_SUB_PRE_STEP j) e.pre

theorem showCapSub_rg (e : CapEntry) {a : Nat} (h : a ≠ TMS_CAP_SUB j) : (s.showCapSub j e).rg a = s.rg a := by
  unfold State.showCapSub State.putBit
  rw [rg_put_ne _ _ h, rg_put_ne _ _ h, rg_put_ne _ _ h, rg_put_ne _ _ h, rg_put_ne _ _ h]

/-- LEVEL and TMS_CAP_WNS of an empty queue and of one with an oldest entry. -/
theorem showCap_empty (h : (s.capOf j).entries = []) :
    s.showCap j = ((s.put (F.TMS_CAP_STAT_LEVEL j) 0).setRg (TMS_CAP_WNS j) 0).setRg (TMS_CAP_SUB j) 0 := by
  unfold State.capOf at h
  simp only [State.showCap, h, List.length_nil]

theorem showCap_entry {e : CapEntry} {es : List CapEntry} (h : (s.capOf j).entries = e :: es) : s.showCap j =
    ((s.put (F.TMS_CAP_STAT_LEVEL j) (es.length + 1)).setRg (TMS_CAP_WNS j) (e.t / 65536 % 2 ^ 64)).showCapSub j e := by
  unfold State.capOf at h
  simp only [State.showCap, h, List.length_cons, State.showCapSub]

theorem showCap_level : (s.showCap j).get (F.TMS_CAP_STAT_LEVEL j) = (s.capOf j).entries.length % 2 ^ (F.TMS_CAP_STAT_LEVEL j).width := by
  have hput (n : Nat) : (s.put (F.TMS_CAP_STAT_LEVEL j) n).get (F.TMS_CAP_STAT_LEVEL j) = n % 2 ^ (F.TMS_CAP_STAT_LEVEL j).width :=
    get_put_same s n (by simp)
  cases h : (s.capOf j).entries with
  | nil => rw [showCap_empty s j h, get_setRg_ne _ _ (capStat_ne_sub j), get_setRg_ne _ _ (capStat_ne_wns j), hput, List.length_nil]
  | cons e es =>
    rw [showCap_entry s j h, get_of_rg (showCapSub_rg _ j e (capStat_ne_sub j)), get_setRg_ne _ _ (capStat_ne_wns j), hput,
      List.length_cons]

theorem showCap_wns :
    (s.showCap j).rg (TMS_CAP_WNS j) = ((s.capOf j).entries.head?.map (fun e => e.t / 65536 % 2 ^ 64)).getD 0 := by
  cases h : (s.capOf j).entries with
  | nil => rw [showCap_empty s j h, rg_setRg_ne _ _ (capWns_ne_sub j), rg_setRg_same]; rfl
  | cons e es =>
    rw [showCap_entry s j h, showCapSub_rg _ j e (capWns_ne_sub j), rg_setRg_same, Nat.mod_mod]
    rfl

end

/-! ## Edges and pops -/

/-- An edge of input `j` is of the selected kind and holds long enough (R280). -/
def State.capCounts (s : State) (j : Nat) (fall : Bool) (held : Nat) : Prop :=
  s.bit (F.TMS_CAP_CFG_EN j) = true ∧
    ((s.get (F.TMS_CAP_CFG_EDGE j) = 0 ∧ fall = false) ∨ (s.get (F.TMS_CAP_CFG_EDGE j) = 1 ∧ fall = true) ∨
      s.get (F.TMS_CAP_CFG_EDGE j) = 2) ∧
    s.get (F.TMS_CAP_CFG_FILT j) + 1 ≤ held

/-- The counter's value that a capture takes (R266). -/
def State.capTime (s : State) (t : Nat) : Nat := if s.get F.PWR_STAT_STATE < 4 ∨ t ≤ s.node.time then t else (s.counterFrom t).1

section
variable {s : State} {j : Nat} {fall : Bool} {t held : Nat}

theorem capCounts_iff (hk : s.get (F.TMS_CAP_CFG_EDGE j) < 4) : s.capCounts j fall held ↔
    (held ≤ s.get (F.TMS_CAP_CFG_FILT j) || !s.bit (F.TMS_CAP_CFG_EN j) || (s.get (F.TMS_CAP_CFG_EDGE j) = 0 && fall) ||
      (s.get (F.TMS_CAP_CFG_EDGE j) = 1 && !fall) || s.get (F.TMS_CAP_CFG_EDGE j) = 3) = false := by
  unfold State.capCounts
  generalize s.get (F.TMS_CAP_CFG_EDGE j) = kind at hk ⊢
  generalize s.get (F.TMS_CAP_CFG_FILT j) = filt
  generalize s.bit (F.TMS_CAP_CFG_EN j) = en
  cases fall <;> cases en <;> simp <;> omega

theorem capEdge_lt : s.get (F.TMS_CAP_CFG_EDGE j) < 4 := get_lt s _

theorem effTcapEdge_none (h : ¬ s.capCounts j fall held) : effTcapEdge j fall t held s = s := by
  rw [capCounts_iff capEdge_lt, Bool.not_eq_false] at h
  exact if_pos h

theorem effTcapEdge_counts (h : s.capCounts j fall held) : effTcapEdge j fall t held s =
    if 8 ≤ (s.capOf j).entries.length then (s.bump (F.TMS_CAP_STAT_OVF j)).setCap j { s.capOf j with lost := true }
    else s.setCap j ⟨(s.capOf j).entries ++ [⟨s.capTime t, fall, (s.capOf j).lost, false⟩], false⟩ := by
  have hc := (capCounts_iff capEdge_lt).1 h
  have ht : (if s.get F.PWR_STAT_STATE < 4 || t ≤ s.node.time then t else (s.counterFrom t).1) = s.capTime t :=
    if_congr (by rw [Bool.or_eq_true, decide_eq_true_eq, decide_eq_true_eq]) rfl rfl
  rw [← ht]
  exact if_neg (ne_true_of_eq_false hc)

theorem effPop_empty (h : (s.capOf j).entries = []) : effPop j s = s := if_pos (List.isEmpty_iff.2 h)

theorem effPop_entry {e : CapEntry} {es : List CapEntry} (h : (s.capOf j).entries = e :: es) :
    effPop j s = s.setCap j { s.capOf j with entries := es } := by
  unfold State.capOf at h
  simp only [effPop, State.capOf, h, List.isEmpty_cons, Bool.false_eq_true, if_false, List.drop_succ_cons, List.drop_zero]

end

/-! ## What the queue and its registers hold after an edge and after a pop -/

section
variable (s : State) (j : Nat)

theorem setCap_level (q : CapQueue) :
    (s.setCap j q).get (F.TMS_CAP_STAT_LEVEL j) = q.entries.length % 2 ^ (F.TMS_CAP_STAT_LEVEL j).width := by
  rw [setCap_eq, showCap_level, capOf_withCap]

theorem setCap_wns (q : CapQueue) :
    (s.setCap j q).rg (TMS_CAP_WNS j) = (q.entries.head?.map (fun e => e.t / 65536 % 2 ^ 64)).getD 0 := by
  rw [setCap_eq, showCap_wns, capOf_withCap]

end

/-- TCAP_EDGE that counts and finds room (R280). -/
theorem tcapEdge_queued {s : State} (ha : s.alive = true) {j : Fin 16} {fall : Bool} {t held : Nat}
    (hc : s.capCounts j.val fall held) (hq : (s.capOf j.val).entries.length < 8) :
    ∃ u, exec (.tcapEdge j fall ⟨t, held⟩) s = .next u ∧
      u.capOf j.val = ⟨(s.capOf j.val).entries ++ [⟨s.capTime t, fall, (s.capOf j.val).lost, false⟩], false⟩ ∧
      u.get (F.TMS_CAP_STAT_LEVEL j.val) = (s.capOf j.val).entries.length + 1 := by
  have hx := gives_runs (exec_tcapEdge (t := ⟨t, held⟩) s) ha ((effTcapEdge_counts hc).trans (if_neg (Nat.not_le.2 hq)))
  have hlevel := setCap_level s j.val ⟨(s.capOf j.val).entries ++ [⟨s.capTime t, fall, (s.capOf j.val).lost, false⟩], false⟩
  rw [List.length_append, List.length_singleton, Nat.mod_eq_of_lt (Nat.lt_of_lt_of_le (Nat.succ_lt_succ hq) (by simp))] at hlevel
  exact ⟨_, hx, capOf_setCap s j.val _, (get_pending _ _ _).trans hlevel⟩

/-- POP of a queue that holds an entry (R281). -/
theorem pop_entry {s : State} (ha : s.alive = true) {j : Fin 16} {e : CapEntry} {es : List CapEntry}
    (h : (s.capOf j.val).entries = e :: es) :
    ∃ u, exec (.pop j) s = .next u ∧ (u.capOf j.val).entries = es ∧
      u.get (F.TMS_CAP_STAT_LEVEL j.val) = es.length % 2 ^ (F.TMS_CAP_STAT_LEVEL j.val).width ∧
      u.rg (TMS_CAP_WNS j.val) = (es.head?.map (fun x => x.t / 65536 % 2 ^ 64)).getD 0 := by
  have hx := gives_runs (exec_pop s) ha (effPop_entry h)
  exact ⟨_, hx, congrArg CapQueue.entries (capOf_setCap s j.val _), (get_pending _ _ _).trans (setCap_level s j.val _),
    (rg_pending _ _ _).trans (setCap_wns s j.val _)⟩

/-- Settles O49: each command by the branch its conditions name, and what the output's and the queue's registers show after it. -/
theorem pulsesAndCaptures : Obligations.PulsesAndCaptures := by
  unfold Obligations.PulsesAndCaptures
  intro s ha
  refine ⟨fun i cfg => ⟨gives_runs (exec_pulseArm s) ha (effPulseArm_eq s i.val cfg), pulseDisarm_spec ha i cfg⟩,
    fun i => ⟨fun h => gives_runs (exec_pulseEdge s) ha (effPulseEdge_unarmed h), fun p h => ⟨fun hd => ?_, fun hd => ?_⟩⟩,
    fun j => ⟨fun fall t held => ⟨fun hc _ => ?_, fun hc hq => ?_, fun hc hq => ?_⟩, fun h => ?_, fun e es h => ?_⟩⟩
  · exact gives_runs (exec_pulseEdge s) ha (effPulseEdge_notDue h hd)
  · obtain ⟨hout, hfired, hpulses⟩ := effPulseEdge_shows h hd
    have hx := gives_runs (exec_pulseEdge (i := i) s) ha rfl
    generalize effPulseEdge i.val s = w at hx hout hfired hpulses
    exact ⟨_, _, hx, hout, rfl, (get_pending _ _ _).trans hfired, hpulses⟩
  · exact gives_runs (exec_tcapEdge s) ha (effTcapEdge_none hc)
  · exact tcapEdge_queued ha hc hq
  · exact gives_runs (exec_tcapEdge s) ha ((effTcapEdge_counts hc).trans (if_pos hq))
  · exact gives_runs (exec_pop s) ha (effPop_empty h)
  · exact pop_entry ha h

end Sys2Proof.Machine
end

section
/-! PTP messages received (R271, R272, R532, R534): which are used, and how. -/

namespace Sys2Proof.Machine

/-! ## The typed state of PTP instances -/

/-- What has measured nothing is not listed, and reads the same. -/
@[simp] theorem inst_setInst (s : State) (d : Nat) (v : PtpInst) : (s.setInst d v).inst d = v := by
  rw [State.inst, State.setInst, tgetD, tget_tput, if_pos rfl]
  split
  case isTrue h => exact h.symm
  · rfl

@[simp] theorem inst_mapInst (s : State) (d : Nat) (f : PtpInst → PtpInst) : (s.mapInst d f).inst d = f (s.inst d) := inst_setInst s d _

theorem inst_of_tu {s t : State} (h : t.tu = s.tu) (d : Nat) : t.inst d = s.inst d := by rw [State.inst, h, State.inst]

@[simp] theorem inst_pending (s : State) (q : List Instr) (d : Nat) : ({ s with pending := q } : State).inst d = s.inst d := rfl

section
variable {s : State} {d : Nat} {m : PtpMsg} {t2 : Nat}

/-! ## Sync and Follow_Up (R272) -/

theorem effPtpSyncRx_other (h : s.fromMaster d m = false) : effPtpSyncRx d m t2 s = s := by simp [effPtpSyncRx, h]

theorem effPtpSyncRx_oneStep (h : s.fromMaster d m = true) (hm : m.twoStep = false) :
    effPtpSyncRx d m t2 s = s.useSync d (m.ns * 65536) m.cf t2 := by simp [effPtpSyncRx, h, hm]

theorem effPtpSyncRx_twoStep (h : s.fromMaster d m = true) (hm : m.twoStep = true) :
    effPtpSyncRx d m t2 s = s.mapInst d (fun v => { v with waitFollow := some (m.seq, t2, m.cf) }) := by simp [effPtpSyncRx, h, hm]

theorem effPtpFollowUpRx_other (h : s.fromMaster d m = false) : effPtpFollowUpRx d m s = s := by simp [effPtpFollowUpRx, h]

theorem effPtpFollowUpRx_waited {q : Nat} {a cf : Int} (h : s.fromMaster d m = true) (hw : (s.inst d).waitFollow = some (q, a, cf)) :
    effPtpFollowUpRx d m s = if q = m.seq then s.useSync d (m.ns * 65536) (cf + m.cf) a else s := by
  simp [effPtpFollowUpRx, h, hw]

/-! ## Delay_Resp (R534) -/

theorem effPtpDelayRespRx_other (h : s.fromMaster d m = false) : effPtpDelayRespRx d m s = s := by simp [effPtpDelayRespRx, h]

theorem effPtpDelayRespRx_notOurs (h : m.reqPort ≠ s.ownPort) : effPtpDelayRespRx d m s = s := by simp [effPtpDelayRespRx, h]

/-- A path delay `x` lies more than 1 µs from the mean. -/
def PtpInst.oddDelay (v : PtpInst) (x : Int) : Bool :=
  match v.mpd with
  | some p => decide (1000 * 65536 < (x - p).natAbs)
  | none => false

/-- What stands once the Delay_Req is answered with a path delay `x`: up to three odd ones in a row are set aside, the next replaces
what stood. -/
def PtpInst.takeDelay (v : PtpInst) (x intv : Int) : PtpInst :=
  if v.oddDelay x && v.aside.length < 3 then { v with req := none, drIntv := intv, aside := x :: v.aside }
  else if v.oddDelay x then { v with req := none, drIntv := intv, delays := x :: v.aside, aside := [] }
  else { v with req := none, drIntv := intv, delays := (x :: v.delays).take 8, aside := [] }

/-- The answer to one's own Delay_Req gives a path delay. -/
theorem inst_effPtpDelayRespRx {q : Nat} {t3 ms : Int} (h : s.fromMaster d m = true) (hp : m.reqPort = s.ownPort)
    (hr : (s.inst d).req = some (q, t3)) (hms : (s.inst d).ms = some ms) (hq : q = m.seq) :
    (effPtpDelayRespRx d m s).inst d =
      (s.inst d).takeDelay (rhe (ms + (m.ns * 65536 - t3 - m.cf)) 2) (satTo (-4) 5 m.logIntv) := by
  rw [effPtpDelayRespRx, if_neg (by simp [h, hp])]
  extract_lets v v1
  split
  case h_1 q' t3' ms' hreq hms' =>
    obtain ⟨rfl, rfl⟩ : q = q' ∧ t3 = t3' := by simpa using hr.symm.trans hreq
    obtain rfl : ms = ms' := Option.some.inj (hms.symm.trans hms')
    rw [if_neg (by simp [hq])]
    extract_lets sm delay odd v2 u
    have hv : v2 = v.takeDelay delay (satTo (-4) 5 m.logIntv) := rfl
    have hu : u.inst d = v2 := inst_setInst s d v2
    rw [← hv, ← hu]
    split
    · exact inst_of_tu (State.put_tu u _ _) d
    · rfl
  case h_2 hnone => exact absurd hms (hnone q t3 ms hr)

section
variable {v : PtpInst} {x p intv : Int}

theorem oddDelay_none (h : v.delays = []) : v.oddDelay x = false := by simp [PtpInst.oddDelay, PtpInst.mpd, h]

theorem oddDelay_some (h : v.mpd = some p) : v.oddDelay x = decide (1000 * 65536 < (x - p).natAbs) := by rw [PtpInst.oddDelay, h]

theorem delays_takeDelay_even (h : v.oddDelay x = false) : (v.takeDelay x intv).delays = (x :: v.delays).take 8 := by
  simp [PtpInst.takeDelay, h]

theorem delays_takeDelay_odd (h : v.oddDelay x = true) :
    (v.takeDelay x intv).delays = if v.aside.length < 3 then v.delays else x :: v.aside := by
  by_cases ha : v.aside.length < 3 <;> simp [PtpInst.takeDelay, h, ha]

end

/-- PTP_DELAY_RESP_RX: the path delay joins those that stand, or is set aside (R534). -/
theorem ptpDelayRespRx_spec (ha : s.alive = true) {d : Fin 2} {q : Nat} {t3 ms : Int} (h : s.fromMaster d.val m = true)
    (hp : m.reqPort = s.ownPort) (hr : (s.inst d.val).req = some (q, t3)) (hms : (s.inst d.val).ms = some ms) (hq : q = m.seq) :
    let x := rhe (ms + (m.ns * 65536 - t3 - m.cf)) 2
    ∃ t, exec (.ptpDelayRespRx d m) s = .next t ∧
      ((s.inst d.val).delays = [] → (t.inst d.val).delays = [x]) ∧
      (∀ p, (s.inst d.val).mpd = some p → ((x - p).natAbs : Int) ≤ 1000 * 65536 →
        (t.inst d.val).delays = (x :: (s.inst d.val).delays).take 8) ∧
      (∀ p, (s.inst d.val).mpd = some p → 1000 * 65536 < ((x - p).natAbs : Int) →
        (t.inst d.val).delays = if (s.inst d.val).aside.length < 3 then (s.inst d.val).delays else x :: (s.inst d.val).aside) := by
  intro x
  have hx := gives_runs (exec_ptpDelayRespRx (d := d) (m := m) s) ha rfl
  have hinst := inst_effPtpDelayRespRx h hp hr hms hq
  generalize effPtpDelayRespRx d.val m s = w at hx hinst
  refine ⟨_, hx, fun hd => ?_, fun p hm hle => ?_, fun p hm hlt => ?_⟩
  · rw [inst_pending, hinst, delays_takeDelay_even (oddDelay_none hd), hd]
    rfl
  · have heven := (oddDelay_some (x := x) hm).trans (decide_eq_false (by omega))
    rw [inst_pending, hinst, delays_takeDelay_even heven]
  · have hodd := (oddDelay_some (x := x) hm).trans (decide_eq_true (by omega))
    rw [inst_pending, hinst, delays_takeDelay_odd hodd]

/-! ## Announce (R532) -/

/-- The foreign masters once an Announce is heard (log 71). -/
def PtpInst.heardFrom (v : PtpInst) (m : PtpMsg) (now : Nat) : List Foreign :=
  if v.foreign.any (fun f => f.src = m.src) then
    v.foreign.map (fun f => if f.src = m.src then ⟨f.src, m.clock, m.logIntv, (now :: f.heard).take 2⟩ else f)
  else v.foreign.take 15 ++ [⟨m.src, m.clock, m.logIntv, [now]⟩]

/-- The choice made anew with the Announce among the foreign masters, and the receipt timeout of the master it leaves. -/
def State.afterAnnounce (s : State) (d : Nat) (m : PtpMsg) : State :=
  let u := (s.setInst d { s.inst d with foreign := (s.inst d).heardFrom m s.node.uptime }).bmcDecide d
  if (u.inst d).master = none ∨ (u.inst d).master = some m.src then u.mapInst d (fun v => { v with heardAt := u.node.uptime }) else u

/-- An Announce of the master gives the UTC offset. -/
def State.takeUtc (s : State) (d : Nat) (m : PtpMsg) : State :=
  let x := s.setRg (TMS_PTP_UTC d) (m.utc % 2 ^ 21)
  if (s.inst d).master = some m.src then
    (if m.utc.testBit 16 = true ∧ d ∉ x.tu.utc then { x with tu := { x.tu with utc := d :: x.tu.utc } } else x) else s

theorem effPtpAnnounceRx_otherDomain (h : m.domainNum ≠ s.get (F.TMS_PTP_CFG_DOMAIN_NUM d)) : effPtpAnnounceRx d m s = s := by
  simp [effPtpAnnounceRx, h]

theorem effPtpAnnounceRx_heard (hon : s.ptpOn d = true) (hd : m.domainNum = s.get (F.TMS_PTP_CFG_DOMAIN_NUM d))
    (hp : m.src / 2 ^ 16 ≠ s.ownPort / 2 ^ 16) : effPtpAnnounceRx d m s = (s.afterAnnounce d m).takeUtc d m := by
  have hnot : (!s.ptpOn d || m.domainNum != s.get (F.TMS_PTP_CFG_DOMAIN_NUM d) || m.src / 2 ^ 16 = s.ownPort / 2 ^ 16) = false := by
    simpa [hon, hd] using hp
  have hset : (if (s.inst d).foreign.any (fun f => f.src = m.src) then
        s.setInst d { s.inst d with foreign := (s.inst d).foreign.map (fun f =>
          if f.src = m.src then ⟨f.src, m.clock, m.logIntv, (s.node.uptime :: f.heard).take 2⟩ else f) }
      else s.setInst d { s.inst d with foreign := (s.inst d).foreign.take 15 ++ [⟨m.src, m.clock, m.logIntv, [s.node.uptime]⟩] }) =
      s.setInst d { s.inst d with foreign := (s.inst d).heardFrom m s.node.uptime } := by
    unfold PtpInst.heardFrom
    split <;> rfl
  rw [effPtpAnnounceRx, if_neg (ne_true_of_eq_false hnot)]
  extract_lets +onlyGivenNames v s1 s2 s3
  have h1 : s1 = s.setInst d { s.inst d with foreign := (s.inst d).heardFrom m s.node.uptime } := hset
  have h3 : s3 = s.afterAnnounce d m := by
    unfold s3 s2 State.afterAnnounce
    rw [h1]
    exact if_congr (by simp) rfl rfl
  rw [h3]
  exact if_congr Iff.rfl (if_congr (by simp) rfl rfl) rfl

/-! ## Delay_Req (R271) -/

theorem effPtpDelayReqRx_otherDomain (h : m.domainNum ≠ s.get (F.TMS_PTP_CFG_DOMAIN_NUM d)) : effPtpDelayReqRx d m t2 s = s := by
  simp [effPtpDelayReqRx, h]

theorem effPtpDelayReqRx_answered (hon : s.ptpOn d = true) (hd : m.domainNum = s.get (F.TMS_PTP_CFG_DOMAIN_NUM d))
    (hm : s.servo d = 7) : effPtpDelayReqRx d m t2 s =
      s.emit (.ptp d .delayResp 0xE0000181 320 (s.ptpMsg d m.seq (m.cf - (t2 % 65536 : Nat)) (t2 / 65536)
        (sbyte (s.get (F.TMS_PTP_INTV_LOG_DELAY_REQ d))) m.src)) := by
  simp [effPtpDelayReqRx, hon, hd, hm]

end

end Sys2Proof.Machine
end

section
/-! PTP messages sent and the receipt timeout (R271, R272, R275, R532), and O50. -/

namespace Sys2Proof.Machine

section
variable {s : State} {d : Nat} {x : Nat}

/-! ## Messages sent -/

theorem effPtpSyncSend_sent (hon : s.ptpOn d = true) (hm : s.servo d = 7) : effPtpSyncSend d x s =
    (s.mapInst d (fun v => { v with seqSync := ((s.inst d).seqSync + 1) % 65536 })).emit (.ptp d .sync 0xE0000181 319
      (s.ptpMsg d (s.inst d).seqSync (x % 65536 : Nat) (x / 65536) (sbyte (s.get (F.TMS_PTP_INTV_LOG_SYNC d))) 0)) := by
  simp [effPtpSyncSend, hon, hm]

theorem effPtpAnnounceSend_sent (hon : s.ptpOn d = true) (hm : s.servo d = 7) : effPtpAnnounceSend d s =
    (s.mapInst d (fun v => { v with seqAnn := ((s.inst d).seqAnn + 1) % 65536 })).emit (.ptp d .announce 0xE0000181 320
      (s.ptpMsg d (s.inst d).seqAnn 0 0 (sbyte (s.get (F.TMS_PTP_INTV_LOG_ANNOUNCE d))) 0)) := by
  simp [effPtpAnnounceSend, hon, hm]

theorem effPtpDelayReqSend_sent (hon : s.ptpOn d = true) (hm : (s.inst d).master ≠ none) : effPtpDelayReqSend d x s =
    (s.mapInst d (fun v => { v with seqReq := ((s.inst d).seqReq + 1) % 65536, req := some ((s.inst d).seqReq, x) })).emit
      (.ptp d .delayReq 0xE0000181 319 (s.ptpMsg d (s.inst d).seqReq (x % 65536 : Nat) (x / 65536) 0x7F 0)) := by
  simp [effPtpDelayReqSend, hon, hm]

theorem effPtpSyncSend_off (h : s.ptpOn d = false) : effPtpSyncSend d x s = s := by simp [effPtpSyncSend, h]

theorem effPtpAnnounceSend_off (h : s.ptpOn d = false) : effPtpAnnounceSend d s = s := by simp [effPtpAnnounceSend, h]

theorem effPtpDelayReqSend_off (h : s.ptpOn d = false) : effPtpDelayReqSend d x s = s := by simp [effPtpDelayReqSend, h]

/-- A message that leaves, the sender's typed state changing with it. -/
theorem mapInst_emit (s : State) (d : Nat) (f : PtpInst → PtpInst) (o : Output) :
    ((s.mapInst d f).emit o).out = s.out ++ [o] ∧ ((s.mapInst d f).emit o).inst d = f (s.inst d) := by
  refine ⟨?_, ?_⟩
  · rw [State.emit_out, State.mapInst, State.setInst]
  · rw [inst_of_tu (State.emit_tu _ _), inst_mapInst]

/-! ## The receipt timeout (Table 9.1) -/

theorem effAnnounceReceiptTimeout_off (h : s.ptpOn d = false) : effAnnounceReceiptTimeout d s = s := by
  simp [effAnnounceReceiptTimeout, h]

theorem effAnnounceReceiptTimeout_none (h : s.servo d = 7 ∨ s.receiptDue d = false) : effAnnounceReceiptTimeout d s = s := by
  obtain h | h := h <;> simp [effAnnounceReceiptTimeout, h]

theorem effAnnounceReceiptTimeout_due (hon : s.ptpOn d = true) (hm : s.servo d ≠ 7) (hd : s.receiptDue d = true) :
    effAnnounceReceiptTimeout d s =
      if (s.inst d).master.isSome then (s.bump (F.TMS_PTP_CNT_TIMEOUTS d)).loseMaster d
      else if s.bit (F.TMS_PTP_CFG_SLAVE_ONLY d) then s.bump (F.TMS_PTP_CNT_TIMEOUTS d)
      else (s.bump (F.TMS_PTP_CNT_TIMEOUTS d)).becomeMaster d := by
  have hinst : (s.bump (F.TMS_PTP_CNT_TIMEOUTS d)).inst d = s.inst d := inst_of_tu (State.bump_tu _ _ _) d
  have hbit : (s.bump (F.TMS_PTP_CNT_TIMEOUTS d)).bit (F.TMS_PTP_CFG_SLAVE_ONLY d) = s.bit (F.TMS_PTP_CFG_SLAVE_ONLY d) :=
    bit_put_ne s _ (by show TMS_PTP_CFG d ≠ TMS_PTP_CNT d; unfold TMS_PTP_CFG TMS_PTP_CNT; omega)
  rw [← hinst, ← hbit]
  simp [effAnnounceReceiptTimeout, hon, hm, hd]

end

section
variable {s : State} {d : Fin 2}

/-- PTP_DELAY_REQ_RX: the answer's nanoseconds and correction give the time of receipt less the request's correction. -/
theorem ptpDelayReqRx_spec (ha : s.alive = true) {m : PtpMsg} {t2 : Nat} (hon : s.ptpOn d.val = true)
    (hd : m.domainNum = s.get (F.TMS_PTP_CFG_DOMAIN_NUM d.val)) (hm : s.servo d.val = 7) :
    ∃ t w, exec (.ptpDelayReqRx d m t2) s = .next t ∧ t = { s with out := s.out ++ [.ptp d.val .delayResp 0xE0000181 320 w] } ∧
      w.seq = m.seq % 65536 ∧ w.reqPort = m.src ∧ w.src = s.ownPort ∧ (w.ns : Int) * 65536 - w.cf = t2 - m.cf := by
  refine ⟨_, _, gives_runs (exec_ptpDelayReqRx s) ha (effPtpDelayReqRx_answered hon hd hm), rfl, rfl, rfl, rfl, ?_⟩
  simp only [State.ptpMsg]
  omega

/-- PTP_SYNC_SEND: the time of departure is split into nanoseconds and correction. -/
theorem ptpSyncSend_spec (ha : s.alive = true) (hon : s.ptpOn d.val = true) (hm : s.servo d.val = 7) (x : Nat) :
    ∃ t w, exec (.ptpSyncSend d x) s = .next t ∧ t.out = s.out ++ [.ptp d.val .sync 0xE0000181 319 w] ∧
      w.seq = (s.inst d.val).seqSync % 65536 ∧ w.twoStep = false ∧ (w.ns : Int) * 65536 + w.cf = x ∧
      (t.inst d.val).seqSync = ((s.inst d.val).seqSync + 1) % 65536 := by
  obtain ⟨hout, hinst⟩ := mapInst_emit s d.val (fun v => { v with seqSync := ((s.inst d.val).seqSync + 1) % 65536 })
    (.ptp d.val .sync 0xE0000181 319 (s.ptpMsg d.val (s.inst d.val).seqSync (x % 65536 : Nat) (x / 65536)
      (sbyte (s.get (F.TMS_PTP_INTV_LOG_SYNC d.val))) 0))
  refine ⟨_, _, gives_runs (exec_ptpSyncSend s) ha (effPtpSyncSend_sent hon hm), hout, rfl, rfl, ?_, ?_⟩
  · simp only [State.ptpMsg]
    omega
  · rw [inst_pending, hinst]

/-- PTP_ANNOUNCE_SEND. -/
theorem ptpAnnounceSend_spec (ha : s.alive = true) (hon : s.ptpOn d.val = true) (hm : s.servo d.val = 7) :
    ∃ t w, exec (.ptpAnnounceSend d) s = .next t ∧ t.out = s.out ++ [.ptp d.val .announce 0xE0000181 320 w] ∧
      w.seq = (s.inst d.val).seqAnn % 65536 ∧ w.clock = s.ownClock d.val ∧
      (t.inst d.val).seqAnn = ((s.inst d.val).seqAnn + 1) % 65536 := by
  obtain ⟨hout, hinst⟩ := mapInst_emit s d.val (fun v => { v with seqAnn := ((s.inst d.val).seqAnn + 1) % 65536 })
    (.ptp d.val .announce 0xE0000181 320 (s.ptpMsg d.val (s.inst d.val).seqAnn 0 0 (sbyte (s.get (F.TMS_PTP_INTV_LOG_ANNOUNCE d.val))) 0))
  refine ⟨_, _, gives_runs (exec_ptpAnnounceSend s) ha (effPtpAnnounceSend_sent hon hm), hout, rfl, rfl, ?_⟩
  rw [inst_pending, hinst]

/-- PTP_DELAY_REQ_SEND: the request that waits for its answer is kept with the time it left. -/
theorem ptpDelayReqSend_spec (ha : s.alive = true) (hon : s.ptpOn d.val = true) (hm : (s.inst d.val).master ≠ none) (x : Nat) :
    ∃ t w, exec (.ptpDelayReqSend d x) s = .next t ∧ t.out = s.out ++ [.ptp d.val .delayReq 0xE0000181 319 w] ∧
      (t.inst d.val).req = some ((s.inst d.val).seqReq, (x : Int)) := by
  obtain ⟨hout, hinst⟩ := mapInst_emit s d.val
    (fun v => { v with seqReq := ((s.inst d.val).seqReq + 1) % 65536, req := some ((s.inst d.val).seqReq, x) })
    (.ptp d.val .delayReq 0xE0000181 319 (s.ptpMsg d.val (s.inst d.val).seqReq (x % 65536 : Nat) (x / 65536) 0x7F 0))
  refine ⟨_, _, gives_runs (exec_ptpDelayReqSend s) ha (effPtpDelayReqSend_sent hon hm), hout, ?_⟩
  rw [inst_pending, hinst]

end

/-- Settles O50: each command by the branch its conditions name; a message sent splits its time into nanoseconds and correction. -/
theorem ptpMessagesAct : Obligations.PtpMessagesAct := by
  unfold Obligations.PtpMessagesAct
  intro s d ha
  refine ⟨fun m t2 => ⟨fun h => ?_,
      fun h => ⟨fun hm => ?_, fun hm => ?_, fun q a cf hw => ⟨fun hq => ?_, fun hq => ?_⟩, fun hp => ?_,
      fun q t3 ms hp hr hms hq => ptpDelayRespRx_spec ha h hp hr hms hq⟩, fun hd => ?_, fun hon hd hp => ?_, fun hon hd hm => ?_⟩,
    fun hon hm x => ⟨?_, ?_⟩, fun hon hm x => ?_, fun hoff x => ?_, fun h => ?_, fun hon hm hd => ⟨fun hs => ?_, fun hs => ?_⟩⟩
  · exact ⟨gives_runs (exec_ptpSyncRx s) ha (effPtpSyncRx_other h), gives_runs (exec_ptpFollowUpRx s) ha (effPtpFollowUpRx_other h),
      gives_runs (exec_ptpDelayRespRx s) ha (effPtpDelayRespRx_other h)⟩
  · exact gives_runs (exec_ptpSyncRx s) ha (effPtpSyncRx_oneStep h hm)
  · exact gives_runs (exec_ptpSyncRx s) ha (effPtpSyncRx_twoStep h hm)
  · exact gives_runs (exec_ptpFollowUpRx s) ha ((effPtpFollowUpRx_waited h hw).trans (if_pos hq))
  · exact gives_runs (exec_ptpFollowUpRx s) ha ((effPtpFollowUpRx_waited h hw).trans (if_neg hq))
  · exact gives_runs (exec_ptpDelayRespRx s) ha (effPtpDelayRespRx_notOurs hp)
  · exact ⟨gives_runs (exec_ptpAnnounceRx s) ha (effPtpAnnounceRx_otherDomain hd),
      gives_runs (exec_ptpDelayReqRx s) ha (effPtpDelayReqRx_otherDomain hd)⟩
  · exact gives_runs (exec_ptpAnnounceRx s) ha (effPtpAnnounceRx_heard hon hd hp)
  · exact ptpDelayReqRx_spec ha hon hd hm
  · exact ptpSyncSend_spec ha hon hm x
  · exact ptpAnnounceSend_spec ha hon hm
  · exact ptpDelayReqSend_spec ha hon hm x
  · exact ⟨gives_runs (exec_ptpSyncSend s) ha (effPtpSyncSend_off hoff),
      gives_runs (exec_ptpAnnounceSend s) ha (effPtpAnnounceSend_off hoff),
      gives_runs (exec_ptpDelayReqSend s) ha (effPtpDelayReqSend_off hoff),
      gives_runs (exec_announceReceiptTimeout s) ha (effAnnounceReceiptTimeout_off hoff)⟩
  · exact gives_runs (exec_announceReceiptTimeout s) ha (effAnnounceReceiptTimeout_none h)
  · exact gives_runs (exec_announceReceiptTimeout s) ha
      ((effAnnounceReceiptTimeout_due hon hm hd).trans (if_pos (Option.isSome_iff_ne_none.2 hs)))
  · exact gives_runs (exec_announceReceiptTimeout s) ha ((effAnnounceReceiptTimeout_due hon hm hd).trans (if_neg (by simp [hs])))

end Sys2Proof.Machine
end

section
/-! The events of the reference selector (R283, R286 to R297), and O52. -/

namespace Sys2Proof.Machine

section
variable {s : State} {r t : Nat}

/-! ## A step of the selector -/

/-- A step of the selector depends on its act at the state before it alone. -/
theorem selStep_congr {f g : State → State} (h : f s = g s) : s.selStep f = s.selStep g := by
  unfold State.selStep
  rw [h]

/-- A selector that rests takes no event (R288, R300). -/
theorem selector_events_at_rest (h : s.selRuns = false) : effRefEvent r t s = s ∧ effRefLoss r s = s ∧ effRefFreqUpdate s = s ∧
    effRefQualified r s = s ∧ effRefSuspectMark s = s ∧ effRefSuspectClear s = s ∧ effSwitchCommit s = s ∧ effSwitchComplete s = s ∧
    effWtrExpiry r s = s ∧ effHoldoverTimeout s = s :=
  ⟨if_pos (by simp [h]), if_pos (by simp [h]), if_pos (by simp [h]), if_pos (by simp [h]), if_pos (by simp [h]), if_pos (by simp [h]),
    if_pos (by simp [h]), if_pos (by simp [h]), if_pos (by simp [h]), if_neg (by simp [h])⟩

/-! ## REF_EVENT and REF_LOSS (Table 10.1) -/

/-- What the loss of a reference does. -/
def State.loseRef (s : State) (r : Nat) : State :=
  let a := (s.putBit (F.REF_STAT_PRESENT r) false).putBit (F.REF_STAT_LOST r) true
  let b := a.setRf r { a.rf r with last := none, snaps := [], run := 0 }
  let c := if b.rank r != 0 then b.latch 32 else b
  (if c.qualified r then c else c.bump (F.REF_CNT_LOSSES r)).disqualify r

theorem effRefLoss_absent (h : r = 5 ∨ s.bit (F.REF_STAT_PRESENT r) = false) : effRefLoss r s = s :=
  if_pos (by obtain h | h := h <;> simp [h])

theorem effRefLoss_eq (hrun : s.selRuns = true) (h5 : r ≠ 5) :
    effRefLoss r s = if s.bit (F.REF_STAT_PRESENT r) then s.selStep (fun s => s.loseRef r) else s := by
  split
  case isTrue hp => exact if_neg (by simp [hrun, h5, hp])
  case isFalse hp => exact effRefLoss_absent (.inr (by simpa using hp))

/-- Only edges of REF2 to REF4 are measured, and only those of a ranked reference. -/
theorem effRefEvent_unmeasured (h : r < 2 ∨ r = 5 ∨ s.rank r = 0) : effRefEvent r t s = s :=
  if_pos (by obtain h | h | h := h <;> simp [h])

theorem effRefEvent_offTime (hrun : s.selRuns = true) (hk : s.rank 4 ≠ 0) (ho : (s.rf 4).offTime t = true) :
    effRefEvent 4 t s = (effRefLoss 4 s).setRf 4
      { (effRefLoss 4 s).rf 4 with last := some (t, ((effRefLoss 4 s).edgePhase 4 t).2, (effRefLoss 4 s).ySumAt t) } := by
  unfold effRefEvent
  rw [if_neg (by simp [hrun, hk]), if_pos (by simp [ho])]

/-- The phase of an edge counted on from the one before, past the grid's period. -/
def State.phaseOn (s : State) (r t : Nat) : Int :=
  let g := s.edgePhase r t
  match (s.rf r).last with
  | some (_, a, _) => a + wrapNear (g.2 - a) g.1
  | none => g.2

/-- An edge's measurement: kept with the edge and taken into the window of a switch; each one of REF4, and of REF2 and REF3 the first
in a millisecond, is an update. -/
def State.measureEdge (s : State) (r t : Nat) : State :=
  let g := s.edgePhase r t
  let v := ((s.setRf r { s.rf r with last := some (t, s.phaseOn r t, s.ySumAt t) }).putBit (F.REF_STAT_PRESENT r) true).windowAdd
    r g.2 (some g.1)
  if r = 4 ∨ t / (1000000 * 65536) ≠ (s.rf r).upd then
    (v.setRf r { v.rf r with upd := t / (1000000 * 65536) }).refUpdate r (wrapNear (g.2 - v.bias r) g.1)
  else v

theorem effRefEvent_measured (hrun : s.selRuns = true) (h2 : 2 ≤ r) (h4 : r ≤ 4) (hk : s.rank r ≠ 0)
    (ho : r = 4 → (s.rf 4).offTime t = false) : effRefEvent r t s = s.selStep (fun s => (s.measureEdge r t).checkRef r) := by
  have hguard : ¬ (!s.selRuns || r < 2 || 4 < r || s.rank r = 0) = true := by
    simp [hrun, hk, Nat.not_lt.2 h2, Nat.not_lt.2 h4]
  have htime : ¬ (r = 4 && (s.rf 4).offTime t) = true := by simpa using ho
  have hupdates : (r = 4 || t / (1000000 * 65536) != (s.rf r).upd) = true ↔ r = 4 ∨ t / (1000000 * 65536) ≠ (s.rf r).upd := by simp
  unfold effRefEvent
  rw [if_neg hguard, if_neg htime]
  exact selStep_congr (congrArg (State.checkRef · r) (if_congr hupdates rfl rfl))

/-! ## REF_QUALIFIED (R287, R289, R295 to R297) -/

theorem effRefQualified_idle (h : r = 5 ∨ s.qualified r = true ∨ (s.rf r).ok = false) : effRefQualified r s = s :=
  if_pos (by obtain h | h | h := h <;> simp [h])

theorem effRefQualified_acts {u : State} (hrun : s.selRuns = true) (h5 : r ≠ 5) (hq : s.qualified r = false) (hok : (s.rf r).ok = true)
    (hu : s.qualify r = u) : effRefQualified r s = s.selStep (fun _ => u) :=
  (if_neg (by simp [hrun, h5, hq, hok])).trans (selStep_congr hu)

/-- A reference that is shown as qualified, and may be proposed again. -/
def State.showQualified (s : State) (r : Nat) : State :=
  ((s.setQualified r true).put (F.REF_STAT_TIMER r) 0).unbar (.refSelect r)

/-- A switch on its way gives way to a better reference before its commit point (R295). -/
def State.reconsider (s : State) (r : Nat) : State :=
  if !s.bit F.REF_SEL_STAT_COMMITTED && decide (s.rank r < s.rank (s.get F.REF_SEL_STAT_TARGET)) && !s.suspect r && s.forced.isNone then
    (match s.abortSwitch.bestRef with
      | some b => s.abortSwitch.goSwitch b
      | none => s.abortSwitch)
  else s

theorem qualify_switching (h : (s.showQualified r).selBase = 4) : s.qualify r = (s.showQualified r).reconsider r := if_pos h

theorem qualify_following (h4 : (s.showQualified r).selBase ≠ 4) (hf : (s.showQualified r).following = true) :
    s.qualify r = if (s.showQualified r).forced = some r ∧ (s.showQualified r).selRef ≠ r then (s.showQualified r).startSwitch r
      else (s.showQualified r).startWtr r := by
  refine ((if_neg h4).trans (if_pos hf)).trans (if_congr ?_ rfl rfl)
  simp [State.showQualified]

theorem qualify_onModel (h4 : (s.showQualified r).selBase ≠ 4) (hf : (s.showQualified r).following = false) :
    s.qualify r = (s.showQualified r).choose :=
  (if_neg h4).trans (if_neg (ne_true_of_eq_false hf))

/-! ## The ends of a switch, of a wait and of HOLDOVER -/

theorem effWtrExpiry_idle (h : s.bit (F.REF_STAT_WTR_RUN r) = false ∨ s.following = false ∨ s.forced ≠ none) : effWtrExpiry r s = s :=
  if_pos (by obtain h | h | h := h <;> simp [h, Option.isSome_iff_ne_none])

theorem effSwitchCommit_idle (h : s.selBase ≠ 4 ∨ s.bit F.REF_SEL_STAT_COMMITTED = true ∨
    (s.rf (s.get F.REF_SEL_STAT_TARGET)).winN < windowLen (s.get F.REF_SEL_STAT_TARGET)) : effSwitchCommit s = s :=
  if_pos (by obtain h | h | h := h <;> simp [h])

theorem effSwitchComplete_idle (h : s.selBase ≠ 4 ∨ s.tu.sel.updated = false) : effSwitchComplete s = s :=
  if_pos (by obtain h | h := h <;> simp [h])

/-- FREE_RUN is entered anew from HOLDOVER, which raises REF_HOLD. -/
theorem enterBase_freeRun (h : s.selBase = 5) : s.enterBase 1 = (s.mapSel (fun c => { c with base := 1 })).latch 30 :=
  if_pos (by simp [h])

theorem restRef_eq (s : State) : s.restRef = if s.rank 5 ≠ 0 ∧ (s.forced = none ∨ s.forced = some 5) then 5 else 7 := by
  simp [State.restRef]

theorem effHoldoverTimeout_holdover (hrun : s.selRuns = true) (h : s.selBase = 5) :
    effHoldoverTimeout s = s.selStep (fun s => ((s.mapSel (fun c => { c with base := 1 })).latch 30).put F.REF_SEL_STAT_SEL
      (if s.rank 5 ≠ 0 ∧ (s.forced = none ∨ s.forced = some 5) then 5 else 7)) := by
  refine (if_pos (by simp [hrun, h])).trans (selStep_congr ?_)
  rw [enterBase_freeRun h, restRef_eq]

/-! ## Each second, the marks and the force -/

theorem forceWritten_runs (h : s.selRuns = true) : s.forceWritten = s.selStep (fun s =>
    (if s.selBase = 4 ∧ s.bit F.REF_SEL_STAT_COMMITTED = false then s.abortSwitch else s).forceAct) := by
  refine (if_neg (by simp [h])).trans (selStep_congr ?_)
  simp only [Bool.and_eq_true, decide_eq_true_eq, Bool.not_eq_true']

end

/-- Settles O52: a resting selector takes no event; a running one steps by the act each event's guard lets through, and REF_QUALIFIED by
what `qualify` finds under way. -/
theorem referenceEventsAct : Obligations.ReferenceEventsAct := by
  unfold Obligations.ReferenceEventsAct
  intro s ha
  refine ⟨fun hrest r x => ?_, fun hrun => ⟨fun r x => ⟨fun h => ?_, fun h4 hk ho => ?_, fun h2 h4 hk ho => ?_, fun h => ?_,
      fun h5 hp => ?_, fun h => ?_, fun h5 hq hok => ⟨fun h4 hf hn => ?_, fun h4 hf hc hs => ?_, fun h4 hf => ?_, fun h4 => ?_⟩,
      fun h => ?_, fun hw hf hc => ?_⟩,
    ⟨fun h4 hc hw => ?_, fun h => ?_, fun h => ?_, fun h4 hu => ?_⟩, fun h => ?_, fun h => ?_, ?_, ?_, ?_⟩,
    fun en r => ⟨fun h => ?_, fun h => ?_⟩⟩
  · obtain ⟨hevent, hloss, hfreq, hqual, hmark, hclear, hcommit, hcomplete, hwtr, hhold⟩ :=
      selector_events_at_rest (r := r.val) (t := x) hrest
    exact ⟨gives_runs (exec_refEvent s) ha hevent, gives_runs (exec_refLoss s) ha hloss, gives_runs (exec_refFreqUpdate s) ha hfreq,
      gives_runs (exec_refQualified s) ha hqual, gives_runs (exec_refSuspectMark s) ha hmark,
      gives_runs (exec_refSuspectClear s) ha hclear, gives_runs (exec_switchCommit s) ha hcommit,
      gives_runs (exec_switchComplete s) ha hcomplete, gives_runs (exec_wtrExpiry s) ha hwtr,
      gives_runs (exec_holdoverTimeout s) ha hhold⟩
  · exact gives_runs (exec_refEvent s) ha (effRefEvent_unmeasured h)
  · refine gives_runs (exec_refEvent s) ha ?_
    rw [h4, effRefEvent_offTime hrun hk ho, effRefLoss_eq hrun (by decide)]
    rfl
  · exact gives_runs (exec_refEvent s) ha ((effRefEvent_measured hrun h2 h4 hk ho).trans (selStep_congr rfl))
  · exact gives_runs (exec_refLoss s) ha (effRefLoss_absent h)
  · exact gives_runs (exec_refLoss s) ha ((effRefLoss_eq hrun h5).trans (if_pos hp))
  · exact gives_runs (exec_refQualified s) ha (effRefQualified_idle h)
  · exact gives_runs (exec_refQualified s) ha (effRefQualified_acts hrun h5 hq hok ((qualify_following h4 hf).trans (if_neg hn)))
  · exact gives_runs (exec_refQualified s) ha (effRefQualified_acts hrun h5 hq hok ((qualify_following h4 hf).trans (if_pos ⟨hc, hs⟩)))
  · exact gives_runs (exec_refQualified s) ha (effRefQualified_acts hrun h5 hq hok (qualify_onModel h4 hf))
  · exact gives_runs (exec_refQualified s) ha (effRefQualified_acts hrun h5 hq hok (qualify_switching h4))
  · exact gives_runs (exec_wtrExpiry s) ha (effWtrExpiry_idle h)
  · exact gives_runs (exec_wtrExpiry s) ha (if_neg (by simp [hrun, hw, hf, hc]))
  · exact gives_runs (exec_switchCommit s) ha (if_neg (by simp [hrun, h4, hc, hw]))
  · exact gives_runs (exec_switchCommit s) ha (effSwitchCommit_idle h)
  · exact gives_runs (exec_switchComplete s) ha (effSwitchComplete_idle h)
  · exact gives_runs (exec_switchComplete s) ha ((if_neg (by simp [hrun, h4, hu])).trans (selStep_congr rfl))
  · exact gives_runs (exec_holdoverTimeout s) ha (if_neg (by simp [h]))
  · exact gives_runs (exec_holdoverTimeout s) ha (effHoldoverTimeout_holdover hrun h)
  · refine gives_runs (exec_refFreqUpdate s) ha ((if_neg (by simp [hrun])).trans (selStep_congr ?_))
    simp only [Bool.or_eq_true, decide_eq_true_eq]
  · refine gives_runs (exec_refSuspectMark s) ha ((if_neg (by simp [hrun])).trans (selStep_congr ?_))
    simp only [Bool.and_eq_true, decide_eq_true_eq]
  · exact gives_runs (exec_refSuspectClear s) ha (if_neg (by simp [hrun]))
  · exact gives_runs (exec_forceSelect s) ha (if_pos (by simp [h]))
  · exact gives_runs (exec_forceSelect s) ha (forceWritten_runs h)

end Sys2Proof.Machine
end

section
/-! Flash received (R309, R331, R333), the loss of the partner (R310), the promotion of a SHADOW and the Flash of DORMANT (R308). -/

namespace Sys2Proof.Machine

/-! ## FLASH_RECEIVED -/

section
variable {s : State} {d a m : Nat} {b : List Byte} {f : FlashInfo}

/-- A Flash from address `a` in domain `d` is the partner's (R309). -/
def State.FromPartner (s : State) (d a : Nat) (b : List Byte) : Prop :=
  a ≠ 0 ∧ s.rg (PAIR_PARTNER_ADDR d) = a ∧ (s.pairAuth = false ∨ b.drop 0xA8 = (hmac s.pairKey (b.take 0xA8)).take 8)

/-- An accepted Flash shows a LEAD of a higher claim: this LEAD is to yield (R307). -/
def State.noteClaim (s : State) (f : FlashInfo) (m : Nat) : State :=
  if s.node.mode = .lead ∧ f.mode = 3 ∧ s.outranked f m = true then { s with pair := { s.pair with yield := true } } else s

/-- The pair unit after an accepted Flash, before PAIR_STAT's change is told. -/
def State.takeFlash (s : State) (f : FlashInfo) (m : Nat) : State :=
  let u := ((s.adoptFlash f).flashHandover f).flashCopy f
  ((if f.classless = true then u.voidHandover else u).noteClaim f m).compareAll.tryRevert

/-- A change of PAIR_STAT against the image before is told (R494). -/
def State.tellPair (s : State) (before : Nat) : State :=
  if s.pairImage = before then s else s.notify 9 (beBytes 4 s.pairImage)

theorem effFlashReceived_unpaired (h : s.paired = false) : effFlashReceived d a m b s = s := by
  simp only [effFlashReceived, State.flashIn, h, Bool.not_false, if_true]

theorem effFlashReceived_unread (hp : s.paired = true) (h : parseFlash b = none) :
    effFlashReceived d a m b s = s.bump F.PAIR_CNT_FLASH_BAD := by
  simp only [effFlashReceived, State.flashIn, hp, h, Bool.not_true, Bool.false_eq_true, if_false]

/-- The guard of the model's text is that the Flash is not the partner's. -/
theorem stranger_iff : (a = 0 || s.rg (PAIR_PARTNER_ADDR d) != a ||
    !(!s.pairAuth || b.drop 0xA8 == (hmac s.pairKey (b.take 0xA8)).take 8)) = true ↔ ¬ s.FromPartner d a b := by
  unfold State.FromPartner
  simp only [Bool.or_eq_true, decide_eq_true_eq, bne_iff_ne, Bool.not_eq_true', Bool.or_eq_false_iff, Bool.not_eq_false',
    beq_eq_false_iff_ne, not_and_or, not_or, not_not, Bool.not_eq_false, ne_eq, or_assoc]

theorem effFlashReceived_stranger (hp : s.paired = true) (hb : parseFlash b = some f) (h : ¬ s.FromPartner d a b) :
    effFlashReceived d a m b s = s.bump F.PAIR_CNT_FLASH_BAD := by
  simp only [effFlashReceived, State.flashIn, hp, hb, stranger_iff.2 h, Bool.not_true, Bool.false_eq_true, if_false, if_true]

theorem noteClaim_eq : (if (s.node.mode = .lead && f.mode = 3 && s.outranked f m) = true then
    { s with pair := { s.pair with yield := true } } else s) = s.noteClaim f m :=
  if_congr (by simp only [Bool.and_eq_true, decide_eq_true_eq, and_assoc]) rfl rfl

theorem tellPair_eq (before : Nat) :
    (if (s.pairImage != before) = true then s.notify 9 (beBytes 4 s.pairImage) else s) = s.tellPair before := by
  unfold State.tellPair
  split <;> simp_all

/-- What comes of a Flash that is the partner's, by the block it names. -/
theorem flashIn_partner (hp : s.paired = true) (hb : parseFlash b = some f) (h : s.FromPartner d a b) : s.flashIn d a m b =
    if s.pair.lastBlk = some f.blk then (s, none)
    else if ∃ x, s.pair.lastBlk = some x ∧ f.blk < x then (s.bump F.PAIR_CNT_FLASH_BAD, none)
    else ((s.takeFlash f m).tellPair s.pairImage, some f) := by
  have hk := mt stranger_iff.1 (not_not.2 h)
  simp only [State.flashIn, hp, hb, hk, Bool.not_true, Bool.false_eq_true, if_false]
  refine if_congr Iff.rfl rfl (if_congr ?_ rfl ?_)
  · cases s.pair.lastBlk <;> simp
  · simp only [noteClaim_eq, tellPair_eq]
    rfl

theorem effFlashReceived_again (hp : s.paired = true) (hb : parseFlash b = some f) (h : s.FromPartner d a b)
    (hl : s.pair.lastBlk = some f.blk) : effFlashReceived d a m b s = s := by
  simp only [effFlashReceived, flashIn_partner hp hb h, if_pos hl]

theorem effFlashReceived_late (hp : s.paired = true) (hb : parseFlash b = some f) (h : s.FromPartner d a b) {x : Nat}
    (hl : s.pair.lastBlk = some x) (hx : f.blk < x) : effFlashReceived d a m b s = s.bump F.PAIR_CNT_FLASH_BAD := by
  have hne : s.pair.lastBlk ≠ some f.blk := by
    rw [hl, ne_eq, Option.some_inj]
    exact hx.ne'
  simp only [effFlashReceived, flashIn_partner hp hb h, if_neg hne, if_pos (⟨x, hl, hx⟩ : ∃ x, s.pair.lastBlk = some x ∧ f.blk < x)]

theorem effFlashReceived_taken (hp : s.paired = true) (hb : parseFlash b = some f) (h : s.FromPartner d a b)
    (hl : ∀ x, s.pair.lastBlk = some x → x < f.blk) :
    effFlashReceived d a m b s = (((s.takeFlash f m).tellPair s.pairImage).serveCopy f).tryCopy := by
  have hlate : ¬ ∃ x, s.pair.lastBlk = some x ∧ f.blk < x := fun ⟨x, hx, hlt⟩ => Nat.lt_asymm hlt (hl x hx)
  simp only [effFlashReceived, flashIn_partner hp hb h, if_neg (fun e => Nat.lt_irrefl _ (hl _ e)), if_neg hlate]

end

/-! ## PARTNER_LOST -/

section
variable {s : State}

/-- The partner has been silent for as long as its mode allows (R310). -/
theorem lossDue_iff : s.lossDue = true ↔ ∃ f, s.pair.last = some f ∧
    (if f.mode = 7 then 30 * s.fs else 8 * s.get F.PAIR_TIMING_FLASH_LOSS) ≤ s.pair.quiet := by
  cases h : s.pair.last with
  | none => simp [State.lossDue, h]
  | some f => 
    simp only [State.lossDue, h, Option.some_inj, exists_eq_left']
    exact decide_eq_true_iff

theorem effPartnerLost_idle (h : s.paired = false ∨ s.pair.lostNow = true ∨ ¬ s.lossDue = true) : effPartnerLost s = s :=
  if_pos (by obtain h | h | h := h <;> simp [h])

/-- What a lost partner's registers show, before the loss is latched and told. -/
def State.losePartner (s : State) : State :=
  let d := s.voidHandover.dropCopy
  let u : State := { d with pair := { d.pair with lostNow := true, lastBlk := none } }
  ((u.putBit F.PAIR_STAT_LOST true).bump F.PAIR_CNT_LOSSES).putBit F.PAIR_STAT_SEEN false

theorem effPartnerLost_lost (hp : s.paired = true) (hn : s.pair.lostNow = false) (hl : s.lossDue = true) :
    effPartnerLost s = (s.losePartner.latch 35).notify 9 (beBytes 4 (s.losePartner.latch 35).pairImage) :=
  if_neg (by simp [hp, hn, hl])

theorem losePartner_pair : s.losePartner.pair = { s.voidHandover.dropCopy.pair with lostNow := true, lastBlk := none } := rfl

theorem dropCopy_ends (s : State) : s.dropCopy.pair.wc = none ∧ s.dropCopy.pair.src = none := ⟨rfl, rfl⟩

end

/-! ## Promotion (Table 2.2) -/

/-- What the promotion of a SHADOW looks at and the switch leaves: the pair unit, the mode, the power controller and PAIR_CFG. -/
structure KeepsStanding (s t : State) : Prop where
  pair : t.pair = s.pair
  node : t.node = s.node
  pwr : t.pwr = s.pwr
  cfg : t.rg PAIR_CFG = s.rg PAIR_CFG

/-- No counter of a port is PAIR_CFG. -/
theorem pairCfg_ne_cnt (p : Nat) {k : Nat} (hk : k < 16) : PAIR_CFG ≠ NET_CNT p k := by
  unfold PAIR_CFG NET_CNT
  omega

namespace KeepsStanding

variable {s t u : State}

theorem refl (s : State) : KeepsStanding s s := ⟨rfl, rfl, rfl, rfl⟩

theorem trans (h : KeepsStanding s t) (k : KeepsStanding t u) : KeepsStanding s u :=
  ⟨k.pair.trans h.pair, k.node.trans h.node, k.pwr.trans h.pwr, k.cfg.trans h.cfg⟩

theorem ite {c : Prop} [Decidable c] (ht : KeepsStanding s t) (hu : KeepsStanding s u) : KeepsStanding s (if c then t else u) := by
  split
  · exact ht
  · exact hu

theorem foldl {α : Type} {f : State → α → State} (h : ∀ s x, KeepsStanding s (f s x)) (l : List α) (s : State) :
    KeepsStanding s (l.foldl f s) := by
  induction l generalizing s with
  | nil => exact refl s
  | cons x l ih => exact (h s x).trans (ih _)

theorem setPort (s : State) (p : Nat) (v : Port) : KeepsStanding s (s.setPort p v) := by
  unfold State.setPort
  split
  · exact ⟨rfl, rfl, rfl, rfl⟩
  · exact refl s

theorem cnt (s : State) (p : Nat) {k : Nat} (hk : k < 16) : KeepsStanding s (s.cnt p k) :=
  ⟨State.bump_pair s _ _, State.bump_node s _ _, State.bump_pwr s _ _, rg_put_ne s _ (pairCfg_ne_cnt p hk)⟩

theorem startSend (s : State) (p q : Nat) (f : EgressFrame) (t : Nat) : KeepsStanding s (s.startSend p q f t) := by
  unfold State.startSend
  extract_lets one s1
  have h1 : KeepsStanding s s1 := .ite (.cnt s p (by decide)) (.refl s)
  exact h1.trans (.setPort _ _ _)

theorem startNext (s : State) (p t : Nat) : KeepsStanding s (s.startNext p t) := by
  unfold State.startNext
  extract_lets v
  refine .ite (.refl s) ?_
  split
  · exact refl s
  · split
    · exact (setPort s _ _).trans (startSend _ _ _ _ _)
    · exact refl s

theorem enqueue (s : State) (p q : Nat) (f : EgressFrame) (t : Nat) : KeepsStanding s (s.enqueue p q f t) := by
  unfold State.enqueue
  extract_lets s1 v used free
  have h1 : KeepsStanding s s1 := setPort s _ _
  exact .ite (.refl s) (h1.trans (.ite (.cnt _ p (by decide)) ((setPort _ _ _).trans (startNext _ _ _))))

theorem sendPacket (s : State) (frames : List (Nat × List Byte)) : KeepsStanding s (s.sendPacket frames) := by
  have h0 : KeepsStanding s s.nextFree := ⟨rfl, rfl, rfl, rfl⟩
  refine h0.trans (.foldl (fun u e => ?_) _ _)
  exact .ite (.refl u) (.foldl (fun v p => .enqueue v p _ _ _) _ _)

end KeepsStanding

/-- A SHADOW shown as HOT, before its packets are sent (R318). -/
def State.showHot (s : State) : State := { s.putBit F.PAIR_STAT_HOT true with pair := { s.pair with hot := true } }

/-- The packets of a SHADOW that turns HOT change nothing that a promotion looks at. -/
theorem turnHot_standing (s : State) : KeepsStanding s.showHot s.turnHot :=
  .foldl (f := fun v e => v.sendPacket e.2.last) (fun v e => .sendPacket v e.2.last) s.str.tx _

/-- A SHADOW whose partner is lost is due for promotion. -/
def State.AwaitsPromotion (s : State) : Prop :=
  s.paired = true ∧ s.pair.lostNow = true ∧ s.node.mode = .shadow ∧ s.otherTransition = false

theorem KeepsStanding.awaits {s t : State} (h : KeepsStanding s t) (hs : s.AwaitsPromotion) : t.AwaitsPromotion := by
  have hp : t.paired = s.paired := by
    rw [State.paired, State.bit, State.get, h.cfg, State.paired, State.bit, State.get]
  have ho : t.otherTransition = s.otherTransition := by
    rw [State.otherTransition, State.imageStarting, h.node, h.pwr, State.otherTransition, State.imageStarting]
  unfold State.AwaitsPromotion
  rwa [hp, ho, h.pair, h.node]

theorem showHot_awaits {s : State} (hs : s.AwaitsPromotion) : s.showHot.AwaitsPromotion := by
  obtain ⟨hp, hl, hm, ho⟩ := hs
  have hcfg : s.showHot.paired = s.paired := bit_put_ne s _ (by decide)
  exact ⟨hcfg.trans hp, hl, hm, ho⟩

theorem turnHot_awaits {s : State} (hs : s.AwaitsPromotion) : s.turnHot.AwaitsPromotion :=
  (turnHot_standing s).awaits (showHot_awaits hs)

theorem promoteTick_awaiting {s : State} (hs : s.AwaitsPromotion) : ∃ u : State, s.promoteTick = u.endHandover.setMode .lead := by
  have hact (u : State) (hu : u.AwaitsPromotion) : (if u.promoteDue then u.promote else u) = u.endHandover.setMode .lead := by
    obtain ⟨hp, hl, hm, ho⟩ := hu
    have hdue : u.promoteDue = true := by simp [State.promoteDue, hp, hl]
    rw [if_pos hdue, State.promote, if_pos (by simp [hm, ho])]
  unfold State.promoteTick
  split
  · exact ⟨_, hact _ (turnHot_awaits hs)⟩
  · exact ⟨s, hact s hs⟩

/-! ### No hand-over outlives the entry into LEAD -/

theorem sendWc_pair (s : State) (kind copyId unit fseq : Nat) (last : Bool) (entries : List (List Byte)) :
    (s.sendWc kind copyId unit fseq last entries).pair = s.pair := by
  unfold State.sendWc State.emitWc
  split <;> rfl

theorem endCopies_ho (u : State) : ({ u with pair := { u.pair with wc := none, src := none } } : State).pair.ho = u.pair.ho := rfl

theorem dropCopy_ho (s : State) : s.dropCopy.pair.ho = s.pair.ho := by
  unfold State.dropCopy
  extract_lets s1 s2 s3 s4
  have h1 : s1.pair = s.pair := by unfold s1; split <;> simp only [sendWc_pair]
  have h2 : s2.pair = s1.pair := by unfold s2; split <;> simp only [sendWc_pair]
  have h3 : s3.pair = s2.pair := by
    unfold s3
    split
    · exact State.put_pair _ _ _
    · rfl
  have h4 : s4.pair = s3.pair := (State.put_pair _ _ _).trans (State.put_pair _ _ _)
  exact (endCopies_ho s4).trans (by rw [h4, h3, h2, h1])

theorem roleEntry_lead_ho (s : State) (old : Mode) : (s.roleEntry old .lead).pair.ho = s.pair.ho := by
  unfold State.roleEntry
  extract_lets s1
  have h1 : s1.pair.ho = s.pair.ho := by
    unfold s1
    split
    · exact dropCopy_ho s
    · rfl
  rwa [if_pos rfl, State.put_pair]

theorem TalksOnly.pair {s t : State} (h : TalksOnly s t) : t.pair = s.pair := by rw [h]

theorem recordMode_pair (s : State) (m : Mode) : (s.recordMode m).pair = s.pair := by rw [recordMode_only]

theorem enterMode_pair (s : State) (m : Mode) : (s.enterMode m).pair = (s.roleEntry s.node.mode m).pair := rfl

theorem setMode_lead_ho (s : State) : (s.setMode .lead).pair.ho = s.pair.ho := by
  by_cases h : s.node.mode = .lead
  · rw [setMode_same h]
  · obtain ⟨data, he⟩ := setMode_of_ne h
    rw [he, (notify_talks _ _ _).pair, recordMode_pair, enterMode_pair, roleEntry_lead_ho]

theorem endHandover_ho (s : State) : s.endHandover.pair.ho = none := by
  unfold State.endHandover
  rw [State.put_pair, State.putBit_pair]

theorem promoteTick_leads {s : State} (hs : s.AwaitsPromotion) :
    s.promoteTick.node.mode = .lead ∧ s.promoteTick.pair.ho = none := by
  obtain ⟨u, he⟩ := promoteTick_awaiting hs
  rw [he]
  exact ⟨setMode_mode _ _, (setMode_lead_ho _).trans (endHandover_ho u)⟩

/-! ## FLASH_DORMANT_SEND (R308) -/

/-- What is put out for domain `d` when a Flash is sent. -/
def State.flashOut (s : State) (d : Nat) (bytes : List Byte) : List Output :=
  if s.rg (PAIR_PARTNER_ADDR d) ≠ 0 ∧ s.nodeAddr d ≠ 0 ∧ s.domainUp d = true then
    [.flash d (s.rg (PAIR_PARTNER_ADDR d)) (s.get F.PAIR_FLASH_PORT_UDP_PORT) bytes]
  else []

/-- Frames that carry `bytes` wait for the switch, one for each item put out, and nothing else differs. -/
def HandsOn (bytes : List Byte) (os : List Output) (s t : State) : Prop :=
  t.out = s.out ++ os ∧ (∃ fs, t.net.outbox = s.net.outbox ++ fs ∧ fs.length = os.length ∧ ∀ e ∈ fs, bytes <:+ e.2) ∧
    t = { s with out := t.out, net := { s.net with outbox := t.net.outbox }, free := t.free }

theorem HandsOn.trans {bytes : List Byte} {os os' : List Output} {s t u : State} (h : HandsOn bytes os s t) (k : HandsOn bytes os' t u) :
    HandsOn bytes (os ++ os') s u := by
  obtain ⟨ht, ⟨fs, hfs, hn, hb⟩, he⟩ := h
  obtain ⟨ku, ⟨fs', kfs, kn, kb⟩, ke⟩ := k
  refine ⟨by rw [ku, ht, List.append_assoc], ⟨fs ++ fs', by rw [kfs, hfs, List.append_assoc], by simp [hn, kn], ?_⟩, ?_⟩
  · intro e hmem
    exact (List.mem_append.1 hmem).elim (hb e) (kb e)
  · rw [ke, he]

theorem toPartner_handsOn (s : State) (d port dscp : Nat) (bytes : List Byte) (o : Output) :
    HandsOn bytes [o] s ((s.emit o).toPartner d port dscp bytes) := by
  refine ⟨rfl, ⟨_, rfl, rfl, ?_⟩, rfl⟩
  intro e he
  rw [List.mem_singleton.1 he]
  exact List.suffix_append _ _

/-- One domain of a Flash. -/
def State.flashTo (s : State) (d : Nat) (bytes : List Byte) : State :=
  let port := s.get F.PAIR_FLASH_PORT_UDP_PORT
  if s.pairDomain d then (s.emit (.flash d (s.rg (PAIR_PARTNER_ADDR d)) port bytes)).toPartner d port 48 bytes else s

theorem sendFlash_eq (s : State) (f : FlashInfo) : s.sendFlash f = (s.flashTo 0 (s.flashBytes f)).flashTo 1 (s.flashBytes f) := rfl

theorem flashTo_handsOn (s : State) (d : Nat) (bytes : List Byte) : HandsOn bytes (s.flashOut d bytes) s (s.flashTo d bytes) := by
  have hc : s.pairDomain d = true ↔ s.rg (PAIR_PARTNER_ADDR d) ≠ 0 ∧ s.nodeAddr d ≠ 0 ∧ s.domainUp d = true := by
    simp only [State.pairDomain, Bool.and_eq_true, bne_iff_ne, and_assoc]
  unfold State.flashTo State.flashOut
  by_cases h : s.pairDomain d = true
  · rw [if_pos h, if_pos (hc.1 h)]
    exact toPartner_handsOn s d _ 48 bytes _
  · rw [if_neg h, if_neg (mt hc.2 h)]
    exact ⟨(List.append_nil _).symm, ⟨[], (List.append_nil _).symm, rfl, by simp⟩, rfl⟩

theorem flashOut_handsOn {bytes : List Byte} {os : List Output} {s t : State} (h : HandsOn bytes os s t) (d : Nat) :
    t.flashOut d bytes = s.flashOut d bytes := by
  obtain ⟨-, -, he⟩ := h
  rw [he]
  rfl

theorem sendFlash_handsOn (s : State) (f : FlashInfo) :
    HandsOn (s.flashBytes f) (s.flashOut 0 (s.flashBytes f) ++ s.flashOut 1 (s.flashBytes f)) s (s.sendFlash f) := by
  have h0 := flashTo_handsOn s 0 (s.flashBytes f)
  rw [sendFlash_eq, ← flashOut_handsOn h0 1]
  exact h0.trans (flashTo_handsOn _ 1 _)

/-! ## STANDBY_TURN_HOT (R318) -/

theorem showHot_hot (s : State) : s.showHot.bit F.PAIR_STAT_HOT = true := bit_putBit_same s true (by decide) rfl

end Sys2Proof.Machine
end

section
/-! Warm copies (R324 to R330, Table 11.12): the frames that R and A take, the units that join and the retry of a failed copy. -/

namespace Sys2Proof.Machine

section
variable {s : State} {b : List Byte} {c : WarmCopy} {f : WcIn} {x : WcUnit} {kind : Nat}
  {act : WarmCopy → WcUnit → WcIn → State → State}

/-! ## Frames of R's copy -/

/-- A unit that has taken the next frame of a kind. -/
def WcUnit.took (x : WcUnit) (kind : Nat) : WcUnit := { x with fseq := cins x.fseq kind ((tgetD x.fseq kind 0 + 1) % 65536) }

/-- The copy with that unit. -/
def WarmCopy.took (c : WarmCopy) (f : WcIn) (x : WcUnit) : WarmCopy := c.mapUnit f.unit (fun _ => x.took f.kind)

theorem takeWc_stray (hw : s.pair.wc = none) : s.takeWc kind b act = s.strayWc := by
  simp only [State.takeWc, hw]

theorem takeWc_unread (hw : s.pair.wc = some c) (hr : s.readWc c.copyId b = none) :
    s.takeWc kind b act = s.bump F.PAIR_CNT_FLASH_BAD := by
  simp only [State.takeWc, hw, hr]

theorem takeWc_unit (hw : s.pair.wc = some c) (hr : s.readWc c.copyId b = some f) (hx : c.unit f.unit = some x) (hk : f.kind = kind) :
    s.takeWc kind b act = if f.fseq = tgetD x.fseq f.kind 0 then act (c.took f x) (x.took f.kind) f (s.setWc (c.took f x))
      else if x.st = .restart then s else s.restartUnit f.unit := by
  subst hk
  simp only [State.takeWc, hw, hr, hx, bne_self_eq_false, Bool.false_eq_true, if_false]
  rfl

/-- A frame out of FSEQ order asks for its unit again (R325). -/
theorem takeWc_gap (hw : s.pair.wc = some c) (hr : s.readWc c.copyId b = some f) (hx : c.unit f.unit = some x) (hk : f.kind = kind)
    (hn : f.fseq ≠ tgetD x.fseq kind 0) : s.takeWc kind b act = if x.st = .restart then s else s.restartUnit f.unit :=
  (takeWc_unit hw hr hx hk).trans (if_neg (hk ▸ hn))

theorem takeWc_next (hw : s.pair.wc = some c) (hr : s.readWc c.copyId b = some f) (hx : c.unit f.unit = some x) (hk : f.kind = kind)
    (hn : f.fseq = tgetD x.fseq f.kind 0) :
    s.takeWc kind b act = act (c.took f x) (x.took f.kind) f (s.setWc (c.took f x)) :=
  (takeWc_unit hw hr hx hk).trans (if_pos hn)

/-! ### WC_STOP -/

theorem effWcStop_stray (hw : s.pair.wc = none) : effWcStop b s = s.strayWc := by
  simp only [effWcStop, hw]

theorem effWcStop_unread (hw : s.pair.wc = some c) (hr : s.readWc c.copyId b = none) : effWcStop b s = s.bump F.PAIR_CNT_FLASH_BAD := by
  simp only [effWcStop, hw, hr]

theorem joinUnit_copying (hw : s.pair.wc = some c) (u : Nat) :
    s.joinUnit u = (s.setWc (c.mapUnit u (fun x => { x with st := .joined }))).endCopy := by
  simp only [State.joinUnit, hw]

theorem effWcStop_last (hw : s.pair.wc = some c) (hr : s.readWc c.copyId b = some f) (hk : f.kind = 5) (hl : f.last = true) :
    effWcStop b s = (s.setWc (c.mapUnit f.unit (fun x => { x with st := .joined }))).endCopy := by
  simp only [effWcStop, hw, hr, hk, hl, bne_self_eq_false, Bool.false_eq_true, if_false, if_true, joinUnit_copying hw]

/-- R without its copy, which it asks for again. -/
def State.dropWc (s : State) : State := { s with pair := { s.pair with wc := none, wcAsked := true } }

/-- What A's abort leaves. -/
def State.abortedCopy (s : State) : State := (s.dropWc.put F.PAIR_STAT_WC_PHASE 0).showCopy

theorem effWcStop_abort (hw : s.pair.wc = some c) (hr : s.readWc c.copyId b = some f) (hk : f.kind = 5) (hl : f.last = false) :
    effWcStop b s = s.abortedCopy := by
  simp only [effWcStop, hw, hr, hk, hl, bne_self_eq_false, Bool.false_eq_true, if_false]
  rfl

theorem showCopy_none (h : s.pair.wc = none) : s.showCopy = (s.put F.PAIR_WC_STAT_UNITS_LEFT 0).put F.PAIR_WC_STAT_UNIT 0 := by
  simp only [State.showCopy, h]

theorem abortedCopy_eq (s : State) : s.abortedCopy =
    ((s.dropWc.put F.PAIR_STAT_WC_PHASE 0).put F.PAIR_WC_STAT_UNITS_LEFT 0).put F.PAIR_WC_STAT_UNIT 0 :=
  showCopy_none (congrArg Pair.wc (State.put_pair _ _ _))

theorem abortedCopy_onlyRegs (s : State) : OnlyRegs roleRegs s.dropWc s.abortedCopy := by
  rw [abortedCopy_eq]
  exact (((OnlyRegs.refl _ _).andPut _ _ (by decide)).andPut _ _ (by decide)).andPut _ _ (by decide)

theorem abortedCopy_pair (s : State) : s.abortedCopy.pair = { s.pair with wc := none, wcAsked := true } :=
  congrArg State.pair (abortedCopy_onlyRegs s).1

theorem abortedCopy_phase (s : State) : s.abortedCopy.get F.PAIR_STAT_WC_PHASE = 0 := by
  rw [abortedCopy_eq, get_put_ne _ _ (by decide), get_put_ne _ _ (by decide), get_put_same _ _ (by decide)]
  rfl

theorem abortedCopy_unitsLeft (s : State) : s.abortedCopy.get F.PAIR_WC_STAT_UNITS_LEFT = 0 := by
  rw [abortedCopy_eq, get_put_disjoint (f := F.PAIR_WC_STAT_UNIT) (g := F.PAIR_WC_STAT_UNITS_LEFT) _ _ (by decide) rfl (by decide),
    get_put_same _ _ (by decide)]
  rfl

theorem abortedCopy_only (s : State) : s.abortedCopy = { s with regs := s.abortedCopy.regs, pair := s.abortedCopy.pair } := by
  rw [abortedCopy_pair]
  exact (abortedCopy_onlyRegs s).1

/-! ## Frames of A's copy -/

theorem takeSrc_stray {act : WcIn → State → State} (hw : s.pair.src = none) : s.takeSrc kind b act = s.strayWc := by
  simp only [State.takeSrc, hw]

theorem takeSrc_next {act : WcIn → State → State} (hw : s.pair.src = some c) (hr : s.readWc c.copyId b = some f) (hk : f.kind = kind) :
    s.takeSrc kind b act = act f s := by
  simp only [State.takeSrc, hw, hr, hk, if_true]

/-! ## WC_UNIT_JOINED -/

theorem effWcUnitJoined_absent {n : Nat} (h : s.pair.wc.bind (fun c => c.unit n) = none) : effWcUnitJoined n s = s := by
  simp only [effWcUnitJoined, h]

theorem effWcUnitJoined_unit {n : Nat} (hw : s.pair.wc = some c) (hx : c.unit n = some x) :
    effWcUnitJoined n s = if x.st = .verifying ∧ 16 ≤ x.clean
      then (s.setWc (c.mapUnit n (fun y => { y with st := .joined }))).endCopy else s := by
  have hu : s.pair.wc.bind (fun c => c.unit n) = some x := by rw [hw, Option.bind_some, hx]
  simp only [effWcUnitJoined, hu, Bool.and_eq_true, decide_eq_true_eq, joinUnit_copying hw]

theorem showCopy_pair (s : State) : s.showCopy.pair = s.pair := by
  unfold State.showCopy
  split
  · exact (State.put_pair _ _ _).trans (State.put_pair _ _ _)
  · exact (State.put_pair _ _ _).trans (State.put_pair _ _ _)

theorem setWc_wc (s : State) (c : WarmCopy) : (s.setWc c).pair.wc = some c := by
  rw [State.setWc, showCopy_pair]

theorem endCopy_setWc (s : State) (c : WarmCopy) : (s.setWc c).endCopy =
    if c.units.all (fun y => y.st = .joined) then
      (({ s.setWc c with pair := { (s.setWc c).pair with wc := none, countFrom := (s.setWc c).blk + 1 } } : State).put
        F.PAIR_STAT_WC_PHASE 2).showCopy
    else s.setWc c := by
  unfold State.endCopy
  rw [setWc_wc]

/-! ## WC_RETRY (R328) -/

/-- Nothing stands in the way of a copy that has been asked for, as the Flash `f` shows it. -/
def State.mayStart (s : State) (f : FlashInfo) : Bool :=
  s.pair.wc.isNone && !s.pair.lostNow && s.copyPossible f && !s.bit F.PAIR_RELIEF_BUSY

/-- A copy starts. -/
def State.startCopy (s : State) : State :=
  let w := (({ s with pair := { s.pair with wcAsked := false, wcRetry := false } } : State).put F.PAIR_STAT_WC_PHASE 1).bump
    F.PAIR_WC_CNT_STARTS
  w.clearMatch.setWc ⟨w.rg PAIR_EPOCH, w.wcUnits.map WcUnit.fresh, [], false, 0, 0⟩

theorem tryCopy_of_last {f : FlashInfo} (hl : s.pair.last = some f) :
    s.tryCopy = if s.pair.wcAsked = true ∧ s.mayStart f = true then s.startCopy else s := by
  unfold State.tryCopy
  rw [hl]
  exact if_congr (by simp only [State.mayStart, Bool.and_eq_true, and_assoc]) rfl rfl

theorem tryCopy_waits (h : ∀ f, s.pair.last = some f → s.mayStart f = false) : s.tryCopy = s := by
  cases hl : s.pair.last with
  | none => simp only [State.tryCopy, hl]
  | some f => rw [tryCopy_of_last hl, if_neg (by simp [h f hl])]

theorem tryCopy_starts {f : FlashInfo} (hl : s.pair.last = some f) (ha : s.pair.wcAsked = true) (hm : s.mayStart f = true) :
    s.tryCopy = s.startCopy :=
  (tryCopy_of_last hl).trans (if_pos ⟨ha, hm⟩)

/-- A failed copy is asked for again. -/
def State.askAgain (s : State) : State := { s with pair := { s.pair with wcRetry := false, wcAsked := true } }

theorem effWcRetry_failed (hr : s.pair.wcRetry = true) (hm : s.node.mode = .shadow) : effWcRetry s = s.askAgain.tryCopy :=
  if_pos (by simp [hr, hm])

theorem effWcRetry_idle (h : s.pair.wcRetry = false ∨ s.node.mode ≠ .shadow) : effWcRetry s = s :=
  if_neg (by obtain h | h := h <;> simp [h])

end

end Sys2Proof.Machine
end

section
/-! Takeovers by Relief Bricks (R336 to R343, Table 11.10): how one starts, the steps that follow one another, and the memory that the
loading of a Relief Brick leaves. -/

namespace Sys2Proof.Machine

/-! ## Bytes outside a range -/

/-- Every byte outside the `n` bytes from `a` on reads as before. -/
def BytesBeyond (a n : Nat) (s t : State) : Prop := ∀ c, ¬ (a ≤ c ∧ c < a + n) → t.rdByte c = s.rdByte c

namespace BytesBeyond

variable {a n : Nat} {s t u : State}

theorem refl (a n : Nat) (s : State) : BytesBeyond a n s s := fun _ _ => rfl

theorem trans (h : BytesBeyond a n s t) (k : BytesBeyond a n t u) : BytesBeyond a n s u := fun c hc => (k c hc).trans (h c hc)

theorem foldl {α : Type} {f : State → α → State} (h : ∀ s x, BytesBeyond a n s (f s x)) (l : List α) (s : State) :
    BytesBeyond a n s (l.foldl f s) := by
  induction l generalizing s with
  | nil => exact refl a n s
  | cons x l ih => exact (h s x).trans (ih _)

theorem zeroMem (s : State) (a n : Nat) : BytesBeyond a n s (s.zeroMem a n) := by
  intro c hc
  exact cget_filter memDefault (fun v => by simp only [Bool.or_eq_true, decide_eq_true_eq]; omega) s.mem

end BytesBeyond

/-- Words written into a Brick's memory stay within it. -/
theorem writeWords_beyond (s : State) (b w : Nat) (v : List Byte) :
    BytesBeyond (brickWordAddr b 0) 0x40000 s (s.writeWords b w v) := by
  intro c hc
  refine rdByte_wrBytes_out s ?_
  rw [List.length_take]
  unfold brickWordAddr at hc ⊢
  omega

theorem placeWords_beyond (s : State) (l b : Nat) : BytesBeyond (brickWordAddr b 0) 0x40000 s (s.placeWords l b) :=
  (BytesBeyond.foldl (fun u (e : Nat × List Byte) => writeWords_beyond u b (2 * e.1) e.2) _ s).trans
    (.foldl (fun u (e : Nat × List Byte) => writeWords_beyond u b e.1 e.2) _ _)

/-! ## RELIEF_TAKEOVER -/

section
variable {s : State} {b : Nat}

theorem effReliefTakeover_out (h : s.outOfService b = true) : effReliefTakeover b s = s := if_pos h

/-- An uncorrectable error in Brick `b` is shown and latched. -/
def State.showEcc (s : State) (b : Nat) : State := (s.putBit (F.BRK_STAT_ECC_UE b) true).latch 0

/-- Brick `b` is a Relief Brick that is free. -/
def State.spareAt (s : State) (b : Nat) : Bool := decide (b % 24 = 23) && decide (s.get F.PAIR_RELIEF_FREE / 2 ^ (b / 24) % 2 = 1)

theorem effReliefTakeover_spare (h : s.outOfService b = false) (hs : (s.showEcc b).spareAt b = true) :
    effReliefTakeover b s = ((s.showEcc b).putMask F.PAIR_RELIEF_FREE (b / 24) false).retire b :=
  (if_neg (by simp [h])).trans (if_pos hs)

/-- An error in Brick `b` takes the logical Brick it carries, unless that one has failed for want of a Relief (R340). -/
def State.failAt (s : State) (b : Nat) : State :=
  match s.logicalOf b with
  | some l => if s.flt.reliefNone.contains l then s else s.failBrick l false
  | none => s

theorem effReliefTakeover_used (h : s.outOfService b = false) (hs : (s.showEcc b).spareAt b = false) :
    effReliefTakeover b s = (s.showEcc b).failAt b :=
  (if_neg (by simp [h])).trans (if_neg (ne_true_of_eq_false hs))

theorem failAt_nobody (hl : s.logicalOf b = none) : s.failAt b = s := by
  rw [State.failAt, hl]

theorem failAt_logical {l : Nat} (hl : s.logicalOf b = some l) :
    s.failAt b = if s.flt.reliefNone.contains l then s else s.failBrick l false := by
  rw [State.failAt, hl]

end

/-! ## RELIEF_LOADED (steps 3 and 4) -/

section
variable (s : State) (l : Nat) (k : Takeover)

/-- The Relief Brick, emptied, holds the CODE and DATA of logical Brick `l`. -/
def State.placed : State := (s.zeroMem (brickWordAddr k.relief 0) 0x40000).placeWords l k.relief

/-- The read of the last complete checkpoint: whether its path reaches all of it. -/
def State.ckptRead : State × Bool :=
  match s.stateArea l, s.lastCkpt l with
  | some (_, len, _), some a => s.sharedPath 6 a (4 * len)
  | _, _ => (s, true)

/-- The STATE area of the Relief Brick: the checkpoint, or zeros when there is none or it is lost. -/
def State.restored (lost : Bool) : State :=
  match s.stateArea l with
  | some (first, len, _) => s.writeWords k.relief first (match s.lastCkpt l, lost with
      | some a, false => s.rdBytes (4 * len) a
      | _, _ => List.replicate (4 * len) 0)
  | none => s

/-- The I/O rings of the Relief Brick begin at zero. -/
def State.emptyRings : State :=
  (Cfg.progItems s.st.cfg 4 l).foldl (fun x e => x.writeWords k.relief (16 * fieldOf (leAt e.2 0 4) 4 12) (List.replicate 64 0)) s

/-- The Relief Brick with CODE, DATA and STATE in it, after the read `q` of the checkpoint; an uncorrectable row of it is latched. -/
def State.filledFrom (q : State × Bool) : State :=
  let v := if s.ckptFails l then q.1.latch 9 else q.1
  (v.restored l k (v.ckptFails l || !q.2)).emptyRings l k

/-- The Relief Brick of a takeover, loaded. -/
def State.reliefFilled : State := (s.placed l k).filledFrom l k ((s.placed l k).ckptRead l)

variable {s l k}

theorem effReliefLoaded_loaded (h : s.takeover l = some k) (hk : k.loaded = true) : effReliefLoaded l s = s := by
  simp only [effReliefLoaded, h, hk, if_true]

theorem effReliefLoaded_loads (h : s.takeover l = some k) (hk : k.loaded = false) :
    effReliefLoaded l s = (s.reliefFilled l k).mapTakeover l (fun y => { y with loaded := true }) := by
  unfold effReliefLoaded
  rw [h]
  refine (if_neg (ne_true_of_eq_false hk)).trans ?_
  extract_lets s1 q s2 lost s3 s4
  have hq : q = s1.ckptRead l := by
    unfold q State.ckptRead
    rcases s1.stateArea l with _ | ⟨first, len, ck⟩ <;> cases s1.lastCkpt l <;> rfl
  have h3 : s3 = s2.restored l k lost := by
    unfold s3 State.restored
    generalize lost = z
    rcases s2.stateArea l with _ | ⟨first, len, ck⟩ <;> cases s2.lastCkpt l <;> cases z <;> rfl
  have h4 : s4 = s3.emptyRings l k := rfl
  have hu : s1.filledFrom l k q = (s2.restored l k lost).emptyRings l k := rfl
  have h1 : s.placed l k = s1 := rfl
  rw [State.reliefFilled, h4, h3, h1, ← hq, hu]

theorem restored_beyond (s : State) (l : Nat) (k : Takeover) (lost : Bool) :
    BytesBeyond (brickWordAddr k.relief 0) 0x40000 s (s.restored l k lost) := by
  unfold State.restored
  split
  · exact writeWords_beyond _ _ _ _
  · exact .refl _ _ s

theorem emptyRings_beyond (s : State) (l : Nat) (k : Takeover) :
    BytesBeyond (brickWordAddr k.relief 0) 0x40000 s (s.emptyRings l k) :=
  .foldl (fun x (e : Nat × List Byte) => writeWords_beyond x k.relief (16 * fieldOf (leAt e.2 0 4) 4 12) _) _ s

/-- A path that reaches all it is to reach leaves the engine as it was. -/
theorem sharedPath_whole {m a n : Nat} (h : (s.sharedPath m a n).2 = true) : s.sharedPath m a n = (s, true) := by
  unfold State.sharedPath at h ⊢
  split
  · rfl
  · next hn => rw [if_neg hn] at h; exact absurd h Bool.false_ne_true

theorem ckptRead_whole (h : (s.ckptRead l).2 = true) : (s.ckptRead l).1 = s := by
  unfold State.ckptRead at h ⊢
  split
  · next hs hc =>
    rw [hs, hc] at h
    exact congrArg Prod.fst (sharedPath_whole h)
  · rfl

theorem placed_beyond (s : State) (l : Nat) (k : Takeover) : BytesBeyond (brickWordAddr k.relief 0) 0x40000 s (s.placed l k) :=
  (BytesBeyond.zeroMem s _ _).trans (placeWords_beyond _ l k.relief)

/-- Unless an error of the checkpoint latches, which may do more, loading writes the Relief Brick's memory alone. -/
theorem reliefFilled_beyond (hf : (s.placed l k).ckptFails l = false) (hq : ((s.placed l k).ckptRead l).2 = true) :
    BytesBeyond (brickWordAddr k.relief 0) 0x40000 s (s.reliefFilled l k) := by
  unfold State.reliefFilled State.filledFrom
  dsimp only
  rw [if_neg (ne_true_of_eq_false hf), ckptRead_whole hq]
  exact (placed_beyond s l k).trans ((restored_beyond _ l k _).trans (emptyRings_beyond _ l k))

end

/-! ## RELIEF_RUN, RELIEF_READY and RELIEF_DONE (steps 5 to 7) -/

section
variable {s : State} {l : Nat} {k : Takeover}

theorem relief_none (h : s.takeover l = none) :
    effReliefLoaded l s = s ∧ effReliefRun l s = s ∧ effReliefReady l s = s ∧ effReliefDone l s = s := by
  simp only [effReliefLoaded, effReliefRun, effReliefReady, effReliefDone, h, and_self]

theorem effReliefRun_waits (h : s.takeover l = some k) (hw : k.loaded = false ∨ k.runs = true ∨ (s.node.n.toNat + 1) % 8 ≠ 0) :
    effReliefRun l s = s := by
  unfold effReliefRun
  rw [h]
  exact if_pos (by obtain hw | hw | hw := hw <;> simp [hw])

/-- The Relief Brick in the failed one's place. -/
def State.reliefInPlace (s : State) (l : Nat) (k : Takeover) : State :=
  let a := s.mapTakeover l (fun x => { x with runs := true })
  let b := if k.commanded then a else a.retire k.failed
  let c : State := { b with pair := { b.pair with carried := cins b.pair.carried l k.relief } }
  ((c.idleBrick k.relief).placeTables l k.relief).put (F.BRK_ROLE_REPLACES k.relief) k.failed

theorem effReliefRun_runs (h : s.takeover l = some k) (hl : k.loaded = true) (hr : k.runs = false) (hn : (s.node.n.toNat + 1) % 8 = 0) :
    effReliefRun l s = s.reliefInPlace l k := by
  unfold effReliefRun
  rw [h]
  exact if_neg (by simp [hl, hr, hn])

theorem effReliefReady_waits (h : s.takeover l = some k) (hw : k.runs = false ∨ k.ready = true ∨ s.reliefPlays k.relief = false) :
    effReliefReady l s = s := by
  unfold effReliefReady
  rw [h]
  exact if_pos (by obtain hw | hw | hw := hw <;> simp [hw])

/-- The crosspoints that the Relief Brick plays fade in. -/
def State.reliefFades (s : State) (l : Nat) (k : Takeover) : State :=
  let u := s.mapTakeover l (fun x => { x with ready := true })
  (u.liveEntries.foldl (fun v e =>
    let p := e.2.keepShadow (s.outputsOf k.relief) k.failed
    if sounding p.cur && fromOutputs (s.outputsOf k.relief) p.cur then
      v.fadeRelief e.1 p (if k.commanded then some k.failed else none)
    else v.setPe e.1 p) u).showPatch

theorem effReliefReady_fades (h : s.takeover l = some k) (hr : k.runs = true) (hn : k.ready = false) (hp : s.reliefPlays k.relief = true) :
    effReliefReady l s = s.reliefFades l k := by
  unfold effReliefReady
  rw [h]
  exact if_neg (by simp [hr, hn, hp])

theorem effReliefDone_waits (h : s.takeover l = some k)
    (hw : k.ready = false ∨ s.audio.patch.any (fun e => e.2.busyFor (s.outputsOf k.relief) k.failed) = true) : effReliefDone l s = s := by
  unfold effReliefDone
  rw [h]
  exact if_pos (by obtain hw | hw := hw <;> simp only [hw, Bool.not_false, Bool.true_or, Bool.or_true])

/-- No exchange of roles is coming any more for a LEAD that has announced and proposed none (R343). -/
def State.settleOwed (s : State) : State :=
  if s.node.mode = .lead ∧ s.pair.ho = none ∧ s.proposed .pairSwap = false then { s with pair := { s.pair with owed := false } } else s

theorem settleOwed_eq : (if (s.node.mode = .lead && s.pair.ho.isNone && !s.proposed .pairSwap) = true then
    { s with pair := { s.pair with owed := false } } else s) = s.settleOwed :=
  if_congr (by simp only [Bool.and_eq_true, decide_eq_true_eq, Option.isNone_iff_eq_none, Bool.not_eq_true', and_assoc]) rfl rfl

/-- The takeover of logical Brick `l` ends; a commanded one's old Brick goes out of service only now (R339). -/
def State.endTakeover (s : State) (l : Nat) (k : Takeover) : State :=
  let a := if k.commanded then s.retire k.failed else s
  { a with pair := { a.pair with takeovers := a.pair.takeovers.filter (fun x => x.logical != l) } }

theorem effReliefDone_ends (h : s.takeover l = some k) (hr : k.ready = true)
    (hb : s.audio.patch.any (fun e => e.2.busyFor (s.outputsOf k.relief) k.failed) = false) :
    effReliefDone l s = ((s.endTakeover l k).settleOwed.putBit F.PAIR_RELIEF_BUSY
      (!(s.endTakeover l k).settleOwed.pair.takeovers.isEmpty)).tryCopy := by
  unfold effReliefDone
  rw [h]
  refine (if_neg (by simp only [hr, hb, Bool.not_true, Bool.or_self, Bool.false_eq_true, not_false_eq_true])).trans ?_
  exact congrArg (fun u : State => (u.putBit F.PAIR_RELIEF_BUSY (!u.pair.takeovers.isEmpty)).tryCopy)
    (settleOwed_eq (s := s.endTakeover l k))

end

end Sys2Proof.Machine
end

section
/-! The events of pairs, warm copies and Relief Bricks, and O55. -/

namespace Sys2Proof.Machine

/-! ## The clauses on the pair -/

section
variable {s : State} (ha : s.alive = true)
include ha

theorem partnerLost_gives (hp : s.paired = true) (hn : s.pair.lostNow = false) (hl : s.lossDue = true) :
    Gives .partnerLost s ((s.losePartner.latch 35).notify 9 (beBytes 4 (s.losePartner.latch 35).pairImage)) ∧
      s.losePartner.pair.wc = none ∧ s.losePartner.pair.src = none ∧ s.losePartner.pair.lostNow = true := by
  obtain ⟨hwc, hsrc⟩ := dropCopy_ends s.voidHandover
  rw [losePartner_pair]
  exact ⟨gives_runs (exec_partnerLost s) ha (effPartnerLost_lost hp hn hl), hwc, hsrc, rfl⟩

theorem flashDormantSend_idle (h : (decide (s.node.mode = .dormant) && s.paired && decide (s.get F.PWR_STAT_STATE < 4)) = false) :
    Gives .flashDormantSend s s :=
  gives_runs (exec_flashDormantSend s) ha (if_neg (ne_true_of_eq_false h))

/-- A Flash that is sent leaves the queue as it was. -/
theorem flashDormantSend_sends (h : (decide (s.node.mode = .dormant) && s.paired && decide (s.get F.PWR_STAT_STATE < 4)) = true) :
    exec .flashDormantSend s =
      .next (({ s with pwr := { s.pwr with flashAt := s.node.uptime } } : State).sendFlash (s.ownFlash s.blk 0 [] false)) := by
  refine exec_of_gives (gives_runs (exec_flashDormantSend s) ha (if_pos h)) ?_
  obtain ⟨-, -, he⟩ := sendFlash_handsOn { s with pwr := { s.pwr with flashAt := s.node.uptime } } (s.ownFlash s.blk 0 [] false)
  rw [he]

theorem wcStop_aborts {b : List Byte} {c : WarmCopy} {f : WcIn} (hw : s.pair.wc = some c) (hr : s.readWc c.copyId b = some f)
    (hk : f.kind = 5) (hl : f.last = false) : exec (.wcStop b) s = .next s.abortedCopy :=
  exec_of_gives (gives_runs (exec_wcStop s) ha (effWcStop_abort hw hr hk hl)) (by rw [abortedCopy_only])

/-- A warm-copy frame to R without a copy, or one that R cannot read (R325). -/
theorem wcFrames_stray (b : List Byte) (hw : s.pair.wc = none) :
    ∀ i ∈ [Instr.wcPatch b, .wcMirror b, .wcBulk b, .wcSwitch b, .wcStop b], Gives i s s.strayWc := by
  simp only [List.forall_mem_cons, List.not_mem_nil, false_implies, implies_true, and_true]
  exact ⟨gives_runs (exec_wcPatch s) ha (takeWc_stray hw), gives_runs (exec_wcMirror s) ha (takeWc_stray hw),
    gives_runs (exec_wcBulk s) ha (takeWc_stray hw), gives_runs (exec_wcSwitch s) ha (takeWc_stray hw),
    gives_runs (exec_wcStop s) ha (effWcStop_stray hw)⟩

theorem wcFrames_unread {b : List Byte} {c : WarmCopy} (hw : s.pair.wc = some c) (hr : s.readWc c.copyId b = none) :
    ∀ i ∈ [Instr.wcPatch b, .wcMirror b, .wcBulk b, .wcSwitch b, .wcStop b], Gives i s (s.bump F.PAIR_CNT_FLASH_BAD) := by
  simp only [List.forall_mem_cons, List.not_mem_nil, false_implies, implies_true, and_true]
  exact ⟨gives_runs (exec_wcPatch s) ha (takeWc_unread hw hr), gives_runs (exec_wcMirror s) ha (takeWc_unread hw hr),
    gives_runs (exec_wcBulk s) ha (takeWc_unread hw hr), gives_runs (exec_wcSwitch s) ha (takeWc_unread hw hr),
    gives_runs (exec_wcStop s) ha (effWcStop_unread hw hr)⟩

theorem wcFrames_gap {b : List Byte} {c : WarmCopy} {f : WcIn} {x : WcUnit} (hw : s.pair.wc = some c)
    (hr : s.readWc c.copyId b = some f) (hx : c.unit f.unit = some x) (i : Instr) (k : Nat)
    (hi : (i, k) ∈ [(Instr.wcPatch b, 1), (.wcMirror b, 2), (.wcBulk b, 3), (.wcSwitch b, 4)]) (hk : f.kind = k)
    (hn : f.fseq ≠ tgetD x.fseq k 0) : Gives i s (if x.st = .restart then s else s.restartUnit f.unit) := by
  simp only [List.mem_cons, Prod.mk.injEq, List.not_mem_nil, or_false] at hi
  obtain ⟨rfl, rfl⟩ | ⟨rfl, rfl⟩ | ⟨rfl, rfl⟩ | ⟨rfl, rfl⟩ := hi
  · exact gives_runs (exec_wcPatch s) ha (takeWc_gap hw hr hx hk hn)
  · exact gives_runs (exec_wcMirror s) ha (takeWc_gap hw hr hx hk hn)
  · exact gives_runs (exec_wcBulk s) ha (takeWc_gap hw hr hx hk hn)
  · exact gives_runs (exec_wcSwitch s) ha (takeWc_gap hw hr hx hk hn)

theorem srcFrames_stray (b : List Byte) (hw : s.pair.src = none) : ∀ i ∈ [Instr.wcStatus b, .wcAbort b], Gives i s s.strayWc := by
  simp only [List.forall_mem_cons, List.not_mem_nil, false_implies, implies_true, and_true]
  exact ⟨gives_runs (exec_wcStatus s) ha (takeSrc_stray hw), gives_runs (exec_wcAbort s) ha (takeSrc_stray hw)⟩

end

/-- Settles O55: each event's guard decides whether it acts; a frame in FSEQ order has the effect of its kind, and each step of a takeover
needs the one before. -/
theorem pairCopyAndReliefEventsAct : Obligations.PairCopyAndReliefEventsAct := by
  unfold Obligations.PairCopyAndReliefEventsAct
  refine ⟨fun s ha => ⟨?flash, ?lost, ?promote, ?dormant, ?hot, ?frames, ?joined, ?retry, ?noRetry⟩,
    fun s ha => ⟨?takeover, ?steps⟩⟩
  case flash =>
    refine fun d a m b => ⟨fun hp => ?_, fun hp hb => ?_, fun f hp hb =>
      ⟨fun hk => ?_, fun hk hl => ?_, fun hk x hl hx => ?_, fun hk hl => ?_⟩⟩
    · exact gives_runs (exec_flashReceived s) ha (effFlashReceived_unpaired hp)
    · exact gives_runs (exec_flashReceived s) ha (effFlashReceived_unread hp hb)
    · exact gives_runs (exec_flashReceived s) ha (effFlashReceived_stranger hp hb hk)
    · exact gives_runs (exec_flashReceived s) ha (effFlashReceived_again hp hb hk hl)
    · exact gives_runs (exec_flashReceived s) ha (effFlashReceived_late hp hb hk hl hx)
    · exact gives_runs (exec_flashReceived s) ha (effFlashReceived_taken hp hb hk hl)
  case lost =>
    refine ⟨fun h => ?_, fun hp hn hl => partnerLost_gives ha hp hn (lossDue_iff.2 hl)⟩
    exact gives_runs (exec_partnerLost s) ha (effPartnerLost_idle (h.imp_right (Or.imp_right (mt lossDue_iff.1))))
  case promote => exact fun hp hl hm ho => promoteTick_leads ⟨hp, hl, hm, ho⟩
  case dormant =>
    refine ⟨fun h => flashDormantSend_idle ha h, fun h => ?_⟩
    obtain ⟨hout, ⟨fs, hfs, hn, hb⟩, he⟩ :=
      sendFlash_handsOn { s with pwr := { s.pwr with flashAt := s.node.uptime } } (s.ownFlash s.blk 0 [] false)
    exact ⟨_, fs, flashDormantSend_sends ha h, hout.trans (List.append_assoc _ _ _).symm, hfs, hn, hb, he⟩
  case hot =>
    refine ⟨fun h => ?_, fun h => ⟨?_, showHot_hot s⟩⟩
    · exact gives_runs (exec_standbyTurnHot s) ha (if_neg (ne_true_of_eq_false h))
    · exact gives_runs (exec_standbyTurnHot s) ha (if_pos h)
  case frames =>
    refine fun b => ⟨wcFrames_stray ha b, fun c hw hr => wcFrames_unread ha hw hr, fun c f x hw hr hx => wcFrames_gap ha hw hr hx,
      fun c f x hw hr hx hn => ⟨fun hk => ?_, fun hk => ?_, fun hk => ?_, fun hk => ?_⟩,
      fun c f hw hr hk => ⟨fun hl => ?_, fun hl => ?_⟩, srcFrames_stray ha b, fun c f hw hr => ⟨fun hk => ?_, fun hk => ?_⟩⟩
    · exact gives_runs (exec_wcPatch s) ha (takeWc_next hw hr hx hk hn)
    · exact gives_runs (exec_wcMirror s) ha (takeWc_next hw hr hx hk hn)
    · exact gives_runs (exec_wcBulk s) ha (takeWc_next hw hr hx hk hn)
    · exact gives_runs (exec_wcSwitch s) ha (takeWc_next hw hr hx hk hn)
    · exact gives_runs (exec_wcStop s) ha (effWcStop_last hw hr hk hl)
    · exact ⟨_, wcStop_aborts ha hw hr hk hl, abortedCopy_pair s, abortedCopy_phase s, abortedCopy_unitsLeft s, abortedCopy_only s⟩
    · exact gives_runs (exec_wcStatus s) ha (takeSrc_next hw hr hk)
    · exact gives_runs (exec_wcAbort s) ha (takeSrc_next hw hr hk)
  case joined =>
    refine fun n => ⟨fun h => ?_, fun c x hw hx => ⟨fun h => ?_, fun hv hc hall => ?_, fun hv hc hall => ?_⟩⟩
    · exact gives_runs (exec_wcUnitJoined s) ha (effWcUnitJoined_absent h)
    · exact gives_runs (exec_wcUnitJoined s) ha ((effWcUnitJoined_unit hw hx).trans (if_neg h))
    · exact gives_runs (exec_wcUnitJoined s) ha ((effWcUnitJoined_unit hw hx).trans ((if_pos ⟨hv, hc⟩).trans
        ((endCopy_setWc s _).trans (if_neg (ne_true_of_eq_false hall)))))
    · exact gives_runs (exec_wcUnitJoined s) ha ((effWcUnitJoined_unit hw hx).trans ((if_pos ⟨hv, hc⟩).trans
        ((endCopy_setWc s _).trans (if_pos hall))))
  case retry =>
    refine fun hr hm => ⟨fun h => ?_, fun f hl h => ?_⟩
    · exact gives_runs (exec_wcRetry s) ha ((effWcRetry_failed hr hm).trans (tryCopy_waits h))
    · exact gives_runs (exec_wcRetry s) ha ((effWcRetry_failed hr hm).trans (tryCopy_starts hl rfl h))
  case noRetry => exact fun h => gives_runs (exec_wcRetry s) ha (effWcRetry_idle h)
  case takeover =>
    refine fun b => ⟨fun h => ?_, fun h => ⟨fun hs => ?_, fun hs hl => ?_, fun l hs hl => ?_⟩⟩
    · exact gives_runs (exec_reliefTakeover s) ha (effReliefTakeover_out h)
    · exact gives_runs (exec_reliefTakeover s) ha (effReliefTakeover_spare h hs)
    · exact gives_runs (exec_reliefTakeover s) ha ((effReliefTakeover_used h hs).trans (failAt_nobody hl))
    · exact gives_runs (exec_reliefTakeover s) ha ((effReliefTakeover_used h hs).trans (failAt_logical hl))
  case steps =>
    refine fun l => ⟨fun h => ?_, fun k h => ⟨fun hl => ?_, fun hl => ?_, fun hw => ?_, fun hl hr hn => ?_, fun hw => ?_,
      fun hr hn hp => ?_, fun hw => ?_, fun hr hb => ?_⟩⟩
    · obtain ⟨hload, hrun, hready, hdone⟩ := relief_none h
      exact ⟨gives_runs (exec_reliefLoaded s) ha hload, gives_runs (exec_reliefRun s) ha hrun,
        gives_runs (exec_reliefReady s) ha hready, gives_runs (exec_reliefDone s) ha hdone⟩
    · exact gives_runs (exec_reliefLoaded s) ha (effReliefLoaded_loaded h hl)
    · intro u q v lost w x
      have hq : q = u.ckptRead l.val := by
        unfold q State.ckptRead
        rcases u.stateArea l.val with _ | ⟨first, len, ck⟩ <;> cases u.lastCkpt l.val <;> rfl
      have hw : w = v.restored l.val k lost := by
        unfold w State.restored
        generalize lost = z
        rcases v.stateArea l.val with _ | ⟨first, len, ck⟩ <;> cases v.lastCkpt l.val <;> cases z <;> rfl
      have hx : x = w.emptyRings l.val k := rfl
      have hu : u.filledFrom l.val k q = (v.restored l.val k lost).emptyRings l.val k := rfl
      rw [hx, hw, ← hu, hq]
      exact ⟨gives_runs (exec_reliefLoaded s) ha (effReliefLoaded_loads h hl), reliefFilled_beyond⟩
    · exact gives_runs (exec_reliefRun s) ha (effReliefRun_waits h hw)
    · exact gives_runs (exec_reliefRun s) ha (effReliefRun_runs h hl hr hn)
    · exact gives_runs (exec_reliefReady s) ha (effReliefReady_waits h hw)
    · exact gives_runs (exec_reliefReady s) ha (effReliefReady_fades h hr hn hp)
    · exact gives_runs (exec_reliefDone s) ha (effReliefDone_waits h hw)
    · exact gives_runs (exec_reliefDone s) ha (effReliefDone_ends h hr hb)

end Sys2Proof.Machine
end

section
/-! The queue of commands: every command completes and leaves it as it was, and a step takes the command at its front. -/

namespace Sys2Proof.Machine

theorem step_cons (c : Instr) (q : List Instr) (s : State) : step { s with pending := c :: q } = exec c { s with pending := q } := rfl

theorem step_idle {s : State} (h : s.pending = []) : step s = .next s := by
  unfold step
  rw [h]

theorem step_front {s : State} {c : Instr} {q : List Instr} (h : s.pending = c :: q) : step s = exec c { s with pending := q } := by
  unfold step
  rw [h]

/-- Every command is an effect on the state that leaves the queue to the step; what it needs of the state is inside the effect. -/
theorem exec_eq_always (c : Instr) (s : State) : ∃ f, exec c s = always s f := by
  cases c <;> exact ⟨_, rfl⟩

/-- Settles O1: by the two cases of `step`. -/
theorem stepRunsTheFrontCommand : Obligations.StepRunsTheFrontCommand := ⟨step_cons, fun _ => step_idle⟩

/-- Settles O2: every command is an effect run by `always`, which gives the queue back. -/
theorem commandsKeepTheQueue : Obligations.CommandsKeepTheQueue := by
  unfold Obligations.CommandsKeepTheQueue
  intro c s
  obtain ⟨f, hf⟩ := exec_eq_always c s
  exact ⟨_, hf.trans (always_next s f), rfl⟩

end Sys2Proof.Machine
end

section
/-! What an error line that asserts leaves in the collector's record (R448), and in the rest of an engine that starts. -/

namespace Sys2Proof.Machine

/-- What FLT_FIRST and FLT_FIRST_TIME take when the first bit latches. -/
def State.noteFirst (s : State) (k : Nat) : State :=
  if s.rg FLT_STATUS = 0 then
    ((s.put F.FLT_FIRST_VALID 1).put F.FLT_FIRST_SRC k).setRg FLT_FIRST_TIME (s.node.time / 65536)
  else s

/-- A bit that is set already at most holds further channels. -/
theorem latch_again {s : State} {k : Nat} (h : s.latched k = true) (chans : List Nat) : (s.latch k chans).regs = s.regs := by
  unfold State.latch
  rw [if_pos h]
  split
  · exact holdChans_regs s k chans
  · rfl

theorem latch_new {s : State} {k : Nat} (h : s.latched k = false) (chans : List Nat) :
    s.latch k chans = (s.noteFirst k).newLatch k chans := if_neg (by rw [h]; exact Bool.false_ne_true)

theorem noteFirst_rg (s : State) (k : Nat) {a : Nat} (hf : a ≠ FLT_FIRST) (ht : a ≠ FLT_FIRST_TIME) : (s.noteFirst k).rg a = s.rg a := by
  unfold State.noteFirst
  split
  · rw [rg_setRg_ne _ _ ht, rg_put_ne _ _ hf, rg_put_ne _ _ hf]
  · rfl

theorem noteFirst_latched (s : State) (k j : Nat) : (s.noteFirst k).latched j = s.latched j := by
  rw [State.latched, noteFirst_rg s k (by decide) (by decide), State.latched]

/-- The reaction to a new latch leaves FLT_FIRST. -/
theorem rg_first_newLatch (s : State) (k : Nat) (chans : List Nat) : (s.newLatch k chans).rg FLT_FIRST = s.rg FLT_FIRST := by
  obtain ⟨u, hu, hr⟩ := newLatch_record s k chans
  rw [hr.rg (by decide), rg_pulse _ _ (by decide), rg_of_regs hu, State.recordLatch, State.bump, rg_put_ne _ _ (by decide),
    rg_setRegBit_ne _ _ _ (by decide)]

theorem latched_latch (s : State) {k : Nat} (hk : k < 64) (chans : List Nat) (j : Nat) :
    (s.latch k chans).latched j = (s.latched j || decide (j = k)) := by
  cases h : s.latched k with
  | true =>
    rw [State.latched, rg_of_regs (latch_again h chans)]
    show s.latched j = _
    by_cases hj : j = k
    · rw [hj, h, Bool.true_or]
    · rw [decide_eq_false hj, Bool.or_false]
  | false =>
    rw [latch_new h, latched_newLatch _ hk, noteFirst_latched]
    by_cases hj : j = k <;> simp [hj]

/-- FLT_FIRST keeps the first bit of all. -/
theorem rg_first_latch {s : State} (h : s.rg FLT_STATUS ≠ 0) (k : Nat) (chans : List Nat) :
    (s.latch k chans).rg FLT_FIRST = s.rg FLT_FIRST := by
  cases hl : s.latched k with
  | true => exact rg_of_regs (latch_again hl chans) _
  | false => rw [latch_new hl, rg_first_newLatch, State.noteFirst, if_neg h]

/-- Settles O39: a new latch notes what is first and records its bit; a bit that is set writes no register. -/
theorem linesLatchOnce : Obligations.LinesLatchOnce := by
  unfold Obligations.LinesLatchOnce
  intro s k hk
  refine ⟨latched_latch s hk [], fun h => ?_, fun h => ?_, fun h => ?_, fun h => rg_first_latch h k []⟩
  · rw [latch_new h, get_latches_newLatch, State.get, noteFirst_rg s k (by decide) (by decide), State.get]
  · exact ⟨rg_of_regs (latch_again h []) _, rg_of_regs (latch_again h []) _⟩
  · have hl : s.latched k = false := by rw [State.latched, h, Nat.zero_testBit]
    have hrg : (s.latch k).rg FLT_FIRST = ((s.put F.FLT_FIRST_VALID 1).put F.FLT_FIRST_SRC k).rg FLT_FIRST := by
      rw [latch_new hl, rg_first_newLatch, State.noteFirst, if_pos h, rg_setRg_ne _ _ (by decide)]
    constructor
    · rw [State.get, hrg]
      exact (get_put_same _ _ (by decide)).trans (Nat.mod_eq_of_lt hk)
    · rw [State.get, hrg]
      exact (get_put_disjoint (f := F.FLT_FIRST_SRC) (g := F.FLT_FIRST_VALID) _ _ (by decide) rfl (by decide)).trans
        (get_put_same s 1 (by decide))

end Sys2Proof.Machine
end

section
/-! A scrapped engine stays scrapped (R479, R481, Table 17.5): its START halts it, and what still acts on it neither mends its fuses
nor unlocks its debug port. -/

namespace Sys2Proof.Machine

/-! ## A latch of an engine that starts leaves its security state -/

theorem TalksOnly.node {s t : State} (h : TalksOnly s t) : t.node = s.node := by rw [h]

theorem TalksOnly.sec {s t : State} (h : TalksOnly s t) : t.sec = s.sec := by rw [h]

theorem pinStep_node (s t : State) : (s.pinStep t).node = t.node := by
  unfold State.pinStep
  split <;> rfl

theorem pinStep_sec (s t : State) : (s.pinStep t).sec = t.sec := by
  unfold State.pinStep
  split <;> rfl

theorem pulse_node (s : State) (cls : Nat) : (s.pulse cls).node = s.node := by
  unfold State.pulse
  split
  · rfl
  · split
    · rfl
    · exact pinStep_node _ _

theorem pulse_sec (s : State) (cls : Nat) : (s.pulse cls).sec = s.sec := by
  unfold State.pulse
  split
  · rfl
  · split
    · rfl
    · exact pinStep_sec _ _

theorem policyPin_sec (s : State) : s.policyPin.sec = s.sec := by
  unfold State.policyPin
  split
  · rfl
  · exact (pinStep_sec _ _).trans (State.putBit_sec _ _ _)

theorem holdChans_sec (s : State) (k : Nat) (chans : List Nat) : (s.holdChans k chans).sec = s.sec :=
  foldl_keeps State.sec (fun s m => by dsimp only; split <;> rfl) _ _

/-- In START the reaction NODE_HOLD waits for step 12. -/
theorem reactHold_sec_of_start {s : State} (h : s.node.mode = .start) (k : Nat) : (s.reactHold k).sec = s.sec := by
  simp [State.reactHold, h]

theorem reactReset_sec_of_start {s : State} (h : s.node.mode = .start) (k : Nat) : (s.reactReset k).sec = s.sec := by
  unfold State.reactReset
  split
  · exact reactHold_sec_of_start h k
  · split
    · exact reactHold_sec_of_start (s := s.put F.FLT_RESET_HIST_DOWNGRADED 1) h k
    · rfl

theorem react_sec_of_start {s : State} (h : s.node.mode = .start) (k cls : Nat) (chans : List Nat) :
    (s.react k cls chans).sec = s.sec := by
  unfold State.react
  split
  · rfl
  · split
    · exact holdChans_sec _ k chans
    · rfl
  · exact reactHold_sec_of_start h k
  · exact reactReset_sec_of_start h k
  · rfl

/-- A new latch: its record, what is told of it, the pulse and the reaction. -/
theorem newLatch_eq (s : State) (k : Nat) (chans : List Nat) : ∃ u, TalksOnly ((s.recordLatch k).unbar (.clearFault k)) u ∧
    s.newLatch k chans = ((u.pulse (s.classOf k)).react k (s.classOf k) chans).policyPin := ⟨_, notify_talks _ _ _, rfl⟩

theorem recordLatch_node (s : State) (k : Nat) : (s.recordLatch k).node = s.node := by
  rw [State.recordLatch, State.bump_node, State.setRegBit, State.setRg_node]

theorem recordLatch_sec (s : State) (k : Nat) : (s.recordLatch k).sec = s.sec := by
  rw [State.recordLatch, State.bump_sec, State.setRegBit, State.setRg_sec]

theorem newLatch_sec_of_start {s : State} (h : s.node.mode = .start) (k : Nat) (chans : List Nat) :
    (s.newLatch k chans).sec = s.sec := by
  obtain ⟨u, hu, he⟩ := newLatch_eq s k chans
  have hmode : (u.pulse (s.classOf k)).node.mode = .start := by
    rw [pulse_node, hu.node, State.unbar, recordLatch_node, h]
  rw [he, policyPin_sec, react_sec_of_start hmode, pulse_sec, hu.sec, State.unbar, recordLatch_sec]

theorem noteFirst_node (s : State) (k : Nat) : (s.noteFirst k).node = s.node := by
  unfold State.noteFirst
  split <;> rfl

theorem noteFirst_sec (s : State) (k : Nat) : (s.noteFirst k).sec = s.sec := by
  unfold State.noteFirst
  split <;> rfl

theorem latch_sec_of_start {s : State} (h : s.node.mode = .start) (k : Nat) (chans : List Nat) : (s.latch k chans).sec = s.sec := by
  cases hl : s.latched k with
  | true =>
    unfold State.latch
    rw [if_pos hl]
    split
    · exact holdChans_sec s k chans
    · rfl
  | false => rw [latch_new hl, newLatch_sec_of_start (by rw [noteFirst_node, h]), noteFirst_sec]

/-! ## The START of a scrapped engine -/

/-- The selector's registers and the balls REF_STAT show its state; nothing else follows. -/
theorem showSelector_shows (s : State) : s.showSelector = { s with regs := s.showSelector.regs, out := s.showSelector.out } := by
  unfold State.showSelector
  extract_lets old b s1 code s2 s3
  have h1 : s1 = { s with regs := s1.regs } := by unfold s1; split <;> rfl
  have h3 : s3 = { s1 with regs := s3.regs, out := s3.out } := by unfold s3; split <;> rfl
  show ({ s3 with regs := _ } : State) = _
  rw [h3, h1]
  rfl

theorem checkRef5_regs (s : State) : s.checkRef 5 = { s with regs := (s.checkRef 5).regs } := rfl

theorem startRoot_sec {s : State} (h : s.node.mode = .start) : s.startRoot.sec = s.sec := by
  unfold State.startRoot
  extract_lets s1
  have h1 : s1.sec = s.sec ∧ s1.node = s.node := by
    unfold s1
    rw [showSelector_shows, checkRef5_regs]
    exact ⟨rfl, rfl⟩
  split
  · rw [latch_sec_of_start (by rw [h1.2, h]), h1.1]
  · exact h1.1

theorem lifecycle_scrapped {s : State} (h : s.fuses.lifecycle.testBit 4 = true) : s.lifecycle = 4 := if_pos h

theorem readStraps_node (s : State) : s.readStraps.node = s.node := by
  simp only [State.readStraps, State.put_node, State.putBit_node]

theorem readStraps_sec (s : State) : s.readStraps.sec = s.sec := by
  simp only [State.readStraps, State.put_sec, State.putBit_sec]

theorem restarted_started (s : State) (cause : StartCause) :
    (s.restarted cause).sec = Sec.reset ∧ (s.restarted cause).node.mode = .start := by
  unfold State.restarted
  extract_lets hist keep times reset _ _ _ t u
  rw [((OutOnly.emit_ite u _ _).trans (stopSelector_outOnly _ s) : OutOnly u _)]
  exact ⟨rfl, rfl⟩

/-- R67: step 3 of a full START halts an engine whose lifecycle bit 4 is blown. -/
theorem fullStart_scrapped {s : State} (h : s.fuses.lifecycle.testBit 4 = true) (cause : StartCause) : (s.fullStart cause).Scrapped := by
  obtain ⟨hfuses, -⟩ := fullStartKeepsFuses s cause
  refine ⟨by rw [hfuses, h], ?_⟩
  obtain ⟨hsec, hmode⟩ := restarted_started s.quiesced cause
  have hlife : (((s.quiesced.restarted cause).readStraps).startRoot).fuses.lifecycle.testBit 4 = true := by
    have hq : s.quiesced.kept = s.kept := kept_of_pins (quiesced_pins s)
    have hk := (startRoot_kept _).trans ((readStraps_kept _).trans (restarted_kept s.quiesced cause))
    simp only [State.kept, Prod.mk.injEq] at hq hk
    rw [hk.1, hq.1, h]
  have hroot : (((s.quiesced.restarted cause).readStraps).startRoot).sec = Sec.reset := by
    rw [startRoot_sec (by rw [readStraps_node, hmode]), readStraps_sec, hsec]
  rw [fullStart_eq]
  unfold State.startLife
  extract_lets life s1
  rw [if_pos (show life = 4 from lifecycle_scrapped hlife)]
  refine ⟨?_, ?_⟩
  · simp [State.alive]
  · show (((s.quiesced.restarted cause).readStraps).startRoot).sec.unlocked = false
    rw [hroot]
    rfl

/-! ## What acts on a scrapped engine -/

/-- Fuses, supply, reset pin, phase and unlock stay: all that `Scrapped` speaks of. -/
def KeepsScrap (s t : State) : Prop := t.fuses = s.fuses ∧ t.node = s.node ∧ t.sec.unlocked = s.sec.unlocked

theorem KeepsScrap.scrapped {s t : State} (h : KeepsScrap s t) (hs : s.Scrapped) : t.Scrapped := by
  obtain ⟨hf, hn, hu⟩ := h
  obtain ⟨hbit, hdead, hlock⟩ := hs
  refine ⟨by rw [hf, hbit], ?_, by rw [hu, hlock]⟩
  rw [← hdead, State.alive, State.alive, hn]

/-- Adding the value of a clear bit sets that bit. -/
theorem add_two_pow_eq_withField {n k : Nat} (h : n.testBit k = false) : n + 2 ^ k = withField n k 1 1 := by
  have hq : n / 2 ^ k % 2 = 0 := by
    rw [Nat.testBit_eq_decide_div_mod_eq, decide_eq_false_iff_not] at h
    omega
  have hn := Nat.div_add_mod n (2 ^ k)
  obtain ⟨c, hc⟩ : ∃ c, n / 2 ^ k = 2 * c := ⟨n / 2 ^ k / 2, by omega⟩
  have hd : n / 2 ^ (k + 1) = c := by rw [pow_succ, ← Nat.div_div_eq_div_mul, hc, Nat.mul_div_cancel_left _ (by decide)]
  rw [withField, hd, pow_succ]
  rw [hc] at hn
  calc n + 2 ^ k = 2 ^ k * (2 * c) + n % 2 ^ k + 2 ^ k := by rw [hn]
    _ = c * (2 ^ k * 2) + 1 % 2 ^ 1 * 2 ^ k + n % 2 ^ k := by ring

/-- A blown fuse stays blown, whatever is blown beside it (R479). -/
theorem testBit_blow (s : State) (k : Nat) {j : Nat} (h : s.fuses.lifecycle.testBit j = true) :
    (s.blow k).fuses.lifecycle.testBit j = true := by
  cases hk : s.fuses.lifecycle.testBit k with
  | true => simp [State.blow, hk, h]
  | false =>
    have hj : ¬ (k ≤ j ∧ j < k + 1) := fun hjk => by
      rw [show j = k by omega, hk] at h
      exact Bool.false_ne_true h
    simp only [State.blow, hk, Bool.false_eq_true, if_false, add_two_pow_eq_withField hk]
    rw [testBit_withField, if_neg hj, h]

theorem powerOn_scrapped {s : State} (straps density : Nat) (h : s.Scrapped) : (effPowerOn straps density s).Scrapped := by
  unfold effPowerOn
  split
  · exact h
  · obtain ⟨hbit, -⟩ := h
    dsimp only
    exact fullStart_scrapped (by exact hbit) _

theorem resetNRise_scrapped {s : State} (straps density : Nat) (h : s.Scrapped) : (effResetNRise straps density s).Scrapped := by
  unfold effResetNRise
  split
  · exact h
  · obtain ⟨hbit, -⟩ := h
    dsimp only
    exact fullStart_scrapped (by exact hbit) _

theorem stopAll_scrapped {s : State} (h : s.fuses.lifecycle.testBit 4 = true) (group image : Nat) (powered : Bool) :
    (s.stopAll group image powered).Scrapped := by
  obtain ⟨hpow, hres, -, hfuses, -⟩ := stopAll_spec s group image powered rfl
  refine ⟨by rw [hfuses, h], by simp [State.alive, hpow, hres], ?_⟩
  rw [stopAll_eq, State.setRg_sec, stoppedOut_outOnly]
  rfl

theorem resetNLow_scrapped {s : State} (group image : Nat) (h : s.Scrapped) : (effResetNLow group image s).Scrapped := by
  obtain ⟨hbit, -⟩ := id h
  unfold effResetNLow
  split
  · exact h
  · split
    · exact h
    · exact stopAll_scrapped hbit _ _ _

theorem powerLoss_scrapped {s : State} (group image : Nat) (h : s.Scrapped) : (effPowerLoss group image s).Scrapped := by
  obtain ⟨hbit, -⟩ := id h
  unfold effPowerLoss
  split
  · exact h
  · exact stopAll_scrapped hbit _ _ _

/-- ZEROIZE_N begins no erasure in SCRAPPED: it shows its level. -/
theorem zeroizeNLow_scrapped {s : State} (still : Bool) (h : s.Scrapped) : (effZeroizeNLow still s).Scrapped := by
  obtain ⟨hbit, -⟩ := id h
  have hk : KeepsScrap s (effZeroizeNLow still s) := by
    unfold effZeroizeNLow
    split
    · exact ⟨rfl, rfl, rfl⟩
    · have hlife : (s.putBit F.SEC_ZEROIZE_LEVEL still).lifecycle = 4 := lifecycle_scrapped hbit
      simp only [hlife]
      exact ⟨rfl, rfl, rfl⟩
  exact hk.scrapped h

/-- The erasure's end blows RETURN beside SCRAPPED, and the START it begins halts the engine again. -/
theorem returnEraseDone_scrapped {s : State} (h : s.Scrapped) : (effReturnEraseDone s).Scrapped := by
  obtain ⟨hbit, hdead, hlock⟩ := id h
  unfold effReturnEraseDone
  split
  · exact h
  · extract_lets _ _ s1 s2
    have hb : s2.fuses.lifecycle.testBit 4 = true := testBit_blow s1 3 hbit
    split
    · exact ⟨hb, hdead, hlock⟩
    · exact fullStart_scrapped hb _

/-! The debug port: nothing of it reaches a scrapped engine (Table 17.10) -/

theorem tapOff_scrapped {s : State} (h : s.Scrapped) : s.tapOn = false := by
  obtain ⟨hbit, -⟩ := h
  simp [State.tapOn, lifecycle_scrapped hbit]

theorem tapSeen_keepsScrap (s : State) : KeepsScrap s s.tapSeen := by
  unfold State.tapSeen
  split <;> exact ⟨rfl, rfl, rfl⟩

theorem bypass_keepsScrap (s : State) : KeepsScrap s s.bypass := by
  unfold State.bypass
  split
  · exact ⟨rfl, rfl, rfl⟩
  · exact tapSeen_keepsScrap s

/-- No unlock is active that could end. -/
theorem endUnlock_locked {s : State} (h : s.sec.unlocked = false) (l : Nat) : s.endUnlock l = s := by
  unfold State.endUnlock
  rw [h]
  rfl

theorem idcode_keepsScrap (s : State) : KeepsScrap s (effIdcode s) := by
  unfold effIdcode
  split
  · exact ⟨rfl, rfl, rfl⟩
  · exact tapSeen_keepsScrap s

theorem tapReset_keepsScrap {s : State} (h : s.sec.unlocked = false) : KeepsScrap s (effDbgTapReset s) := by
  unfold effDbgTapReset
  split
  · exact ⟨rfl, rfl, rfl⟩
  · obtain ⟨hf, hn, hu⟩ := tapSeen_keepsScrap s
    rw [endUnlock_locked (by exact hu.trans h)]
    exact ⟨hf, hn, hu⟩

theorem tckLoss_keepsScrap {s : State} (h : s.sec.unlocked = false) : KeepsScrap s (effDbgTckLoss s) := by
  unfold effDbgTckLoss
  rw [endUnlock_locked (by exact h)]
  exact ⟨rfl, rfl, rfl⟩

/-! ## Every command -/

theorem always_scrapped {s t : State} {f : State → State} (he : always s f = .next t) (h : (f s).Scrapped) : t.Scrapped := by
  cases he
  exact h

/-- A command that needs a running engine has no effect on a scrapped one. -/
theorem runs_scrapped {s t : State} {f : State → State} (he : runs s f = .next t) (h : s.Scrapped) : t.Scrapped := by
  obtain ⟨-, hdead, -⟩ := id h
  rw [runs_not_alive f hdead] at he
  cases he
  exact h

theorem tapRuns_scrapped {s t : State} {f : State → State} (he : tapRuns s f = .next t) (hf : KeepsScrap s (f s)) (h : s.Scrapped) :
    t.Scrapped := by
  refine always_scrapped he ?_
  split
  · exact hf.scrapped h
  · exact h

/-- An instruction the debug port turns away is BYPASS. -/
theorem tapRuns_scrapped_of_bypass {s t : State} {f : State → State} (he : tapRuns s f = .next t) (hf : f s = s.bypass)
    (h : s.Scrapped) : t.Scrapped := tapRuns_scrapped he (hf ▸ bypass_keepsScrap s) h

/-- What the pins, the supplies, the erasure's end and the debug port do is as above; every other command needs a running engine. -/
theorem exec_scrapped (c : Instr) {s t : State} (h : s.Scrapped) (he : exec c s = .next t) : t.Scrapped := by
  obtain ⟨-, -, hlock⟩ := id h
  have hoff := tapOff_scrapped h
  cases c
  case powerOn straps density => exact always_scrapped he (powerOn_scrapped straps density h)
  case resetNRise straps density => exact always_scrapped he (resetNRise_scrapped straps density h)
  case resetNLow group image => exact always_scrapped he (resetNLow_scrapped group image h)
  case powerLoss group image => exact always_scrapped he (powerLoss_scrapped group image h)
  case zeroizeNLow still => exact always_scrapped he (zeroizeNLow_scrapped still h)
  case returnEraseDone => exact always_scrapped he (returnEraseDone_scrapped h)
  case idcode => exact tapRuns_scrapped he (idcode_keepsScrap s) h
  case bypass => exact tapRuns_scrapped_of_bypass he rfl h
  case samplePreload bits v => exact tapRuns_scrapped_of_bypass he (by simp [effSamplePreload, hoff]) h
  case extest bits v => exact tapRuns_scrapped_of_bypass he (by simp [effExtest, hoff]) h
  case dbgStatus => exact tapRuns_scrapped_of_bypass he (by simp [effDbgStatus, hoff]) h
  case dbgReq l => exact tapRuns_scrapped_of_bypass he (by simp [effDbgReq, hoff]) h
  case dbgChal => exact tapRuns_scrapped_of_bypass he (by simp [effDbgChal, hoff]) h
  case dbgUnlock sig => exact tapRuns_scrapped_of_bypass he (by simp [effDbgUnlock, hoff]) h
  case diagRead a => exact tapRuns_scrapped_of_bypass he (by simp [effDiagRead, hoff]) h
  case mortar q => exact tapRuns_scrapped_of_bypass he (by simp [effTapMortar, hoff]) h
  case dbgTapReset => exact tapRuns_scrapped he (tapReset_keepsScrap hlock) h
  case dbgTckLoss => exact tapRuns_scrapped he (tckLoss_keepsScrap hlock) h
  case dbgChallengeExpiry => exact tapRuns_scrapped he ⟨rfl, rfl, rfl⟩ h
  case dbgUnlockBackoffEnd => exact tapRuns_scrapped he ⟨rfl, rfl, rfl⟩ h
  case listenWindowEnd => exact runs_scrapped ((exec_listenWindowEnd s).symm.trans he) h
  case imageStart => exact runs_scrapped ((exec_imageStart s).symm.trans he) h
  case handoverEffective => exact runs_scrapped ((exec_handoverEffective s).symm.trans he) h
  case swapAbandon => exact runs_scrapped ((exec_swapAbandon s).symm.trans he) h
  case fadeEnd i => exact runs_scrapped ((exec_fadeEnd s).symm.trans he) h
  all_goals exact runs_scrapped he h

/-- Settles O3: an idle step changes nothing, and no command brings the engine back. -/
theorem scrappedEnginesStayScrapped : Obligations.ScrappedEnginesStayScrapped := by
  unfold Obligations.ScrappedEnginesStayScrapped
  intro s t h he
  cases hq : s.pending with
  | nil =>
    rw [step_idle hq] at he
    cases he
    exact h
  | cons c q =>
    rw [step_front hq] at he
    exact exec_scrapped c (s := { s with pending := q }) h he

end Sys2Proof.Machine
end

section
/-! Requests and replies of a session (R485, R489, R491), READ and WRITE (R487), provisioning and the lifecycle requests (R480 to
R482). -/

namespace Sys2Proof.Machine

/-! ## What takes a request in -/

/-- The body of a request, over which its TAG is made. -/
def requestBody (op : Nat) (r : KmpReq) : List Byte := beBytes 2 op ++ beBytes 2 r.reqId ++ r.args

/-- The TAG of a message is that of its session, or the session asks for none. -/
def Session.trusts (x : Session) (h : KmpHead) (type : Nat) (body : List Byte) : Prop :=
  x.auth = false ∨ h.tag = some (kmpTag x.key x.num type h.seq body)

theorem authentic_trusted {s : State} {h : KmpHead} {type : Nat} {body : List Byte} {x : Session} (hup : s.kmpUp = true)
    (hx : s.session h.session = some x) (ht : x.trusts h type body) : s.authentic h type body = (s, some x) := by
  unfold State.authentic
  rw [hup, if_pos rfl, hx]
  refine if_neg fun hbad => ?_
  rcases ht with ha | ha <;> simp [ha] at hbad

theorem authentic_untrusted {s : State} {h : KmpHead} {type : Nat} {body : List Byte} {x : Session} (hup : s.kmpUp = true)
    (hx : s.session h.session = some x) (ht : ¬ x.trusts h type body) : s.authentic h type body = (s.badMessage false, none) := by
  obtain ⟨ha, hg⟩ := not_or.1 ht
  unfold State.authentic
  rw [hup, if_pos rfl, hx]
  exact if_pos (by simp [hg, Bool.eq_true_of_not_eq_false ha])

/-- The reply to a request that a session has stored. -/
def Session.stored (x : Session) (seq : Nat) (body : List Byte) : Prop := ∃ e ∈ x.replies, e.seq = seq ∧ e.request = body

/-- An authentic request to which no reply is stored is new or old by its SEQ. -/
theorem takeRequest_of_trusted {s : State} {op : Nat} {r : KmpReq} {x : Session} (hup : s.kmpUp = true)
    (hx : s.session r.head.session = some x) (ht : x.trusts r.head 0x10 (requestBody op r)) (hs : ¬ x.stored r.head.seq (requestBody op r)) :
    s.takeRequest op r = if r.head.seq ≤ x.rxSeq then (s.badMessage true, none)
      else (s.mapSession x.num (fun y => { y with
        rxSeq := r.head.seq, replies := ⟨r.head.seq, requestBody op r, []⟩ :: y.replies.take 15 }), some x) := by
  have hnone : x.replies.find? (fun (e : StoredReply) => e.seq == r.head.seq && e.request == requestBody op r) = none := by
    rw [List.find?_eq_none]
    intro e he hmatch
    obtain ⟨hseq, hreq⟩ : e.seq = r.head.seq ∧ e.request = requestBody op r := by simpa using hmatch
    exact hs ⟨e, he, hseq, hreq⟩
  have hauth : s.authentic r.head 0x10 (beBytes 2 op ++ beBytes 2 r.reqId ++ r.args) = (s, some x) := authentic_trusted hup hx ht
  unfold requestBody at hnone
  unfold State.takeRequest
  simp only [hauth, hnone]
  rfl

theorem takeRequest_of_untrusted {s : State} {op : Nat} {r : KmpReq} {x : Session} (hup : s.kmpUp = true)
    (hx : s.session r.head.session = some x) (ht : ¬ x.trusts r.head 0x10 (requestBody op r)) :
    s.takeRequest op r = (s.badMessage false, none) := by
  have hauth : s.authentic r.head 0x10 (beBytes 2 op ++ beBytes 2 r.reqId ++ r.args) = (s.badMessage false, none) :=
    authentic_untrusted hup hx ht
  unfold State.takeRequest
  simp only [hauth]

/-- Settles O19: the TAG decides first, then the stored replies, then the SEQ. -/
theorem requestsAreAuthenticAndNew : Obligations.RequestsAreAuthenticAndNew := by
  unfold Obligations.RequestsAreAuthenticAndNew
  intro s op r x hup hx
  refine ⟨fun ht hs hseq => ?_, fun ht hs hseq => ?_, fun ht => ?_⟩
  · exact (takeRequest_of_trusted hup hx ht hs).trans (if_neg (Nat.not_le.2 hseq))
  · exact (takeRequest_of_trusted hup hx ht hs).trans (if_pos hseq)
  · exact takeRequest_of_untrusted hup hx ht

/-! ## Replies -/

theorem session_sendKmp {s : State} {n : Nat} {x : Session} (h : s.session n = some x) (type : Nat) (body : List Byte) (m : Nat) :
    (s.sendKmp n type body).session m = (s.mapSession n (fun y => { y with txSeq := x.txSeq + 1 })).session m := by
  rw [State.session, sendKmp_sessions h]
  rfl

/-- Settles O20: a reply is stored in its session and sent on it, which counts its SEQ. -/
theorem repliesGoOutOnce : Obligations.RepliesGoOutOnce := by
  unfold Obligations.RepliesGoOutOnce
  intro s n op reqId status results x hx hn body t
  let store : Session → Session := fun y => { y with replies := keepReply body y.replies }
  let count : Session → Session := fun y => { y with txSeq := x.txSeq + 1 }
  let kept : State := s.mapSession n store
  have hk : kept.session n = some (store x) := by
    rw [show kept.session n = _ from session_mapSession_same s n store (fun _ => rfl), hx]
    rfl
  have ht : t = kept.sendKmp n 0x11 body := rfl
  have hsend := sendKmp_of_session hk 0x11 body
  refine ⟨?_, ?_, ?_, ?_, fun m hm => ?_⟩
  · have htalk : TalksOnly s t := reply_talks s n op reqId status results
    have hout : t.out = s.out ++ (if s.get F.PWR_STAT_STATE = 4 then [] else [.kmp n 0x11 (x.txSeq + 1) body
        (if x.auth then kmpTag x.key n 0x11 (x.txSeq + 1) body else [])]) := by
      by_cases h4 : s.get F.PWR_STAT_STATE = 4
      · rw [if_pos h4, List.append_nil, ht, hsend]
        exact (congrArg State.out (if_pos (show kept.get F.PWR_STAT_STATE = 4 from h4))).trans rfl
      · rw [ht, sendKmp_out hk h4, if_neg h4]
        rfl
    rw [← hout]
    exact htalk
  · refine ⟨count (store x), ?_, rfl⟩
    rw [ht, session_sendKmp hk]
    exact (session_mapSession_same kept n count (fun _ => rfl)).trans (by rw [hk]; rfl)
  · rw [ht, hsend]
    dsimp only
    split <;> rfl
  · rw [ht, hsend]
    dsimp only
    split <;> rfl
  · rw [ht, session_sendKmp hk]
    exact (session_mapSession_ne kept count (fun _ => rfl) hm).trans (session_mapSession_ne s store (fun _ => rfl) hm)

/-! ## READ and WRITE -/

theorem readWords_length (s : State) (m : Master) (n a : Nat) : (s.readWords m n a).2.length = 4 * n := by
  induction n generalizing s a with
  | zero => rfl
  | succ n ih =>
    rw [State.readWords, List.length_append, leBytes_length, ih]
    omega

/-- Settles O23: the range is judged whole; what it allows is read or written and then answered. -/
theorem readsAndWritesOfRanges : Obligations.ReadsAndWritesOfRanges := by
  unfold Obligations.ReadsAndWritesOfRanges
  refine fun s u r x => ⟨fun h hk => ⟨?_, readWords_length _ _ _ _⟩, fun h hk => ?_, fun h hk => ?_, fun h hk => ?_⟩
  · exact gives_request (exec_read s) h ((if_neg (not_not.2 hk)).trans (status_ok _ _ _ _ _))
  · exact gives_request (exec_write s) h ((if_neg (not_not.2 hk)).trans (status_ok _ _ _ _ _))
  · exact gives_request (exec_read s) h ((if_pos hk).trans (status_nil _ _ _ _ _))
  · exact gives_request (exec_write s) h ((if_pos hk).trans (status_nil _ _ _ _ _))

/-! ## Provisioning (R480) -/

theorem TalksOnly.fuses {s t : State} (h : TalksOnly s t) : t.fuses = s.fuses := by rw [h]

theorem TalksOnly.store {s t : State} (h : TalksOnly s t) : t.store = s.store := by rw [h]

theorem writeBank_free {s : State} {k : Nat} (hl : s.lifecycle = 0) (hf : s.bankFree k = true) (f : Fuses → Fuses) :
    s.writeBank k true f = ({ s with fuses := { f s.fuses with written := k :: (f s.fuses).written } }, 0) := by
  simp [State.writeBank, hl, hf]

theorem writeBank_failed {s : State} {k : Nat} (hl : s.lifecycle = 0) (hf : s.bankFree k = true) (f : Fuses → Fuses) :
    s.writeBank k false f = ({ s with fuses := { s.fuses with failed := k :: s.fuses.failed } }, 9) := by
  simp [State.writeBank, hl, hf]

theorem writeBank_taken {s : State} {k : Nat} (hl : s.lifecycle = 0) (hf : s.bankFree k = false) (ok : Bool) (f : Fuses → Fuses) :
    s.writeBank k ok f = (s, 0xA) := by
  simp [State.writeBank, hl, hf]

theorem setMedium_legal {s : State} {m : Nat} (hm : m = 1 ∨ m = 2) (ok : Bool) :
    s.setMedium m ok = s.writeBank 0 ok (fun u => { u with medium := m }) := by
  unfold State.setMedium
  rcases hm with rfl | rfl <;> simp

theorem beBytes_length (n v : Nat) : (beBytes n v).length = n := by
  rw [beBytes, List.length_reverse, leBytes_length]

/-! ## The lifecycle (R480 to R482) -/

theorem gives_lifeOp {i : Instr} {s u : State} {op code : Nat} {r : KmpReq} {x : Session}
    (he : exec i s = runs s (fun s => s.lifeOp op code r)) (h : s.Accepts op r x u) (hk : u.lifecycleRefusal code x.auth = 0) :
    Gives i s ((u.reply x.num op r.reqId 0 []).lifecycleChange code) :=
  gives_request he h ((if_neg (not_not.2 hk)).trans (by rw [status_ok]))

theorem testBit_blow_same (s : State) (k : Nat) : (s.blow k).fuses.lifecycle.testBit k = true := by
  cases hk : s.fuses.lifecycle.testBit k with
  | true => simp [State.blow, hk]
  | false =>
    simp only [State.blow, hk, Bool.false_eq_true, if_false, add_two_pow_eq_withField hk]
    simp [testBit_withField]

/-- Settles O27: a bank by whether it is free and reads back; a lifecycle request answers, then blows its fuse. -/
theorem provisioningAndLifecycleRequests : Obligations.ProvisioningAndLifecycleRequests := by
  unfold Obligations.ProvisioningAndLifecycleRequests
  refine ⟨fun s u r x hl => ⟨fun h hm hf => ?_, fun h hf => ?_, fun h hf => ?_, fun h hf => ?_, fun h hm hf => ?_, fun h hf => ?_⟩,
    fun s u r x => ⟨fun h hk => ?_, fun h hk => ?_, fun h hk => ?_, fun h hk hd => ?_, fun h hk hd => ?_⟩⟩
  · exact gives_request (exec_setMedium s) h (by simp only [setMedium_legal hm, writeBank_free hl hf, status_ok])
  · exact gives_request (exec_setDeviceKey s) h (by simp only [State.setDeviceKey, writeBank_free hl hf, status_ok])
  · refine ⟨_, gives_request (exec_genSignKey s) h rfl, ?_⟩
    simp only [State.genSignKey, writeBank_free hl hf, status_ok]
    have hfuses := fun t : State => (reply_talks t x.num 0x82 r.reqId 0 t.fuses.signPub).fuses
    rw [hfuses]
    exact ⟨List.mem_cons_self, beBytes_length _ _, rfl⟩
  · exact gives_request (exec_setOwnerKey s) h (by simp only [State.setOwnerKey, writeBank_free hl hf, status_ok])
  · exact gives_request (exec_setMedium s) h (by simp only [setMedium_legal hm, writeBank_taken hl hf, status_nil])
  · exact gives_request (exec_setDeviceKey s) h (by simp only [State.setDeviceKey, writeBank_failed hl hf, status_nil])
  · exact gives_lifeOp (exec_commit s) h hk
  · exact gives_lifeOp (exec_seal s) h hk
  · have htalk := reply_talks u x.num 0x91 r.reqId 0 []
    refine ⟨_, gives_lifeOp (exec_return_ s) h hk, testBit_blow_same _ 2, rfl, ?_, htalk.node, htalk.regs, htalk.store⟩
    rw [← htalk.fuses]
    rfl
  · exact gives_request (exec_scrap s) h ((if_neg (not_not.2 hk)).trans ((if_neg (not_not.2 hd)).trans (by rw [status_ok]; rfl)))
  · exact gives_request (exec_scrap s) h ((if_neg (not_not.2 hk)).trans ((if_pos hd).trans (status_nil _ _ _ _ _)))

end Sys2Proof.Machine
end

section
/-! The fault collector's commands (R447, R456, R457, R463, Table 16.1). -/

namespace Sys2Proof.Machine

/-! ## Writes of FLT_STATUS and FLT_SOFT -/

theorem findReg_fltStatus : findReg FLT_STATUS = some (⟨FLT_STATUS, 1, 0, 1, 0, 64, 0, [⟨0, 64, .w1c, []⟩]⟩, 0, 0) := by decide +kernel

theorem findReg_fltSoft : findReg FLT_SOFT = some (⟨FLT_SOFT, 1, 0, 1, 0, 32, 0, [⟨0, 1, .wo, []⟩, ⟨1, 1, .wo, []⟩]⟩, 0, 0) := by
  decide +kernel

theorem written_fltStatus (s : State) (m : Master) (new cmd : Nat) :
    s.written m FLT_STATUS new cmd = (s.clearFaults cmd).tryRelease := by
  rw [State.written, if_neg (by decide), if_pos (by decide), State.fltWritten, if_pos rfl]

theorem written_fltSoft (s : State) (m : Master) (new cmd : Nat) : s.written m FLT_SOFT new cmd =
    if cmd.testBit 1 then (if cmd.testBit 0 then s.latch 61 else s).latch 63 else if cmd.testBit 0 then s.latch 61 else s := by
  rw [State.written, if_neg (by decide), if_pos (by decide), State.fltWritten, if_neg (by decide), if_pos rfl]

/-- The whole of FLT_STATUS is written to name bits that are to clear. -/
theorem busWrite_fltStatus {s : State} {m : Master} (hm : s.mayReach m FLT_STATUS true = true) (hw : s.mayWrite m FLT_STATUS 0 = true)
    {x : Nat} (hx : x < 2 ^ 64) : s.busWrite m FLT_STATUS true x = ((s.clearFaults x).tryRelease, .done 0) := by
  have hmod : x % 18446744073709551616 = x := Nat.mod_eq_of_lt hx
  have hcmd : withField 0 0 64 x = x := by
    simp only [withField]
    omega
  have hwrite : s.writeReg m FLT_STATUS true x = (s.clearFaults x).tryRelease := by
    simp [State.writeReg, findReg_fltStatus, RegDef.instAddr, State.commandBits, hw, written_fltStatus, fieldOf, hmod, hcmd]
  have hreg : regionAt FLT_STATUS = .regs := by decide
  have hal : FLT_STATUS % 8 = 0 := by decide
  simp [State.busWrite, hal, hm, hreg, hwrite, findReg_fltStatus, RegDef.instAddr]

/-- Bits 0 and 1 of FLT_SOFT have the same writers. -/
theorem mayWrite_fltSoft (s : State) (m : Master) : s.mayWrite m FLT_SOFT 1 = s.mayWrite m FLT_SOFT 0 := by
  have hwriters : writersOf FLT_SOFT 1 = writersOf FLT_SOFT 0 := by decide
  simp only [State.mayWrite, hwriters]

/-- SOFT0 and SOFT1 of FLT_SOFT latch their bits. -/
theorem busWrite_fltSoft {s : State} {m : Master} (hm : s.mayReach m FLT_SOFT true = true) (hw : s.mayWrite m FLT_SOFT 0 = true)
    {x : Nat} (hx : x < 4) : s.busWrite m FLT_SOFT false x =
      (if x.testBit 1 then (if x.testBit 0 then s.latch 61 else s).latch 63 else if x.testBit 0 then s.latch 61 else s, .done 0) := by
  have hmod : x % 4294967296 = x := Nat.mod_eq_of_lt (by omega)
  have hcmd : withField (withField 0 0 1 (x % 2)) 1 1 (x / 2 % 2) = x := by
    simp only [withField]
    omega
  have hwrite : s.writeReg m FLT_SOFT false x =
      if x.testBit 1 then (if x.testBit 0 then s.latch 61 else s).latch 63 else if x.testBit 0 then s.latch 61 else s := by
    simp [State.writeReg, findReg_fltSoft, RegDef.instAddr, State.commandBits, hw, mayWrite_fltSoft, fieldOf, hmod, hcmd, written_fltSoft]
  have hreg : regionAt FLT_SOFT = .regs := by decide
  have hal : FLT_SOFT % 4 = 0 := by decide
  simp [State.busWrite, hal, hm, hreg, hwrite]

/-! ## Clears by the policy -/

theorem tryRelease_record (s : State) : KeepsRecord s s.tryRelease := by
  unfold State.tryRelease
  extract_lets dest _ s1 s2 s3
  have h2 : KeepsRecord s s2 := .of_regs rfl
  have h3 : KeepsRecord s2 s3 := .ite (.put _ _ (by decide)) (.refl _)
  have hmute : ∀ t : State, KeepsRecord t t.serviceMute := fun t => .ite (.of_regs rfl) (.of_regs rfl)
  exact .ite (.refl s) (h2.trans (h3.trans ((setMode_record s3 dest).trans (hmute _))))

/-- The policy clears one bit; what follows of it leaves the record. -/
theorem latched_autoClear {s : State} {k : Nat} (hk : k < 64) (hl : s.latched k = true) (ha : s.bit (F.FLT_CFG_AUTO k) = true)
    (hc : s.causePresent k = false) (hp : s.present = false) (j : Nat) :
    (effFaultAutoClear k s).latched j = if j = k then false else s.latched j := by
  have hact : s.policyActs = true := by rw [State.policyActs, hp]; rfl
  have he : ∃ t : State, t.regs = (s.clearFault k).policyPin.regs ∧ effFaultAutoClear k s = t.tryRelease := by
    unfold effFaultAutoClear
    rw [if_neg (by simp [hl, ha, hc]), if_pos hact]
    extract_lets held t1 _ t2
    refine ⟨t2, ?_, rfl⟩
    unfold t2
    split <;> rfl
  obtain ⟨t, ht, he⟩ := he
  rw [he, (tryRelease_record t).latched, (KeepsRecord.of_regs ht).latched, (policyPin_record _).latched, latched_clearFault hk hl hc]

/-! ## The die temperature -/

theorem tj_put (s : State) (t : BitVec 16) : (s.put F.FLT_TJ_TEMP t.toNat).tj = t.toInt := by
  have hget : (s.put F.FLT_TJ_TEMP t.toNat).get F.FLT_TJ_TEMP = t.toNat :=
    (get_put_same s _ (by decide)).trans (Nat.mod_eq_of_lt t.isLt)
  rw [State.tj, State.getS, hget, signed, BitVec.toInt]
  have ht := t.isLt
  simp only []
  split <;> split <;> omega

theorem highThr_put_temp (s : State) (v : Nat) : (s.put F.FLT_TJ_TEMP v).get F.FLT_TJ_HIGH_THR = s.get F.FLT_TJ_HIGH_THR :=
  get_put_disjoint s v (by decide) rfl (by decide)

theorem effTjUpdate_eq (s : State) (t : BitVec 16) : effTjUpdate t s = (s.put F.FLT_TJ_TEMP t.toNat).latchAll
    ((if (s.get F.FLT_TJ_HIGH_THR : Int) * 256 < t.toInt then [54] else []) ++ (if 115 * 256 < t.toInt then [55] else [])) := by
  unfold effTjUpdate
  simp only [tj_put, highThr_put_temp]

theorem effTjUpdate_cool {s : State} {t : BitVec 16} (hh : t.toInt ≤ (s.get F.FLT_TJ_HIGH_THR : Int) * 256) (hc : t.toInt ≤ 115 * 256) :
    effTjUpdate t s = s.put F.FLT_TJ_TEMP t.toNat := by
  rw [effTjUpdate_eq, if_neg (not_lt.2 hh), if_neg (not_lt.2 hc), List.append_nil, State.latchAll, List.foldl_nil]

theorem effTjUpdate_high {s : State} {t : BitVec 16} (hh : (s.get F.FLT_TJ_HIGH_THR : Int) * 256 < t.toInt) (hc : t.toInt ≤ 115 * 256) :
    effTjUpdate t s = (s.put F.FLT_TJ_TEMP t.toNat).latch 54 := by
  rw [effTjUpdate_eq, if_pos hh, if_neg (not_lt.2 hc), List.append_nil, State.latchAll, List.foldl_cons, List.foldl_nil]

/-! ## The scrubber -/

/-- The queue a command gives back is the one it was given. -/
theorem OnlyRegs.withPending {l : List Nat} {s t : State} (h : OnlyRegs l s t) : OnlyRegs l s { t with pending := s.pending } := by
  obtain ⟨ht, hr⟩ := h
  refine ⟨?_, hr⟩
  rw [ht]

theorem withField_fieldOf_self {v lo w : Nat} : withField v lo w (fieldOf v lo w) = v := by
  apply Nat.eq_of_testBit_eq
  intro i
  rw [testBit_withField]
  split
  · rename_i h
    rw [testBit_fieldOf, decide_eq_true (by omega), Bool.true_and, Nat.add_sub_cancel' h.1]
  · rfl

/-- A counter counted up by nothing. -/
theorem rg_bump_zero (s : State) (f : Fld) (a : Nat) : (s.bump f 0).rg a = s.rg a := by
  have hmin : min (2 ^ f.width - 1) (s.get f + 0) = s.get f := by
    have := get_lt s f
    omega
  rw [State.bump, hmin, State.put, State.get, withField_fieldOf_self, rg_setRg]
  split
  · rename_i h
    rw [Nat.mod_eq_of_lt (rg_lt s _), h]
  · rfl

theorem bump_zero_onlyRegs (l : List Nat) (s : State) (f : Fld) : OnlyRegs l s (s.bump f 0) := ⟨rfl, fun a _ => rg_bump_zero s f a⟩

/-- The counts of the pass before, and the rows it reports. -/
def State.scrubCounted (s : State) (a : Nat) (fixed bad : List Nat) : State :=
  bad.foldl (fun u r => u.scrubBad a r) (fixed.foldl (fun u r => u.scrubCorrected a r)
    ((s.bump (F.FLT_SCRUB_STAT_CORRECTED a) fixed.length).bump (F.FLT_SCRUB_STAT_UNCORR a) bad.length))

theorem effScrubPassStart_eq (s : State) (a : Nat) (ended : Bool) (fixed bad : List Nat) :
    effScrubPassStart a ended fixed bad s =
      let u := s.scrubCounted a (fixed.filter (fun r => decide (r < scrubRows a))) (bad.filter (fun r => decide (r < scrubRows a)))
      if !u.flt.scrubbing.contains a then { u with flt := { u.flt with scrubbing := a :: u.flt.scrubbing } }
      else if ended then u.bumpWrap (F.FLT_SCRUB_STAT_PASSES a) else u.latch 57 := rfl

theorem scrubCounted_nil (s : State) (a : Nat) : s.scrubCounted a [] [] =
    (s.bump (F.FLT_SCRUB_STAT_CORRECTED a) 0).bump (F.FLT_SCRUB_STAT_UNCORR a) 0 := rfl

theorem scrubCounted_nil_onlyRegs (l : List Nat) (s : State) (a : Nat) : OnlyRegs l s (s.scrubCounted a [] []) := by
  rw [scrubCounted_nil]
  exact (bump_zero_onlyRegs l s _).trans (bump_zero_onlyRegs l _ _)

theorem rg_scrubCounted_nil (s : State) (a b : Nat) : (s.scrubCounted a [] []).rg b = s.rg b := by
  rw [scrubCounted_nil, rg_bump_zero, rg_bump_zero]

theorem get_scrubCounted_nil (s : State) (a : Nat) (f : Fld) : (s.scrubCounted a [] []).get f = s.get f := by
  rw [State.get, rg_scrubCounted_nil, State.get]

/-- A pass that reports nothing counts itself. -/
theorem effScrubPassStart_quiet {s : State} {a : Nat} (h : s.flt.scrubbing.contains a = true) :
    effScrubPassStart a true [] [] s = (s.scrubCounted a [] []).bumpWrap (F.FLT_SCRUB_STAT_PASSES a) := by
  have hrun : ¬ (!(s.scrubCounted a [] []).flt.scrubbing.contains a) = true := by
    rw [scrubCounted_nil, State.bump_flt, State.bump_flt, h]
    exact Bool.false_ne_true
  exact (effScrubPassStart_eq s a true [] []).trans ((if_neg hrun).trans (if_pos rfl))

/-- Such a pass writes its own count alone, and leaves those of its rows. -/
theorem quietPass_counts {s : State} {a : Nat} (h : s.flt.scrubbing.contains a = true) : ∃ t, effScrubPassStart a true [] [] s = t ∧
    OnlyRegs [(F.FLT_SCRUB_STAT_PASSES a).addr] s t ∧
    t.get (F.FLT_SCRUB_STAT_PASSES a) = (s.get (F.FLT_SCRUB_STAT_PASSES a) + 1) % 2 ^ (F.FLT_SCRUB_STAT_PASSES a).width ∧
    t.get (F.FLT_SCRUB_STAT_CORRECTED a) = s.get (F.FLT_SCRUB_STAT_CORRECTED a) ∧
    t.get (F.FLT_SCRUB_STAT_UNCORR a) = s.get (F.FLT_SCRUB_STAT_UNCORR a) := by
  have hpasses : 0 + 8 ≤ 64 := by decide
  have hcorrected : 0 + 8 ≤ 16 := by decide
  have huncorr : 0 + 8 ≤ 8 := le_rfl
  refine ⟨_, effScrubPassStart_quiet h, (scrubCounted_nil_onlyRegs _ s a).trans (.put _ _ List.mem_cons_self), ?_, ?_, ?_⟩
  · rw [get_bumpWrap_same _ _ _ (by omega), get_scrubCounted_nil]
  · rw [State.bumpWrap, get_put_disjoint (f := F.FLT_SCRUB_STAT_PASSES a) (g := F.FLT_SCRUB_STAT_CORRECTED a) _ _ hpasses rfl
      (.inr hcorrected), get_scrubCounted_nil]
  · rw [State.bumpWrap, get_put_disjoint (f := F.FLT_SCRUB_STAT_PASSES a) (g := F.FLT_SCRUB_STAT_UNCORR a) _ _ hpasses rfl
      (.inr huncorr), get_scrubCounted_nil]

/-! ## The pulse of ERR_N -/

theorem effErrNPulseEnd_pulsing {s : State} (h : s.flt.pulsing = true) :
    effErrNPulseEnd s = { s with
      flt := { s.flt with pulsing := false }, out := s.out ++ (if s.bit F.FLT_PIN_CTL_DRIVE then [] else [.errN false]) } := by
  have hnow : s.errLow = true := by rw [State.errLow, h]; rfl
  have hthen : ({ s with flt := { s.flt with pulsing := false } } : State).errLow = s.bit F.FLT_PIN_CTL_DRIVE := rfl
  unfold effErrNPulseEnd
  rw [if_pos h, State.pinStep, hnow, hthen]
  cases s.bit F.FLT_PIN_CTL_DRIVE with
  | true => simp
  | false => simp [State.emit]

/-- Settles O41: a write of FLT_STATUS or FLT_SOFT is the act of its register; the policy clears what nobody is there to clear; a
temperature latches by its thresholds, and a pass counts by the one before it. -/
theorem collectorCommands : Obligations.CollectorCommands := by
  unfold Obligations.CollectorCommands
  refine ⟨fun s ha => ⟨fun m c hm hw => ?_, fun k hl hb hc hp => ?_, fun k hl hb hc hp => ?_, fun k h => ?_⟩,
    fun s ha => ⟨fun m hm hw => ?_, gives_runs (exec_keeperWatchdog s) ha rfl, gives_runs (exec_supplyMonitor s) ha rfl,
      gives_runs (exec_supplyMonitorReturn s) ha rfl, fun t ht hcrit => ?_, fun t ht hcrit => ?_, fun a ended fixed bad => ?_,
      fun a h => ?_, fun h => ?_⟩⟩
  · refine gives_runs (exec_faultClear s) ha ?_
    unfold effFaultClear
    rw [busWrite_fltStatus (s := { s with flt := { s.flt with asserted := c.asserted } }) hm hw c.mask.isLt]
    rfl
  · refine gives_runs (exec_faultAutoClear s) ha ?_
    simp [effFaultAutoClear, hl, hb, hc, State.policyActs, hp]
  · have hclear := latched_autoClear k.isLt hl hb hc hp
    exact ⟨_, gives_runs (exec_faultAutoClear s) ha rfl, (hclear k.val).trans (if_pos rfl), fun j hj => (hclear j).trans (if_neg hj)⟩
  · refine gives_runs (exec_faultAutoClear s) ha (if_pos ?_)
    rcases h with h | h | h <;> simp [h]
  · refine ⟨gives_runs (exec_soft0 s) ha ?_, gives_runs (exec_soft1 s) ha ?_⟩
    · rw [effSoft0, busWrite_fltSoft hm hw (by decide), if_neg (by decide), if_pos (by decide), State.answerWrite]
    · rw [effSoft1, busWrite_fltSoft hm hw (by decide), if_pos (by decide), if_neg (by decide), State.answerWrite]
  · refine ⟨_, gives_runs (exec_tjUpdate s) ha rfl, ?_⟩
    rw [effTjUpdate_cool ht hcrit]
    exact ⟨.put s _ (by simp), (get_put_same s _ (by decide)).trans (Nat.mod_eq_of_lt t.isLt)⟩
  · exact gives_runs (exec_tjUpdate s) ha (effTjUpdate_high ht hcrit)
  · intro here u
    have he : effScrubPassStart a.val ended fixed bad s = if !u.flt.scrubbing.contains a.val then
        { u with flt := { u.flt with scrubbing := a.val :: u.flt.scrubbing } }
      else if ended then u.bumpWrap (F.FLT_SCRUB_STAT_PASSES a.val) else u.latch 57 := effScrubPassStart_eq s a.val ended fixed bad
    refine ⟨fun h => ?_, fun h hd => ?_, fun h hd => ?_⟩
    · exact gives_runs (exec_scrubPassStart s) ha (he.trans (if_pos (by rw [h]; rfl)))
    · exact gives_runs (exec_scrubPassStart s) ha (he.trans ((if_neg (by rw [h]; exact Bool.false_ne_true)).trans (if_pos hd)))
    · exact gives_runs (exec_scrubPassStart s) ha
        (he.trans ((if_neg (by rw [h]; exact Bool.false_ne_true)).trans (if_neg (by rw [hd]; exact Bool.false_ne_true))))
  · obtain ⟨t, he, honly, hcounts⟩ := quietPass_counts h
    exact ⟨_, gives_runs (exec_scrubPassStart s) ha he, honly.withPending, hcounts⟩
  · refine ⟨_, gives_runs (exec_errNPulseEnd s) ha (effErrNPulseEnd_pulsing h), rfl, rfl, rfl⟩

end Sys2Proof.Machine
end

section
/-! The erasure of ZEROIZE_N (R482, R516) and the instructions of the TAP (R496 to R500, R525). -/

namespace Sys2Proof.Machine

/-! ## The erasure -/

theorem lifecycle_of_fuses {s t : State} (h : t.fuses = s.fuses) : t.lifecycle = s.lifecycle := by
  rw [State.lifecycle, h, State.lifecycle]

theorem blow_fresh {s : State} {k : Nat} (h : s.fuses.lifecycle.testBit k = false) :
    s.blow k = { s with fuses := { s.fuses with lifecycle := s.fuses.lifecycle + 2 ^ k } } := by
  unfold State.blow
  rw [h]
  rfl

theorem beginReturn_fresh {s : State} (h : s.fuses.lifecycle.testBit 2 = false) :
    s.beginReturn = { s with
      fuses := { s.fuses with lifecycle := s.fuses.lifecycle + 4 }, sec := { s.sec with erasing := true } } := by
  unfold State.beginReturn
  rw [blow_fresh h]
  rfl

theorem effZeroizeNLow_off {s : State} (still : Bool) (hp : s.node.powered = false) : effZeroizeNLow still s = s := by
  unfold effZeroizeNLow
  rw [hp]
  rfl

theorem effZeroizeNLow_erases {s : State} (still : Bool) (hp : s.node.powered = true) (hl : s.lifecycle ∈ [1, 2])
    (hb : s.fuses.lifecycle.testBit 2 = false) :
    effZeroizeNLow still s = (s.putBit F.SEC_ZEROIZE_LEVEL still).beginReturn.putBit F.SEC_ZEROIZE_EVENT true := by
  have hlife : (s.putBit F.SEC_ZEROIZE_LEVEL still).lifecycle = 1 ∨ (s.putBit F.SEC_ZEROIZE_LEVEL still).lifecycle = 2 := by
    rw [lifecycle_of_fuses (s := s) (t := s.putBit F.SEC_ZEROIZE_LEVEL still) rfl]
    simpa using hl
  unfold effZeroizeNLow
  simp [hp, hb, hlife]

theorem effZeroizeNLow_shows {s : State} (still : Bool) (hp : s.node.powered = true) (hl : s.lifecycle ∉ [1, 2]) :
    effZeroizeNLow still s = s.putBit F.SEC_ZEROIZE_LEVEL still := by
  have hlife : ¬ ((s.putBit F.SEC_ZEROIZE_LEVEL still).lifecycle = 1 ∨ (s.putBit F.SEC_ZEROIZE_LEVEL still).lifecycle = 2) := by
    rw [lifecycle_of_fuses (s := s) (t := s.putBit F.SEC_ZEROIZE_LEVEL still) rfl]
    simpa using hl
  unfold effZeroizeNLow
  simp [hp, hlife]

/-- The keys read all ones and no erasure runs. -/
def State.keysErased (s : State) : State :=
  { s with
    fuses := { s.fuses with kDev := List.replicate 32 0xFF, kSign := List.replicate 32 0xFF, lifecycle := s.fuses.lifecycle + 8 }
    sec := { s.sec with erasing := false } }

theorem effReturnEraseDone_runs {s : State} (hp : s.node.powered = true) (h2 : s.fuses.lifecycle.testBit 2 = true)
    (h3 : s.fuses.lifecycle.testBit 3 = false) :
    effReturnEraseDone s = if s.node.inReset then s.keysErased else s.keysErased.fullStart .lifecycle := by
  unfold effReturnEraseDone
  rw [if_neg (by simp [hp, h2, h3])]
  extract_lets _ _ s1 s2
  have hs2 : s2 = s.keysErased := blow_fresh (s := s1) h3
  rw [hs2]
  rfl

/-- The end of the erasure leaves no key, whether the engine starts anew or is held in reset. -/
theorem effReturnEraseDone_fuses {s : State} (hp : s.node.powered = true) (h2 : s.fuses.lifecycle.testBit 2 = true)
    (h3 : s.fuses.lifecycle.testBit 3 = false) : (effReturnEraseDone s).fuses.kDev = List.replicate 32 0xFF ∧
      (effReturnEraseDone s).fuses.kSign = List.replicate 32 0xFF ∧
      (effReturnEraseDone s).fuses.lifecycle = s.fuses.lifecycle + 8 := by
  have hf : (effReturnEraseDone s).fuses = s.keysErased.fuses := by
    rw [effReturnEraseDone_runs hp h2 h3]
    split
    · rfl
    · obtain ⟨hfuses, -⟩ := fullStartKeepsFuses s.keysErased .lifecycle
      exact hfuses
  rw [hf]
  exact ⟨rfl, rfl, rfl⟩

theorem effReturnEraseDone_off {s : State}
    (h : (s.node.powered && s.fuses.lifecycle.testBit 2 && !s.fuses.lifecycle.testBit 3) = false) : effReturnEraseDone s = s := by
  unfold effReturnEraseDone
  rw [if_pos (by revert h; cases s.node.powered <;> cases s.fuses.lifecycle.testBit 2 <;> simp)]

/-- What the begin of an erasure writes: the fuse, the flag and the register of ZEROIZE_N. -/
theorem zeroizeErases_shows (s : State) (b : Bool) (hb : s.fuses.lifecycle.testBit 2 = false) :
    let t := (s.putBit F.SEC_ZEROIZE_LEVEL b).beginReturn.putBit F.SEC_ZEROIZE_EVENT true
    t.fuses = { s.fuses with lifecycle := s.fuses.lifecycle + 4 } ∧ t.sec = { s.sec with erasing := true } ∧
      t.get F.SEC_ZEROIZE_EVENT = 1 ∧ t.get F.SEC_ZEROIZE_LEVEL = (if b then 1 else 0) ∧
      t = { s with regs := t.regs, fuses := t.fuses, sec := t.sec } := by
  have hu : (s.putBit F.SEC_ZEROIZE_LEVEL b).fuses.lifecycle.testBit 2 = false := hb
  have hlevel : (s.putBit F.SEC_ZEROIZE_LEVEL b).get F.SEC_ZEROIZE_LEVEL = if b then 1 else 0 := by
    rw [State.putBit, get_put_same s _ (show 0 + 1 ≤ 64 by decide)]
    cases b <;> rfl
  rw [beginReturn_fresh hu]
  refine ⟨rfl, rfl, get_put_same _ _ (show 1 + 1 ≤ 64 by decide), ?_, rfl⟩
  exact (get_put_disjoint (f := F.SEC_ZEROIZE_EVENT) (g := F.SEC_ZEROIZE_LEVEL) _ _ (by decide) rfl (by decide)).trans hlevel

/-- Settles O47: by the lifecycle ZEROIZE_N meets; the erasure's end by whether the engine is held in reset. -/
theorem zeroizeErasesKeys : Obligations.ZeroizeErasesKeys := by
  unfold Obligations.ZeroizeErasesKeys
  refine ⟨fun s b hp => gives_always (exec_zeroizeNLow s) (effZeroizeNLow_off b hp), fun s b hp hl hb => ?_,
    fun s b hp hl => gives_always (exec_zeroizeNLow s) (effZeroizeNLow_shows b hp hl), fun s hp h2 h3 => ?_,
    fun s h => gives_always (exec_returnEraseDone s) (effReturnEraseDone_off h)⟩
  · exact ⟨_, gives_always (exec_zeroizeNLow s) (effZeroizeNLow_erases b hp hl hb), zeroizeErases_shows s b hb⟩
  · obtain ⟨hdev, hsign, hlife⟩ := effReturnEraseDone_fuses hp h2 h3
    refine ⟨_, gives_always (exec_returnEraseDone s) rfl, hdev, hsign, hlife, fun hr => ?_, fun hr => ?_⟩
    · rw [effReturnEraseDone_runs hp h2 h3, if_pos hr]
      exact ⟨rfl, rfl⟩
    · obtain ⟨-, -, -, -, hcause⟩ := fullStartKeepsFuses s.keysErased .lifecycle
      rw [effReturnEraseDone_runs hp h2 h3, if_neg (by simp [hr])]
      exact hcause

end Sys2Proof.Machine
end

section
/-! The instructions of the TAP (R496 to R500, R525). -/

namespace Sys2Proof.Machine

/-! ## The debug port as an instruction meets it -/

theorem tapOn_of_connected {s : State} (hd : s.bit F.DBG_LEVEL_DISC = false) (hl : s.lifecycle ≠ 4) : s.tapOn = true := by
  simp [State.tapOn, hd, hl]

theorem tapOn_scrapped {s : State} (hl : s.lifecycle = 4) : s.tapOn = false := by simp [State.tapOn, hl]

theorem bypass_connected {s : State} (hd : s.bit F.DBG_LEVEL_DISC = false) : s.bypass = s.tapSeen.tdo 1 0 := by
  rw [State.bypass, if_neg (by simp [hd])]

theorem tapSeen_connected {s : State} (hd : s.bit F.DBG_LEVEL_DISC = false) :
    s.tapSeen = ({ s with sec := { s.sec with extest := false } }).putBit F.DBG_LEVEL_CONNECTED true := by
  rw [State.tapSeen, if_neg (by simp [hd])]

@[simp] theorem tapSeen_fuses (s : State) : s.tapSeen.fuses = s.fuses := (tapSeen_keepsScrap s).1

@[simp] theorem tapSeen_free (s : State) : s.tapSeen.free = s.free := by
  unfold State.tapSeen
  split <;> rfl

@[simp] theorem tapSeen_out (s : State) : s.tapSeen.out = s.out := by
  unfold State.tapSeen
  split <;> rfl

@[simp] theorem tapSeen_lifecycle (s : State) : s.tapSeen.lifecycle = s.lifecycle := lifecycle_of_fuses (tapSeen_fuses s)

theorem tapSeen_sec {s : State} (hd : s.bit F.DBG_LEVEL_DISC = false) : s.tapSeen.sec = { s.sec with extest := false } := by
  rw [tapSeen_connected hd]
  rfl

theorem tapSeen_unlocked (s : State) : s.tapSeen.sec.unlocked = s.sec.unlocked := by
  unfold State.tapSeen
  split <;> rfl

theorem tapSeen_challenge (s : State) : s.tapSeen.sec.challenge = s.sec.challenge := by
  unfold State.tapSeen
  split <;> rfl

/-- An unlock is judged by the challenge and the fuses. -/
theorem unlockGood_tapSeen (s : State) (sig : List Byte) : s.tapSeen.unlockGood sig = s.unlockGood sig := by
  unfold State.unlockGood State.unlockDigest State.keysUsable
  rw [tapSeen_challenge, tapSeen_fuses]

/-- A register that TCK does not show itself in. -/
theorem get_tapSeen {s : State} {f : Fld} (h : f.addr ≠ DBG_LEVEL) : s.tapSeen.get f = s.get f := by
  unfold State.tapSeen
  split
  · rfl
  · exact get_put_ne _ _ h

/-- Without power or in reset the debug port is dead. -/
theorem gives_not_tap {i : Instr} {s : State} {f : State → State} (he : exec i s = tapRuns s f)
    (h : (s.node.powered && !s.node.inReset) = false) : Gives i s s :=
  gives_always he (if_neg (by simp [h]))

/-! ## The boundary cells -/

theorem effSamplePreload_barred {s : State} (n v : Nat) (h : s.lifecycle = 4 ∨ s.get F.DBG_LEVEL_LEVEL ≠ 2) :
    effSamplePreload n v s = s.bypass := by
  rw [effSamplePreload, if_pos]
  rcases h with h | h
  · simp [tapOn_scrapped h]
  · simp [h]

theorem effExtest_barred {s : State} (n v : Nat)
    (h : s.lifecycle = 4 ∨ s.get F.DBG_LEVEL_LEVEL ≠ 2 ∨ s.node.mode ∉ [Mode.service, .hold]) : effExtest n v s = s.bypass := by
  rw [effExtest, if_pos]
  rcases h with h | h | h
  · simp [tapOn_scrapped h]
  · simp [h]
  · simp only [List.mem_cons, List.not_mem_nil, or_false, not_or] at h
    simp [h.1, h.2]

/-- What the cells sampled, at TDO, with the cells loaded. -/
def State.shiftCells (s : State) (n v : Nat) (drive : Bool) : State :=
  (({ s.tapSeen with sec := { s.tapSeen.sec with boundary := some (v % 2 ^ n), extest := drive } } : State).tdo n
    ((Config.freeWord s.tapSeen.free).toNat % 2 ^ n)).nextFree

theorem effSamplePreload_full {s : State} (n v : Nat) (hd : s.bit F.DBG_LEVEL_DISC = false) (hl : s.lifecycle ≠ 4)
    (h2 : s.get F.DBG_LEVEL_LEVEL = 2) : effSamplePreload n v s = s.shiftCells n v false := by
  rw [effSamplePreload, if_neg (by simp [tapOn_of_connected hd hl, h2]), State.shiftCells, tapSeen_sec hd]

theorem effExtest_full {s : State} (n v : Nat) (hd : s.bit F.DBG_LEVEL_DISC = false) (hl : s.lifecycle ≠ 4)
    (h2 : s.get F.DBG_LEVEL_LEVEL = 2) (hm : s.node.mode ∈ [Mode.service, .hold]) :
    effExtest n v s = s.shiftCells n v true := by
  have hmode : ¬ (s.node.mode != .service && s.node.mode != .hold) = true := by
    simp only [List.mem_cons, List.not_mem_nil, or_false] at hm
    rcases hm with h | h <;> simp [h]
  rw [effExtest, if_neg (by simp only [tapOn_of_connected hd hl, h2, hmode]; decide), State.shiftCells]

theorem shiftCells_spec (s : State) (n v : Nat) (drive : Bool) : ∃ x, x < 2 ^ n ∧ (s.shiftCells n v drive).sec.boundary = some (v % 2 ^ n) ∧
    (s.shiftCells n v drive).sec.extest = drive ∧ (s.shiftCells n v drive).free = s.free + 1 ∧
    (s.shiftCells n v drive).out = s.out ++ [.tdo n x] :=
  ⟨_, Nat.mod_lt _ (Nat.two_pow_pos n), rfl, rfl, congrArg (· + 1) (tapSeen_free s), congrArg (· ++ _) (tapSeen_out s)⟩

/-! ## The levels and the unlock -/

theorem effDbgReq_on {s : State} (l : Nat) (hd : s.bit F.DBG_LEVEL_DISC = false) (hl : s.lifecycle ≠ 4) :
    effDbgReq l s = (s.tapSeen.requestLevel l false).1.tdo 2 0 := by
  rw [effDbgReq, if_neg (by simp [tapOn_of_connected hd hl])]

theorem requestLevel_refused {s : State} {l : Nat} {ctl : Bool} (h : levelAllowed s.lifecycle l ctl = false) :
    (s.requestLevel l ctl).1 = s.bump F.DBG_CNT_REQ_REFUSED := by
  rw [State.requestLevel, if_neg (by simp [h])]

theorem requestLevel_set {s : State} {l : Nat} {ctl : Bool} (h : levelAllowed s.lifecycle l ctl = true) (hu : s.sec.unlocked = false) :
    (s.requestLevel l ctl).1 = s.setLevel l := by
  rw [State.requestLevel, if_pos h]
  exact if_neg (by simp [hu])

/-- A level below FULL ends the unlock. -/
theorem requestLevel_ends {s : State} {l : Nat} {ctl : Bool} (h : levelAllowed s.lifecycle l ctl = true) (hu : s.sec.unlocked = true)
    (hl : l < 2) : (s.requestLevel l ctl).1 = s.endUnlock l := by
  rw [State.requestLevel, if_pos h]
  exact if_pos (by simp [hu, hl])

theorem effDbgChal_unsealed {s : State} (hd : s.bit F.DBG_LEVEL_DISC = false) (hl : s.lifecycle ≠ 2) :
    effDbgChal s = s.tapSeen.tdo 1 0 := by
  rw [effDbgChal, if_pos (by simp [hl]), bypass_connected hd]

theorem effDbgChal_backoff {s : State} (hd : s.bit F.DBG_LEVEL_DISC = false) (hl : s.lifecycle = 2) (hb : s.sec.backoff = true) :
    effDbgChal s = s.tapSeen.tdo 256 0 := by
  have ht : s.tapOn = true := tapOn_of_connected hd (by omega)
  rw [effDbgChal, if_neg (by simp [ht, hl]), if_pos hb]

theorem randomBytes_length (s : State) (n : Nat) : (s.randomBytes n).length = n := by
  simp [State.randomBytes]

theorem effDbgChal_draws {s : State} (hd : s.bit F.DBG_LEVEL_DISC = false) (hl : s.lifecycle = 2) (hb : s.sec.backoff = false) :
    effDbgChal s = ((({ s with sec := { s.sec with challenge := some (s.randomBytes 32) } } : State).nextFree).tapSeen).tdo 256
      (beNat (s.randomBytes 32)) := by
  have ht : s.tapOn = true := tapOn_of_connected hd (by omega)
  rw [effDbgChal, if_neg (by simp [ht, hl]), if_neg (by simp [hb])]

theorem effDbgUnlock_barred {s : State} (sig : List Byte) (hd : s.bit F.DBG_LEVEL_DISC = false)
    (h : s.lifecycle ≠ 2 ∨ 16 ≤ s.sec.failures) : effDbgUnlock sig s = s.tapSeen.tdo 1 0 := by
  rw [effDbgUnlock, if_pos, bypass_connected hd]
  rcases h with h | h <;> simp [h]

theorem effDbgUnlock_good {s : State} {sig : List Byte} (hd : s.bit F.DBG_LEVEL_DISC = false) (hl : s.lifecycle = 2)
    (hf : s.sec.failures < 16) (hg : s.unlockGood sig = true) : effDbgUnlock sig s = s.tapSeen.unlock := by
  have ht : s.tapOn = true := tapOn_of_connected hd (by omega)
  rw [effDbgUnlock, if_neg (by simp [ht, hl, hf])]
  exact if_pos ((unlockGood_tapSeen s sig).trans hg)

theorem effDbgUnlock_bad {s : State} {sig : List Byte} (hd : s.bit F.DBG_LEVEL_DISC = false) (hl : s.lifecycle = 2)
    (hf : s.sec.failures < 16) (hg : s.unlockGood sig = false) :
    effDbgUnlock sig s = ({ s.tapSeen with
      sec := { s.sec with extest := false, challenge := none, backoff := true, failures := s.sec.failures + 1 } } : State).bump
        F.DBG_CNT_UNLOCK_FAIL := by
  have ht : s.tapOn = true := tapOn_of_connected hd (by omega)
  rw [effDbgUnlock, if_neg (by simp [ht, hl, hf])]
  refine (if_neg (by rw [unlockGood_tapSeen, hg]; decide)).trans ?_
  rw [tapSeen_sec hd]

theorem effDbgTapReset_connected {s : State} (hd : s.bit F.DBG_LEVEL_DISC = false) :
    effDbgTapReset s = s.tapSeen.endUnlock (debugDefault s.lifecycle) := by
  have hsame : ({ s.tapSeen with sec := { s.tapSeen.sec with extest := false } } : State) = s.tapSeen := by
    rw [tapSeen_connected hd]
    rfl
  rw [effDbgTapReset, if_neg (by simp [hd]), hsame]

/-- Settles O48: each instruction by whether the lifecycle and the level allow it. -/
theorem tapInstructionsAct : Obligations.TapInstructionsAct := by
  unfold Obligations.TapInstructionsAct
  refine ⟨fun s h => ⟨?_, ?_⟩, fun s hp hr hd => ⟨?_, ?_, fun hl => ?_, fun hl => ?_, fun n v => ⟨fun h => ⟨?_, ?_⟩, fun hl h2 => ?_,
    fun hl h2 hm => ?_, fun hl h2 hm => ?_⟩, fun l hl => ⟨fun h => ?_, fun h hu => ?_, fun h hu hlow => ?_⟩, fun hl => ?_,
    fun hl hb => ?_, fun hl hb => ?_, fun sig => ⟨fun h => ?_, fun hl hf hg => ?_, fun hl hf hg => ?_⟩, ?_, ?_, ?_, ?_⟩⟩
  · exact gives_not_tap (exec_idcode s) h
  · exact gives_not_tap (exec_bypass s) h
  · exact gives_tapRuns (exec_idcode s) hp hr (if_neg (by simp [hd]))
  · exact gives_tapRuns (exec_bypass s) hp hr (bypass_connected hd)
  · exact gives_tapRuns (exec_dbgStatus s) hp hr (if_neg (by simp [tapOn_of_connected hd hl]))
  · exact gives_tapRuns (exec_dbgStatus s) hp hr ((if_pos (by simp [tapOn_scrapped hl])).trans (bypass_connected hd))
  · exact gives_tapRuns (exec_samplePreload s) hp hr ((effSamplePreload_barred n v h).trans (bypass_connected hd))
  · exact gives_tapRuns (exec_extest s) hp hr ((effExtest_barred n v (h.imp_right .inl)).trans (bypass_connected hd))
  · obtain ⟨x, hx, hcells⟩ := shiftCells_spec s n v false
    exact ⟨_, x, gives_tapRuns (exec_samplePreload s) hp hr (effSamplePreload_full n v hd hl h2), hx, hcells⟩
  · exact gives_tapRuns (exec_extest s) hp hr ((effExtest_barred n v (.inr (.inr hm))).trans (bypass_connected hd))
  · obtain ⟨x, hx, hcells⟩ := shiftCells_spec s n v true
    exact ⟨_, x, gives_tapRuns (exec_extest s) hp hr (effExtest_full n v hd hl h2 hm), hx, hcells⟩
  · refine gives_tapRuns (exec_dbgReq s) hp hr ?_
    rw [effDbgReq_on l.val hd hl, requestLevel_refused (by rw [tapSeen_lifecycle, h])]
  · refine gives_tapRuns (exec_dbgReq s) hp hr ?_
    rw [effDbgReq_on l.val hd hl, requestLevel_set (by rw [tapSeen_lifecycle, h]) (by rw [tapSeen_unlocked, hu])]
  · refine gives_tapRuns (exec_dbgReq s) hp hr ?_
    rw [effDbgReq_on l.val hd hl, requestLevel_ends (by rw [tapSeen_lifecycle, h]) (by rw [tapSeen_unlocked, hu]) hlow]
  · exact gives_tapRuns (exec_dbgChal s) hp hr (effDbgChal_unsealed hd hl)
  · exact gives_tapRuns (exec_dbgChal s) hp hr (effDbgChal_backoff hd hl hb)
  · refine ⟨_, s.randomBytes 32, gives_tapRuns (exec_dbgChal s) hp hr (effDbgChal_draws hd hl hb), tapSeen_challenge _,
      randomBytes_length s 32, congrArg (· ++ _) (tapSeen_out _)⟩
  · exact gives_tapRuns (exec_dbgUnlock s) hp hr (effDbgUnlock_barred _ hd h)
  · exact gives_tapRuns (exec_dbgUnlock s) hp hr (effDbgUnlock_good hd hl hf hg)
  · refine ⟨_, gives_tapRuns (exec_dbgUnlock s) hp hr (effDbgUnlock_bad hd hl hf hg), rfl, ?_⟩
    have hcount : s.tapSeen.get F.DBG_CNT_UNLOCK_FAIL = s.get F.DBG_CNT_UNLOCK_FAIL := get_tapSeen (by decide)
    rw [← hcount]
    exact get_bump_same _ F.DBG_CNT_UNLOCK_FAIL 1 (by decide)
  · exact gives_tapRuns (exec_dbgTapReset s) hp hr (effDbgTapReset_connected hd)
  · exact gives_tapRuns (exec_dbgTckLoss s) hp hr rfl
  · exact gives_tapRuns (exec_dbgChallengeExpiry s) hp hr rfl
  · exact gives_tapRuns (exec_dbgUnlockBackoffEnd s) hp hr rfl

end Sys2Proof.Machine
end

section
/-! DORMANT and the power states (R468 to R476). -/

namespace Sys2Proof.Machine

/-! ## What the amplifier and the control buses leave of the power unit's view -/

/-- The node, the power unit, whether audio runs, and the power state shown. -/
def State.powers (s : State) : Node × Power × Bool × Nat := (s.node, s.pwr, s.audio.running, s.rg PWR_STAT)

theorem powers_of {s t : State} (hn : t.node = s.node) (hp : t.pwr = s.pwr) (ha : t.audio.running = s.audio.running)
    (hr : t.rg PWR_STAT = s.rg PWR_STAT) : t.powers = s.powers := by
  rw [State.powers, hn, hp, ha, hr, State.powers]

theorem powers_ite {c : Prop} [Decidable c] (s t : State) : (if c then s else t).powers = if c then s.powers else t.powers :=
  apply_ite _ _ _ _

theorem powers_foldl {α : Type} {f : State → α → State} {l : List α} (h : ∀ s, ∀ x ∈ l, (f s x).powers = s.powers) (s : State) :
    (l.foldl f s).powers = s.powers := by
  induction l generalizing s with
  | nil => rfl
  | cons x l ih => exact (ih (fun s y hy => h s y (List.mem_cons_of_mem x hy)) _).trans (h s x List.mem_cons_self)

theorem setRg_powers (s : State) {a : Nat} (v : Nat) (h : a ≠ PWR_STAT) : (s.setRg a v).powers = s.powers :=
  powers_of rfl rfl rfl (rg_setRg_ne s v h.symm)

theorem clearRg_powers (s : State) {a : Nat} (h : a ≠ PWR_STAT) : (s.clearRg a).powers = s.powers :=
  powers_of rfl rfl rfl ((rg_clearRg s a _).trans (if_neg h.symm))

theorem put_powers (s : State) {f : Fld} (v : Nat) (h : f.addr ≠ PWR_STAT) : (s.put f v).powers = s.powers := setRg_powers s _ h

theorem putBit_powers (s : State) {f : Fld} (b : Bool) (h : f.addr ≠ PWR_STAT) : (s.putBit f b).powers = s.powers := put_powers s _ h

theorem setCh_powers (s : State) (m : Nat) (c : AmpCh) : (s.setCh m c).powers = s.powers := powers_of rfl rfl rfl rfl

theorem gatesStop_powers (s : State) : s.gatesStop.powers = s.powers := by
  rw [gatesStop_ampOutOnly s]
  exact powers_of rfl rfl rfl rfl

theorem settleGates_powers (s : State) (m : Nat) : (s.settleGates m).powers = s.powers := by
  simp only [State.settleGates, State.gatesLow, powers_ite, setCh_powers, ite_self]

theorem freeChan_powers (s : State) (k m : Nat) : (s.freeChan k m).powers = s.powers := by
  unfold State.freeChan
  split
  · exact powers_of rfl rfl rfl rfl
  · rfl

theorem freeChans_powers (s : State) : s.freeChans.powers = s.powers :=
  powers_foldl (fun s e _ => by simp only [powers_ite, freeChan_powers, ite_self]) s

theorem showCh_powers (s : State) (m : Nat) : (s.showCh m).powers = s.powers := by
  simp (disch := grind) only [State.showCh, putBit_powers, put_powers]

theorem endDiag_powers (s : State) (m result : Nat) : (s.endDiag m result).powers = s.powers := by
  unfold State.endDiag
  split
  · rfl
  · simp (disch := grind) only [powers_ite, put_powers, putBit_powers, setCh_powers, ite_self]

theorem clearSweep_powers (s : State) {m : Nat} (hm : m < 64) : (s.clearSweep m).powers = s.powers :=
  powers_foldl (fun s k hk => clearRg_powers s (by rw [List.mem_range] at hk; grind)) s

theorem beginDiag_powers (s : State) {m : Nat} (hm : m < 64) (start : Bool) (mode : Nat) :
    (s.beginDiag m start mode).powers = s.powers := by
  simp only [State.beginDiag, showCh_powers, setCh_powers, clearSweep_powers s hm]

theorem settleCh_powers (s : State) {m : Nat} (hm : m < 64) : (s.settleCh m).powers = s.powers := by
  unfold State.settleCh
  extract_lets t c s1 c1 prot s2 s3
  have h1 : s1.powers = s.powers := by
    unfold s1
    split <;> simp only [powers_ite, endDiag_powers, ite_self]
  simp (disch := grind) only [powers_ite, showCh_powers, freeChans_powers, settleGates_powers, beginDiag_powers _ hm, put_powers, s3, s2,
    setCh_powers, h1, ite_self]

theorem settleAmp_powers (s : State) : s.settleAmp.powers = s.powers :=
  powers_foldl (fun s _ hm => settleCh_powers s (List.mem_range.1 hm)) s

/-! ## A control-bus MAC that stops -/

theorem setMac_powers (s : State) (m : Nat) (c : CbusMac) : (s.setMac m c).powers = s.powers := by
  unfold State.setMac
  extract_lets _ s1 s2 s3 s4 s5
  have h1 : s1.powers = s.powers := powers_of rfl rfl rfl rfl
  have h4 : s4.powers = s.powers := by simp (disch := grind) only [s4, s3, s2, putBit_powers, put_powers, h1]
  have h5 : s5.powers = s.powers := by
    unfold s5
    split <;> simp (disch := grind) only [setRg_powers, h4]
  split <;> simp (disch := grind) only [setRg_powers, h5]

theorem cbusEnd_powers (s : State) (m result : Nat) : (s.cbusEnd m result).powers = s.powers := by
  unfold State.cbusEnd
  dsimp only
  split
  · rfl
  · exact setMac_powers s m _

/-- The counters of discarded frames are among those of Table 13.4. -/
theorem discardCounter_lt {result k : Nat} (h : discardCounter result = some k) : k < 26 := by
  unfold discardCounter at h
  split at h <;> cases h <;> decide

theorem cbusDiscard_powers (s : State) (m result : Nat) : (s.cbusDiscard m result).powers = s.powers := by
  unfold State.cbusDiscard
  split
  · rfl
  · dsimp only
    split
    next k hk =>
      have := discardCounter_lt hk
      exact (setRg_powers _ _ (by grind)).trans (cbusEnd_powers s m result)
    · exact cbusEnd_powers s m result

theorem cbusFlush_powers (s : State) (m : Nat) : (s.cbusFlush m).powers = s.powers := by
  have hrun : ∀ (n : Nat) (u : State), (iterate (fun s => s.cbusDiscard m 4) n u).powers = u.powers := by
    intro n
    induction n with
    | zero => exact fun u => rfl
    | succ n ih => exact fun u => (ih _).trans (cbusDiscard_powers u m 4)
  simp only [State.cbusFlush, State.cbusDrop, powers_ite, hrun, setMac_powers, ite_self]

theorem macStop_powers (s : State) (m : Nat) : (s.macStop m).powers = s.powers := by
  simp (disch := grind) only [State.macStop, setMac_powers, putBit_powers, cbusFlush_powers]

theorem macsStop_powers (s : State) :
    ((List.range 4).foldl (fun s m => if s.bit (F.CBUS_CFG_EN m) then s.macStop m else s) s).powers = s.powers :=
  powers_foldl (fun s m _ => by simp only [powers_ite, macStop_powers, ite_self]) s

/-! ## Entry into DORMANT (R474) -/

theorem setMode_pwr (s : State) (m : Mode) : (s.setMode m).pwr = s.pwr := by
  by_cases h : s.node.mode = m
  · rw [setMode_same h]
  · rw [setMode_frame h]

theorem setMode_audio (s : State) (m : Mode) : (s.setMode m).audio = s.audio := by
  by_cases h : s.node.mode = m
  · rw [setMode_same h]
  · rw [setMode_frame h]

/-- The engine in DORMANT before the control buses stop. -/
def State.fallAsleep (s : State) : State :=
  (((s.gatesStop.setMode .dormant).put F.PWR_STAT_STATE 2).bump F.PWR_CNT_ENTRIES).settleAmp

theorem fallAsleep_powers (s : State) : s.fallAsleep.node.mode = .dormant ∧ s.fallAsleep.get F.PWR_STAT_STATE = 2 ∧
    s.fallAsleep.pwr = s.pwr ∧ s.fallAsleep.audio.running = s.audio.running := by
  let t := (s.gatesStop.setMode .dormant).put F.PWR_STAT_STATE 2
  have hp : s.fallAsleep.powers = t.powers := (settleAmp_powers _).trans (put_powers t _ (by decide))
  have hg : s.gatesStop.powers = s.powers := gatesStop_powers s
  simp only [State.powers, Prod.mk.injEq] at hp hg
  obtain ⟨hnode, hpwr, hrun, hstat⟩ := hp
  obtain ⟨-, hgp, hga, -⟩ := hg
  refine ⟨by rw [hnode]; exact setMode_mode _ _, ?_, hpwr.trans ((setMode_pwr _ _).trans hgp), hrun.trans ?_⟩
  · rw [State.get, hstat]
    exact get_put_same _ _ (by decide)
  · exact (congrArg Audio.running (setMode_audio _ _)).trans hga

theorem effDormantEnter_waits {s : State} (timer : Option Nat) (h : s.pwr.entering = false ∨ s.allMuted = false) :
    effDormantEnter timer s = s := by
  rw [effDormantEnter, if_pos]
  rcases h with h | h <;> simp [h]

/-! ## The decision and the depth (R468, R471) -/

/-- DORMANT may be decided. -/
def State.mayDoze (s : State) : Bool := decide (s.pwrBlock = 0) && !s.inTransition && s.enterable 2

theorem effDormantDecide_not {s : State} {timer : Option Nat} (h : (s.setTimer timer).mayDoze = false) :
    effDormantDecide timer s = s.setTimer timer := by
  refine if_pos ?_
  revert h
  unfold State.mayDoze
  cases (s.setTimer timer).inTransition <;> cases (s.setTimer timer).enterable 2 <;> simp

theorem mayDoze_iff (s : State) : s.mayDoze = true ↔ s.pwrBlock = 0 ∧ s.inTransition = false ∧ s.enterable 2 = true := by
  simp [State.mayDoze, and_assoc]

theorem beginDormant_begins {s : State} (hb : s.pwrBlock = 0) (ht : s.inTransition = false) :
    s.beginDormant = (let t := ({ s with pwr := { s.pwr with entering := true } }).muteAllOuts .dormant
      if t.rg STORE_JRN_START ≤ t.rg STORE_JRN_SEQ then t.ownCompaction else t) := by
  rw [State.beginDormant, if_neg (by simp [hb, ht])]

theorem effDormantDecide_may {s : State} {timer : Option Nat} (h : (s.setTimer timer).mayDoze = true) :
    effDormantDecide timer s =
      if (s.setTimer timer).policyActs then (s.setTimer timer).beginDormant else (s.setTimer timer).propose .dormant := by
  obtain ⟨hb, ht, he⟩ := (mayDoze_iff _).1 h
  exact if_neg (by simp [hb, ht, he])

theorem rise_permitted {s : State} (h : s.permitted (s.get F.PWR_STAT_STATE) = true) : s.rise = s :=
  if_pos (by rw [State.riseTarget]; exact if_pos h)

theorem deepen_target {s : State} (h : s.sinkTarget ≠ s.get F.PWR_STAT_STATE) (hp : s.policyActs = true) :
    s.deepen = s.goState s.sinkTarget := by
  rw [State.deepen]
  exact (if_neg h).trans (if_pos hp)

/-! ## Leaving DORMANT (R475, R476) -/

theorem resting_of_fails {s : State} {b : Bool} (h : (s.resting && b) = true) : s.resting = true := (Bool.and_eq_true_iff.1 h).1

theorem leaveDormant_resting {s : State} (h : s.resting = true) (cause index : Nat) :
    s.leaveDormant cause index = if s.paired then
      (let r := s.forgetBlk.goState 2
       { r with pwr := { r.pwr with waking := some (cause, index) }, node := { r.node with phase := .listen .lead false, heard := false } })
    else s.awaken cause index false := by
  simp only [State.resting, Bool.and_eq_true, decide_eq_true_eq, Option.isNone_iff_eq_none] at h
  obtain ⟨hmode, hwaking⟩ := h
  rw [State.leaveDormant, if_neg (by simp [hmode, hwaking])]

theorem leaveDormant_alone {s : State} (h : s.resting = true) (hp : s.paired = false) (cause index : Nat) :
    s.leaveDormant cause index = s.awaken cause index false := by
  rw [leaveDormant_resting h]
  exact if_neg (by simp [hp])

theorem leaveDormant_paired {s : State} (h : s.resting = true) (hp : s.paired = true) (cause index : Nat) :
    s.leaveDormant cause index = (let r := s.forgetBlk.goState 2
      { r with
        pwr := { r.pwr with waking := some (cause, index) }, node := { r.node with phase := .listen .lead false, heard := false } }) := by
  rw [leaveDormant_resting h]
  exact if_pos hp

/-! ## The keep-alive of DORMANT (Table 17.2) -/

theorem foldl_emit {α : Type} (g : α → Output) (l : List α) (s : State) :
    l.foldl (fun s e => s.emit (g e)) s = { s with out := s.out ++ l.map g } := by
  induction l generalizing s with
  | nil => rw [List.map_nil, List.append_nil, List.foldl_nil]
  | cons x l ih =>
    rw [List.foldl_cons, ih, List.map_cons, State.emit, List.append_assoc]
    rfl

/-- The report of one enabled leg. -/
def State.legReport (s : State) (e : Nat × Nat) : Output :=
  .igmp (s.get (F.STR_RX_LEG_CFG_PATH e.1 e.2)) (s.rg (STR_RX_LEG_GRP e.1 e.2)) (s.rg (STR_RX_LEG_SRC e.1 e.2)) true

theorem foldl_reportLeg (l : List (Nat × Nat)) {s u : State} (h : OutOnly s u) :
    l.foldl (fun s e => s.reportLeg s e.1 e.2 true) u = { s with out := u.out ++ l.map s.legReport } := by
  induction l generalizing u with
  | nil =>
    rw [List.map_nil, List.append_nil, List.foldl_nil]
    exact h
  | cons x l ih =>
    have hx : u.reportLeg u x.1 x.2 true = { s with out := u.out ++ [s.legReport x] } := by
      unfold OutOnly at h
      rw [h]
      rfl
    rw [List.foldl_cons, hx, ih (u := { s with out := u.out ++ [s.legReport x] }) rfl, List.map_cons, List.append_assoc]
    rfl

theorem reportWatch_outOnly (s : State) (f : Nat × Nat → Bool) : OutOnly s (s.reportWatch f) := by
  rw [State.reportWatch, foldl_emit (fun e : Nat × Nat => Output.igmp e.1 e.2 0 true)]
  rfl

/-- An enabled leg is among those that report. -/
theorem mem_legsOn {s : State} {k j : Nat} (hk : k < 256) (hj : j < 4) (h : s.bit (F.STR_RX_LEG_CFG_EN k j) = true) :
    (k, j) ∈ s.legsOn := by
  have hdiv : (4 * k + j) / 4 = k := by omega
  have hmod : (4 * k + j) % 4 = j := by omega
  rw [State.legsOn, List.mem_filter]
  exact ⟨List.mem_map.2 ⟨4 * k + j, List.mem_range.2 (by omega), by rw [hdiv, hmod]⟩, h⟩

theorem effKeepaliveSend_dormant {s : State} (hm : s.node.mode = .dormant) (h4 : s.get F.PWR_STAT_STATE < 4) :
    effKeepaliveSend s =
      (let host := match s.cfgItem secNode 1 with
        | some v => if v.isEmpty then s.hostName else v
        | none => s.hostName
       { s with
         pwr := { s.pwr with keepAt := s.node.uptime }
         out := (s.reportWatch (fun _ => true)).out ++ s.legsOn.map s.legReport ++
           [.dnssd host host 47100 ((List.range 256).filter (fun k => s.bit (F.STR_TX_CFG_EN k))), .presence] }) := by
  rw [effKeepaliveSend, if_neg (by simp [hm]; omega), foldl_reportLeg s.legsOn (reportWatch_outOnly s _)]
  simp only [State.announceName, State.emit, List.append_assoc]
  rfl

/-- Settles O60: each event by whether its state holds; the entry by what the amplifier and the control buses leave of the power unit's
view; the keep-alive by its reports. -/
theorem powerEventsAct : Obligations.PowerEventsAct := by
  unfold Obligations.PowerEventsAct
  refine fun s ha => ⟨gives_runs (exec_scheduleOccurrence s) ha rfl, fun timer => ⟨⟨fun h => ?_, fun h => ?_⟩, fun h => ?_, fun he hm => ?_, fun h => ?_,
    fun h => ?_⟩, fun h => if_pos h, deepen_target, rise_permitted, fun h => ?_, fun hm h4 => ?_, ⟨fun h => ?_, fun h => ?_, fun p => ⟨fun h => ?_, fun h => ?_⟩,
    fun j => ⟨fun h => ?_, fun h => ?_⟩⟩, fun h => ?_, fun h1 h2 => ?_, ⟨fun h => ?_, fun h hp => ?_, fun h hp => ?_⟩⟩
  · exact gives_runs (exec_dormantDecide s) ha (effDormantDecide_not h)
  · refine gives_runs (exec_dormantDecide s) ha ?_
    obtain ⟨hb, ht, -⟩ := (mayDoze_iff _).1 h
    rw [effDormantDecide_may h, beginDormant_begins hb ht]
  · exact gives_runs (exec_dormantEnter s) ha (effDormantEnter_waits timer h)
  · intro port r q u
    have hu : u.powers = r.fallAsleep.powers := macsStop_powers q
    obtain ⟨hmode, hstate, hpwr, hrun⟩ := fallAsleep_powers r
    simp only [State.powers, Prod.mk.injEq] at hu
    obtain ⟨hnode, hpower, haudio, hstat⟩ := hu
    refine ⟨gives_runs (exec_dormantEnter s) ha (if_neg (by simp [he, hm])), by rw [hnode, hmode], ?_, by rw [hpower, hpwr],
      by rw [haudio, hrun]⟩
    rw [State.get, hstat]
    exact hstate
  · exact ⟨gives_runs (exec_powerDeepen s) ha (if_neg (by simp [h])), gives_runs (exec_powerRise s) ha (if_neg (by simp [h]))⟩
  · exact ⟨gives_runs (exec_powerDeepen s) ha (if_pos h), gives_runs (exec_powerRise s) ha (if_pos h)⟩
  · exact gives_runs (exec_keepaliveSend s) ha (if_pos (by simpa using h))
  · refine ⟨_, gives_runs (exec_keepaliveSend s) ha (effKeepaliveSend_dormant hm h4), rfl, fun k j hk hj hon => ?_⟩
    exact List.mem_append_left _ (List.mem_append_right _ (List.mem_map_of_mem (f := s.legReport) (mem_legsOn hk hj hon)))
  · exact gives_runs (exec_mooredRelock s) ha (if_neg (by simpa using h))
  · exact gives_runs (exec_mooredRelock s) ha (if_pos (by simpa [and_assoc] using h))
  · exact gives_runs (exec_linkWake s) ha (if_neg (by simpa using h))
  · exact gives_runs (exec_linkWake s) ha (if_pos (by simpa [and_assoc] using h))
  · exact gives_runs (exec_tcapWake s) ha (if_neg (by simpa using h))
  · exact gives_runs (exec_tcapWake s) ha (if_pos (by simpa [and_assoc] using h))
  · exact gives_runs (exec_relockEnd s) ha (if_pos (by simpa using h))
  · exact gives_runs (exec_relockEnd s) ha (if_neg (by simp [h1, h2]))
  · exact gives_runs (exec_leaveDormant s) ha (if_neg (by simp only [h]; decide))
  · exact gives_runs (exec_leaveDormant s) ha ((if_pos h).trans (leaveDormant_alone (resting_of_fails h) hp 6 0))
  · exact gives_runs (exec_leaveDormant s) ha ((if_pos h).trans (leaveDormant_paired (resting_of_fails h) hp 6 0))

end Sys2Proof.Machine
end

section
/-! TW0, the two-wire controller (R404 to R413). -/

namespace Sys2Proof.Machine

/-! ## TW0's typed state and its status bits -/

theorem setTw0_tw0 (s : State) (t : Tw0) : (s.setTw0 t).tw0 = t := rfl

theorem setTw0_onlyRegs (s : State) (t : Tw0) : OnlyRegs [TW0_STAT] { s with tw0 := t } (s.setTw0 t) :=
  (OnlyRegs.putBit (f := F.TW0_STAT_BUSY) _ _ List.mem_cons_self).trans
    (.putBit (f := F.TW0_STAT_BUS_BUSY) _ _ List.mem_cons_self)

/-- A bus that another controller holds is shown busy. -/
theorem setTw0_busBusy (s : State) {t : Tw0} (h : t.taken = true) : (s.setTw0 t).bit F.TW0_STAT_BUS_BUSY = true := by
  refine (bit_putBit_same _ _ (by decide) rfl).trans ?_
  simp [h]

theorem tw0Free_kept {s : State} (h : s.tw0.taken = false) : s.tw0Free = s := by
  rw [State.tw0Free, if_neg (by simp [h])]

theorem tw0Free_taken {s : State} (h : s.tw0.taken = true) : s.tw0Free = s.setTw0 { s.tw0 with
    taken := false
    run := s.tw0.run.map (fun r => if r.lost then { r with lost := false, tries := r.tries + 1 } else r) } := by
  rw [State.tw0Free, if_pos h]

theorem tw0Recover_freed {s : State} (h : s.tw0.taken = false) :
    s.tw0Recover .freed = (s.bump F.TW0_CNT_RECOVERIES).emit .tw0Recovery := by
  have hu : (s.bump F.TW0_CNT_RECOVERIES).tw0.taken = false := h
  rw [State.tw0Recover, tw0Free_kept hu]

theorem tw0Recover_sdaStuck (s : State) : s.tw0Recover .sdaStuck = (let u := s.bump F.TW0_CNT_RECOVERIES
    ((((u.emit .tw0Recovery).setTw0 { u.tw0 with sdaLow := true }).putBit F.TW0_STAT_SDA_STUCK true).latch 49).tw0End 7 0 []) := by
  rw [State.tw0Recover]

theorem tw0Recover_sclStuck (s : State) : s.tw0Recover .sclStuck = (let u := s.bump F.TW0_CNT_RECOVERIES
    (((u.setTw0 { u.tw0 with sclLow := true }).putBit F.TW0_STAT_SCL_STUCK true).latch 49).tw0End 8 0 []) := by
  rw [State.tw0Recover]

/-! ## A transaction's start (R404, R405) -/

/-- A command's image goes to TW0_CMD alone. -/
theorem tw0Cmd_onlyRegs (s : State) (cmd : Nat) : OnlyRegs [TW0_CMD] s (s.tw0Cmd cmd) := by
  have hput : ∀ {f : Fld} (t : State) (v : Nat), f.addr = TW0_CMD → OnlyRegs [TW0_CMD] t (t.put f v) :=
    fun t v h => .put t v (h ▸ List.mem_cons_self)
  unfold State.tw0Cmd
  extract_lets s1 s2 s3
  have h1 : OnlyRegs [TW0_CMD] s s1 := ((hput _ _ rfl).trans (hput _ _ rfl)).trans (hput _ _ rfl)
  have h2 : OnlyRegs [TW0_CMD] s s2 := h1.trans (.ite (hput _ _ rfl) (.refl _ _))
  have h3 : OnlyRegs [TW0_CMD] s s3 := h2.trans (.ite (hput _ _ rfl) (.refl _ _))
  exact h3.trans (hput _ _ rfl)

theorem OnlyRegs.tw0 {l : List Nat} {s t : State} (h : OnlyRegs l s t) : t.tw0 = s.tw0 := by rw [h.1]

theorem tw0On_of_onlyRegs {l : List Nat} {s t : State} (h : OnlyRegs l s t) (hc : TW0_CFG ∉ l) (hp : PWR_STAT ∉ l) :
    t.tw0On = s.tw0On := by
  rw [State.tw0On, h.bit (f := F.TW0_CFG_EN) hc, h.get (f := F.PWR_STAT_STATE) hp, State.tw0On]

theorem tw0On_tw0Cmd (s : State) (cmd : Nat) : (s.tw0Cmd cmd).tw0On = s.tw0On :=
  tw0On_of_onlyRegs (tw0Cmd_onlyRegs s cmd) (by decide) (by decide)

theorem tw0Go_waits {s : State} (cmd : Nat) (o : Option (Nat × Nat)) (h : s.tw0On = false ∨ s.tw0.run ≠ none) :
    s.tw0Go cmd o = s.tw0Cmd cmd := by
  refine if_pos ?_
  rw [tw0On_tw0Cmd, (tw0Cmd_onlyRegs s cmd).tw0]
  rcases h with h | h
  · simp [h]
  · simp [Option.isSome_iff_ne_none.2 h]

/-- The transaction a GO starts on the state with its command. -/
def State.tw0Run (s : State) (owner : Option (Nat × Nat)) : Tw0Run :=
  ⟨s.rg TW0_CMD, s.tw0.tx.take (s.get F.TW0_CMD_WLEN) ++ s.freeBytes (s.get F.TW0_CMD_WLEN - s.tw0.tx.length), 0, false, owner⟩

theorem tw0Go_starts {s : State} (cmd : Nat) (o : Option (Nat × Nat)) (ho : s.tw0On = true) (hr : s.tw0.run = none) :
    (s.tw0Go cmd o).tw0.run = some ((s.tw0Cmd cmd).tw0Run o) ∧ (s.tw0Go cmd o).bit F.TW0_RES_VALID = false := by
  have hgo : ¬ (!(s.tw0Cmd cmd).tw0On || (s.tw0Cmd cmd).tw0.run.isSome) = true := by
    rw [tw0On_tw0Cmd, (tw0Cmd_onlyRegs s cmd).tw0, ho, hr]
    decide
  unfold State.tw0Go
  rw [if_neg hgo]
  exact ⟨rfl, bit_putBit_same _ _ (by decide) rfl⟩

/-- A transaction writes as many bytes as WLEN says, those of TW0_TXD first. -/
theorem tw0Run_data (s : State) (o : Option (Nat × Nat)) : (s.tw0Run o).data.length = s.get F.TW0_CMD_WLEN ∧
    ∀ i, i < s.tw0.tx.length → i < (s.tw0Run o).data.length → (s.tw0Run o).data[i]? = s.tw0.tx[i]? := by
  have hlen : (s.tw0Run o).data.length = s.get F.TW0_CMD_WLEN := by
    simp only [State.tw0Run, State.freeBytes, List.length_append, List.length_take, List.length_map, List.length_range]
    omega
  refine ⟨hlen, fun i hi hd => ?_⟩
  rw [hlen] at hd
  rw [State.tw0Run, List.getElem?_append_left (by rw [List.length_take]; omega), List.getElem?_take_of_lt hd]

theorem tw0Next_idle {s : State} (h : s.tw0.waits = [] ∨ s.tw0On = false ∨ s.tw0.run ≠ none) : s.tw0Next = s := by
  unfold State.tw0Next
  split
  · rfl
  next hw =>
    refine if_pos ?_
    rcases h with h | h | h
    · exact absurd (hw.symm.trans h) (by simp)
    · simp [h]
    · simp [Option.isSome_iff_ne_none.2 h]

theorem tw0Next_starts {s : State} {cmd : Nat} {bytes : List Byte} {o : Option (Nat × Nat)}
    {rest : List (Nat × List Byte × Option (Nat × Nat))} (hw : s.tw0.waits = (cmd, bytes, o) :: rest) (ho : s.tw0On = true)
    (hr : s.tw0.run = none) : s.tw0Next = (s.setTw0 { s.tw0 with waits := rest, tx := bytes }).tw0Go cmd o := by
  simp [State.tw0Next, hw, ho, hr]

/-! ## A transaction's end (R406, R410) -/

/-- After a transaction lost for good nothing waits: the winner holds the bus still. -/
theorem tw0End_busBusy {s : State} {r : Tw0Run} (hr : s.tw0.run = some r) (ht : s.tw0.taken = true) (hw : s.tw0.waits = []) :
    (s.tw0End 3 0 []).bit F.TW0_STAT_BUS_BUSY = true := by
  unfold State.tw0End
  rw [hr]
  dsimp only
  rw [if_neg (by decide), if_neg (by decide)]
  generalize hu : (s.setTw0 { s.tw0 with run := none, tx := [], rx := [], pos := 0 }).setRg TW0_RES _ = u
  have hbusy : u.bit F.TW0_STAT_BUS_BUSY = true := by
    rw [← hu, State.bit, get_setRg_ne _ _ (by decide)]
    exact setTw0_busBusy s ht
  have huw : u.tw0.waits = [] := by
    rw [← hu]
    exact hw
  rw [tw0Next_idle (.inl (by rw [finish_talks, huw])), State.bit, get_of_regs (s := u) (by rw [finish_talks])]
  exact hbusy

theorem tw0Lost_busBusy {u : State} {r : Tw0Run} (hr : u.tw0.run = some r) (hw : u.tw0.waits = []) :
    ((u.setTw0 { u.tw0 with taken := true }).tw0End 3 0 []).bit F.TW0_STAT_BUS_BUSY = true :=
  tw0End_busBusy (r := r) (by rw [setTw0_tw0]; exact hr) (by rw [setTw0_tw0]) (by rw [setTw0_tw0]; exact hw)

theorem effTw0ArbLost_lost {s : State} {r : Tw0Run} (hr : s.tw0.run = some r) (ht : s.tw0.taken = false) :
    effTw0ArbLost s = (let u := (s.putBit F.TW0_STAT_ARB_LOST true).bump F.TW0_CNT_ARB_LOSSES
      if u.get F.TW0_CFG_ARB_RETRY ≤ r.tries then (u.setTw0 { u.tw0 with taken := true }).tw0End 3 0 []
      else u.setTw0 { u.tw0 with run := some { r with lost := true }, taken := true }) := by
  unfold effTw0ArbLost
  rw [hr]
  exact if_neg (by simp [ht])

theorem effTw0ArbLost_barred {s : State} (h : s.tw0.run = none ∨ s.tw0.taken = true) : effTw0ArbLost s = s := by
  unfold effTw0ArbLost
  split
  · rfl
  next hr =>
    rw [hr] at h
    exact if_pos (by simp [h.resolve_left (by simp)])

theorem effTw0Abort_run {s : State} {r : Tw0Run} (hr : s.tw0.run = some r) (n : Nat) (l : List Byte) :
    effTw0Abort n l s = s.tw0End 9 (min n (fieldOf r.cmd 15 7)) l := by
  rw [effTw0Abort, hr]

theorem effTw0Abort_idle {s : State} (hr : s.tw0.run = none) (n : Nat) (l : List Byte) : effTw0Abort n l s = s := by
  rw [effTw0Abort, hr]

theorem effTw0Disable_on {s : State} (h : s.bit F.TW0_CFG_EN = true) (n : Nat) (l : List Byte) :
    effTw0Disable n l s = effTw0Abort n l (s.putBit F.TW0_CFG_EN false) := if_pos h

theorem effTw0Timeout_run {s : State} {r : Tw0Run} (hr : s.tw0.run = some r) (n : Nat) (l : List Byte) (how : Recovery) :
    effTw0Timeout n l how s = (s.tw0End 4 (min n (fieldOf r.cmd 15 7)) l).tw0Recover how := by
  rw [effTw0Timeout, hr]

theorem effTw0Timeout_idle {s : State} (hr : s.tw0.run = none) (n : Nat) (l : List Byte) (how : Recovery) :
    effTw0Timeout n l how s = s := by
  rw [effTw0Timeout, hr]

/-! ## What the partners drive (R405, R406) -/

/-- The bytes a transaction sends after its address. -/
def Tw0Run.sends (r : Tw0Run) : List Byte :=
  r.data ++ (if fieldOf r.cmd 30 1 = 1 ∧ fieldOf r.cmd 8 7 = 0 ∧ fieldOf r.cmd 15 7 ≠ 0 then
    [pec (BitVec.ofNat 8 (2 * fieldOf r.cmd 22 7) :: r.data)] else [])

/-- The write half on the bus. -/
def State.tw0Wrote (s : State) (r : Tw0Run) (b : Tw0Bus) : State :=
  if fieldOf r.cmd 15 7 ≠ 0 ∨ fieldOf r.cmd 8 7 = 0 then
    s.emit (.tw0 (2 * fieldOf r.cmd 22 7) (if b.ackW then r.sends.take (b.acked + 1) else []))
  else s

/-- The read half of a transaction: its result and the bytes read. -/
def Tw0Run.reads (r : Tw0Run) (b : Tw0Bus) : Nat × List Byte :=
  tw0Read r.cmd ((if fieldOf r.cmd 15 7 ≠ 0 ∨ fieldOf r.cmd 8 7 = 0 then BitVec.ofNat 8 (2 * fieldOf r.cmd 22 7) :: r.data else []) ++
    [BitVec.ofNat 8 (2 * fieldOf r.cmd 22 7 + 1)]) b.read

/-- The end of a transaction on a free bus. -/
theorem effTw0Done_run {s : State} {r : Tw0Run} (hr : s.tw0.run = some r) (ht : s.tw0.taken = false) (hd : s.tw0.sdaLow = false)
    (hc : s.tw0.sclLow = false) (b : Tw0Bus) : effTw0Done b s =
      if (fieldOf r.cmd 15 7 ≠ 0 ∨ fieldOf r.cmd 8 7 = 0) ∧ b.ackW = false then (s.tw0Wrote r b).tw0End 1 0 []
      else if b.acked < r.sends.length then (s.tw0Wrote r b).tw0End 2 (min b.acked (fieldOf r.cmd 15 7)) []
      else if fieldOf r.cmd 8 7 = 0 then (s.tw0Wrote r b).tw0End 0 (fieldOf r.cmd 15 7) []
      else
        let w := (s.tw0Wrote r b).emit (.tw0 (2 * fieldOf r.cmd 22 7 + 1) [])
        if b.ackR = false then w.tw0End 1 (fieldOf r.cmd 15 7) []
        else w.tw0End (r.reads b).1 (fieldOf r.cmd 15 7) (r.reads b).2 := by
  unfold effTw0Done
  rw [hr]
  simp only [ht, hd, hc, Bool.or_false, Bool.false_eq_true, if_false, Bool.or_eq_true, Bool.and_eq_true, decide_eq_true_eq,
    Bool.not_eq_true', State.tw0Wrote, Tw0Run.sends, Tw0Run.reads, and_assoc]
  rfl

theorem effTw0Done_barred {s : State} (h : s.tw0.run = none ∨ s.tw0.taken = true) (b : Tw0Bus) : effTw0Done b s = s := by
  unfold effTw0Done
  split
  · rfl
  next hr =>
    rw [hr] at h
    exact if_pos (by simp [h.resolve_left (by simp)])

/-! The bytes read, with their PEC -/

theorem padRead_of_le {n : Nat} {l : List Byte} (h : n ≤ l.length) : padRead n l = l.take n := by
  rw [padRead, List.take_append_of_le_length h]

theorem padRead_append {d e : List Byte} : padRead d.length (d ++ e) = d := by
  rw [padRead_of_le (by simp), List.take_left]

theorem padRead_full (l : List Byte) : padRead l.length l = l := by
  rw [padRead_of_le le_rfl, List.take_length]

theorem tw0Read_plain {cmd : Nat} (h : fieldOf cmd 29 1 = 0) (bus got : List Byte) : tw0Read cmd bus got =
    (if fieldOf cmd 30 1 = 1 ∧ (padRead (fieldOf cmd 8 7 + 1) got).getLastD 0 ≠ pec (bus ++ padRead (fieldOf cmd 8 7) got) then 5 else 0,
      padRead (fieldOf cmd 8 7) got) := by
  simp [tw0Read, h]

theorem tw0Read_block {cmd : Nat} (h : fieldOf cmd 29 1 = 1) {c : Byte} {d : List Byte} (h0 : c ≠ 0) (hc : c.toNat ≤ fieldOf cmd 8 7)
    (bus : List Byte) : tw0Read cmd bus (c :: d) =
      (if fieldOf cmd 30 1 = 1 ∧ (padRead (c.toNat + 2) (c :: d)).getLastD 0 ≠ pec (bus ++ padRead (c.toNat + 1) (c :: d)) then 5 else 0,
        padRead (c.toNat + 1) (c :: d)) := by
  have hfirst : (padRead 1 (c :: d)).headD 0 = c := rfl
  simp only [tw0Read, h, if_true, hfirst]
  rw [if_neg (by simpa [hc] using h0)]
  simp only [Bool.and_eq_true, beq_iff_eq, bne_iff_ne]

/-- A length no read may have ends the read (R406). -/
theorem tw0Read_badLength {cmd : Nat} (h : fieldOf cmd 29 1 = 1) {c : Byte} {d : List Byte} (hc : c = 0 ∨ fieldOf cmd 8 7 < c.toNat)
    (bus : List Byte) : tw0Read cmd bus (c :: d) = (6, [c]) := by
  have hfirst : (padRead 1 (c :: d)).headD 0 = c := rfl
  simp only [tw0Read, h, if_true, hfirst]
  exact if_pos (by simpa using hc)

/-- The result of a plain read, with and without its PEC. -/
theorem tw0Read_plain_spec {cmd : Nat} (h : fieldOf cmd 29 1 = 0) (bus got : List Byte) :
    (tw0Read cmd bus got).2 = padRead (fieldOf cmd 8 7) got ∧ (fieldOf cmd 30 1 = 0 → (tw0Read cmd bus got).1 = 0) ∧
      (fieldOf cmd 30 1 = 1 → ∀ d p, got = d ++ [p] → d.length = fieldOf cmd 8 7 →
        tw0Read cmd bus got = (if p = pec (bus ++ d) then 0 else 5, d)) := by
  rw [tw0Read_plain h]
  refine ⟨rfl, fun hp => if_neg (by simp [hp]), fun hp d p hgot hlen => ?_⟩
  have hall : padRead (fieldOf cmd 8 7 + 1) got = d ++ [p] := by
    rw [hgot, ← hlen, show d.length + 1 = (d ++ [p]).length by simp, padRead_full]
  have hdata : padRead (fieldOf cmd 8 7) got = d := by rw [hgot, ← hlen, padRead_append]
  rw [hall, hdata, List.getLastD_concat]
  simp [hp]

/-- The result of a block read: a length it may have, and its PEC. -/
theorem tw0Read_block_spec {cmd : Nat} (h : fieldOf cmd 29 1 = 1) {c : Byte} {d : List Byte} (h0 : c ≠ 0)
    (hc : c.toNat ≤ fieldOf cmd 8 7) (bus : List Byte) :
    (fieldOf cmd 30 1 = 0 → tw0Read cmd bus (c :: d) = (0, padRead (c.toNat + 1) (c :: d))) ∧
      (fieldOf cmd 30 1 = 1 → ∀ e p, d = e ++ [p] → e.length = c.toNat →
        tw0Read cmd bus (c :: d) = (if p = pec (bus ++ c :: e) then 0 else 5, c :: e)) := by
  rw [tw0Read_block h h0 hc]
  refine ⟨fun hp => by rw [if_neg (by simp [hp])], fun hp e p hd hlen => ?_⟩
  have hall : padRead (c.toNat + 2) (c :: d) = (c :: e) ++ [p] := by
    rw [hd, ← hlen, show e.length + 2 = ((c :: e) ++ [p]).length by simp]
    exact padRead_full _
  have hdata : padRead (c.toNat + 1) (c :: d) = c :: e := by
    rw [hd, ← hlen]
    exact padRead_append (d := c :: e) (e := [p])
  rw [hall, hdata, List.getLastD_concat]
  simp [hp]

end Sys2Proof.Machine
end

section
/-! The TW1 target (R414 to R421), and the two ports together. -/

namespace Sys2Proof.Machine

theorem tw1Start_acks {s : State} {a : Nat} (h : s.tw1Acks a = true) : s.tw1Start a = (s, true) := if_pos h

theorem tw1Start_nacks {s : State} {a : Nat} (h : s.tw1Acks a = false) :
    s.tw1Start a = (({ s with tw1 := ⟨false⟩ } : State).emit .tw1Nack, false) := if_neg (by simp [h])

/-- Bytes beyond those the target holds: one NACK for each. -/
theorem iterate_emit (o : Output) (n : Nat) (s : State) :
    iterate (fun s => s.emit o) n s = { s with out := s.out ++ List.replicate n o } := by
  induction n generalizing s with
  | zero => rw [List.replicate_zero, List.append_nil, iterate]
  | succ n ih =>
    rw [iterate, ih, State.emit, List.replicate_succ, List.append_assoc]
    rfl

theorem tw1Holds_few {s : State} {l : List Byte} (h : s.bit F.TW1_CFG_PEC_EN = false ∨ l.length ≤ 66) : s.tw1Holds l = s := by
  unfold State.tw1Holds
  rcases h with h | h
  · exact if_neg (by simp [h])
  · rw [Nat.sub_eq_zero_of_le h]
    exact ite_self s

theorem tw1Holds_pec {s : State} (h : s.bit F.TW1_CFG_PEC_EN = true) (l : List Byte) :
    s.tw1Holds l = { s with out := s.out ++ List.replicate (l.length - 66) .tw1Nack } := by
  rw [State.tw1Holds, if_pos h, iterate_emit]

theorem effTw1Write_acks {s : State} {a : Nat} (h : s.tw1Acks a = true) (l : List Byte) :
    effTw1Write a l s = (s.tw1Holds l).tw1Write a l := by
  rw [effTw1Write, tw1Start_acks h]
  exact if_pos rfl

theorem effTw1Read_acks {s : State} {a : Nat} (h : s.tw1Acks a = true) (n : Nat) :
    effTw1Read a n s = (s.tw1Read none [] n).1.emit (.tw1 (s.tw1Read none [] n).2) := by
  rw [effTw1Read, tw1Start_acks h]
  exact if_pos rfl

theorem tw1Cut_nacks {s : State} {a : Nat} (h : s.tw1Acks a = false) (c : Tw1Cut) :
    s.tw1Cut a c = (({ s with tw1 := ⟨false⟩ } : State).emit .tw1Nack, false) := by
  unfold State.tw1Cut
  rw [tw1Start_nacks h]
  exact if_pos rfl

theorem tw1Cut_write {s : State} {a : Nat} (h : s.tw1Acks a = true) (l : List Byte) :
    s.tw1Cut a (.write l) = (if s.bit F.TW1_CFG_PEC_EN then s.tw1Holds l else s.tw1Write a l, true) := by
  unfold State.tw1Cut
  rw [tw1Start_acks h]
  exact if_neg (by simp)

theorem tw1Cut_read {s : State} {a : Nat} (h : s.tw1Acks a = true) (n : Nat) :
    s.tw1Cut a (.read n) = ((s.tw1Read none [] n).1.emit (.tw1 (s.tw1Read none [] n).2), true) := by
  unfold State.tw1Cut
  rw [tw1Start_acks h]
  exact if_neg (by simp)

theorem effTw1Timeout_cut {s u : State} {a : Nat} {c : Tw1Cut} (h : s.tw1Cut a c = (u, true)) :
    effTw1Timeout a c s = ((u.putBit F.TW1_STAT_TIMEOUT true).bump F.TW1_CNT_TIMEOUTS).latch 50 := by
  rw [effTw1Timeout, h]
  exact if_pos rfl

theorem effTw1ProtocolError_cut {s u : State} {a : Nat} {c : Tw1Cut} (h : s.tw1Cut a c = (u, true)) :
    effTw1ProtocolError a c s = { (u.bump F.TW1_CNT_TW_PROTO_ERR).latch 50 with tw1 := ⟨true⟩ } := by
  rw [effTw1ProtocolError, h]
  exact if_pos rfl

theorem next_of_protocolError {i : Instr} {s u : State} (h : Gives i s { u with tw1 := ⟨true⟩ }) :
    ∃ t, exec i s = .next t ∧ t = { u with tw1 := ⟨true⟩, pending := s.pending } := ⟨_, h, rfl⟩

/-- A target that does not take its address answers every transaction with a NACK. -/
theorem tw1_nacks {s : State} {a : BitVec 7} (ha : s.alive = true) (h : s.tw1Acks a.toNat = false) (l : List Byte) (n : Nat) (c : Tw1Cut)
    (i : Instr) (hi : i ∈ [Instr.tw1Write a l, .tw1Read a n, .tw1ProtocolError a c, .tw1Timeout a c]) :
    Gives i s (({ s with tw1 := ⟨false⟩ } : State).emit .tw1Nack) := by
  simp only [List.mem_cons, List.not_mem_nil, or_false] at hi
  rcases hi with rfl | rfl | rfl | rfl
  · refine gives_runs (exec_tw1Write s) ha ?_
    rw [effTw1Write, tw1Start_nacks h]
    exact if_neg Bool.false_ne_true
  · refine gives_runs (exec_tw1Read s) ha ?_
    rw [effTw1Read, tw1Start_nacks h]
    exact if_neg Bool.false_ne_true
  · refine gives_runs (exec_tw1ProtocolError s) ha ?_
    rw [effTw1ProtocolError, tw1Cut_nacks h]
    exact if_neg Bool.false_ne_true
  · refine gives_runs (exec_tw1Timeout s) ha ?_
    rw [effTw1Timeout, tw1Cut_nacks h]
    exact if_neg Bool.false_ne_true

/-- Settles O58: TW0's commands by whether it acts and a transaction runs, a transaction's end by what its partners drove; TW1's by
whether the target takes its address. -/
theorem twoWirePortsAct : Obligations.TwoWirePortsAct := by
  unfold Obligations.TwoWirePortsAct
  refine fun s ha => ⟨fun how => ⟨fun h => ?_, fun h => ?_, fun h => ?_, fun h => ⟨?_, ?_⟩, fun ho hl => ?_, fun h => ?_, tw0Recover_freed, tw0Recover_sdaStuck s,
    tw0Recover_sclStuck s⟩,
    gives_runs (exec_tw0StuckClear s) ha rfl, gives_runs (exec_tw0StuckClear s) ha rfl, fun w => ?_, ?_, fun cmd => ⟨fun h => ?_,
    fun ho hr => ?_⟩, fun cmd bytes o rest hw ho hr => tw0Next_starts hw ho hr, tw0Next_idle, fun h => ?_, fun ht hr => ?_,
    fun hr n l how b => ⟨?_, ?_, ?_, ?_⟩, fun n l => ⟨fun h => ?_, fun h hr => ?_⟩, fun r hr => ⟨fun n l how => ⟨?_, fun h => ?_, ?_⟩,
    fun ht => ⟨?_, fun b => ?_⟩, fun ht hl => ?_, fun ht hl => ?_, fun ht => ⟨?_, fun hb hw => ?_⟩, fun ht hd hc b => ?_⟩,
    fun a => ⟨fun h l n c i hi => ?_, fun h => ⟨fun l => ⟨fun hp => ?_, fun hp => ?_⟩, fun n => ?_, fun l => ⟨?_, ?_⟩,
    fun n => ⟨?_, ?_⟩⟩⟩⟩
  · exact gives_runs (exec_tw0Enable s) ha (if_pos h)
  · exact gives_runs (exec_tw0Enable s) ha (if_neg (by simp [h]))
  · exact gives_runs (exec_tw0Recover s) ha (if_pos h)
  · exact gives_runs (exec_tw0Recover s) ha (if_neg (by simp [h]))
  · exact gives_runs (exec_tw0RecoveryRepeat s) ha (if_neg (by simp [h]))
  · exact gives_runs (exec_tw0RecoveryRepeat s) ha (if_pos (by rw [ho, hl]; rfl))
  · exact gives_runs (exec_tw0RecoveryRepeat s) ha (if_neg (by rw [h, Bool.and_false]; decide))
  · exact ⟨_, gives_runs (exec_tw0Txd s) ha rfl, rfl, (setTw0_onlyRegs s _).withPending⟩
  · exact ⟨_, gives_runs (exec_tw0Rxd s) ha rfl, rfl, rfl⟩
  · exact gives_runs (exec_tw0Go s) ha (tw0Go_waits _ none h)
  · obtain ⟨hrun, hvalid⟩ := tw0Go_starts cmd.toNat none ho hr
    obtain ⟨hlen, hbytes⟩ := tw0Run_data (s.tw0Cmd cmd.toNat) none
    rw [(tw0Cmd_onlyRegs s cmd.toNat).tw0] at hbytes
    exact ⟨_, _, gives_runs (exec_tw0Go s) ha rfl, hrun, rfl, hlen, hbytes, rfl, rfl, (bit_pending _ _ _).trans hvalid⟩
  · exact gives_runs (exec_tw0ArbRetry s) ha (tw0Free_kept h)
  · refine gives_runs (exec_tw0ArbRetry s) ha ((tw0Free_taken ht).trans ?_)
    simp [hr]
  · exact gives_runs (exec_tw0ArbLost s) ha (effTw0ArbLost_barred (.inl hr))
  · exact gives_runs (exec_tw0Done s) ha (effTw0Done_barred (.inl hr) b)
  · exact gives_runs (exec_tw0Abort s) ha (effTw0Abort_idle hr n l)
  · exact gives_runs (exec_tw0Timeout s) ha (effTw0Timeout_idle hr n l how)
  · exact gives_runs (exec_tw0Disable s) ha (if_neg (by simp [h]))
  · exact gives_runs (exec_tw0Disable s) ha ((effTw0Disable_on h n l).trans (effTw0Abort_idle (s := s.putBit F.TW0_CFG_EN false) hr n l))
  · exact gives_runs (exec_tw0Abort s) ha (effTw0Abort_run hr n l)
  · exact gives_runs (exec_tw0Disable s) ha ((effTw0Disable_on h n l).trans (effTw0Abort_run (s := s.putBit F.TW0_CFG_EN false) hr n l))
  · exact gives_runs (exec_tw0Timeout s) ha (effTw0Timeout_run hr n l how)
  · exact gives_runs (exec_tw0ArbLost s) ha (effTw0ArbLost_barred (.inr ht))
  · exact gives_runs (exec_tw0Done s) ha (effTw0Done_barred (.inr ht) b)
  · refine gives_runs (exec_tw0ArbRetry s) ha ((tw0Free_taken ht).trans ?_)
    simp [hr, hl]
  · refine gives_runs (exec_tw0ArbRetry s) ha ((tw0Free_taken ht).trans ?_)
    simp [hr, hl]
  · exact gives_runs (exec_tw0ArbLost s) ha (effTw0ArbLost_lost hr ht)
  · have hsame : ((s.putBit F.TW0_STAT_ARB_LOST true).bump F.TW0_CNT_ARB_LOSSES).tw0 = s.tw0 := by
      rw [State.bump_tw0, State.putBit_tw0]
    exact tw0Lost_busBusy (by rw [hsame, hr]) (by rw [hsame, hw])
  · intro addrW addrR writes sent w
    have hdone := effTw0Done_run hr ht hd hc b
    have hgives : ∀ {t : State}, effTw0Done b s = t → Gives (.tw0Done b) s t := gives_runs (exec_tw0Done s) ha
    refine ⟨fun hw hack => hgives (hdone.trans (if_pos ⟨hw, hack⟩)), fun hack => ?_⟩
    have hsent := hdone.trans (if_neg (fun ⟨hw, hn⟩ => hack.elim (fun h => h hw) (fun h => by simp [h] at hn)))
    refine ⟨fun hlt => hgives (hsent.trans (if_pos hlt)), fun hle h0 => ?_, fun hle h0 hn => ?_, fun hle h0 hok => ?_⟩
    · exact hgives (hsent.trans ((if_neg (Nat.not_lt.2 hle)).trans (if_pos h0)))
    · exact hgives (hsent.trans ((if_neg (Nat.not_lt.2 hle)).trans ((if_neg h0).trans (if_pos hn))))
    · refine ⟨hgives (hsent.trans ((if_neg (Nat.not_lt.2 hle)).trans ((if_neg h0).trans (if_neg (by simp [hok]))))),
        fun hplain => tw0Read_plain_spec hplain _ _, fun hblock c d hread => ?_⟩
      rw [hread]
      exact ⟨fun hbad => tw0Read_badLength hblock hbad _, fun hc0 hfit => tw0Read_block_spec hblock hc0 hfit _⟩
  · exact ⟨_, tw1_nacks ha h l n c i hi, rfl⟩
  · refine gives_runs (exec_tw1Write s) ha ((effTw1Write_acks h l).trans ?_)
    rw [tw1Holds_few hp]
  · refine gives_runs (exec_tw1Write s) ha ((effTw1Write_acks h l).trans ?_)
    rw [tw1Holds_pec hp]
  · exact gives_runs (exec_tw1Read s) ha (effTw1Read_acks h n)
  · exact gives_runs (exec_tw1Timeout s) ha (effTw1Timeout_cut (tw1Cut_write h l))
  · exact next_of_protocolError (gives_runs (exec_tw1ProtocolError s) ha (effTw1ProtocolError_cut (tw1Cut_write h l)))
  · exact gives_runs (exec_tw1Timeout s) ha (effTw1Timeout_cut (tw1Cut_read h n))
  · exact next_of_protocolError (gives_runs (exec_tw1ProtocolError s) ha (effTw1ProtocolError_cut (tw1Cut_read h n)))

end Sys2Proof.Machine
end

section
/-! The state of a control-bus MAC: what each operation writes of it, and what it leaves (chapter 13). -/

namespace Sys2Proof.Machine

/-! ## Setting a MAC -/

/-- The registers that show a MAC's state. -/
def macRegs (m : Nat) : List Nat := [CBUS_STAT m, CBUS_RX_STAT m, CBUS_RX_TS m, CBUS_TX_RES m]

/-- The table of MACs after one of them is set. -/
def State.macsWith (s : State) (m : Nat) (c : CbusMac) : Tbl CbusMac := tput s.cbus.macs m (if c = CbusMac.rest then none else some c)

theorem setMac_onlyRegs (s : State) (m : Nat) (c : CbusMac) :
    OnlyRegs (macRegs m) { s with cbus := { s.cbus with macs := s.macsWith m c } } (s.setMac m c) := by
  have hstat : CBUS_STAT m ∈ macRegs m := List.mem_cons_self
  have hrxStat : CBUS_RX_STAT m ∈ macRegs m := by simp [macRegs]
  have hrxTs : CBUS_RX_TS m ∈ macRegs m := by simp [macRegs]
  have hres : CBUS_TX_RES m ∈ macRegs m := by simp [macRegs]
  unfold State.setMac
  extract_lets _ s1 s2 s3 s4 s5
  have h4 : OnlyRegs (macRegs m) s1 s4 :=
    (((OnlyRegs.put s1 _ hstat).trans (.put _ _ hstat)).trans (.putBit _ _ hstat)).trans (.putBit _ _ hstat)
  have h5 : OnlyRegs (macRegs m) s1 s5 := by
    unfold s5
    split
    · exact h4.trans ((OnlyRegs.setRg _ _ hrxStat).trans (.setRg _ _ hrxTs))
    · exact h4.trans ((OnlyRegs.setRg _ _ hrxStat).trans (.setRg _ _ hrxTs))
  split
  · exact h5.trans (.setRg _ _ hres)
  · exact h5.trans (.setRg _ _ hres)

/-- Nothing but the table of MACs and the registers that show them. -/
theorem setMac_only (s : State) (m : Nat) (c : CbusMac) :
    s.setMac m c = { s with regs := (s.setMac m c).regs, cbus := { s.cbus with macs := s.macsWith m c } } :=
  (setMac_onlyRegs s m c).1

theorem setMac_cbus (s : State) (m : Nat) (c : CbusMac) : (s.setMac m c).cbus = { s.cbus with macs := s.macsWith m c } := by
  rw [setMac_only]

@[simp] theorem mac_setMac_same (s : State) (m : Nat) (c : CbusMac) : (s.setMac m c).mac m = c := by
  rw [State.mac, setMac_cbus, tgetD, State.macsWith, tget_tput, if_pos rfl]
  split
  next h => exact h.symm
  · rfl

@[simp] theorem setMac_out (s : State) (m : Nat) (c : CbusMac) : (s.setMac m c).out = s.out := by rw [setMac_only]

theorem rg_setMac (s : State) {m a : Nat} (c : CbusMac) (h : a ∉ macRegs m) : (s.setMac m c).rg a = s.rg a :=
  (setMac_onlyRegs s m c).2 a h

theorem get_setMac (s : State) {m : Nat} {f : Fld} (c : CbusMac) (h : f.addr ∉ macRegs m) : (s.setMac m c).get f = s.get f := by
  rw [State.get, rg_setMac s c h, State.get]

theorem bit_setMac (s : State) {m : Nat} {f : Fld} (c : CbusMac) (h : f.addr ∉ macRegs m) : (s.setMac m c).bit f = s.bit f := by
  rw [State.bit, get_setMac s c h, State.bit]

theorem mdio_notMem (m : Nat) : CBUS_MDIO m ∉ macRegs m := by simp [macRegs]

theorem cfg_notMem (m : Nat) : CBUS_CFG m ∉ macRegs m := by simp [macRegs]

theorem cnt_notMem (m : Nat) {k : Nat} : CBUS_CNT m k ∉ macRegs m := by
  simp only [macRegs, List.mem_cons, List.not_mem_nil, or_false, not_or]
  unfold CBUS_CNT CBUS_STAT CBUS_RX_STAT CBUS_RX_TS CBUS_TX_RES
  omega

/-! ## What leaves a MAC as it was -/

theorem mac_of_cbus {s t : State} (h : t.cbus = s.cbus) (m : Nat) : t.mac m = s.mac m := by rw [State.mac, h, State.mac]

@[simp] theorem mac_setRg (s : State) (a v m : Nat) : (s.setRg a v).mac m = s.mac m := mac_of_cbus (State.setRg_cbus s a v) m

@[simp] theorem mac_put (s : State) (f : Fld) (v m : Nat) : (s.put f v).mac m = s.mac m := mac_of_cbus (State.put_cbus s f v) m

@[simp] theorem mac_putBit (s : State) (f : Fld) (b : Bool) (m : Nat) : (s.putBit f b).mac m = s.mac m :=
  mac_of_cbus (State.putBit_cbus s f b) m

@[simp] theorem mac_emit (s : State) (o : Output) (m : Nat) : (s.emit o).mac m = s.mac m := mac_of_cbus rfl m

@[simp] theorem mac_cbusCount (s : State) (m k n m' : Nat) : (s.cbusCount m k n).mac m' = s.mac m' := mac_setRg s _ _ m'

@[simp] theorem mac_mapPartners (s : State) (keys : List Nat) (f : Partner → Partner) (m : Nat) : (s.mapPartners keys f).mac m = s.mac m :=
  rfl

/-! ## The counters (Table 13.4) -/

theorem rg_cbusCount_same (s : State) (m k n : Nat) :
    (s.cbusCount m k n).rg (CBUS_CNT m k) = min 0xFFFFFFFF (s.rg (CBUS_CNT m k) + n) := by
  rw [State.cbusCount, rg_setRg_same]
  omega

theorem rg_cbusCount_ne (s : State) (m n : Nat) {k a : Nat} (h : a ≠ CBUS_CNT m k) : (s.cbusCount m k n).rg a = s.rg a :=
  rg_setRg_ne s _ h

theorem cnt_ne (m : Nat) {j k : Nat} (h : j ≠ k) : CBUS_CNT m j ≠ CBUS_CNT m k := by
  unfold CBUS_CNT
  omega

@[simp] theorem cbusCount_out (s : State) (m k n : Nat) : (s.cbusCount m k n).out = s.out := rfl

/-! ## Frames that end (R390, R396) -/

theorem cbusEnd_cons {s : State} {m : Nat} {f : CbusFrame} {fs : List CbusFrame} (h : (s.mac m).queue = f :: fs) (result : Nat) :
    s.cbusEnd m result = s.setMac m { s.mac m with
      queue := fs, phase := .defer, results := (s.mac m).results ++ [⟨f.tag, result, f.attempts, f.owner⟩] } := by
  unfold State.cbusEnd
  dsimp only
  rw [h]

theorem cbusDiscard_nil {s : State} {m : Nat} (h : (s.mac m).queue = []) (result : Nat) : s.cbusDiscard m result = s := by
  rw [State.cbusDiscard, if_pos (by rw [h]; rfl)]

/-- A flushed frame ends with FLUSHED and counts. -/
theorem cbusDiscard_flushed {s : State} {m : Nat} {f : CbusFrame} {fs : List CbusFrame} (h : (s.mac m).queue = f :: fs) :
    s.cbusDiscard m 4 = (s.cbusEnd m 4).cbusCount m 25 := by
  rw [State.cbusDiscard, if_neg (by simp [h])]
  rfl

/-- A MAC that defers, its first `n` frames flushed. -/
def CbusMac.flushed (c : CbusMac) (n : Nat) : CbusMac :=
  { c with
    queue := c.queue.drop n, results := c.results ++ (c.queue.take n).map (fun g => ⟨g.tag, 4, g.attempts, g.owner⟩) }

/-- Frames flushed from a MAC that defers: the MAC, and what else is as it was. -/
theorem iterate_flushed {m : Nat} (n : Nat) {s : State} (hp : (s.mac m).phase = .defer) :
    (iterate (fun s => s.cbusDiscard m 4) n s).mac m = (s.mac m).flushed n ∧
      (iterate (fun s => s.cbusDiscard m 4) n s).out = s.out ∧
      ∀ a, a ∉ macRegs m → a ≠ CBUS_CNT m 25 → (iterate (fun s => s.cbusDiscard m 4) n s).rg a = s.rg a := by
  induction n generalizing s with
  | zero => exact ⟨by simp [CbusMac.flushed, iterate], rfl, fun _ _ _ => rfl⟩
  | succ n ih =>
    rw [iterate]
    cases hq : (s.mac m).queue with
    | nil =>
      rw [cbusDiscard_nil hq]
      obtain ⟨hmac, hrest⟩ := ih hp
      exact ⟨hmac.trans (by simp [CbusMac.flushed, hq]), hrest⟩
    | cons f fs =>
      rw [cbusDiscard_flushed hq, cbusEnd_cons hq]
      generalize hc : ({ s.mac m with
        queue := fs, phase := .defer, results := (s.mac m).results ++ [⟨f.tag, 4, f.attempts, f.owner⟩] } : CbusMac) = c
      obtain ⟨hmac, hout, hrg⟩ := ih (s := (s.setMac m c).cbusCount m 25) (by rw [mac_cbusCount, mac_setMac_same, ← hc])
      refine ⟨hmac.trans ?_, hout.trans ((cbusCount_out _ _ _ _).trans (setMac_out s m c)), fun a ha hn => ?_⟩
      · rw [mac_cbusCount, mac_setMac_same, ← hc]
        simp [CbusMac.flushed, hq, hp]
      · rw [hrg a ha hn, rg_cbusCount_ne _ _ _ hn, rg_setMac _ _ ha]

end Sys2Proof.Machine
end

section
/-! The commands of a control-bus MAC (R384 to R398). -/

namespace Sys2Proof.Machine

/-! ## Enable and disable (R384 to R386) -/

theorem effCbusEnable_plain {s : State} {m : Nat} (p : Option Bool) (he : s.bit (F.CBUS_CFG_EN m) = false)
    (hp : s.bit (F.CBUS_CFG_PLCA_OFF m) = false) : effCbusEnable m p s = s.macEnabled m := by
  rw [effCbusEnable, if_neg (by simp [he]), if_pos (by simp [hp])]

theorem effCbusEnable_dormant {s : State} {m : Nat} (p : Option Bool) (he : s.bit (F.CBUS_CFG_EN m) = false)
    (hp : s.bit (F.CBUS_CFG_PLCA_OFF m) = true) (hd : s.node.mode = .dormant) :
    effCbusEnable m p s = s.setMac m { s.mac m with enabling := true } := by
  rw [effCbusEnable, if_neg (by simp [he]), if_neg (by simp [hp]), if_pos hd]

/-- The PLCA enable bit is written and read back. -/
theorem effCbusEnable_plca {s : State} {m : Nat} (p : Option Bool) (he : s.bit (F.CBUS_CFG_EN m) = false)
    (hp : s.bit (F.CBUS_CFG_PLCA_OFF m) = true) (hd : s.node.mode ≠ .dormant) :
    effCbusEnable m p s = (let u := (s.plcaFrames m).plcaRead m p
      if p = some false then u.macEnabled m
      else (u.setMac m { u.mac m with enabling := false }).putBit (F.CBUS_STAT_PHY_ERR m) true) := by
  rw [effCbusEnable, if_neg (by simp [he]), if_neg (by simp [hp]), if_neg hd]

/-- What CBUS_MDIO and its counter show when the PHY does not answer. -/
theorem plcaRead_none (s : State) (m : Nat) :
    (s.plcaRead m none).get (F.CBUS_MDIO_DATA m) = 0xFFFF ∧ (s.plcaRead m none).bit (F.CBUS_MDIO_NO_ACK m) = true ∧
      (s.plcaRead m none).rg (CBUS_CNT m 27) = min 0xFFFFFFFF (s.rg (CBUS_CNT m 27) + 1) := by
  have hne : CBUS_MDIO m ≠ CBUS_CNT m 27 := by
    unfold CBUS_MDIO CBUS_CNT
    omega
  have hnoAck : 30 + 1 ≤ 64 := by decide
  have hdata : 0 + 16 ≤ 64 := by decide
  have hdisjoint : 0 + 16 ≤ 30 := by decide
  have hvalue : 0xFFFF % 2 ^ 16 = 0xFFFF := by decide
  unfold State.plcaRead
  dsimp only
  generalize hu : s.put (F.CBUS_MDIO_REGAD m) 14 = u
  refine ⟨?_, ?_, ?_⟩
  · rw [State.get, rg_cbusCount_ne _ _ _ hne]
    exact ((get_putBit_disjoint (f := F.CBUS_MDIO_NO_ACK m) (g := F.CBUS_MDIO_DATA m) _ _ hnoAck rfl (.inl hdisjoint)).trans
      (get_put_same u _ hdata)).trans hvalue
  · rw [State.bit, State.get, rg_cbusCount_ne _ _ _ hne]
    exact bit_putBit_same _ _ hnoAck rfl
  · rw [rg_cbusCount_same, State.putBit, rg_put_ne _ _ hne.symm, rg_put_ne _ _ hne.symm, ← hu, rg_put_ne _ _ hne.symm]

theorem plcaFrames_rg (s : State) (m a : Nat) : (s.plcaFrames m).rg a = s.rg a :=
  rg_of_regs (by simp only [State.plcaFrames, State.emit_regs]) a

/-- A flush writes neither the configuration nor MDIO. -/
theorem cbusFlush_rg (s : State) {m a : Nat} (h : a ∉ macRegs m) (hc : a ≠ CBUS_CNT m 25) : (s.cbusFlush m).rg a = s.rg a := by
  have hdiscard : ∀ u : State, (u.cbusDiscard m 4).rg a = u.rg a := by
    intro u
    cases hq : (u.mac m).queue with
    | nil => rw [cbusDiscard_nil hq]
    | cons f fs => rw [cbusDiscard_flushed hq, rg_cbusCount_ne _ _ _ hc, cbusEnd_cons hq, rg_setMac _ _ h]
  have hrun : ∀ (n : Nat) (u : State), (iterate (fun s => s.cbusDiscard m 4) n u).rg a = u.rg a := by
    intro n
    induction n with
    | zero => exact fun u => rfl
    | succ n ih => exact fun u => (ih _).trans (hdiscard u)
  unfold State.cbusFlush State.cbusDrop
  dsimp only
  split
  · exact rg_setMac _ _ h
  · rw [hrun, rg_setMac _ _ h]

theorem effCbusDisable_on {s : State} {m : Nat} (h : s.bit (F.CBUS_CFG_EN m) = true) :
    effCbusDisable m s = (let u := (s.putBit (F.CBUS_CFG_EN m) false).macStop m
      u.setMac m { u.mac m with enabling := false }) := if_pos h

/-- What a MAC that stops has lost, and that it is disabled still. -/
theorem macStop_spec (s : State) (m : Nat) :
    ((s.macStop m).mac m).fill = none ∧ ((s.macStop m).mac m).rx = [] ∧ ((s.macStop m).mac m).jabber = false ∧
      ((s.macStop m).mac m).mdio = none ∧ (s.macStop m).bit (F.CBUS_MDIO_BUSY m) = false ∧
      (s.macStop m).bit (F.CBUS_CFG_EN m) = s.bit (F.CBUS_CFG_EN m) := by
  have hbusy : 31 + 1 ≤ 64 := by decide
  have hne : CBUS_CFG m ≠ CBUS_MDIO m := by
    unfold CBUS_CFG CBUS_MDIO
    omega
  have hcnt : CBUS_CFG m ≠ CBUS_CNT m 25 := by
    unfold CBUS_CFG CBUS_CNT
    omega
  unfold State.macStop
  dsimp only
  generalize hu : s.cbusFlush m = u
  rw [mac_setMac_same]
  refine ⟨rfl, rfl, rfl, rfl, ?_, ?_⟩
  · rw [bit_setMac _ _ (mdio_notMem m)]
    exact bit_putBit_same _ _ hbusy rfl
  · rw [bit_setMac _ _ (cfg_notMem m), State.bit, State.get, State.putBit, rg_put_ne _ _ hne, ← hu, cbusFlush_rg _ (cfg_notMem m) hcnt]
    rfl

/-! ## Receive (R392 to R394) -/

/-- A MAC listens, or one of the things that keep it from it holds. -/
theorem listens_iff (s : State) (m : Nat) (quiet : Bool) : s.listens m quiet = true ↔
    s.macOn m = true ∧ (s.mac m).rxLost = false ∧ (s.mac m).phase ≠ .attempt ∧ ((s.mac m).jabber = false ∨ quiet = true) := by
  simp only [State.listens, Bool.and_eq_true, Bool.or_eq_true, Bool.not_eq_true', bne_iff_ne, ne_eq, and_assoc]
  tauto

theorem listens_false {s : State} {m : Nat} {quiet : Bool} (h : s.macOn m = false ∨ (s.mac m).rxLost = true ∨ (s.mac m).phase = .attempt ∨
    ((s.mac m).jabber = true ∧ quiet = false)) : s.listens m quiet = false := by
  rw [Bool.eq_false_iff, Ne, listens_iff]
  rintro ⟨hon, hclk, hphase, hquiet⟩
  rcases h with h | h | h | ⟨hj, hq⟩
  · simp [h] at hon
  · simp [h] at hclk
  · exact hphase h
  · simp [hj, hq] at hquiet

theorem cbusDeliver_spec (s : State) (f : CbusRx) (dst filt flags : Nat) :
    (∃ rx, (s.cbusDeliver f dst filt flags).mac f.mac.val = { s.mac f.mac.val with rx := rx }) ∧
      (s.cbusDeliver f dst filt flags).out = s.out := by
  unfold State.cbusDeliver
  extract_lets m bytes stat u c
  have hmac : u.mac m = s.mac m := by unfold u; split <;> [skip; split] <;> simp
  have hout : u.out = s.out := by unfold u; split <;> [skip; split] <;> rfl
  refine ⟨⟨c.rx ++ [⟨stat, f.ts, bytes, 0⟩], (mac_setMac_same u m _).trans ?_⟩, (setMac_out u m _).trans hout⟩
  simp only [c, hmac]
  rfl

/-- A reception changes the received frames of its MAC and drives nothing. -/
theorem cbusReceive_spec (s : State) (f : CbusRx) :
    (∃ rx, (s.cbusReceive f).mac f.mac.val = { s.mac f.mac.val with rx := rx }) ∧ (s.cbusReceive f).out = s.out := by
  have hcount : ∀ k n, (∃ rx, (s.cbusCount f.mac.val k n).mac f.mac.val = { s.mac f.mac.val with rx := rx }) ∧
      (s.cbusCount f.mac.val k n).out = s.out := fun k n => ⟨⟨(s.mac f.mac.val).rx, mac_cbusCount ..⟩, rfl⟩
  unfold State.cbusReceive
  dsimp only
  split
  · exact hcount _ _
  · split
    · exact hcount _ _
    · split
      · exact hcount _ _
      · split
        · obtain ⟨⟨rx, hmac⟩, hout⟩ := cbusDeliver_spec (((s.cbusCount f.mac.val 0).cbusCount f.mac.val 1 f.bytes.length).partnerAnswers
            f.mac.val (beNat ((f.bytes.drop 6).take 6)) f.bytes) f (beNat (f.bytes.take 6)) _ 0
          refine ⟨⟨rx, hmac.trans ?_⟩, hout⟩
          simp only [State.partnerAnswers, mac_mapPartners, mac_cbusCount]
        · split
          · obtain ⟨⟨rx, hmac⟩, hout⟩ := cbusDeliver_spec ((s.cbusCount f.mac.val _).cbusCount f.mac.val 11) f
              (beNat (f.bytes.take 6)) _ _
            exact ⟨⟨rx, hmac.trans (by simp only [mac_cbusCount])⟩, hout⟩
          · exact hcount _ _

/-! ## Transmit (R388 to R391, R396) -/

theorem effCbusTxData_off {s : State} {m : Nat} (h : s.macOn m = false) (w : Word32) : effCbusTxData m w s = s := by
  unfold effCbusTxData
  exact if_pos (by simp [h])

theorem effCbusTxData_fills {s : State} {m : Nat} {b : List Byte} (h : s.macOn m = true) (hf : (s.mac m).fill = some b) (w : Word32) :
    effCbusTxData m w s =
      if 2048 < b.length + 4 then s else s.setMac m { s.mac m with fill := some (b ++ leBytes 4 w.toNat) } := by
  simp [effCbusTxData, h, hf]

theorem effCbusTxData_begins {s : State} {m : Nat} (h : s.macOn m = true) (hf : (s.mac m).fill = none) (w : Word32) :
    effCbusTxData m w s = if 4 ≤ (s.mac m).queue.length then s else s.setMac m { s.mac m with fill := some (leBytes 4 w.toNat) } := by
  simp [effCbusTxData, h, hf]

/-- A GO is refused: the frame, its slot or the clock is not as it has to be. -/
def State.goBad (s : State) (m len : Nat) : Bool :=
  decide (len < 14) || decide (s.get (F.CBUS_CFG_MAX_LEN m) - 4 < len) || decide (((s.mac m).fill.getD []).length < len)
    || (s.mac m).fill.isNone || (s.mac m).txLost

theorem effCbusGo_runs {s : State} {m : Nat} (len tag : Nat) (h : (s.mac m).results.length < 8) :
    effCbusGo m len tag s = if s.goBad m len then
      (s.setMac m { s.mac m with fill := none }).setMac m { s.mac m with
        fill := none, results := (s.mac m).results ++ [⟨tag, 5, 0, none⟩] }
    else (s.setMac m { s.mac m with fill := none }).setMac m { s.mac m with
        fill := none, queue := (s.mac m).queue ++ [⟨tag, ((s.mac m).fill.getD []).take len, 0, 0, none⟩] } := by
  unfold effCbusGo
  rw [if_neg (by omega), State.cbusQueue, mac_setMac_same, get_setMac _ _ (cfg_notMem m)]
  rfl

theorem effCbusFlush_attempt {s : State} {m : Nat} {f : CbusFrame} {fs : List CbusFrame} (hp : (s.mac m).phase = .attempt)
    (hq : (s.mac m).queue = f :: fs) : effCbusFlush m s = s.setMac m { s.mac m with flush := some fs.length } := by
  have hlen : (s.mac m).queue.length - 1 = fs.length := by rw [hq, List.length_cons, Nat.add_sub_cancel]
  rw [← hlen]
  exact if_pos hp

theorem effCbusFlush_idle {s : State} {m : Nat} (hp : (s.mac m).phase ≠ .attempt) :
    effCbusFlush m s = s.cbusDrop m 4 (s.mac m).queue.length := if_neg hp

/-- An attempt may start. -/
def State.mayAttempt (s : State) (m : Nat) : Bool :=
  s.macOn m && decide ((s.mac m).phase = .defer) && !s.bit (F.CBUS_STAT_CRS m) && !(s.mac m).txLost

theorem effCbusAttemptStart_nil {s : State} {m : Nat} (h : (s.mac m).queue = []) (d : Bool) : effCbusAttemptStart m d s = s := by
  unfold effCbusAttemptStart
  dsimp only
  rw [h]

theorem effCbusAttemptStart_cons {s : State} {m : Nat} {f : CbusFrame} {fs : List CbusFrame} (h : (s.mac m).queue = f :: fs) (d : Bool) :
    effCbusAttemptStart m d s = if s.mayAttempt m then
      ((if f.attempts = 0 && d then s.cbusCount m 22 else s).setMac m { s.mac m with
        phase := .attempt, queue := { f with attempts := f.attempts + 1 } :: fs }).putBit (F.CBUS_STAT_COL m) false
    else s := by
  have hneg : (!s.macOn m || decide ((s.mac m).phase ≠ .defer) || s.bit (F.CBUS_STAT_CRS m) || (s.mac m).txLost) = !s.mayAttempt m := by
    simp [State.mayAttempt]
  unfold effCbusAttemptStart
  dsimp only
  rw [h]
  dsimp only
  rw [hneg]
  cases s.mayAttempt m <;> rfl

/-- The state of the MAC after a collision. -/
def State.collided (s : State) (m : Nat) (f : CbusFrame) (fs : List CbusFrame) (late quiet : Bool) : State :=
  let a := (s.cbusCount m 19).cbusCount m 31
  let b := if late then a.cbusCount m 20 else a
  let e := (((if quiet then b.cbusCount m 26 else b).emit (.jam m)).putBit (F.CBUS_STAT_COL m) true).putBit (F.CBUS_STAT_CRS m) (!quiet)
  e.setMac m { s.mac m with
    phase := .backoff ((s.mac m).backoffSlots (f.collisions + 1)), gen := Config.backoffNext (s.mac m).gen
    queue := { f with collisions := f.collisions + 1 } :: fs }

theorem effCbusCollision_none {s : State} {m : Nat} (h : (s.mac m).queue = [] ∨ (s.mac m).phase ≠ .attempt ∨ s.macLoop m = true)
    (late quiet : Bool) : effCbusCollision m late quiet s = s := by
  unfold effCbusCollision
  dsimp only
  split
  · rfl
  next hq =>
    rw [hq] at h
    exact if_pos (by simpa using h)

theorem effCbusCollision_hit {s : State} {m : Nat} {f : CbusFrame} {fs : List CbusFrame} (hq : (s.mac m).queue = f :: fs)
    (hp : (s.mac m).phase = .attempt) (hl : s.macLoop m = false) (late quiet : Bool) : effCbusCollision m late quiet s =
      if 16 ≤ f.attempts then ((s.collided m f fs late quiet).cbusDiscard m 1).flushRest m
      else if (s.mac m).flush.isSome then ((s.collided m f fs late quiet).cbusDiscard m 4).flushRest m
      else s.collided m f fs late quiet := by
  unfold effCbusCollision
  dsimp only
  rw [hq]
  exact if_neg (by simp [hp, hl])

theorem backoffSlots_lt (c : CbusMac) (n : Nat) : c.backoffSlots n < 2 ^ min n 10 := Nat.mod_lt _ (Nat.two_pow_pos _)

theorem effCbusBackoffEnd_ends {s : State} {m k : Nat} (h : (s.mac m).phase = .backoff k) :
    effCbusBackoffEnd m s = (s.setMac m { s.mac m with phase := .defer }).putBit (F.CBUS_STAT_COL m) false := by
  unfold effCbusBackoffEnd
  dsimp only
  rw [h]

theorem effCbusBackoffEnd_none {s : State} {m : Nat} (h : ∀ k, (s.mac m).phase ≠ .backoff k) : effCbusBackoffEnd m s = s := by
  unfold effCbusBackoffEnd
  dsimp only
  split
  next k hk => exact absurd hk (h k)
  · rfl

/-! ## The end of an attempt (R396) -/

/-- Nothing that a MAC's frames show differs but counters at `ks`. -/
structure CountsOnly (m : Nat) (ks : List Nat) (s t : State) : Prop where
  mac : t.mac m = s.mac m
  out : t.out = s.out
  cnt : ∀ j, j ∉ ks → t.rg (CBUS_CNT m j) = s.rg (CBUS_CNT m j)

namespace CountsOnly

variable {m : Nat} {ks : List Nat} {s t u : State}

theorem refl (s : State) : CountsOnly m ks s s := ⟨rfl, rfl, fun _ _ => rfl⟩

theorem trans (h : CountsOnly m ks s t) (k : CountsOnly m ks t u) : CountsOnly m ks s u :=
  ⟨k.mac.trans h.mac, k.out.trans h.out, fun j hj => (k.cnt j hj).trans (h.cnt j hj)⟩

theorem ite {c : Prop} [Decidable c] (ht : CountsOnly m ks s t) (hu : CountsOnly m ks s u) : CountsOnly m ks s (if c then t else u) := by
  split
  · exact ht
  · exact hu

theorem count (s : State) {k : Nat} (hk : k ∈ ks) (n : Nat) : CountsOnly m ks s (s.cbusCount m k n) :=
  ⟨mac_cbusCount .., rfl, fun _ hj => rg_cbusCount_ne s m n (cnt_ne m (fun e => hj (e ▸ hk)))⟩

theorem asked (s : State) (dst : Nat) : CountsOnly m ks s (s.partnerAsked m dst) := ⟨rfl, rfl, fun _ _ => rfl⟩

end CountsOnly

/-- A frame that is sent, counted (Table 13.4), and the requests it carries. -/
def State.txCounted (s : State) (m : Nat) (f : CbusFrame) (noCrs : Bool) : State :=
  let s := (s.cbusCount m 14).cbusCount m 15 (cbusWire f.bytes).length
  let s := if beNat (f.bytes.take 6) = broadcastMac then s.cbusCount m 16
    else if multicastMac (beNat (f.bytes.take 6)) then s.cbusCount m 29 else s
  let s := if f.collisions = 1 then s.cbusCount m 17 else if 1 < f.collisions then s.cbusCount m 18 else s
  let s := if noCrs then s.cbusCount m 26 else s
  if f.owner.isNone then s.partnerAsked m (beNat (f.bytes.take 6)) else s

theorem txCounted_spec (s : State) (m : Nat) (f : CbusFrame) (noCrs : Bool) :
    (s.txCounted m f noCrs).mac m = s.mac m ∧ (s.txCounted m f noCrs).out = s.out ∧
      (s.txCounted m f noCrs).rg (CBUS_CNT m 14) = min 0xFFFFFFFF (s.rg (CBUS_CNT m 14) + 1) ∧
      (s.txCounted m f noCrs).rg (CBUS_CNT m 15) = min 0xFFFFFFFF (s.rg (CBUS_CNT m 15) + (cbusWire f.bytes).length) := by
  unfold State.txCounted
  extract_lets s1 s2 s3 s4
  have h4 : CountsOnly m [16, 29, 17, 18, 26] s1 s4 :=
    ((CountsOnly.ite (.count s1 (by decide) 1) (.ite (.count s1 (by decide) 1) (.refl s1))).trans
      (.ite (.count s2 (by decide) 1) (.ite (.count s2 (by decide) 1) (.refl s2)))).trans
      (.ite (.count s3 (by decide) 1) (.refl s3))
  have h5 : CountsOnly m [16, 29, 17, 18, 26] s1 (if f.owner.isNone then s4.partnerAsked m (beNat (f.bytes.take 6)) else s4) :=
    h4.trans (.ite (.asked s4 _) (.refl s4))
  refine ⟨h5.mac.trans ?_, h5.out, (h5.cnt 14 (by decide)).trans ?_, (h5.cnt 15 (by decide)).trans ?_⟩
  · unfold s1
    rw [mac_cbusCount, mac_cbusCount]
  · unfold s1
    rw [rg_cbusCount_ne _ _ _ (cnt_ne m (by decide)), rg_cbusCount_same]
  · unfold s1
    rw [rg_cbusCount_same, rg_cbusCount_ne _ _ _ (cnt_ne m (by decide))]

/-- The frames that a flush left waiting end with the attempt. -/
theorem flushRest_spec {s : State} {m : Nat} (hp : (s.mac m).phase = .defer) :
    (s.flushRest m).mac m = ({ s.mac m with flush := none } : CbusMac).flushed ((s.mac m).flush.getD 0) ∧
      (s.flushRest m).out = s.out ∧ ∀ a, a ∉ macRegs m → a ≠ CBUS_CNT m 25 → (s.flushRest m).rg a = s.rg a := by
  unfold State.flushRest
  cases hf : (s.mac m).flush with
  | none =>
    have hsame : ({ s.mac m with flush := none } : CbusMac) = s.mac m := by rw [← hf]
    refine ⟨?_, rfl, fun _ _ _ => rfl⟩
    rw [hsame]
    simp [CbusMac.flushed]
  | some n =>
    obtain ⟨hmac, hout, hrg⟩ := iterate_flushed n (s := s.setMac m { s.mac m with flush := none }) (by rw [mac_setMac_same, hp])
    rw [mac_setMac_same] at hmac
    exact ⟨hmac, hout.trans (setMac_out ..), fun a ha hn => (hrg a ha hn).trans (rg_setMac _ _ ha)⟩

/-- The MAC when the frame in its attempt has been sent. -/
def CbusMac.sent (c : CbusMac) (f : CbusFrame) (fs : List CbusFrame) : CbusMac :=
  { c with
    queue := fs.drop (c.flush.getD 0), phase := .defer, flush := none
    results := c.results ++ [⟨f.tag, 0, f.attempts, f.owner⟩] ++ (fs.take (c.flush.getD 0)).map (fun g => ⟨g.tag, 4, g.attempts, g.owner⟩) }

/-- The state when the frame in its attempt has been sent. -/
def State.txDone (s : State) (m : Nat) (f : CbusFrame) (noCrs : Bool) : State := ((s.txCounted m f noCrs).cbusEnd m 0).flushRest m

theorem txDone_spec {s : State} {m : Nat} {f : CbusFrame} {fs : List CbusFrame} (hq : (s.mac m).queue = f :: fs) (noCrs : Bool) :
    (s.txDone m f noCrs).mac m = (s.mac m).sent f fs ∧ (s.txDone m f noCrs).out = s.out ∧
      (s.txDone m f noCrs).rg (CBUS_CNT m 14) = min 0xFFFFFFFF (s.rg (CBUS_CNT m 14) + 1) ∧
      (s.txDone m f noCrs).rg (CBUS_CNT m 15) = min 0xFFFFFFFF (s.rg (CBUS_CNT m 15) + (cbusWire f.bytes).length) := by
  obtain ⟨hmac, hout, h14, h15⟩ := txCounted_spec s m f noCrs
  unfold State.txDone
  generalize s.txCounted m f noCrs = u at *
  rw [← hmac] at hq
  rw [cbusEnd_cons hq]
  generalize hc : ({ u.mac m with
    queue := fs, phase := .defer, results := (u.mac m).results ++ [⟨f.tag, 0, f.attempts, f.owner⟩] } : CbusMac) = c
  obtain ⟨hm, ho, hr⟩ := flushRest_spec (s := u.setMac m c) (m := m) (by rw [mac_setMac_same, ← hc])
  have hcnt : ∀ k, k ≠ 25 → ((u.setMac m c).flushRest m).rg (CBUS_CNT m k) = u.rg (CBUS_CNT m k) := fun k hk =>
    (hr _ (cnt_notMem m) (cnt_ne m hk)).trans (rg_setMac _ _ (cnt_notMem m))
  refine ⟨hm.trans ?_, ho.trans ((setMac_out ..).trans hout), (hcnt 14 (by decide)).trans h14, (hcnt 15 (by decide)).trans h15⟩
  rw [mac_setMac_same, ← hc, hmac]
  rfl

theorem effCbusTxEnd_none {s : State} {m : Nat} (h : (s.mac m).queue = [] ∨ (s.mac m).phase ≠ .attempt) (noCrs : Bool) :
    effCbusTxEnd m noCrs s = s := by
  unfold effCbusTxEnd
  dsimp only
  split
  · rfl
  next hq =>
    rw [hq] at h
    exact if_pos (h.resolve_left (by simp))

theorem effCbusTxEnd_wire {s : State} {m : Nat} {f : CbusFrame} {fs : List CbusFrame} (hq : (s.mac m).queue = f :: fs)
    (hp : (s.mac m).phase = .attempt) (hl : s.macLoop m = false) (noCrs : Bool) :
    effCbusTxEnd m noCrs s = (s.txDone m f noCrs).emit (.cbus m (cbusWire f.bytes)) := by
  unfold effCbusTxEnd
  dsimp only
  rw [hq]
  dsimp only
  rw [if_neg (by simp [hp]), hl]
  rfl

/-- With LOOP in force the frame is received, not driven. -/
theorem effCbusTxEnd_loop {s : State} {m : Fin 4} {f : CbusFrame} {fs : List CbusFrame} (hq : (s.mac m.val).queue = f :: fs)
    (hp : (s.mac m.val).phase = .attempt) (hl : s.macLoop m.val = true) (noCrs : Bool) :
    ∃ r : CbusRx, r.mac = m ∧ (effCbusTxEnd m.val noCrs s = s.txDone m.val f noCrs ∨
      effCbusTxEnd m.val noCrs s = (s.txDone m.val f noCrs).cbusReceive r) := by
  let u := s.txDone m.val f noCrs
  have heff : effCbusTxEnd m.val noCrs s = if u.macOn m.val && !(u.mac m.val).rxLost then
      u.cbusReceive ⟨m, cbusWire f.bytes, false, false, true, u.node.time / 65536⟩ else u := by
    unfold effCbusTxEnd
    dsimp only
    rw [hq]
    dsimp only
    rw [if_neg (by simp [hp]), hl, if_pos rfl, dif_pos m.isLt]
    rfl
  refine ⟨⟨m, cbusWire f.bytes, false, false, true, u.node.time / 65536⟩, rfl, ?_⟩
  rw [heff]
  split
  · exact .inr rfl
  · exact .inl rfl

end Sys2Proof.Machine
end

section
/-! Deferral, clocks, results, MDIO and partners of a control-bus MAC (R387, R390, R397, R398, R400). -/

namespace Sys2Proof.Machine

/-! ## Deferral and clocks (R390, R397) -/

theorem effCbusDeferTimeout_off {s : State} {m : Nat} (h : s.macOn m = false) (d : Deferral) : effCbusDeferTimeout m d s = s := by
  rw [effCbusDeferTimeout, if_pos (by simp [h])]

theorem effCbusDeferTimeout_on {s : State} {m : Nat} (h : s.macOn m = true) (d : Deferral) :
    effCbusDeferTimeout m d s =
      (let u := if d = .carrier then s else (s.cbusDiscard m 2).flushRest m
      if d = .head then u
      else (((u.setMac m { u.mac m with stuck := true }).putBit (F.CBUS_STAT_CRS m) true).putBit (F.CBUS_STAT_CRS_STUCK m) true).latch 48) := by
  rw [effCbusDeferTimeout, if_neg (by simp [h])]

theorem effCbusClkLost_none {s : State} {m : Nat} {tx : Bool}
    (h : s.macOn m = false ∨ (if tx then (s.mac m).txLost else (s.mac m).rxLost) = true) : effCbusClkLost m tx s = s := by
  rw [effCbusClkLost, if_pos]
  rcases h with h | h <;> simp [h]

theorem effCbusClkLost_tx {s : State} {m : Nat} (h : s.macOn m = true) (hl : (s.mac m).txLost = false) :
    effCbusClkLost m true s = (let u := s.cbusDrop m 3 (s.mac m).queue.length
      ((u.setMac m { u.mac m with txLost := true }).putBit (F.CBUS_STAT_CLK_LOST m) true).latch 48) := by
  rw [effCbusClkLost, if_neg (by simp [h, hl])]
  rfl

theorem effCbusClkLost_rx {s : State} {m : Nat} (h : s.macOn m = true) (hl : (s.mac m).rxLost = false) :
    effCbusClkLost m false s =
      (((s.setMac m { s.mac m with rxLost := true }).cbusCount m 13).putBit (F.CBUS_STAT_CLK_LOST m) true).latch 48 := by
  rw [effCbusClkLost, if_neg (by simp [h, hl])]
  rfl

/-! ## Results and received frames (R400) -/

theorem effResPop_nil {s : State} {m : Nat} (h : (s.mac m).results = []) : effResPop m s = s := by
  unfold effResPop
  dsimp only
  rw [h]

theorem effResPop_cons {s : State} {m : Nat} {r : CbusRes} {rs : List CbusRes} (h : (s.mac m).results = r :: rs) :
    effResPop m s = (s.setMac m { s.mac m with results := rs }).finish r.owner 0x60 0 (beBytes 4 r.image) := by
  unfold effResPop
  dsimp only
  rw [h]

theorem effRxPop_nil {s : State} {m : Nat} (h : (s.mac m).rx = []) : effRxPop m s = s := by
  unfold effRxPop
  dsimp only
  rw [h]

theorem effRxPop_cons {s : State} {m : Nat} {r : CbusSlot} {rs : List CbusSlot} (h : (s.mac m).rx = r :: rs) :
    effRxPop m s = (s.setMac m { s.mac m with rx := rs }).notify 7
      ([BitVec.ofNat 8 m, 0, 0, 0] ++ beBytes 4 r.stat ++ beBytes 8 r.ts ++ r.bytes) := by
  unfold effRxPop
  dsimp only
  rw [h]

theorem effCbusRxData_nil {s : State} {m : Nat} (h : (s.mac m).rx = []) : effCbusRxData m s = s.emit (.data 0) := by
  unfold effCbusRxData
  dsimp only
  rw [h]

theorem effCbusRxData_cons {s : State} {m : Nat} {r : CbusSlot} {rs : List CbusSlot} (h : (s.mac m).rx = r :: rs) :
    effCbusRxData m s = (s.setMac m { s.mac m with rx := { r with pos := min r.bytes.length (r.pos + 4) } :: rs }).emit
      (.data (leAt r.bytes r.pos 4)) := by
  unfold effCbusRxData
  dsimp only
  rw [h]

/-! ## MDIO (R387) -/

/-- The fields of CBUS_MDIO as a frame sets them. -/
def State.mdioSet (s : State) (m phy reg data : Nat) : State :=
  ((s.put (F.CBUS_MDIO_PHYAD m) phy).put (F.CBUS_MDIO_REGAD m) reg).put (F.CBUS_MDIO_DATA m) data

theorem mdioSet_onlyRegs (s : State) (m phy reg data : Nat) : OnlyRegs [CBUS_MDIO m] s (s.mdioSet m phy reg data) :=
  ((OnlyRegs.put (f := F.CBUS_MDIO_PHYAD m) s _ List.mem_cons_self).trans
    (.put (f := F.CBUS_MDIO_REGAD m) _ _ List.mem_cons_self)).trans (.put (f := F.CBUS_MDIO_DATA m) _ _ List.mem_cons_self)

theorem mdioSet_fields (s : State) (m : Nat) {phy reg data : Nat} (hp : phy < 2 ^ 5) (hr : reg < 2 ^ 5) (hd : data < 2 ^ 16) :
    (s.mdioSet m phy reg data).get (F.CBUS_MDIO_PHYAD m) = phy ∧ (s.mdioSet m phy reg data).get (F.CBUS_MDIO_REGAD m) = reg ∧
      (s.mdioSet m phy reg data).get (F.CBUS_MDIO_DATA m) = data := by
  have hphy : 21 + 5 ≤ 64 := by decide
  have hreg : 16 + 5 ≤ 64 := by decide
  have hdata : 0 + 16 ≤ 64 := by decide
  have hphyReg : 16 + 5 ≤ 21 := by decide
  have hphyData : 0 + 16 ≤ 21 := by decide
  have hregData : 0 + 16 ≤ 16 := by decide
  unfold State.mdioSet
  refine ⟨?_, ?_, ?_⟩
  · refine (get_put_disjoint (f := F.CBUS_MDIO_DATA m) (g := F.CBUS_MDIO_PHYAD m) _ _ hdata rfl (.inr hphyData)).trans ?_
    refine (get_put_disjoint (f := F.CBUS_MDIO_REGAD m) (g := F.CBUS_MDIO_PHYAD m) _ _ hreg rfl (.inr hphyReg)).trans ?_
    exact (get_put_same s _ hphy).trans (Nat.mod_eq_of_lt hp)
  · refine (get_put_disjoint (f := F.CBUS_MDIO_DATA m) (g := F.CBUS_MDIO_REGAD m) _ _ hdata rfl (.inr hregData)).trans ?_
    exact (get_put_same _ _ hreg).trans (Nat.mod_eq_of_lt hr)
  · exact (get_put_same _ _ hdata).trans (Nat.mod_eq_of_lt hd)

theorem mdioStart_busy {s : State} {m : Nat} (h : (s.mac m).mdio ≠ none) (write : Bool) (phy reg data : Nat) :
    s.mdioStart m write phy reg data = s := by
  rw [State.mdioStart]
  exact if_pos (Option.isSome_iff_ne_none.2 h)

theorem mdioStart_off {s : State} {m : Nat} (h : (s.mac m).mdio = none) (ho : s.macOn m = false) (write : Bool) (phy reg data : Nat) :
    s.mdioStart m write phy reg data = s.mdioSet m phy reg data := by
  rw [State.mdioStart]
  exact (if_neg (by simp [h])).trans (if_pos (by simp [ho]))

theorem mdioStart_on {s : State} {m : Nat} (h : (s.mac m).mdio = none) (ho : s.macOn m = true) (write : Bool) (phy reg data : Nat) :
    s.mdioStart m write phy reg data = (let u := (s.mdioSet m phy reg data).putBit (F.CBUS_MDIO_BUSY m) true
      (u.setMac m { u.mac m with mdio := some (write, data) }).emit (.mdio m write phy reg (if write then data else 0))) := by
  rw [State.mdioStart]
  exact (if_neg (by simp [h])).trans (if_neg (by simp [ho]))

/-- A frame that starts: what it drives, what the MAC holds, and CBUS_MDIO. -/
theorem mdioStart_runs {s : State} {m : Nat} (h : (s.mac m).mdio = none) (ho : s.macOn m = true) (write : Bool) {phy reg data : Nat}
    (hp : phy < 2 ^ 5) (hr : reg < 2 ^ 5) (hd : data < 2 ^ 16) : ∃ t, s.mdioStart m write phy reg data = t ∧
      t.out = s.out ++ [.mdio m write phy reg (if write then data else 0)] ∧ (t.mac m).mdio = some (write, data) ∧
      t.bit (F.CBUS_MDIO_BUSY m) = true ∧ t.get (F.CBUS_MDIO_PHYAD m) = phy ∧ t.get (F.CBUS_MDIO_REGAD m) = reg := by
  have hbusy : 31 + 1 ≤ 64 := by decide
  have hphyBusy : 21 + 5 ≤ 31 := by decide
  have hregBusy : 16 + 5 ≤ 31 := by decide
  obtain ⟨hphy, hreg, -⟩ := mdioSet_fields s m hp hr hd
  have hout : (s.mdioSet m phy reg data).out = s.out := (mdioSet_onlyRegs s m phy reg data).out
  refine ⟨_, mdioStart_on h ho write phy reg data, ?_⟩
  generalize s.mdioSet m phy reg data = v at *
  dsimp only
  refine ⟨?_, ?_, ?_, ?_, ?_⟩
  · rw [State.emit_out, setMac_out, State.putBit_out, hout]
  · rw [mac_emit, mac_setMac_same]
  · rw [State.bit, get_of_regs (State.emit_regs _ _), get_setMac _ _ (mdio_notMem m)]
    exact bit_putBit_same v true hbusy rfl
  · rw [get_of_regs (State.emit_regs _ _), get_setMac _ _ (mdio_notMem m)]
    exact (get_putBit_disjoint (f := F.CBUS_MDIO_BUSY m) (g := F.CBUS_MDIO_PHYAD m) v true hbusy rfl (.inl hphyBusy)).trans hphy
  · rw [get_of_regs (State.emit_regs _ _), get_setMac _ _ (mdio_notMem m)]
    exact (get_putBit_disjoint (f := F.CBUS_MDIO_BUSY m) (g := F.CBUS_MDIO_REGAD m) v true hbusy rfl (.inl hregBusy)).trans hreg

theorem effMdioDone_none {s : State} {m : Nat} (h : (s.mac m).mdio = none) (ack : Bool) (d : Nat) : effMdioDone m ack d s = s := by
  rw [effMdioDone, h]

theorem effMdioDone_write {s : State} {m x : Nat} (h : (s.mac m).mdio = some (true, x)) (ack : Bool) (d : Nat) :
    effMdioDone m ack d s = (s.setMac m { s.mac m with mdio := none }).putBit (F.CBUS_MDIO_BUSY m) false := by
  rw [effMdioDone, h]
  exact if_pos rfl

theorem get_cbusCount_ne (s : State) (m n : Nat) {k : Nat} {f : Fld} (h : f.addr ≠ CBUS_CNT m k) :
    (s.cbusCount m k n).get f = s.get f := by
  rw [State.get, rg_cbusCount_ne _ _ _ h, State.get]

theorem bit_cbusCount_ne (s : State) (m n : Nat) {k : Nat} {f : Fld} (h : f.addr ≠ CBUS_CNT m k) :
    (s.cbusCount m k n).bit f = s.bit f := by
  rw [State.bit, get_cbusCount_ne s m n h, State.bit]

/-- A read frame that ends: what the PHY sent, and whether it answered. -/
theorem effMdioDone_read {s : State} {m x : Nat} (h : (s.mac m).mdio = some (false, x)) (ack : Bool) {d : Nat} (hd : d < 2 ^ 16) :
    ∃ t, effMdioDone m ack d s = t ∧ (t.mac m).mdio = none ∧ t.get (F.CBUS_MDIO_DATA m) = (if ack then d else 0xFFFF) ∧
      t.bit (F.CBUS_MDIO_NO_ACK m) = !ack ∧ t.bit (F.CBUS_MDIO_BUSY m) = false := by
  have hne : CBUS_MDIO m ≠ CBUS_CNT m 27 := by
    unfold CBUS_MDIO CBUS_CNT
    omega
  have hbusy : 31 + 1 ≤ 64 := by decide
  have hnoAck : 30 + 1 ≤ 64 := by decide
  have hdata : 0 + 16 ≤ 64 := by decide
  have hdataAck : 0 + 16 ≤ 30 := by decide
  have hackBusy : 30 + 1 ≤ 31 := by decide
  have hdataBusy : 0 + 16 ≤ 31 := by decide
  have hlt : (if ack then d else 0xFFFF) < 2 ^ 16 := by
    split
    · exact hd
    · decide
  generalize hu : (s.setMac m { s.mac m with mdio := none }).putBit (F.CBUS_MDIO_BUSY m) false = u
  have humac : (u.mac m).mdio = none := by rw [← hu, mac_putBit, mac_setMac_same]
  have hubusy : u.bit (F.CBUS_MDIO_BUSY m) = false := by
    rw [← hu]
    exact bit_putBit_same _ _ hbusy rfl
  have heff : effMdioDone m ack d s =
      if ack then (u.put (F.CBUS_MDIO_DATA m) (if ack then d else 0xFFFF)).putBit (F.CBUS_MDIO_NO_ACK m) (!ack)
      else ((u.put (F.CBUS_MDIO_DATA m) (if ack then d else 0xFFFF)).putBit (F.CBUS_MDIO_NO_ACK m) (!ack)).cbusCount m 27 := by
    unfold effMdioDone
    rw [h]
    dsimp only
    rw [if_neg Bool.false_ne_true, hu]
  rw [heff]
  generalize (if ack then d else 0xFFFF) = x at hlt
  generalize hv : (u.put (F.CBUS_MDIO_DATA m) x).putBit (F.CBUS_MDIO_NO_ACK m) (!ack) = v
  have hspec : (v.mac m).mdio = none ∧ v.get (F.CBUS_MDIO_DATA m) = x ∧
      v.bit (F.CBUS_MDIO_NO_ACK m) = !ack ∧ v.bit (F.CBUS_MDIO_BUSY m) = false := by
    rw [← hv]
    refine ⟨by rw [mac_putBit, mac_put, humac], ?_, bit_putBit_same _ _ hnoAck rfl, ?_⟩
    · exact ((get_putBit_disjoint (f := F.CBUS_MDIO_NO_ACK m) (g := F.CBUS_MDIO_DATA m) _ _ hnoAck rfl (.inl hdataAck)).trans
        (get_put_same u _ hdata)).trans (Nat.mod_eq_of_lt hlt)
    · refine (bit_putBit_disjoint (f := F.CBUS_MDIO_NO_ACK m) (g := F.CBUS_MDIO_BUSY m) _ _ hnoAck rfl (.inr hackBusy)).trans ?_
      exact (bit_put_disjoint (f := F.CBUS_MDIO_DATA m) (g := F.CBUS_MDIO_BUSY m) u _ hdata rfl (.inr hdataBusy)).trans hubusy
  refine ⟨_, rfl, ?_⟩
  split
  · exact hspec
  · rw [mac_cbusCount, get_cbusCount_ne _ _ _ hne, bit_cbusCount_ne _ _ _ hne, bit_cbusCount_ne _ _ _ hne]
    exact hspec

/-! ## Partners (R398) -/

theorem effPollTimeout_misses {s : State} {key : Nat}
    (h : (partnerKey key && (s.cfgItem secPeripherals key).isSome && (s.partner key).asked) = true) :
    (effPollTimeout key s).cbus.partners =
      tput s.cbus.partners key (some ⟨min 3 ((s.partner key).misses + 1), false, (s.partner key).reading⟩) := by
  rw [effPollTimeout, if_pos h]
  rfl

end Sys2Proof.Machine
end

section
/-! The control buses (chapter 13). -/

namespace Sys2Proof.Machine

/-- An attempt that starts: the MAC, COL, and the count of a frame that deferral held back. -/
theorem attempt_starts {s : State} {m : Nat} {f : CbusFrame} {fs : List CbusFrame} (hq : (s.mac m).queue = f :: fs) {d : Bool}
    (hm : s.mayAttempt m = true) : ∃ t, effCbusAttemptStart m d s = t ∧
      t.mac m = { s.mac m with phase := .attempt, queue := { f with attempts := f.attempts + 1 } :: fs } ∧
      t.bit (F.CBUS_STAT_COL m) = false ∧
      t.rg (CBUS_CNT m 22) = if f.attempts = 0 ∧ d = true then min 0xFFFFFFFF (s.rg (CBUS_CNT m 22) + 1) else s.rg (CBUS_CNT m 22) := by
  have hcol : 1 + 1 ≤ 64 := by decide
  have hne : CBUS_CNT m 22 ≠ CBUS_STAT m := by
    unfold CBUS_CNT CBUS_STAT
    omega
  refine ⟨_, (effCbusAttemptStart_cons hq d).trans (if_pos hm), ?_, bit_putBit_same _ _ hcol rfl, ?_⟩
  · rw [mac_putBit, mac_setMac_same]
  · rw [State.putBit, rg_put_ne _ _ hne, rg_setMac _ _ (cnt_notMem m)]
    by_cases h : f.attempts = 0 ∧ d = true
    · rw [if_pos h, if_pos (by simp [h]), rg_cbusCount_same]
    · rw [if_neg h, if_neg (by simpa using h)]

/-- An attempt whose frame goes out. -/
theorem attempt_sends {s : State} {m : Nat} {f : CbusFrame} {fs : List CbusFrame} (hq : (s.mac m).queue = f :: fs)
    (hp : (s.mac m).phase = .attempt) (hl : s.macLoop m = false) (noCrs : Bool) : ∃ t, effCbusTxEnd m noCrs s = t ∧
      t.out = s.out ++ [.cbus m (cbusWire f.bytes)] ∧ t.mac m = (s.mac m).sent f fs ∧
      t.rg (CBUS_CNT m 14) = min 0xFFFFFFFF (s.rg (CBUS_CNT m 14) + 1) ∧
      t.rg (CBUS_CNT m 15) = min 0xFFFFFFFF (s.rg (CBUS_CNT m 15) + (cbusWire f.bytes).length) := by
  obtain ⟨hmac, hout, h14, h15⟩ := txDone_spec hq noCrs
  refine ⟨_, effCbusTxEnd_wire hq hp hl noCrs, ?_, (mac_emit ..).trans hmac, ?_, ?_⟩
  · rw [State.emit_out, hout]
  · rw [rg_of_regs (State.emit_regs _ _), h14]
  · rw [rg_of_regs (State.emit_regs _ _), h15]

/-- An attempt whose frame comes back: nothing is driven. -/
theorem attempt_loops {s : State} {m : Fin 4} {f : CbusFrame} {fs : List CbusFrame} (hq : (s.mac m.val).queue = f :: fs)
    (hp : (s.mac m.val).phase = .attempt) (hl : s.macLoop m.val = true) (hf : (s.mac m.val).flush = none) (noCrs : Bool) :
    ∃ t, effCbusTxEnd m.val noCrs s = t ∧ t.out = s.out ∧ (t.mac m.val).queue = fs ∧ (t.mac m.val).phase = .defer ∧
      (t.mac m.val).results = (s.mac m.val).results ++ [⟨f.tag, 0, f.attempts, f.owner⟩] := by
  obtain ⟨hmac, hout, -, -⟩ := txDone_spec hq noCrs
  have hsent : ((s.mac m.val).sent f fs).queue = fs ∧ ((s.mac m.val).sent f fs).phase = .defer ∧
      ((s.mac m.val).sent f fs).results = (s.mac m.val).results ++ [⟨f.tag, 0, f.attempts, f.owner⟩] := by
    simp [CbusMac.sent, hf]
  obtain ⟨r, hr, heff | heff⟩ := effCbusTxEnd_loop hq hp hl noCrs
  · refine ⟨_, heff, hout, ?_⟩
    rw [hmac]
    exact hsent
  · obtain ⟨⟨rx, hrec⟩, hquiet⟩ := cbusReceive_spec (s.txDone m.val f noCrs) r
    rw [hr, hmac] at hrec
    refine ⟨_, heff, hquiet.trans hout, ?_⟩
    rw [hrec]
    exact hsent

/-- The next bytes of the oldest frame are read. -/
theorem rxData_reads {s : State} {m : Nat} {r : CbusSlot} {rs : List CbusSlot} (h : (s.mac m).rx = r :: rs) :
    ∃ t, effCbusRxData m s = t ∧ t.out = s.out ++ [.data (leAt r.bytes r.pos 4)] ∧
      t.mac m = { s.mac m with rx := { r with pos := min r.bytes.length (r.pos + 4) } :: rs } := by
  refine ⟨_, effCbusRxData_cons h, ?_, ?_⟩
  · rw [State.emit_out, setMac_out]
  · rw [mac_emit, mac_setMac_same]

/-- A write to CBUS_MDIO while the MAC drives no MDC. -/
theorem mdioStart_sets {s : State} {m : Nat} (h : (s.mac m).mdio = none) (ho : s.macOn m = false) (write : Bool) {phy reg data : Nat}
    (hp : phy < 2 ^ 5) (hr : reg < 2 ^ 5) (hd : data < 2 ^ 16) : ∃ t, s.mdioStart m write phy reg data = t ∧
      t.out = s.out ∧ t.get (F.CBUS_MDIO_PHYAD m) = phy ∧ t.get (F.CBUS_MDIO_REGAD m) = reg ∧
      t.get (F.CBUS_MDIO_DATA m) = data ∧ OnlyRegs [CBUS_MDIO m] s t := by
  obtain ⟨hphy, hreg, hdata⟩ := mdioSet_fields s m hp hr hd
  have honly := mdioSet_onlyRegs s m phy reg data
  exact ⟨_, mdioStart_off h ho write phy reg data, honly.out, hphy, hreg, hdata, honly⟩

/-- Settles O57: each command by the state of its MAC. -/
theorem controlBusesAct : Obligations.ControlBusesAct := by
  unfold Obligations.ControlBusesAct
  refine fun s m ha => ⟨fun p => ⟨fun he => ?_, fun he hp => ?_, fun he hp hd => ?_, fun he hp hd => ⟨fun h => ?_, fun h => ?_, fun h => ?_⟩⟩,
    fun he => ?_, fun he => ?_, fun ho w => ?_, fun f hf => ⟨fun h => ?_, fun ho hc hp hj => ?_⟩, fun ho w => ⟨fun hf hq => ?_, fun hf hq => ?_,
    fun b hf => ⟨fun hl => ?_, fun hl => ?_⟩⟩, fun len tag => ⟨fun h => ?_, fun h hb => ?_, fun h hb => ?_⟩, fun hp f fs hq => ?_, fun hp => ?_,
    fun d => ⟨fun hq => ?_, fun f fs hq => ⟨fun hm => ?_, fun hm => ?_⟩⟩, fun late quiet => ⟨fun h => ?_, fun f fs hq hp hl =>
    ⟨?_, fun h => ?_, fun h hf => ?_, fun h hf => ?_⟩⟩, fun k hk => ?_, fun h => ?_, fun quiet => ⟨fun h => ?_, fun hp hl f fs hq => ?_,
    fun hp hl hf f fs hq => ?_⟩, fun ho => ⟨fun d => ?_, fun b => ?_⟩, ⟨fun ho => ⟨?_, ?_, ?_⟩, fun h => ?_, fun h => ?_, fun ho =>
    ⟨fun h => ?_, fun h => ?_⟩⟩, ?_, ?_, ?_, fun h => ?_, fun r rs h => ?_, fun h => ⟨?_, ?_⟩, fun r rs h => ⟨?_, ?_⟩,
    fun f hf => ⟨fun h => ?_, fun ho hc hp hj => ?_, fun h => ?_, fun ho hc hp hj => ?_⟩, fun p r d => ⟨fun h => ⟨?_, ?_⟩,
    fun h ho => ⟨?_, ?_⟩, fun h ho => ⟨?_, ?_⟩⟩, fun ack d => ⟨fun h => ?_, fun x h => ?_, fun x h => ?_⟩, fun key => ⟨fun h => ?_, fun h => ?_⟩⟩
  · exact gives_runs (exec_cbusEnable s) ha (if_pos he)
  · exact gives_runs (exec_cbusEnable s) ha (effCbusEnable_plain p he hp)
  · exact gives_runs (exec_cbusEnable s) ha (effCbusEnable_dormant p he hp hd)
  · exact gives_runs (exec_cbusEnable s) ha ((effCbusEnable_plca p he hp hd).trans (if_pos h))
  · exact gives_runs (exec_cbusEnable s) ha ((effCbusEnable_plca p he hp hd).trans (if_neg (by simp [h])))
  · refine ⟨gives_runs (exec_cbusEnable s) ha ((effCbusEnable_plca p he hp hd).trans (if_neg (by simp [h]))), ?_⟩
    subst h
    obtain ⟨hdata, hack, hcnt⟩ := plcaRead_none (s.plcaFrames m.val) m.val
    rw [plcaFrames_rg] at hcnt
    exact ⟨hdata, hack, hcnt⟩
  · exact gives_runs (exec_cbusDisable s) ha (if_neg (by simp [he]))
  · obtain ⟨hfill, hrx, hjab, hmdio, hbusy, hen⟩ := macStop_spec (s.putBit (F.CBUS_CFG_EN m.val) false) m.val
    have hoff : (s.putBit (F.CBUS_CFG_EN m.val) false).bit (F.CBUS_CFG_EN m.val) = false :=
      bit_putBit_same _ _ (show 0 + 1 ≤ 64 by decide) rfl
    intro u t
    have ht : t.mac m.val = { u.mac m.val with enabling := false } := mac_setMac_same u m.val _
    refine ⟨gives_runs (exec_cbusDisable s) ha (effCbusDisable_on he), ?_, ?_, ?_, ?_, ?_, ?_⟩
    · exact (bit_setMac u _ (cfg_notMem m.val)).trans (hen.trans hoff)
    · rw [ht]
      exact hfill
    · rw [ht]
      exact hrx
    · rw [ht]
      exact hjab
    · rw [ht]
      exact hmdio
    · exact (bit_setMac u _ (mdio_notMem m.val)).trans hbusy
  · exact gives_runs (exec_cbusTxData s) ha (effCbusTxData_off ho w)
  · subst hf
    exact gives_runs (exec_cbusFalseCarrier s) ha (if_neg (by simp [listens_false h]))
  · subst hf
    exact gives_runs (exec_cbusFalseCarrier s) ha (if_pos ((listens_iff ..).2 ⟨ho, hc, hp, hj⟩))
  · exact gives_runs (exec_cbusTxData s) ha ((effCbusTxData_begins ho hf w).trans (if_neg (Nat.not_le.2 hq)))
  · exact gives_runs (exec_cbusTxData s) ha ((effCbusTxData_begins ho hf w).trans (if_pos hq))
  · exact gives_runs (exec_cbusTxData s) ha ((effCbusTxData_fills ho hf w).trans (if_neg (Nat.not_lt.2 hl)))
  · exact gives_runs (exec_cbusTxData s) ha ((effCbusTxData_fills ho hf w).trans (if_pos hl))
  · exact gives_runs (exec_cbusGo s) ha (if_pos h)
  · exact gives_runs (exec_cbusGo s) ha ((effCbusGo_runs len.toNat tag.toNat h).trans (if_pos hb))
  · exact gives_runs (exec_cbusGo s) ha ((effCbusGo_runs len.toNat tag.toNat h).trans (if_neg (Bool.eq_false_iff.1 hb)))
  · exact gives_runs (exec_cbusFlush s) ha (effCbusFlush_attempt hp hq)
  · exact gives_runs (exec_cbusFlush s) ha (effCbusFlush_idle hp)
  · exact gives_runs (exec_cbusAttemptStart s) ha (effCbusAttemptStart_nil hq d)
  · exact gives_runs (exec_cbusAttemptStart s) ha ((effCbusAttemptStart_cons hq d).trans (if_neg (Bool.eq_false_iff.1 hm)))
  · obtain ⟨t, he, hspec⟩ := attempt_starts hq (d := d) hm
    exact ⟨_, gives_runs (exec_cbusAttemptStart s) ha he, hspec⟩
  · exact gives_runs (exec_cbusCollision s) ha (effCbusCollision_none h late quiet)
  · exact backoffSlots_lt _ _
  · exact gives_runs (exec_cbusCollision s) ha ((effCbusCollision_hit hq hp hl late quiet).trans (if_pos h))
  · exact gives_runs (exec_cbusCollision s) ha ((effCbusCollision_hit hq hp hl late quiet).trans
      ((if_neg (Nat.not_le.2 h)).trans (if_pos (Option.isSome_iff_ne_none.2 hf))))
  · exact gives_runs (exec_cbusCollision s) ha ((effCbusCollision_hit hq hp hl late quiet).trans
      ((if_neg (Nat.not_le.2 h)).trans (if_neg (by simp [hf]))))
  · exact gives_runs (exec_cbusBackoffEnd s) ha (effCbusBackoffEnd_ends hk)
  · exact gives_runs (exec_cbusBackoffEnd s) ha (effCbusBackoffEnd_none h)
  · exact gives_runs (exec_cbusTxEnd s) ha (effCbusTxEnd_none h quiet)
  · obtain ⟨t, he, hspec⟩ := attempt_sends hq hp hl quiet
    exact ⟨_, gives_runs (exec_cbusTxEnd s) ha he, hspec⟩
  · obtain ⟨t, he, hspec⟩ := attempt_loops hq hp hl hf quiet
    exact ⟨_, gives_runs (exec_cbusTxEnd s) ha he, hspec⟩
  · exact gives_runs (exec_cbusDeferTimeout s) ha (effCbusDeferTimeout_off ho d)
  · exact gives_runs (exec_cbusClkLost s) ha (effCbusClkLost_none (.inl ho))
  · exact gives_runs (exec_cbusDeferTimeout s) ha ((effCbusDeferTimeout_on ho .head).trans (if_pos rfl))
  · exact gives_runs (exec_cbusDeferTimeout s) ha ((effCbusDeferTimeout_on ho .carrier).trans (if_neg (by decide)))
  · exact gives_runs (exec_cbusDeferTimeout s) ha ((effCbusDeferTimeout_on ho .held).trans (if_neg (by decide)))
  · exact gives_runs (exec_cbusClkLost s) ha (effCbusClkLost_none (.inr h))
  · exact gives_runs (exec_cbusClkLost s) ha (effCbusClkLost_none (.inr h))
  · exact gives_runs (exec_cbusClkLost s) ha (effCbusClkLost_tx ho h)
  · exact gives_runs (exec_cbusClkLost s) ha (effCbusClkLost_rx ho h)
  · exact gives_runs (exec_cbusClkReturn s) ha rfl
  · exact gives_runs (exec_cbusClkReturn s) ha rfl
  · exact gives_runs (exec_carrierFall s) ha rfl
  · exact gives_runs (exec_resPop s) ha (effResPop_nil h)
  · exact gives_runs (exec_resPop s) ha (effResPop_cons h)
  · exact gives_runs (exec_rxPop s) ha (effRxPop_nil h)
  · exact gives_runs (exec_cbusRxData s) ha (effCbusRxData_nil h)
  · exact gives_runs (exec_rxPop s) ha (effRxPop_cons h)
  · obtain ⟨t, he, hspec⟩ := rxData_reads h
    exact ⟨_, gives_runs (exec_cbusRxData s) ha he, hspec⟩
  · subst hf
    exact gives_runs (exec_cbusFrameRx s) ha (if_neg (by simp [listens_false h]))
  · subst hf
    exact gives_runs (exec_cbusFrameRx s) ha (if_pos ((listens_iff ..).2 ⟨ho, hc, hp, hj⟩))
  · subst hf
    exact gives_runs (exec_cbusJabber s) ha (if_pos (by simp [listens_false h]))
  · subst hf
    exact gives_runs (exec_cbusJabber s) ha (if_neg (by simp [(listens_iff s f.mac.val f.quiet).2 ⟨ho, hc, hp, hj⟩]))
  · exact gives_runs (exec_mdioWrite s) ha (mdioStart_busy h _ _ _ _)
  · exact gives_runs (exec_mdioRead s) ha (mdioStart_busy h _ _ _ _)
  · obtain ⟨t, he, hout, hphy, hreg, hdata, honly⟩ := mdioStart_sets h ho true p.isLt r.isLt d.isLt
    exact ⟨_, gives_runs (exec_mdioWrite s) ha he, hout, hphy, hreg, hdata, honly.withPending⟩
  · obtain ⟨t, he, hout, hphy, hreg, -, honly⟩ := mdioStart_sets h ho false p.isLt r.isLt (get_lt s (F.CBUS_MDIO_DATA m.val))
    exact ⟨_, gives_runs (exec_mdioRead s) ha he, hout, hphy, hreg, honly.withPending⟩
  · obtain ⟨t, he, hspec⟩ := mdioStart_runs h ho true p.isLt r.isLt d.isLt
    exact ⟨_, gives_runs (exec_mdioWrite s) ha he, hspec⟩
  · obtain ⟨t, he, hspec⟩ := mdioStart_runs h ho false p.isLt r.isLt (get_lt s (F.CBUS_MDIO_DATA m.val))
    exact ⟨_, gives_runs (exec_mdioRead s) ha he, hspec⟩
  · exact gives_runs (exec_mdioDone s) ha (effMdioDone_none h ack d.toNat)
  · exact gives_runs (exec_mdioDone s) ha (effMdioDone_write h ack d.toNat)
  · obtain ⟨t, he, hspec⟩ := effMdioDone_read h ack d.isLt
    exact ⟨_, gives_runs (exec_mdioDone s) ha he, hspec⟩
  · exact gives_runs (exec_pollTimeout s) ha (if_neg (by rw [h]; decide))
  · have hpartners := effPollTimeout_misses h
    generalize he : effPollTimeout key s = t at hpartners
    refine ⟨_, gives_runs (exec_pollTimeout s) ha he, ?_, fun k hk => ?_⟩
    · exact (congrArg (tget · key) hpartners).trans ((tget_tput _ _ _ _).trans (if_pos rfl))
    · exact (congrArg (tget · k) hpartners).trans ((tget_tput _ _ _ _).trans (if_neg hk))

end Sys2Proof.Machine
end

section
/-! The state of a modulator channel: what a latch leaves of it (R366, Table 16.2). -/

namespace Sys2Proof.Machine

/-! ## Setting a channel -/

theorem ch_of_amp {s t : State} (h : t.amp = s.amp) (m : Nat) : t.ch m = s.ch m := by rw [State.ch, h, State.ch]

theorem ch_setCh (s : State) (m : Nat) (c : AmpCh) (k : Nat) : (s.setCh m c).ch k = if k = m then c else s.ch k := by
  simp only [State.ch, State.setCh, tgetD, tget_tput]
  by_cases hk : k = m
  · rw [if_pos hk, if_pos hk]
    split
    next h => exact h.symm
    · rfl
  · rw [if_neg hk, if_neg hk]

@[simp] theorem ch_setCh_same (s : State) (m : Nat) (c : AmpCh) : (s.setCh m c).ch m = c := by rw [ch_setCh, if_pos rfl]

@[simp] theorem ch_put (s : State) (f : Fld) (v m : Nat) : (s.put f v).ch m = s.ch m := ch_of_amp (State.put_amp s f v) m

@[simp] theorem ch_putBit (s : State) (f : Fld) (b : Bool) (m : Nat) : (s.putBit f b).ch m = s.ch m := ch_of_amp (State.putBit_amp s f b) m

@[simp] theorem ch_bump (s : State) (f : Fld) (n m : Nat) : (s.bump f n).ch m = s.ch m := ch_of_amp (State.bump_amp s f n) m

/-- A channel's state is shown in registers alone. -/
@[simp] theorem ch_showCh (s : State) (m k : Nat) : (s.showCh m).ch k = s.ch k := by simp [State.showCh]

/-! ## What leaves the state of every channel -/

/-- The state of a channel. -/
def State.chState (s : State) (m : Nat) : ChState := (s.ch m).state

section
variable {m : Nat}

theorem chState_of_amp {s t : State} (h : t.amp = s.amp) : t.chState m = s.chState m := by
  rw [State.chState, ch_of_amp h, State.chState]

theorem chState_setCh {s : State} {k : Nat} {c : AmpCh} (h : c.state = s.chState k) : (s.setCh k c).chState m = s.chState m := by
  rw [State.chState, ch_setCh]
  split
  next hk =>
    subst hk
    exact h
  · rfl

theorem zeroGranules_amp (s : State) (b : DelayBuf) : (s.zeroGranules b).amp = s.amp := by
  unfold State.zeroGranules
  refine foldl_keeps State.amp (fun u g => ?_) _ _
  rfl

theorem chState_firstUse (s : State) : s.firstUse.chState m = s.chState m := by
  unfold State.firstUse
  extract_lets s1 s2 _ s3 _ s4
  have h1 : s1.amp = s.amp := foldl_keeps State.amp (fun s l => by split <;> rfl) _ _
  have h2 : s2.amp = s1.amp := by
    refine foldl_keeps State.amp (fun u e => ?_) _ s1
    split
    · rw [zeroGranules_amp, zeroGranules_amp]
    · rw [zeroGranules_amp]
  clear_value s1 s2
  have h3 : s3.amp = s2.amp := rfl
  clear_value s3
  have h4 : s4.chState m = s3.chState m := by
    simp only [s4, State.chState, State.ch, tgetD, tget_tmap]
    cases tget s3.amp.chs m <;> rfl
  refine (chState_of_amp ?_).trans (h4.trans (chState_of_amp (h3.trans (h2.trans h1))))
  refine foldl_keeps State.amp (fun u j => ?_) _ s4
  rw [State.clearRg_amp, State.clearRg_amp]

theorem chState_resetCoil (s : State) : s.resetCoil.chState m = s.chState m := by
  refine foldl_keeps (fun s => s.chState m) (fun s k => ?_) _ _
  extract_lets t _ u
  have hu : u.chState m = s.chState m := by
    unfold u
    split
    · exact chState_setCh rfl
    · rfl
  exact (chState_of_amp (by rw [State.put_amp, State.clearRg_amp])).trans hu

theorem unmoor_amp (s : State) : s.unmoor.amp = s.amp := by
  unfold State.unmoor
  extract_lets s1 _ s2 _ s3
  have h1 : s1.amp = s.amp := State.putBit_amp s F.DBG_LEVEL_DISC false
  clear_value s1
  have h3 : s3.amp = s1.amp := rfl
  split
  · exact h3.trans h1
  · exact h3.trans h1

theorem abortDormant_amp (s : State) : s.abortDormant.amp = s.amp := by
  unfold State.abortDormant
  split <;> rfl

/-- What a wake does after the reference, the blocks without history and the coils (R476). -/
def State.wakeRest (s : State) (cause index : Nat) : State :=
  let s := { s with bricks := tmap (fun _ br => { br with ready := [] }) s.bricks }
  let s := s.freshMutes (fun r => !(decide (r = .dormant)))
  let s := { s with audio := { s.audio with running := true, startN := s.nextN }, pwr := { s.pwr with waking := none } }
  let s := (s.put F.PWR_WAKE_STAT_CAUSE cause).put F.PWR_WAKE_STAT_INDEX index
  s.put F.PWR_STAT_STATE 0

theorem wakeRest_amp (s : State) (cause index : Nat) : (s.wakeRest cause index).amp = s.amp := by
  rw [State.wakeRest, State.put_amp, State.put_amp, State.put_amp, State.freshMutes, State.mapMuteAll]

theorem chState_wakeAudio (s : State) (cause index : Nat) : (s.wakeAudio cause index).chState m = s.chState m := by
  have hrest : s.wakeAudio cause index = ((if s.get F.PWR_STAT_STATE = 4 then s.unmoor
      else if s.get F.PWR_STAT_STATE = 3 then s.requalify else s).firstUse.resetCoil).wakeRest cause index := rfl
  rw [hrest, chState_of_amp (wakeRest_amp _ _ _), chState_resetCoil, chState_firstUse]
  split
  · exact chState_of_amp (unmoor_amp s)
  · split <;> rfl

theorem setMode_amp (s : State) (n : Mode) : (s.setMode n).amp = s.amp := by
  by_cases h : s.node.mode = n
  · rw [setMode_same h]
  · rw [setMode_frame h]

theorem chState_enterHold (s : State) (src : Option Nat) : (s.enterHold src).chState m = s.chState m := by
  unfold State.enterHold
  extract_lets old s1 lost s2 _ _ s3 s4 s5 s6 s7
  have h1 : s1.chState m = s.chState m := by
    unfold s1
    split
    · exact chState_wakeAudio s.forgetBlk _ _
    · exact chState_of_amp (abortDormant_amp s)
  clear_value s1
  have h2 : s2.amp = s1.amp := by
    unfold s2
    split
    · rw [State.put_amp]
    · rfl
  clear_value s2
  have h3 : s3.amp = s2.amp := rfl
  clear_value s3
  have h4 : s4.amp = s3.amp := by unfold s4; rw [State.put_amp, State.put_amp]
  have h5 : s5.amp = s4.amp := by
    unfold s5
    split
    · rw [State.put_amp, State.put_amp]
    · rw [State.put_amp]
  clear_value s5
  have h6 : s6.amp = s5.amp := rfl
  clear_value s6
  have h7 : s7.amp = s6.amp := by
    unfold s7
    split
    · rw [State.masterReset, State.setRg_amp, State.putBit_amp, State.putBit_amp, State.put_amp]
    · rfl
  clear_value s7
  have h8 : ((s7.setMode .hold).muteOuts .hold).amp = s7.amp := setMode_amp s7 .hold
  split
  · rfl
  · exact (chState_of_amp (((((h8.trans h7).trans h6).trans h5).trans h4).trans (h3.trans h2))).trans h1

theorem pinStep_amp (s t : State) : (s.pinStep t).amp = t.amp := by
  unfold State.pinStep
  split <;> rfl

theorem policyPin_amp (s : State) : s.policyPin.amp = s.amp := by
  unfold State.policyPin
  split
  · rfl
  · exact (pinStep_amp _ _).trans (State.putBit_amp _ _ _)

theorem pulse_amp (s : State) (cls : Nat) : (s.pulse cls).amp = s.amp := by
  unfold State.pulse
  split
  · rfl
  · split
    · rfl
    · exact pinStep_amp _ _

theorem holdChans_amp (s : State) (k : Nat) (chans : List Nat) : (s.holdChans k chans).amp = s.amp :=
  foldl_keeps State.amp (fun s m => by dsimp only; split <;> rfl) _ _

theorem chState_reactHold (s : State) (k : Nat) : (s.reactHold k).chState m = s.chState m := by
  unfold State.reactHold
  dsimp only
  split
  · rfl
  · exact chState_enterHold _ _

theorem chState_react (s : State) (k cls : Nat) (chans : List Nat) : (s.react k cls chans).chState m = s.chState m := by
  unfold State.react
  split
  · rfl
  · split
    · exact chState_of_amp (holdChans_amp _ k chans)
    · rfl
  · exact chState_reactHold s k
  · unfold State.reactReset
    split
    · exact chState_reactHold s k
    · split
      · exact (chState_reactHold _ k).trans (chState_of_amp (State.put_amp _ _ _))
      · rfl
  · rfl

/-- No reaction of the collector moves a channel to another state of Table 12.6. -/
theorem chState_latch (s : State) (k : Nat) (chans : List Nat) : (s.latch k chans).chState m = s.chState m := by
  cases hl : s.latched k with
  | true =>
    unfold State.latch
    rw [if_pos hl]
    split
    · exact chState_of_amp (holdChans_amp s k chans)
    · rfl
  | false =>
    obtain ⟨u, hu, he⟩ := newLatch_eq (s.noteFirst k) k chans
    have hamp : u.amp = s.amp := by
      have hfirst : (s.noteFirst k).amp = s.amp := by
        unfold State.noteFirst
        split <;> rfl
      rw [hu, State.unbar, State.recordLatch, State.bump_amp, State.setRegBit, State.setRg_amp, hfirst]
    rw [latch_new hl, he, chState_of_amp (policyPin_amp _), chState_react, chState_of_amp (pulse_amp _ _), chState_of_amp hamp]

end

/-- A latched channel that stays in use stays latched. -/
theorem settleCh_latched {s : State} {m : Nat} (h : s.chState m = .latched) (he : s.chEnabled m = true) : s.settleCh m = s.showCh m := by
  have hstate : (s.ch m).state = .latched := h
  have ht : s.chTarget m = .latched := by
    unfold State.chTarget
    dsimp only
    rw [if_neg (by simp [he]), hstate]
  unfold State.settleCh
  exact if_pos (by rw [ht, hstate])

theorem latchCh_latched (s : State) (m : Nat) : (s.latchCh m).chState m = .latched := by
  unfold State.latchCh
  extract_lets s1 _ s2 s3
  have h2 : (s2.ch m).state = .latched := by unfold s2; rw [ch_setCh_same]
  rw [chState_latch, State.chState, State.gatesLow, ch_setCh_same]
  show ((s3.showCh m).ch m).state = .latched
  rw [ch_showCh]
  unfold s3
  rw [ch_bump, ch_putBit, h2]

end Sys2Proof.Machine
end

section
/-! The fast estimate (R354) and the dead time of a half-bridge (R347). -/

namespace Sys2Proof.Machine

/-! ## The fast estimate -/

/-- A sum of some of the weights is at most the sum of all. -/
theorem foldl_weights_le (p : Nat → Bool) (w : Nat → Nat) (l : List Nat) (n : Nat) :
    l.foldl (fun n j => if p j then n + w j else n) n ≤ n + (l.map w).sum := by
  induction l generalizing n with
  | nil => simp
  | cons x l ih =>
    rw [List.foldl_cons, List.map_cons, List.sum_cons]
    split
    · exact (ih _).trans (by omega)
    · exact (ih _).trans (by omega)

theorem fastEstimate_bounds (bits : BitVec 15) : -32 ≤ fastEstimate bits ∧ fastEstimate bits ≤ 32 := by
  have hsum : ((List.range 15).map sincWeight).sum = 64 := by decide
  have hle := foldl_weights_le bits.getLsbD sincWeight (List.range 15) 0
  rw [hsum] at hle
  unfold fastEstimate
  omega

/-! ## Dead time -/

/-- Between an output that conducts and the other one `dead` cycles pass: `last` conducted last, `idle` cycles ago. -/
def DeadTime (dead : Nat) : Option Bool → Nat → List (Nat × Option Bool) → Prop
  | _, _, [] => True
  | last, idle, (n, none) :: l => DeadTime dead last (idle + n) l
  | last, idle, (_, some w) :: l => (last = some (!w) → dead ≤ idle) ∧ DeadTime dead (some w) 0 l

/-- A half-bridge after runs that end with `last` conducting `idle` cycles ago: that output conducts still, or the wait left makes up
the dead time. -/
def HalfBridge.Waits (h : HalfBridge) (dead : Nat) (last : Option Bool) (idle : Nat) : Prop :=
  ∀ v, last = some v → h.on = some v ∨ (h.on = none ∧ dead ≤ idle + h.wait)

/-- One run: it keeps the dead time, and so does what follows it if the half-bridge waits as it stands then. -/
theorem deadTime_play {dead : Nat} {h : HalfBridge} {last : Option Bool} {idle : Nat} (hw : h.Waits dead last idle) (want : Option Bool)
    (n : Nat) {l : List (Nat × Option Bool)}
    (hl : ∀ last' idle', (h.play dead want n).1.Waits dead last' idle' → DeadTime dead last' idle' l) :
    DeadTime dead last idle ((h.play dead want n).2 ++ l) := by
  have hbase : ∀ v, last = some v → dead ≤ idle + (if h.on.isSome then dead else h.wait) := by
    intro v hv
    rcases hw v hv with hon | ⟨hon, hwait⟩
    · simp [hon]
    · simpa [hon] using hwait
  have hrests : ∀ wait, (∀ v, last = some v → dead ≤ idle + wait) →
      HalfBridge.Waits ⟨none, wait - n⟩ dead last (idle + n) := fun wait hwait v hv => by
    have := hwait v hv
    exact .inr ⟨rfl, by dsimp only; omega⟩
  have hconducts : ∀ g : HalfBridge, ∀ w, g.on = some w → g.Waits dead (some w) 0 := fun g w hg v hv => by
    cases hv
    exact .inl hg
  unfold HalfBridge.play at hl ⊢
  generalize (if h.on.isSome then dead else h.wait) = wait at hbase hl ⊢
  dsimp only at hl ⊢
  by_cases hn : n = 0
  · rw [if_pos hn] at hl ⊢
    exact hl _ _ hw
  rw [if_neg hn] at hl ⊢
  by_cases hsame : (h.on = want && want.isSome) = true
  · rw [if_pos hsame] at hl ⊢
    simp only [Bool.and_eq_true, decide_eq_true_eq, Option.isSome_iff_exists] at hsame
    obtain ⟨hon, w, rfl⟩ := hsame
    refine ⟨fun hlast => ?_, hl _ _ (hconducts h w hon)⟩
    rcases hw _ hlast with hother | ⟨hnone, -⟩
    · simp [hon] at hother
    · simp [hon] at hnone
  rw [if_neg hsame] at hl ⊢
  cases want with
  | none => exact hl _ _ (hrests wait hbase)
  | some w =>
    dsimp only at hl ⊢
    by_cases hle : n ≤ wait
    · rw [if_pos hle] at hl ⊢
      exact hl _ _ (hrests wait hbase)
    · rw [if_neg hle] at hl ⊢
      have hnext : DeadTime dead (some w) 0 l := hl _ _ (hconducts ⟨some w, 0⟩ w rfl)
      split
      next h0 => exact ⟨fun hlast => by simpa [h0] using hbase _ hlast, hnext⟩
      · exact ⟨fun hlast => hbase _ hlast, hnext⟩

theorem deadTime_wave {dead : Nat} (want : List (Nat × Option Bool)) {h : HalfBridge} {last : Option Bool} {idle : Nat}
    (hw : h.Waits dead last idle) : DeadTime dead last idle (h.wave dead want).2 := by
  induction want generalizing h last idle with
  | nil => trivial
  | cons e rest ih => exact deadTime_play hw e.2 e.1 (fun _ _ hw' => ih hw')

theorem deadTime_append {dead : Nat} (pre : List (Nat × Option Bool)) {last : Option Bool} {idle : Nat} {l : List (Nat × Option Bool)}
    (h : DeadTime dead last idle (pre ++ l)) : ∃ last' idle', DeadTime dead last' idle' l := by
  induction pre generalizing last idle with
  | nil => exact ⟨_, _, h⟩
  | cons e pre ih =>
    obtain ⟨n, want⟩ := e
    cases want with
    | none => exact ih h
    | some w => exact ih h.2

/-- The runs in which neither conducts add up. -/
theorem deadTime_idle {dead : Nat} (mid : List (Nat × Option Bool)) {last : Option Bool} {idle : Nat} {l : List (Nat × Option Bool)}
    (hm : ∀ e ∈ mid, e.2 = none) (h : DeadTime dead last idle (mid ++ l)) :
    DeadTime dead last (mid.foldl (fun c e => c + e.1) idle) l := by
  induction mid generalizing idle with
  | nil => exact h
  | cons e mid ih =>
    obtain ⟨n, want⟩ := e
    obtain rfl : want = none := hm _ List.mem_cons_self
    exact ih (fun e he => hm e (List.mem_cons_of_mem _ he)) h

theorem wave_dead {dead : Nat} {h : HalfBridge} {want pre mid post : List (Nat × Option Bool)} {n k : Nat} {w : Bool}
    (he : (h.wave dead want).2 = pre ++ [(n, some w)] ++ mid ++ [(k, some (!w))] ++ post) (hm : ∀ e ∈ mid, e.2 = none) :
    dead ≤ mid.foldl (fun c e => c + e.1) 0 := by
  have hwave : DeadTime dead none 0 (h.wave dead want).2 := deadTime_wave want (fun v hv => by cases hv)
  rw [he] at hwave
  simp only [List.append_assoc] at hwave
  obtain ⟨last, idle, -, hrest⟩ := deadTime_append pre hwave
  obtain ⟨hswitch, -⟩ := deadTime_idle mid hm hrest
  exact hswitch (by rw [Bool.not_not])

end Sys2Proof.Machine
end

section
/-! The events of the modulator channels (R355, R359, R365 to R369, R374, R379). -/

namespace Sys2Proof.Machine

/-! ## Current limit and retests -/

/-- A trip counts: the bridge pulses, the estimate is at the limit, and its period has not been counted. -/
def State.tripCounts (s : State) (m period : Nat) (bits : BitVec 15) : Bool :=
  !s.modGated && decide (s.bridgeOf m = .pulses) && !s.iLost m && !(s.ch m).trips.contains period
    && decide (s.get (F.AMP_CH_PROT_ILIM m) ≤ (fastEstimate bits).natAbs)

/-- The trips of the last sixteen carrier periods, this one among them. -/
def AmpCh.tripsOf (c : AmpCh) (period : Nat) : List Nat := (period :: c.trips).filter (fun x => decide (period < x + 16))

/-- A trip ends the pulse, is shown, counted and latched. -/
def State.tripped (s : State) (m k period cycle : Nat) : State :=
  (((s.setCh m { (s.ch m).endPulse k (min cycle s.carrierLen) with trips := (s.ch m).tripsOf period }).putBit
    (F.AMP_CH_STAT_TRIP m) true).bump (F.AMP_CH_CNT_TRIPS m)).latch 44 [m]

theorem effCurrentTrip_eq (m k : Nat) (bits : BitVec 15) (cycle : Nat) (s : State) : effCurrentTrip m k bits cycle s =
    if s.tripCounts m (s.node.n.toNat * 16 + k) bits then
      if (s.ch m).state = .retest then (s.tripped m k (s.node.n.toNat * 16 + k) cycle).retestFails m
      else if 4 ≤ ((s.ch m).tripsOf (s.node.n.toNat * 16 + k)).length then
        ((s.tripped m k (s.node.n.toNat * 16 + k) cycle).latchCh m).settleCh m
      else s.tripped m k (s.node.n.toNat * 16 + k) cycle
    else s := by
  have hneg : (s.modGated || s.bridgeOf m != .pulses || s.iLost m || (s.ch m).trips.contains (s.node.n.toNat * 16 + k)
      || decide ((fastEstimate bits).natAbs < s.get (F.AMP_CH_PROT_ILIM m))) = !s.tripCounts m (s.node.n.toNat * 16 + k) bits := by
    have hb : (s.bridgeOf m != .pulses) = !decide (s.bridgeOf m = .pulses) := rfl
    simp only [State.tripCounts, Bool.not_and, Bool.not_not, hb, ← decide_not, Nat.not_le]
  unfold effCurrentTrip
  dsimp only
  rw [hneg]
  cases s.tripCounts m (s.node.n.toNat * 16 + k) bits <;> rfl

theorem effRetestStart_not {s : State} {m : Nat} (h : ¬ ((s.ch m).state = .latched ∧ s.retestClear m = true)) :
    effRetestStart m s = s := by
  rw [effRetestStart, if_neg (by simpa using h)]

theorem effRetestStart_begins {s : State} {m : Nat} (hl : (s.ch m).state = .latched) (hc : s.retestClear m = true) :
    effRetestStart m s =
      (s.setCh m { s.ch m with state := .retest, lockedDc := false, retest := some (0, Corr.zero), trips := [] }).showCh m := by
  rw [effRetestStart, if_pos (by simp [hl, hc]), State.beginRetest, if_pos hc]

/-- The impedance a retest sees is at least a quarter of the nominal one. -/
def State.retestPasses (s : State) (m : Nat) (corr : Corr) : Prop := ∃ z, s.zMag m corr = some z ∧ s.zNom m ≤ 4 * z

theorem effRetestEnd_none {s : State} {m : Nat} (h : (s.ch m).retest = none) : effRetestEnd m s = s := by
  unfold effRetestEnd
  dsimp only
  rw [h]

theorem effRetestEnd_early {s : State} {m k : Nat} {corr : Corr} (h : (s.ch m).retest = some (k, corr))
    (hw : (s.ch m).state ≠ .retest ∨ k < s.ms10) : effRetestEnd m s = s := by
  unfold effRetestEnd
  dsimp only
  rw [h]
  exact if_pos (by simpa using hw)

theorem effRetestEnd_passes {s : State} {m k : Nat} {corr : Corr} (h : (s.ch m).retest = some (k, corr))
    (hs : (s.ch m).state = .retest) (hk : s.ms10 ≤ k) (hp : s.retestPasses m corr) :
    effRetestEnd m s = (s.setCh m { s.ch m with retest := none, state := .off }).settleCh m := by
  obtain ⟨z, hz, hle⟩ := hp
  unfold effRetestEnd
  dsimp only
  rw [h]
  dsimp only
  rw [if_neg (by simp [hs]; omega), hz]
  exact if_pos (by simpa using hle)

theorem effRetestEnd_fails {s : State} {m k : Nat} {corr : Corr} (h : (s.ch m).retest = some (k, corr))
    (hs : (s.ch m).state = .retest) (hk : s.ms10 ≤ k) (hp : ¬ s.retestPasses m corr) : effRetestEnd m s = s.retestFails m := by
  unfold effRetestEnd
  dsimp only
  rw [h]
  dsimp only
  rw [if_neg (by simp [hs]; omega)]
  cases hz : s.zMag m corr with
  | none => exact if_neg Bool.false_ne_true
  | some z => exact if_neg (by simpa using fun hle => hp ⟨z, hz, hle⟩)

theorem effRetriesReset_playing {s : State} {m : Nat} (h : (s.ch m).state = .playing) :
    ∃ t, effRetriesReset m s = t ∧ t.get (F.AMP_CH_STAT_RETRIES m) = 0 ∧ OnlyRegs [AMP_CH_STAT m] s t := by
  have hb : (F.AMP_CH_STAT_RETRIES 0).lo + (F.AMP_CH_STAT_RETRIES 0).width ≤ 64 := by decide
  refine ⟨_, if_pos h, ?_, .put s _ List.mem_cons_self⟩
  rw [get_put_same (f := F.AMP_CH_STAT_RETRIES m) s 0 hb, Nat.zero_mod]

/-! ## Diagnostics -/

theorem effDiagStepEnd_none {s : State} {m : Nat} (h : (s.ch m).diag = none) : effDiagStepEnd m s = s := by
  unfold effDiagStepEnd
  rw [h]

theorem effDiagStepEnd_early {s : State} {m : Nat} {d : DiagRun} (h : (s.ch m).diag = some d) (hk : d.k < d.len) :
    effDiagStepEnd m s = s := by
  unfold effDiagStepEnd
  rw [h]
  exact if_pos hk

theorem effDiagStepEnd_hold {s : State} {m : Nat} {d : DiagRun} (h : (s.ch m).diag = some d) (hk : d.len ≤ d.k) (hd : d.step = .dcHold) :
    effDiagStepEnd m s = (let r := s.rdcOf m d.corr
      let u := s.put (F.AMP_CH_RDC_V m) r
      let v := if d.start = true ∧ (s.ch m).rdcBase = none ∧ r ≠ 2 ^ 32 - 1 then u.setCh m { u.ch m with rdcBase := some r } else u
      v.diagGo m { d with rdc := some r } (some (.dcFall, v.ms 20))) := by
  unfold effDiagStepEnd
  rw [h]
  dsimp only
  rw [if_neg (Nat.not_lt.2 hk), hd]
  simp only [ch_put, Bool.and_eq_true, Option.isNone_iff_eq_none, bne_iff_ne, and_assoc]

theorem effDiagStepEnd_sweep {s : State} {m k z : Nat} {d : DiagRun} (h : (s.ch m).diag = some d) (hk : d.len ≤ d.k)
    (hd : d.step = .sweep k) (hz : s.zMag m d.corr = some z) :
    effDiagStepEnd m s = (
      let u := ((s.put (F.AMP_CH_SWEEP_ZMAG m k) z).put (F.AMP_CH_SWEEP_PHASE m k) (unsigned 16 d.corr.zArg)).put
          (F.AMP_CH_SWEEP_VALID m k) 1
      u.diagGo m d (u.sweepFrom d.mode (k + 1))) := by
  unfold effDiagStepEnd
  rw [h]
  dsimp only
  rw [if_neg (Nat.not_lt.2 hk), hd]
  dsimp only
  rw [hz]
  rfl

/-- Without current the impedance is a free value. -/
theorem effDiagStepEnd_noCurrent {s : State} {m k : Nat} {d : DiagRun} (h : (s.ch m).diag = some d) (hk : d.len ≤ d.k)
    (hd : d.step = .sweep k) (hz : s.zMag m d.corr = none) :
    effDiagStepEnd m s = (let z := (Config.freeWord s.free).toNat % 2 ^ 32
      let u := ((s.nextFree.put (F.AMP_CH_SWEEP_ZMAG m k) z).put (F.AMP_CH_SWEEP_PHASE m k) (unsigned 16 d.corr.zArg)).put
          (F.AMP_CH_SWEEP_VALID m k) 1
      u.diagGo m d (u.sweepFrom d.mode (k + 1))) := by
  unfold effDiagStepEnd
  rw [h]
  dsimp only
  rw [if_neg (Nat.not_lt.2 hk), hd]
  dsimp only
  rw [hz]
  rfl

theorem effDiagStepEnd_other {s : State} {m : Nat} {d : DiagRun} (h : (s.ch m).diag = some d) (hh : d.step ≠ .dcHold)
    (hs : ∀ k, d.step ≠ .sweep k) : effDiagStepEnd m s = s := by
  unfold effDiagStepEnd
  rw [h]
  dsimp only
  split
  · rfl
  · split
    next hd => exact absurd hd hh
    next k hd => exact absurd hd (hs k)
    · rfl

end Sys2Proof.Machine
end

section
/-! Pilots, sense inputs and rails of the output stage, and what settles their events (R355, R359, R379). -/

namespace Sys2Proof.Machine

/-! ## Pilot windows -/

/-- The measurements a valid window `w` shows (R379). -/
def State.pilotShown (u : State) (m : Nat) (w : Corr) : State :=
  (u.put (F.AMP_CH_ZMAG_V m) ((u.zMag m w).getD 0)).put (F.AMP_CH_ZPH_PHASE m) (unsigned 16 w.zArg)

/-- The coil temperature a valid window shows, with the event of a hot coil (R379). -/
def State.pilotTemp (v : State) (m : Nat) (temp : Int) : State :=
  (if (v.put (F.AMP_CH_ZPH_TCOIL m) (unsigned 16 temp)).coilHot m then (v.put (F.AMP_CH_ZPH_TCOIL m) (unsigned 16 temp)).latch 45 [m]
   else v.put (F.AMP_CH_ZPH_TCOIL m) (unsigned 16 temp)).freeChans

/-- What a valid window does: the first one is the reference, a later one gives a temperature (R379). -/
def State.pilotTakes (u : State) (m : Nat) (w : Corr) : State :=
  let v := u.pilotShown m w
  match (v.ch m).zRef with
  | none => (v.setCh m { v.ch m with zRef := some (satTo 0 (2 ^ 32 - 1) (u.zReal m w)).toNat }).put (F.AMP_CH_ZBASE_V m)
      (satTo 0 (2 ^ 32 - 1) (u.zReal m w)).toNat
  | some z =>
    let alpha := v.get (F.AMP_CH_HF_ALPHA m)
    (if z = 0 || alpha = 0 then v.nextFree else v).pilotTemp m
      (if z = 0 || alpha = 0 then signed 16 ((Config.freeWord v.free).toNat % 65536)
       else satTo (-32768) 32767 ((v.ch m).tRef + rhe ((u.zReal m w - z) * 256000000) (z * alpha)))

@[simp] theorem ch_pilotShown (u : State) (m : Nat) (w : Corr) (k : Nat) : (u.pilotShown m w).ch k = u.ch k := by
  rw [State.pilotShown, ch_put, ch_put]

section
variable {u : State} {m : Nat} (w : Corr)

theorem pilotTakes_first (h : (u.ch m).zRef = none) : u.pilotTakes m w =
    ((u.pilotShown m w).setCh m { (u.pilotShown m w).ch m with zRef := some (satTo 0 (2 ^ 32 - 1) (u.zReal m w)).toNat }).put
      (F.AMP_CH_ZBASE_V m) (satTo 0 (2 ^ 32 - 1) (u.zReal m w)).toNat := by
  unfold State.pilotTakes
  dsimp only
  rw [ch_pilotShown, h]

theorem pilotTakes_later {z : Nat} (h : (u.ch m).zRef = some z) (hz : z ≠ 0) (ha : (u.pilotShown m w).get (F.AMP_CH_HF_ALPHA m) ≠ 0) :
    u.pilotTakes m w = (u.pilotShown m w).pilotTemp m (satTo (-32768) 32767
      ((u.ch m).tRef + rhe ((u.zReal m w - z) * 256000000) (z * (u.pilotShown m w).get (F.AMP_CH_HF_ALPHA m)))) := by
  unfold State.pilotTakes
  dsimp only
  rw [ch_pilotShown, h]
  dsimp only
  rw [if_neg (by simp [hz, ha]), if_neg (by simp [hz, ha])]

/-- Without a slope the temperature is a free value. -/
theorem pilotTakes_free {z : Nat} (h : (u.ch m).zRef = some z) (hz : z = 0 ∨ (u.pilotShown m w).get (F.AMP_CH_HF_ALPHA m) = 0) :
    u.pilotTakes m w = (u.pilotShown m w).nextFree.pilotTemp m
      (signed 16 ((Config.freeWord (u.pilotShown m w).free).toNat % 65536)) := by
  unfold State.pilotTakes
  dsimp only
  rw [ch_pilotShown, h]
  dsimp only
  rw [if_pos (by simpa using hz), if_pos (by simpa using hz)]

end

/-- The channel after its window has been taken. -/
def State.pilotTaken (s : State) (m : Nat) : State := s.setCh m { s.ch m with pilotDone := none }

theorem effPilotWindowEnd_none {s : State} {m : Nat} (h : (s.ch m).pilotDone = none) : effPilotWindowEnd m s = s := by
  unfold effPilotWindowEnd
  rw [h]

section
variable {s : State} {m : Nat} {a b : Corr} (h : (s.ch m).pilotDone = some (a, b))
include h

theorem effPilotWindowEnd_invalid (hv : (s.pilotTaken m).pilotValid m a b = false) :
    effPilotWindowEnd m s = (s.pilotTaken m).bump (F.AMP_CH_CNT_DISCARDS m) := by
  unfold effPilotWindowEnd
  rw [h]
  exact if_pos (by rw [Bool.not_eq_true']; exact hv)

theorem effPilotWindowEnd_valid (hv : (s.pilotTaken m).pilotValid m a b = true) :
    effPilotWindowEnd m s = (s.pilotTaken m).pilotTakes m (a.add b) := by
  unfold effPilotWindowEnd
  rw [h]
  exact if_neg (by rw [Bool.not_eq_true', Bool.not_eq_false]; exact hv)

end

/-- A free 16-bit value is a temperature in Q8.8. -/
theorem signed16_mem (n : Nat) : -32768 ≤ signed 16 (n % 65536) ∧ signed 16 (n % 65536) ≤ 32767 := by
  have hn : n % 65536 < 65536 := Nat.mod_lt _ (by decide)
  rw [signed]
  split
  · next h => exact ⟨by omega, by have : n % 65536 < 32768 := h; omega⟩
  · next h => exact ⟨by have : ¬ n % 65536 < 32768 := h; push_cast; omega, by push_cast; omega⟩

/-! ## Sense inputs -/

theorem effSenseLost_processing {s : State} (h : s.node.role = .processing) (input k : Nat) : effSenseLost input k s = s :=
  if_pos (by simp [h])

theorem effSenseReturn_processing {s : State} (h : s.node.role = .processing) (input k : Nat) : effSenseReturn input k s = s :=
  if_pos (by simp [h])

/-- There are eight rails. -/
theorem effSenseLost_noRail (s : State) {k : Nat} (h : 8 ≤ k) : effSenseLost 2 k s = s := if_pos (by simp [h])

theorem effSenseReturn_noRail (s : State) {k : Nat} (h : 8 ≤ k) : effSenseReturn 2 k s = s := if_pos (by simp [h])

section
variable {s : State} (h : s.node.role ≠ .processing) (k : Nat)
include h

theorem effSenseLost_current : effSenseLost 0 k s =
    (
      let u := ((s.setCh k (s.ch k).noteLoss).putBit (F.AMP_CH_STAT_I_LOST k) true).showRails
      (if u.bit (F.AMP_CH_CFG_EN k) && u.bit (F.AMP_CH_CFG_SENSE_EN k) then u.latch 42 [k] else u).settleSense) := by
  unfold effSenseLost
  rw [if_neg (by simp [h])]
  dsimp only
  rw [if_neg (by decide)]
  rfl

theorem effSenseLost_voltage : effSenseLost 1 k s =
    (
      let u := ((s.setCh k (s.ch k).noteLoss).putBit (F.AMP_CH_STAT_V_LOST k) true).showRails
      (if u.bit (F.AMP_CH_CFG_EN k) && u.bit (F.AMP_CH_CFG_SENSE_EN k) then u.latch 42 [k] else u).settleSense) := by
  unfold effSenseLost
  rw [if_neg (by simp [h])]
  dsimp only
  rw [if_neg (by decide)]
  rfl

theorem effSenseLost_rail (hk : k < 8) : effSenseLost 2 k s =
    (
      let u := (((s.putBit (F.AMP_RAIL_STAT_LOST k) true).put (F.AMP_RAIL_STAT_UV k) 0).put (F.AMP_RAIL_STAT_OV k) 0).showRails
      (if u.bit (F.AMP_RAIL_CFG_EN k) then u.latch 42 (u.railChans k) else u).settleSense) := by
  unfold effSenseLost
  rw [if_neg (by simp [h]; omega)]
  dsimp only
  rw [if_pos rfl]
  rfl

theorem effSenseReturn_current :
    effSenseReturn 0 k s = ((s.putBit (F.AMP_CH_STAT_I_LOST k) false).showRails.settleSense).freeChans :=
  if_neg (by simp [h])

theorem effSenseReturn_voltage :
    effSenseReturn 1 k s = ((s.putBit (F.AMP_CH_STAT_V_LOST k) false).showRails.settleSense).freeChans :=
  if_neg (by simp [h])

theorem effSenseReturn_rail (hk : k < 8) :
    effSenseReturn 2 k s = ((s.putBit (F.AMP_RAIL_STAT_LOST k) false).showRails.settleSense).freeChans :=
  if_neg (by simp [h]; omega)

end

/-! ## Rail limits -/

/-- The reading of an enabled, present rail goes below its limit. -/
def State.railBelow (s : State) (r : Nat) : Bool :=
  s.railWatched r && decide (s.get (F.AMP_RAIL_LIM_UV r) ≠ 0 ∧ s.get (F.AMP_RAIL_V_V r) < s.get (F.AMP_RAIL_LIM_UV r))
    && !s.bit (F.AMP_RAIL_STAT_UV r)

/-- The reading of an enabled, present rail goes above its limit. -/
def State.railAbove (s : State) (r : Nat) : Bool :=
  s.railWatched r && decide (s.get (F.AMP_RAIL_LIM_OV r) ≠ 0 ∧ s.get (F.AMP_RAIL_LIM_OV r) < s.get (F.AMP_RAIL_V_V r))
    && !s.bit (F.AMP_RAIL_STAT_OV r)

theorem effRailUnder_eq (r : Nat) (s : State) :
    effRailUnder r s = if s.railBelow r then s.railOut r (F.AMP_RAIL_STAT_UV r) else s := by
  have hc : s.railBelow r = (s.railWatched r && s.get (F.AMP_RAIL_LIM_UV r) != 0
      && decide (s.get (F.AMP_RAIL_V_V r) < s.get (F.AMP_RAIL_LIM_UV r)) && !s.bit (F.AMP_RAIL_STAT_UV r)) := by
    simp only [State.railBelow, Bool.decide_and, ne_eq, decide_not, ← Bool.and_assoc]
    rfl
  rw [hc]
  rfl

theorem effRailOver_eq (r : Nat) (s : State) :
    effRailOver r s = if s.railAbove r then (List.range 64).foldl (fun s m =>
      if s.railOf m = r && ((s.ch m).state = .railHold || (s.ch m).state = .off) then
        (s.setCh m { s.ch m with prot := Mute.silent .gate }).gatesLow m
      else s) (s.railOut r (F.AMP_RAIL_STAT_OV r)) else s := by
  have hc : s.railAbove r = (s.railWatched r && s.get (F.AMP_RAIL_LIM_OV r) != 0
      && decide (s.get (F.AMP_RAIL_LIM_OV r) < s.get (F.AMP_RAIL_V_V r)) && !s.bit (F.AMP_RAIL_STAT_OV r)) := by
    simp only [State.railAbove, Bool.decide_and, ne_eq, decide_not, ← Bool.and_assoc]
    rfl
  rw [hc]
  rfl

/-- A flag of AMP_RAIL_STAT is cleared under a condition. -/
def State.clearIf (s : State) (f : Fld) (c : Prop) [Decidable c] : State := if s.bit f ∧ c then s.putBit f false else s

theorem bit_clearIf_same (s : State) {f : Fld} (c : Prop) [Decidable c] (h : f.lo + f.width ≤ 64) (hw : f.width = 1) :
    (s.clearIf f c).bit f = (s.bit f && !decide c) := by
  unfold State.clearIf
  split
  · next hb => rw [bit_putBit_same s _ h hw, decide_eq_true hb.2, Bool.not_true, Bool.and_false]
  · next hb =>
    cases hs : s.bit f
    · rw [Bool.false_and]
    · rw [decide_eq_false fun hc => hb ⟨hs, hc⟩, Bool.not_false, Bool.and_true]

theorem bit_clearIf_disjoint (s : State) {f g : Fld} (c : Prop) [Decidable c] (hf : f.lo + f.width ≤ 64) (ha : g.addr = f.addr)
    (h : g.lo + g.width ≤ f.lo ∨ f.lo + f.width ≤ g.lo) : (s.clearIf f c).bit g = s.bit g := by
  unfold State.clearIf
  split
  · exact bit_putBit_disjoint s _ hf ha h
  · rfl

theorem onlyRegs_clearIf (s : State) (f : Fld) (c : Prop) [Decidable c] : OnlyRegs [f.addr] s (s.clearIf f c) :=
  .ite (.putBit s _ List.mem_cons_self) (.refl _ s)

/-- The flags of a rail that is back in range by its 5 % are clear (R359). -/
def State.railCleared (s : State) (r : Nat) : State :=
  (s.clearIf (F.AMP_RAIL_STAT_UV r) (105 * s.get (F.AMP_RAIL_LIM_UV r) ≤ 100 * s.get (F.AMP_RAIL_V_V r))).clearIf
    (F.AMP_RAIL_STAT_OV r) (100 * s.get (F.AMP_RAIL_V_V r) ≤ 95 * s.get (F.AMP_RAIL_LIM_OV r))

section
variable (s : State) (r : Nat)

theorem railCleared_uv : (s.railCleared r).bit (F.AMP_RAIL_STAT_UV r) = (s.bit (F.AMP_RAIL_STAT_UV r) &&
    decide (100 * s.get (F.AMP_RAIL_V_V r) < 105 * s.get (F.AMP_RAIL_LIM_UV r))) := by
  have h2 : 2 + 1 ≤ 64 := by decide
  have h1 : 1 + 1 ≤ 64 := by decide
  have hd : 1 + 1 ≤ 2 ∨ 2 + 1 ≤ 1 := by decide
  rw [State.railCleared, bit_clearIf_disjoint (f := F.AMP_RAIL_STAT_OV r) (g := F.AMP_RAIL_STAT_UV r) _ _ h2 rfl hd,
    bit_clearIf_same (f := F.AMP_RAIL_STAT_UV r) _ _ h1 rfl, ← decide_not]
  simp only [Nat.not_le]

theorem railCleared_ov : (s.railCleared r).bit (F.AMP_RAIL_STAT_OV r) = (s.bit (F.AMP_RAIL_STAT_OV r) &&
    decide (95 * s.get (F.AMP_RAIL_LIM_OV r) < 100 * s.get (F.AMP_RAIL_V_V r))) := by
  have h2 : 2 + 1 ≤ 64 := by decide
  have h1 : 1 + 1 ≤ 64 := by decide
  have hd : 2 + 1 ≤ 1 ∨ 1 + 1 ≤ 2 := by decide
  rw [State.railCleared, bit_clearIf_same (f := F.AMP_RAIL_STAT_OV r) _ _ h2 rfl,
    bit_clearIf_disjoint (f := F.AMP_RAIL_STAT_UV r) (g := F.AMP_RAIL_STAT_OV r) _ _ h1 rfl hd, ← decide_not]
  simp only [Nat.not_le]

theorem railCleared_onlyRegs : OnlyRegs [AMP_RAIL_STAT r] s (s.railCleared r) :=
  (onlyRegs_clearIf s (F.AMP_RAIL_STAT_UV r) _).trans (onlyRegs_clearIf _ (F.AMP_RAIL_STAT_OV r) _)

theorem effRailRecover_eq : effRailRecover r s = ((s.railCleared r).showRails.settleSense).freeChans := by
  have hl : (s.clearIf (F.AMP_RAIL_STAT_UV r) (105 * s.get (F.AMP_RAIL_LIM_UV r) ≤ 100 * s.get (F.AMP_RAIL_V_V r))).get
      (F.AMP_RAIL_LIM_OV r) = s.get (F.AMP_RAIL_LIM_OV r) :=
    (onlyRegs_clearIf s (F.AMP_RAIL_STAT_UV r) _).get (by simp)
  rw [State.railCleared, ← hl]
  unfold effRailRecover State.clearIf
  simp only [Bool.and_eq_true, decide_eq_true_eq]

end

end Sys2Proof.Machine
end

section
/-! The events of the modulator channels settle their obligation (chapter 12). -/

namespace Sys2Proof.Machine

/-- Settles O56: the lemma of each event in each of its cases. -/
theorem amplifierEventsAct : Obligations.AmplifierEventsAct := by
  unfold Obligations.AmplifierEventsAct
  refine ⟨fun bits => ⟨(fastEstimate_bounds bits).1, (fastEstimate_bounds bits).2, by decide, by decide⟩, ?_, fun s ha => ⟨?_, ?_, ?_, ?_, ?_⟩⟩
  · intro dead h want pre mid post n k w hw hmid
    exact wave_dead hw hmid
  · intro m k bits cycle
    refine ⟨fun hc => ?_, fun hc hs => ?_, fun _ he => ?_, fun hc hs => ?_⟩
    · exact gives_runs (exec_currentTrip s) ha ((effCurrentTrip_eq ..).trans (if_neg (Bool.eq_false_iff.1 hc)))
    · exact gives_runs (exec_currentTrip s) ha ((effCurrentTrip_eq ..).trans ((if_pos hc).trans (if_neg hs)))
    · rw [settleCh_latched (latchCh_latched _ _) he, ch_showCh]
    · exact gives_runs (exec_currentTrip s) ha ((effCurrentTrip_eq ..).trans ((if_pos hc).trans (if_pos hs)))
  · intro m
    refine ⟨fun h => ?_, fun hl hc => ?_, fun h => ?_, fun k corr h => ⟨fun hw => ?_, fun hs hk => ⟨fun hp => ?_, fun hp hn => ?_, fun hp hn => ?_⟩⟩,
      fun h => ?_, fun h => ?_, fun h => ?_, fun d h => ⟨fun hk => ?_, fun hk hd => ?_, fun hk k hd z hz => ?_, fun hk k hd hz => ?_, fun hh hs => ?_⟩,
      fun h => ?_, fun a b h => ⟨fun hv => ?_, fun hv hz => ?_, fun hv z hz h0 hα => ?_, fun hv z hz h0 => ?_⟩⟩
    · exact gives_runs (exec_retestStart s) ha (effRetestStart_not h)
    · exact gives_runs (exec_retestStart s) ha (effRetestStart_begins hl hc)
    · exact gives_runs (exec_retestEnd s) ha (effRetestEnd_none h)
    · exact gives_runs (exec_retestEnd s) ha (effRetestEnd_early h hw)
    · exact gives_runs (exec_retestEnd s) ha (effRetestEnd_passes h hs hk hp)
    · exact gives_runs (exec_retestEnd s) ha ((effRetestEnd_fails h hs hk hp).trans (if_pos hn))
    · exact gives_runs (exec_retestEnd s) ha ((effRetestEnd_fails h hs hk hp).trans (if_neg (Nat.not_le.2 hn)))
    · obtain ⟨t, he, hget, honly⟩ := effRetriesReset_playing h
      exact ⟨_, gives_runs (exec_retriesReset s) ha he, hget, honly.withPending⟩
    · exact gives_runs (exec_retriesReset s) ha (if_neg h)
    · exact gives_runs (exec_diagStepEnd s) ha (effDiagStepEnd_none h)
    · exact gives_runs (exec_diagStepEnd s) ha (effDiagStepEnd_early h hk)
    · exact gives_runs (exec_diagStepEnd s) ha (effDiagStepEnd_hold h hk hd)
    · exact gives_runs (exec_diagStepEnd s) ha (effDiagStepEnd_sweep h hk hd hz)
    · exact ⟨_, Nat.mod_lt _ (Nat.two_pow_pos 32), gives_runs (exec_diagStepEnd s) ha (effDiagStepEnd_noCurrent h hk hd hz)⟩
    · exact gives_runs (exec_diagStepEnd s) ha (effDiagStepEnd_other h hh hs)
    · exact gives_runs (exec_pilotWindowEnd s) ha (effPilotWindowEnd_none h)
    · exact gives_runs (exec_pilotWindowEnd s) ha (effPilotWindowEnd_invalid h hv)
    · have hu : ((s.pilotTaken m.val).ch m.val).zRef = none := by rw [State.pilotTaken, ch_setCh_same]; exact hz
      exact gives_runs (exec_pilotWindowEnd s) ha ((effPilotWindowEnd_valid h hv).trans (pilotTakes_first _ hu))
    · have hu : ((s.pilotTaken m.val).ch m.val).zRef = some z := by rw [State.pilotTaken, ch_setCh_same]; exact hz
      have ht : ((s.pilotTaken m.val).ch m.val).tRef = (s.ch m.val).tRef := by rw [State.pilotTaken, ch_setCh_same]
      refine gives_runs (exec_pilotWindowEnd s) ha ((effPilotWindowEnd_valid h hv).trans ((pilotTakes_later _ hu h0 hα).trans ?_))
      rw [ht]
      rfl
    · have hu : ((s.pilotTaken m.val).ch m.val).zRef = some z := by rw [State.pilotTaken, ch_setCh_same]; exact hz
      exact ⟨_, (signed16_mem _).1, (signed16_mem _).2,
        gives_runs (exec_pilotWindowEnd s) ha ((effPilotWindowEnd_valid h hv).trans (pilotTakes_free _ hu h0))⟩
  · exact fun h input k => ⟨gives_runs (exec_senseLost s) ha (effSenseLost_processing h _ _),
      gives_runs (exec_senseReturn s) ha (effSenseReturn_processing h _ _)⟩
  · intro h k
    refine ⟨?_, ?_, fun hk => ?_, ?_, ?_, fun hk => ?_, fun hk => ⟨?_, ?_⟩⟩
    · exact gives_runs (exec_senseLost s) ha (effSenseLost_current h k.val)
    · exact gives_runs (exec_senseLost s) ha (effSenseLost_voltage h k.val)
    · exact gives_runs (exec_senseLost s) ha (effSenseLost_rail h k.val hk)
    · exact gives_runs (exec_senseReturn s) ha (effSenseReturn_current h k.val)
    · exact gives_runs (exec_senseReturn s) ha (effSenseReturn_voltage h k.val)
    · exact gives_runs (exec_senseReturn s) ha (effSenseReturn_rail h k.val hk)
    · exact gives_runs (exec_senseLost s) ha (effSenseLost_noRail s hk)
    · exact gives_runs (exec_senseReturn s) ha (effSenseReturn_noRail s hk)
  · intro r
    refine ⟨fun h => ?_, fun h => ?_, fun h => ?_, fun h => ?_, ?_⟩
    · exact gives_runs (exec_railUnderVoltage s) ha ((effRailUnder_eq ..).trans (if_neg (Bool.eq_false_iff.1 h)))
    · exact gives_runs (exec_railUnderVoltage s) ha ((effRailUnder_eq ..).trans (if_pos h))
    · exact gives_runs (exec_railOverVoltage s) ha ((effRailOver_eq ..).trans (if_neg (Bool.eq_false_iff.1 h)))
    · exact gives_runs (exec_railOverVoltage s) ha ((effRailOver_eq ..).trans (if_pos h))
    · exact ⟨gives_runs (exec_railRecover s) ha (effRailRecover_eq s r.val), railCleared_uv s r.val, railCleared_ov s r.val,
        railCleared_onlyRegs s r.val⟩

end Sys2Proof.Machine
end

section
/-! Mortar: rows with an uncorrectable error, requests, drains, the debug port (R424 to R432, R461). -/

namespace Sys2Proof.Machine

/-! ## Rows with an uncorrectable error -/

/-- A range meets a row of shared SRAM. -/
def meetsRow (a n r : Nat) : Bool := decide (0x30000000 + 8 * r < a + n) && decide (a < 0x30000000 + 8 * r + 8)

theorem sramFails_eq_false {s : State} {a n : Nat} (h : s.sramFails a n = false) : ∀ r ∈ s.mortar.badRows, meetsRow a n r = false := by
  intro r hr
  rw [State.sramFails, List.any_eq_false] at h
  exact Bool.eq_false_iff.2 (h r hr)

theorem healRows_badRows (s : State) (a n : Nat) :
    (s.healRows a n).mortar.badRows = s.mortar.badRows.filter (fun r => !meetsRow a n r) := by
  unfold State.healRows
  split
  · rfl
  · next h =>
    refine (List.filter_eq_self.2 fun r hr => ?_).symm
    rw [sramFails_eq_false (Bool.eq_false_iff.2 h) r hr, Bool.not_false]

theorem healRows_heals (s : State) (a n : Nat) : (s.healRows a n).sramFails a n = false := by
  rw [State.sramFails, healRows_badRows, List.any_eq_false]
  intro r hr
  exact Bool.eq_false_iff.1 (Bool.not_eq_eq_eq_not.1 (List.mem_filter.1 hr).2)

/-- A read beat that meets such a row fails and latches SHRAM_UE. -/
theorem runBeat_badRow {s : State} {x : MortarRun} (hd : s.drains x.req = false) (hb : x.req.badBeats.contains x.done = false)
    (hr : reqRegs x.req = false) (ha : x.req.aim = .address) (hw : x.req.write = false)
    (hf : s.sramFails (x.req.addr.toNat + (reqBeat x.req x.done).1) (reqBeat x.req x.done).2 = true) :
    s.runBeat x = (s.latch 9, x.beat true (List.replicate (reqBeat x.req x.done).2 0)) := by
  unfold State.runBeat
  dsimp only
  rw [hd, hb, hr, ha, hw, hf]
  rfl

/-! ## Requests -/

/-- Without requests nothing is served. -/
theorem mortarServe_nil (s : State) : s.mortarServe [] = s := rfl

theorem effMortarRequest_eq (rs : List MortarReq) (s : State) : effMortarRequest rs s =
    ({ s with mortar := { s.mortar with held := s.mortar.held ++ (rs.filter reqFits).filter s.drains } } : State).mortarServe
      ((rs.filter reqFits).filter (fun r => !s.drains r)) := rfl

/-- Requests of masters that are not resetting are routed and served. -/
theorem effMortarRequest_served {rs : List MortarReq} {s : State} (h : ∀ r ∈ rs, s.drains r = false) :
    effMortarRequest rs s = s.mortarServe (rs.filter reqFits) := by
  have hfits : ∀ r ∈ rs.filter reqFits, s.drains r = false := fun r hr => h r (List.mem_filter.1 hr).1
  have hheld : (rs.filter reqFits).filter s.drains = [] := List.filter_eq_nil_iff.2 fun r hr => Bool.eq_false_iff.1 (hfits r hr)
  have hserved : (rs.filter reqFits).filter (fun r => !s.drains r) = rs.filter reqFits :=
    List.filter_eq_self.2 fun r hr => by rw [hfits r hr, Bool.not_false]
  rw [effMortarRequest_eq, hheld, hserved, List.append_nil]

/-- A request of a resetting master is held. -/
theorem effMortarRequest_held {r : MortarReq} {s : State} (hd : s.drains r = true) (hf : reqFits r = true) :
    effMortarRequest [r] s = { s with mortar := { s.mortar with held := s.mortar.held ++ [r] } } := by
  have hfits : [r].filter reqFits = [r] := List.filter_eq_self.2 fun q hq => by rw [List.mem_singleton.1 hq]; exact hf
  have hheld : [r].filter s.drains = [r] := List.filter_eq_self.2 fun q hq => by rw [List.mem_singleton.1 hq]; exact hd
  have hserved : [r].filter (fun r => !s.drains r) = [] :=
    List.filter_eq_nil_iff.2 fun q hq => by rw [List.mem_singleton.1 hq, hd]; exact Bool.false_ne_true
  rw [effMortarRequest_eq, hfits, hheld, hserved, mortarServe_nil]

/-! ## Drains -/

/-- The requests held for a master, and its Bricks' drains, stand no longer (R432). -/
def State.undrained (u : State) (m : Nat) : State :=
  { u with mortar := { u.mortar with
    held := u.mortar.held.filter (fun r => r.master.val != m), drains := u.mortar.drains.filter (fun b => 8 + b / 8 != m) } }

/-- The requests held for a master are served. -/
def State.serveHeld (u : State) (m : Nat) : State := (u.undrained m).mortarServe (u.mortar.held.filter (fun r => r.master.val == m))

theorem effDrainEnd_not {s : State} {m : Nat} (h : s.bit (F.MORTAR_MST_STAT_RESETTING m) = false) : effDrainEnd m s = s :=
  if_pos (by rw [h]; rfl)

theorem effDrainEnd_ends {s : State} {m : Nat} (h : s.bit (F.MORTAR_MST_STAT_RESETTING m) = true) :
    effDrainEnd m s = (s.putBit (F.MORTAR_MST_STAT_RESETTING m) false).serveHeld m :=
  if_neg (by rw [h]; exact Bool.false_ne_true)

/-- A master's requests drain by its RESETTING, a Course port's by its Bricks that reset. -/
theorem undrained_drains_iff (u : State) (m : Nat) (r : MortarReq) : (u.undrained m).drains r =
    if r.master.val < 8 then u.bit (F.MORTAR_MST_STAT_RESETTING r.master.val)
    else (u.mortar.drains.filter (fun b => 8 + b / 8 != m)).contains (8 * (r.master.val - 8) + r.brick.val) := rfl

/-- A master whose reset is over drains no more. -/
theorem undrained_drains (s : State) (r : MortarReq) :
    ((s.putBit (F.MORTAR_MST_STAT_RESETTING r.master.val) false).undrained r.master.val).drains r = false := by
  rw [undrained_drains_iff]
  split
  · have hb : (F.MORTAR_MST_STAT_RESETTING 0).lo + (F.MORTAR_MST_STAT_RESETTING 0).width ≤ 64 := by decide
    exact bit_putBit_same (f := F.MORTAR_MST_STAT_RESETTING r.master.val) s false hb rfl
  · next hm =>
    refine Bool.eq_false_iff.2 fun hc => ?_
    have hne := (List.mem_filter.1 (List.contains_iff_mem.1 hc)).2
    refine absurd hne (by simp; omega)

/-! ## The debug port -/

/-- Master 7 has a path at FULL alone. -/
theorem hasPath_debug {s : State} (h : s.get F.DBG_LEVEL_LEVEL ≠ 2) (q : MortarReq) (t : Nat) :
    s.hasPath { q with master := 7 } t = false := by
  unfold State.hasPath
  dsimp only
  rw [decide_eq_false h]
  simp

end Sys2Proof.Machine
end

section
/-! The channels of the DMA engine: doorbells, descriptor reads, ends and aborts (R435 to R444). -/

namespace Sys2Proof.Machine

variable {s : State} {c : Nat}

/-! ## Enables, doorbells, indices and aborts -/

theorem effDmaChannelEnable_set (h : s.bit (F.DMA_CH_CFG_EN c) = true) : effDmaChannelEnable c s = s := if_pos h

theorem bit_dmaCfgEn_putBit (s : State) (c : Nat) : (s.putBit (F.DMA_CH_CFG_EN c) true).bit F.DMA_CFG_EN = s.bit F.DMA_CFG_EN :=
  bit_put_ne s _ (by dsimp only [DMA_CFG, DMA_CH_CFG]; omega)

theorem effDmaChannelEnable_off (h : s.bit (F.DMA_CH_CFG_EN c) = false) (hd : s.bit F.DMA_CFG_EN = false) :
    effDmaChannelEnable c s = s.putBit (F.DMA_CH_CFG_EN c) true :=
  (if_neg (Bool.eq_false_iff.1 h)).trans (if_neg (by rw [bit_dmaCfgEn_putBit, hd]; exact Bool.false_ne_true))

theorem effDmaChannelEnable_on (h : s.bit (F.DMA_CH_CFG_EN c) = false) (hd : s.bit F.DMA_CFG_EN = true) :
    effDmaChannelEnable c s = (s.putBit (F.DMA_CH_CFG_EN c) true).dmaIdleAt c false :=
  (if_neg (Bool.eq_false_iff.1 h)).trans (if_pos (by rw [bit_dmaCfgEn_putBit, hd]))

section
variable (i : Nat)

theorem effSetIdx_off (h : s.dmaState c = dmaOff) : effSetIdx c i s =
    ((s.put (F.DMA_CH_CTL_NEW_IDX c) i).put (F.DMA_CH_STAT_IDX c) i).put (F.DMA_CH_STAT_PEND c) 0 :=
  (if_pos (by simp [h])).trans (if_pos h)

theorem effSetIdx_rests (h : s.dmaState c = dmaIdle ∨ s.dmaState c = dmaHalted) : effSetIdx c i s =
    (((s.put (F.DMA_CH_CTL_NEW_IDX c) i).put (F.DMA_CH_STAT_IDX c) i).put (F.DMA_CH_STAT_PEND c) 0).dmaIdleAt c false := by
  have hne : s.dmaState c ≠ dmaOff := by rcases h with h | h <;> rw [h] <;> decide
  exact (if_pos (by simpa [hne] using h)).trans (if_neg hne)

theorem effSetIdx_busy (ho : s.dmaState c ≠ dmaOff) (hi : s.dmaState c ≠ dmaIdle) (hh : s.dmaState c ≠ dmaHalted) :
    effSetIdx c i s = s.put (F.DMA_CH_CTL_NEW_IDX c) i :=
  if_neg (by simp [ho, hi, hh])

end

theorem effDmaAbort_idle (h : (s.dch c).desc = none ∨ s.dmaState c ≠ dmaRun) (n : Nat) : effDmaAbort c n s = s := by
  unfold effDmaAbort
  dsimp only
  split
  · next x hx => exact if_pos (h.resolve_left (by rw [hx]; exact Option.some_ne_none x))
  · rfl

theorem effDmaAbort_runs {x : DmaDesc} (h : s.dmaState c = dmaRun) (hx : (s.dch c).desc = some x) (n : Nat) : effDmaAbort c n s = (
    let k := if (s.dch c).part then min n (beatsOf x.dst x.len).length else 0
    let off := ((beatsOf x.dst x.len).getD k (x.len, 0)).1
    (s.dmaMove x ⟨none, [], k, false⟩).dmaEnd c 7 x off (if off < x.len then x.dst + off else 0) .aborted) := by
  unfold effDmaAbort
  dsimp only
  rw [hx]
  exact if_neg (not_not.2 h)

/-! ## Descriptor reads -/

/-- What the channel reads: the descriptor, or its word at 0x08 again (R444). -/
def State.fetchSpan (s : State) (c : Nat) : Nat × Nat :=
  if (s.dch c).reread then (s.descAddr c (s.get (F.DMA_CH_STAT_IDX c)) + 8, 8) else (s.descAddr c (s.get (F.DMA_CH_STAT_IDX c)), 32)

/-- The path of the read engine to what the channel reads. -/
def State.fetchPath (s : State) (c : Nat) : State × Bool := s.sharedPath 1 (s.fetchSpan c).1 (s.fetchSpan c).2

/-- What the channel reads meets a row with an uncorrectable error. -/
def State.fetchFails (s : State) (c : Nat) : Bool := s.sramFails (s.fetchSpan c).1 (s.fetchSpan c).2

/-- A descriptor read that fails ends with status 6 and halts the channel (R442). -/
def State.fetchBad (u : State) (c a : Nat) : State :=
  let v := ((((u.put (F.DMA_CH_STAT_LAST c) 6).bump (F.DMA_CH_CNT_DONE c)).bump (F.DMA_CH_CNT_BAD c)).bump F.DMA_CNT_BAD).latch 14
  v.cqAppend c (v.get (F.DMA_CH_CFG_ERR_CQ c)) (v.dmaRecord c 6 0 0 a) .halt

/-- A descriptor read that succeeds: the END bit read again, or the descriptor taken up. -/
def State.fetchGood (u : State) (c a : Nat) : State :=
  if (u.dch c).reread then
    if (leAt (u.winBytes 8 (a + 8)) 4 4).testBit 31 then u.dmaIdleAt c true
    else (u.put (F.DMA_CH_STAT_IDX c) (u.dmaNext c)).dmaIssue c false
  else
    if !descLegal (u.readDesc a).1 (u.readDesc a).2 then u.dmaEnd c 4 (u.readDesc a).1 0 0 (u.readDesc a).1.after
    else if u.descDenied c (u.readDesc a).1 then u.dmaEnd c 5 (u.readDesc a).1 0 0 (u.readDesc a).1.after
    else ((u.setDch c { u.dch c with desc := some (u.readDesc a).1, part := false }).dmaTo c dmaRun).giveParts

theorem fetchPath_inside (hi : s.descAddr c (s.get (F.DMA_CH_STAT_IDX c)) + 32 ≤ 0x303F8000) : s.fetchPath c = (s, true) := by
  refine if_pos (Nat.le_trans ?_ hi)
  unfold State.fetchSpan
  split
  · dsimp only
    omega
  · exact Nat.le_refl _

theorem effDmaDescriptorFetched_not (h : s.dmaState c ≠ dmaFetch) (how : BeatEnd) : effDmaDescriptorFetched c how s = s := if_pos h

section
variable (h : s.dmaState c = dmaFetch)
include h

theorem effDmaDescriptorFetched_bad {how : BeatEnd} (hb : how ≠ .done ∨ s.fetchFails c = true ∨ (s.fetchPath c).2 = false) :
    effDmaDescriptorFetched c how s = (
      let u := if s.fetchFails c then (s.fetchPath c).1.latch 9 else (s.fetchPath c).1
      (if (s.fetchPath c).2 then u.beatFails 1 (s.fetchSpan c).1 (how = .parity && !s.fetchFails c) else u).fetchBad c (s.fetchSpan c).1) := by
  have hc : (decide (how ≠ .done) || s.fetchFails c || !(s.fetchPath c).2) = true := by
    simpa [or_assoc] using hb
  exact (if_neg (not_not.2 h)).trans (if_pos hc)

theorem effDmaDescriptorFetched_good (hf : s.fetchFails c = false) (hw : (s.fetchPath c).2 = true) :
    effDmaDescriptorFetched c .done s =
      (s.fetchPath c).1.fetchGood c (s.descAddr c (s.get (F.DMA_CH_STAT_IDX c))) := by
  have hc : ¬ (decide (BeatEnd.done ≠ .done) || s.fetchFails c || !(s.fetchPath c).2) = true := by simp [hf, hw]
  refine (if_neg (not_not.2 h)).trans ((if_neg hc).trans ?_)
  change (if s.fetchFails c = true then (s.fetchPath c).1.latch 9 else (s.fetchPath c).1).fetchGood c
    (s.descAddr c (s.get (F.DMA_CH_STAT_IDX c))) = _
  rw [if_neg (Bool.eq_false_iff.1 hf)]

end

/-! ## Descriptor ends -/

theorem sourceRow_none {x : DmaDesc} (h : s.mortar.badRows = []) (e : DmaBeats) : s.sourceRow x e = none := by
  unfold State.sourceRow
  rw [h]
  rfl

/-- The first source beat in a bad row fails without parity; the write beats come after it. -/
theorem beatsFail_row {x : DmaDesc} {e : DmaBeats} {k : Nat} (h : s.sourceRow x e = some k) (hw : e.writeBad = []) :
    s.beatsFail x e = (s.latch 9).bump (F.MORTAR_MST_CNT_ERRS 1) := by
  unfold State.beatsFail
  dsimp only
  rw [hw, h, List.foldl_nil]
  cases e.readBad <;> rfl

theorem beatsFail_writes {x : DmaDesc} {e : DmaBeats} (h : s.sourceRow x e = none) (hr : e.readBad = none) :
    s.beatsFail x e =
      e.writeBad.foldl (fun u k => u.beatFails 2 (x.dst + ((beatsOf x.dst x.len).getD k (0, 0)).1) e.parity) s := by
  unfold State.beatsFail
  dsimp only
  rw [h, hr]

theorem beatsFail_read {x : DmaDesc} {e : DmaBeats} {k : Nat} (h : s.sourceRow x e = none) (hr : e.readBad = some k)
    (hw : e.writeBad = []) : s.beatsFail x e = s.beatFails 1 (x.src + ((beatsOf x.src x.len).getD k (0, 0)).1) e.parity := by
  unfold State.beatsFail
  dsimp only
  rw [h, hr, hw, List.foldl_nil]

theorem effDmaDescriptorEnd_idle (h : (s.dch c).desc = none ∨ s.dmaState c ≠ dmaRun ∨ (s.dch c).part = false) (b : DmaBeats) :
    effDmaDescriptorEnd c b s = s := by
  unfold effDmaDescriptorEnd
  dsimp only
  split
  · next x hx => exact if_pos (by simpa using h.resolve_left (by rw [hx]; exact Option.some_ne_none x))
  · rfl

theorem effDmaDescriptorEnd_runs {x : DmaDesc} (h : s.dmaState c = dmaRun) (hp : (s.dch c).part = true) (hx : (s.dch c).desc = some x)
    (b : DmaBeats) : effDmaDescriptorEnd c b s = (
      let e := beatsIssued x b
      let f := { e with readBad := (s.sourceRow x e).or e.readBad }
      ((s.beatsFail x e).dmaMove x f).dmaEnd c (dmaStatus x f).1 x (dmaStatus x f).2.1 (dmaStatus x f).2.2 x.after) := by
  unfold effDmaDescriptorEnd
  dsimp only
  rw [hx]
  exact if_neg (by simp [h, hp])

end Sys2Proof.Machine
end

section
/-! The DMA engine's disable, its completion queues, and what settles Mortar and DMA (R432, R438, R439, R444). -/

namespace Sys2Proof.Machine

/-! ## What a move leaves -/

theorem healRows_regs (s : State) (a n : Nat) : (s.healRows a n).regs = s.regs := by
  unfold State.healRows
  split <;> rfl

theorem winPut_regs (s : State) (a : Nat) (v : Byte) : (s.winPut a v).regs = s.regs := by
  unfold State.winPut
  split
  · rfl
  · rw [healRows_regs, State.mendRow_regs, State.wrByte_regs]

theorem winWrite_regs (s : State) (a : Nat) (l : List (Option Byte)) : (s.winWrite a l).regs = s.regs := by
  induction l generalizing s a with
  | nil => rfl
  | cons x l ih =>
    cases x with
    | none => exact ih s (a + 1)
    | some v => exact (ih (s.winPut a v) (a + 1)).trans (winPut_regs s a v)

theorem portAsk_regs (s : State) (b n : Nat) : (s.portAsk b n).regs = s.regs := by
  unfold State.portAsk
  split <;> rfl

theorem windowAsk_regs (s : State) (a n : Nat) : (s.windowAsk a n).regs = s.regs := by
  unfold State.windowAsk
  split
  · exact portAsk_regs s _ _
  · rfl

theorem dmaMove_regs (s : State) (d : DmaDesc) (b : DmaBeats) : (s.dmaMove d b).regs = s.regs := by
  unfold State.dmaMove
  dsimp only
  refine (foldl_keeps State.regs (fun u k => ?_) _ _).trans ((windowAsk_regs _ _ _).trans (windowAsk_regs _ _ _))
  split
  · rfl
  · exact winWrite_regs u _ _

/-! ## Channels that go OFF -/

/-- The channel is OFF, with nothing in progress, at descriptor 0. -/
def State.dmaAtRest (u : State) (c : Nat) : Prop :=
  u.dch c = DmaCh.rest ∧ u.dmaState c = dmaOff ∧ u.get (F.DMA_CH_STAT_IDX c) = 0

section
variable (s : State) (c : Nat)

theorem dch_of_dma {s t : State} (h : t.dma = s.dma) (c : Nat) : t.dch c = s.dch c := by rw [State.dch, h, State.dch]

theorem dch_setDch (d : DmaCh) (k : Nat) : (s.setDch c d).dch k = if k = c then d else s.dch k := by
  have hchs : (s.setDch c d).dma.chs = tput s.dma.chs c (if d = DmaCh.rest then none else some d) := by
    rw [State.setDch, State.put_dma]
  rw [State.dch, hchs, tgetD, tget_tput]
  by_cases hk : k = c
  · rw [if_pos hk, if_pos hk]
    split
    · next hd => exact hd.symm
    · rfl
  · rw [if_neg hk, if_neg hk]
    rfl

theorem dmaTo_dma (st : Nat) : (s.dmaTo c st).dma = s.dma := by rw [State.dmaTo, State.put_dma, State.put_dma]

theorem dmaTo_mem (st : Nat) : (s.dmaTo c st).mem = s.mem := by rw [State.dmaTo, State.put_mem, State.put_mem]

theorem setDch_mem (d : DmaCh) : (s.setDch c d).mem = s.mem := by rw [State.setDch, State.put_mem]

theorem get_dmaTo_ne {f : Fld} (st : Nat) (hc : f.addr ≠ DMA_CH_STAT c) (hs : f.addr ≠ DMA_STAT) :
    (s.dmaTo c st).get f = s.get f := by
  rw [State.dmaTo, get_put_ne _ _ (f := F.DMA_STAT_ACTIVE) hs, get_put_ne _ _ (f := F.DMA_CH_STAT_STATE c) hc]

theorem dmaCh_ne_stat : DMA_CH_STAT c ≠ DMA_STAT := by dsimp only [DMA_CH_STAT, DMA_STAT]; omega

theorem dmaState_dmaTo : (s.dmaTo c dmaOff).dmaState c = dmaOff := by
  have hb : (F.DMA_CH_STAT_STATE 0).lo + (F.DMA_CH_STAT_STATE 0).width ≤ 64 := by decide
  rw [State.dmaState, State.dmaTo, get_put_ne _ _ (f := F.DMA_STAT_ACTIVE) (dmaCh_ne_stat c),
    get_put_same (f := F.DMA_CH_STAT_STATE c) s _ hb]
  rfl

theorem dmaIdx_dmaTo : (s.dmaTo c dmaOff).get (F.DMA_CH_STAT_IDX c) = s.get (F.DMA_CH_STAT_IDX c) := by
  have hb : (F.DMA_CH_STAT_STATE 0).lo + (F.DMA_CH_STAT_STATE 0).width ≤ 64 := by decide
  have hd : (F.DMA_CH_STAT_IDX 0).lo + (F.DMA_CH_STAT_IDX 0).width ≤ (F.DMA_CH_STAT_STATE 0).lo := by decide
  rw [State.dmaTo, get_put_ne _ _ (f := F.DMA_STAT_ACTIVE) (dmaCh_ne_stat c)]
  exact get_put_disjoint (f := F.DMA_CH_STAT_STATE c) (g := F.DMA_CH_STAT_IDX c) s _ hb rfl (.inl hd)

/-- The channel waits for no queue. -/
def State.unwait (s : State) (c : Nat) : State := { s with dma := { s.dma with waits := s.dma.waits.filter (· != c) } }

theorem dmaStop_eq : s.dmaStop c =
    ((((s.unwait c).setDch c DmaCh.rest).put (F.DMA_CH_STAT_PEND c) 0).put (F.DMA_CH_STAT_IDX c) 0).dmaTo c dmaOff := rfl

/-- The registers a channel that stops changes. -/
theorem get_dmaStop_ne {f : Fld} (hc : f.addr ≠ DMA_CH_STAT c) (hs : f.addr ≠ DMA_STAT) : (s.dmaStop c).get f = s.get f := by
  rw [dmaStop_eq, get_dmaTo_ne _ c _ hc hs, get_put_ne _ _ (f := F.DMA_CH_STAT_IDX c) hc, get_put_ne _ _ (f := F.DMA_CH_STAT_PEND c) hc,
    State.setDch, get_put_ne _ _ (f := F.DMA_STAT_PARTS) hs]
  rfl

theorem dch_dmaStop (k : Nat) : (s.dmaStop c).dch k = if k = c then DmaCh.rest else s.dch k := by
  rw [dmaStop_eq, dch_of_dma (dmaTo_dma _ c dmaOff), dch_of_dma (State.put_dma _ _ _), dch_of_dma (State.put_dma _ _ _), dch_setDch]
  rfl

theorem dmaState_dmaStop : (s.dmaStop c).dmaState c = dmaOff := by rw [dmaStop_eq, dmaState_dmaTo]

theorem dmaIdx_dmaStop : (s.dmaStop c).get (F.DMA_CH_STAT_IDX c) = 0 := by
  have hb : (F.DMA_CH_STAT_IDX 0).lo + (F.DMA_CH_STAT_IDX 0).width ≤ 64 := by decide
  rw [dmaStop_eq, dmaIdx_dmaTo, get_put_same (f := F.DMA_CH_STAT_IDX c) _ 0 hb, Nat.zero_mod]

theorem dch_dmaStop_same : (s.dmaStop c).dch c = DmaCh.rest := by rw [dch_dmaStop, if_pos rfl]

theorem dmaStop_atRest : (s.dmaStop c).dmaAtRest c := ⟨dch_dmaStop_same s c, dmaState_dmaStop s c, dmaIdx_dmaStop s c⟩

theorem dmaStop_mem : (s.dmaStop c).mem = s.mem := by
  rw [dmaStop_eq, dmaTo_mem, State.put_mem, State.put_mem, setDch_mem]
  rfl

/-- A channel at rest stays so when another one stops. -/
theorem dmaAtRest_dmaStop {k : Nat} (hk : k ≠ c) (h : s.dmaAtRest c) : (s.dmaStop k).dmaAtRest c := by
  obtain ⟨hdch, hstate, hidx⟩ := h
  have hne : DMA_CH_STAT c ≠ DMA_CH_STAT k := by dsimp only [DMA_CH_STAT]; omega
  refine ⟨by rw [dch_dmaStop, if_neg hk.symm, hdch], ?_, ?_⟩
  · exact (get_dmaStop_ne s k (f := F.DMA_CH_STAT_STATE c) hne (dmaCh_ne_stat c)).trans hstate
  · exact (get_dmaStop_ne s k (f := F.DMA_CH_STAT_IDX c) hne (dmaCh_ne_stat c)).trans hidx

end

/-- Every channel goes OFF. -/
def State.dmaStopAll (s : State) (n : Nat) : State := (List.range n).foldl (fun (s : State) (c : Nat) => s.dmaStop c) s

theorem dmaStopAll_succ (s : State) (n : Nat) : s.dmaStopAll (n + 1) = (s.dmaStopAll n).dmaStop n := by
  rw [State.dmaStopAll, List.range_succ, List.foldl_append]
  rfl

theorem dmaStopAll_atRest (s : State) {n c : Nat} (h : c < n) : (s.dmaStopAll n).dmaAtRest c := by
  induction n with
  | zero => omega
  | succ n ih =>
    rw [dmaStopAll_succ]
    by_cases hc : c = n
    · subst hc
      exact dmaStop_atRest _ _
    · exact dmaAtRest_dmaStop _ c (Ne.symm hc) (ih (by omega))

theorem dmaStopAll_en (s : State) (n : Nat) : (s.dmaStopAll n).bit F.DMA_CFG_EN = s.bit F.DMA_CFG_EN := by
  refine foldl_keeps (·.bit F.DMA_CFG_EN) (fun u c => ?_) _ _
  rw [State.bit, get_dmaStop_ne u c (f := F.DMA_CFG_EN) (by dsimp only [DMA_CFG, DMA_CH_STAT]; omega) (by decide), State.bit]

theorem dmaStopAll_mem (s : State) (n : Nat) : (s.dmaStopAll n).mem = s.mem := foldl_keeps State.mem dmaStop_mem _ _

/-- What had landed of the transfers in progress is moved when the engines reset. -/
def State.dmaLanded (s : State) (l : List (Fin 32 × Nat)) : State :=
  l.foldl (fun (s : State) (e : Fin 32 × Nat) => match (s.dch e.1.val).desc with
    | some x => if s.dmaState e.1.val == dmaRun && (s.dch e.1.val).part then s.dmaMove x ⟨none, [], e.2, false⟩ else s
    | none => s) s

theorem dmaLanded_regs (s : State) (l : List (Fin 32 × Nat)) : (s.dmaLanded l).regs = s.regs := by
  refine foldl_keeps State.regs (fun u e => ?_) _ _
  split
  · split
    · exact dmaMove_regs u _ _
    · rfl
  · rfl

theorem effDmaDisable_off {s : State} (h : s.bit F.DMA_CFG_EN = false) (l : List (Fin 32 × Nat)) : effDmaDisable l s = s :=
  if_pos (by rw [h]; rfl)

theorem effDmaDisable_on {s : State} (h : s.bit F.DMA_CFG_EN = true) (l : List (Fin 32 × Nat)) : effDmaDisable l s =
    (((((s.putBit F.DMA_CFG_EN false).dmaLanded l).dmaStopAll 32).masterReset 1).masterReset 2) :=
  if_neg (by rw [h]; exact Bool.false_ne_true)

/-- The engine is off once it is disabled. -/
theorem dmaDisabled_en (s : State) (l : List (Fin 32 × Nat)) :
    (((s.putBit F.DMA_CFG_EN false).dmaLanded l).dmaStopAll 32).bit F.DMA_CFG_EN = false := by
  rw [dmaStopAll_en, State.bit, get_of_regs (dmaLanded_regs _ l), ← State.bit]
  exact bit_putBit_same (f := F.DMA_CFG_EN) s false (by decide) rfl

theorem dmaDisabled_mem (s : State) : (((s.putBit F.DMA_CFG_EN false).dmaLanded []).dmaStopAll 32).mem = s.mem :=
  (dmaStopAll_mem _ _).trans (State.putBit_mem s _ _)

/-! ## Completion queues -/

/-- A queue that is enabled starts empty (R439). -/
def State.cqStarted (s : State) (q : Nat) : State :=
  ((s.putBit (F.DMA_CQ_CFG_EN q) true).setRg (DMA_CQ_PTR q) 0).put (F.DMA_CQ_STAT_GEN q) 1

section
variable (s : State) (q : Nat)

theorem cqStarted_en : (s.cqStarted q).bit (F.DMA_CQ_CFG_EN q) = true := by
  have hb : (F.DMA_CQ_CFG_EN 0).lo + (F.DMA_CQ_CFG_EN 0).width ≤ 64 := by decide
  have hs : DMA_CQ_CFG q ≠ DMA_CQ_STAT q := by dsimp only [DMA_CQ_CFG, DMA_CQ_STAT]; omega
  have hp : DMA_CQ_CFG q ≠ DMA_CQ_PTR q := by dsimp only [DMA_CQ_CFG, DMA_CQ_PTR]; omega
  rw [State.cqStarted, bit_put_ne _ _ (f := F.DMA_CQ_STAT_GEN q) hs, bit_of_rg (f := F.DMA_CQ_CFG_EN q) (rg_setRg_ne _ _ hp)]
  exact bit_putBit_same (f := F.DMA_CQ_CFG_EN q) s true hb rfl

theorem cqStarted_ptr {f : Fld} (hf : f.addr = DMA_CQ_PTR q) : (s.cqStarted q).get f = 0 := by
  have hs : f.addr ≠ DMA_CQ_STAT q := by rw [hf]; dsimp only [DMA_CQ_PTR, DMA_CQ_STAT]; omega
  rw [State.cqStarted, get_put_ne _ _ (f := F.DMA_CQ_STAT_GEN q) hs, State.get, hf, rg_setRg_same]
  simp [fieldOf]

theorem cqStarted_gen : (s.cqStarted q).get (F.DMA_CQ_STAT_GEN q) = 1 := by
  have hb : (F.DMA_CQ_STAT_GEN 0).lo + (F.DMA_CQ_STAT_GEN 0).width ≤ 64 := by decide
  exact get_put_same (f := F.DMA_CQ_STAT_GEN q) _ 1 hb

end

theorem effDmaCqEnable_set {s : State} {q : Nat} (h : s.bit (F.DMA_CQ_CFG_EN q) = true) : effDmaCqEnable q s = s := if_pos h

theorem effDmaCqEnable_starts {s : State} {q : Nat} (h : s.bit (F.DMA_CQ_CFG_EN q) = false) : effDmaCqEnable q s = s.cqStarted q :=
  if_neg (Bool.eq_false_iff.1 h)

end Sys2Proof.Machine
end

section
/-! Mortar and DMA settle their obligation (chapter 15). -/

namespace Sys2Proof.Machine

theorem powered_of_alive {s : State} (h : s.alive = true) : s.node.powered = true := by
  simp only [State.alive, Bool.and_eq_true] at h
  exact h.1.1

theorem outOfReset_of_alive {s : State} (h : s.alive = true) : s.node.inReset = false := by
  simp only [State.alive, Bool.and_eq_true, Bool.not_eq_true'] at h
  exact h.1.2

/-! ## A descriptor that was read -/

section
variable {u : State} {c a : Nat}

theorem fetchGood_reread (h : (u.dch c).reread = true) : u.fetchGood c a =
    if (leAt (u.winBytes 8 (a + 8)) 4 4).testBit 31 then u.dmaIdleAt c true
    else (u.put (F.DMA_CH_STAT_IDX c) (u.dmaNext c)).dmaIssue c false := if_pos h

theorem fetchGood_illegal (h : (u.dch c).reread = false) (hl : descLegal (u.readDesc a).1 (u.readDesc a).2 = false) :
    u.fetchGood c a = u.dmaEnd c 4 (u.readDesc a).1 0 0 (u.readDesc a).1.after :=
  (if_neg (Bool.eq_false_iff.1 h)).trans (if_pos (by rw [hl]; rfl))

theorem fetchGood_denied (h : (u.dch c).reread = false) (hl : descLegal (u.readDesc a).1 (u.readDesc a).2 = true)
    (hd : u.descDenied c (u.readDesc a).1 = true) : u.fetchGood c a = u.dmaEnd c 5 (u.readDesc a).1 0 0 (u.readDesc a).1.after :=
  (if_neg (Bool.eq_false_iff.1 h)).trans ((if_neg (by rw [hl]; exact Bool.false_ne_true)).trans (if_pos hd))

theorem fetchGood_runs (h : (u.dch c).reread = false) (hl : descLegal (u.readDesc a).1 (u.readDesc a).2 = true)
    (hd : u.descDenied c (u.readDesc a).1 = false) : u.fetchGood c a =
      ((u.setDch c { u.dch c with desc := some (u.readDesc a).1, part := false }).dmaTo c dmaRun).giveParts :=
  (if_neg (Bool.eq_false_iff.1 h)).trans ((if_neg (by rw [hl]; exact Bool.false_ne_true)).trans (if_neg (Bool.eq_false_iff.1 hd)))

end

section
variable {s : State} {c : Nat}

theorem beatFails_parity (u : State) (m a : Nat) :
    u.beatFails m a true = (u.bump (F.MORTAR_MST_CNT_ERRS m)).mortarParity m (memTarget a) a := by
  rw [State.beatFails, if_pos rfl]

/-- A read that finds its path leaves the channel's record to read. -/
theorem fetchPath_dch (hw : (s.fetchPath c).2 = true) : (s.fetchPath c).1.dch c = s.dch c :=
  congrArg (·.dch c) (congrArg Prod.fst (sharedPath_whole hw))

variable (h : s.dmaState c = dmaFetch)
include h

theorem effDmaDescriptorFetched_badRow (hw : (s.fetchPath c).2 = true) (hf : s.fetchFails c = true) (how : BeatEnd) :
    effDmaDescriptorFetched c how s =
      (((s.fetchPath c).1.latch 9).bump (F.MORTAR_MST_CNT_ERRS 1)).fetchBad c (s.fetchSpan c).1 := by
  rw [effDmaDescriptorFetched_bad h (.inr (.inl hf)), hf, hw, Bool.not_true, Bool.and_false]
  rfl

theorem effDmaDescriptorFetched_error (hw : (s.fetchPath c).2 = true) (hf : s.fetchFails c = false) :
    effDmaDescriptorFetched c .error s = ((s.fetchPath c).1.bump (F.MORTAR_MST_CNT_ERRS 1)).fetchBad c (s.fetchSpan c).1 := by
  rw [effDmaDescriptorFetched_bad h (.inl (by decide)), hf, hw]
  rfl

theorem effDmaDescriptorFetched_parity (hw : (s.fetchPath c).2 = true) (hf : s.fetchFails c = false) :
    effDmaDescriptorFetched c .parity s = (((s.fetchPath c).1.bump (F.MORTAR_MST_CNT_ERRS 1)).mortarParity 1
      (memTarget (s.fetchSpan c).1) (s.fetchSpan c).1).fetchBad c (s.fetchSpan c).1 := by
  rw [effDmaDescriptorFetched_bad h (.inl (by decide)), hf, hw]
  dsimp only
  rw [if_neg Bool.false_ne_true, if_pos rfl]
  exact congrArg (State.fetchBad · c _) (beatFails_parity _ _ _)

theorem effDmaDescriptorFetched_noPath (hw : (s.fetchPath c).2 = false) (how : BeatEnd) : effDmaDescriptorFetched c how s =
    (if s.fetchFails c then (s.fetchPath c).1.latch 9 else (s.fetchPath c).1).fetchBad c (s.fetchSpan c).1 := by
  rw [effDmaDescriptorFetched_bad h (.inr (.inr hw)), hw]
  rfl

end

/-- Settles O59: the lemma of each request, channel command and queue command in each of its cases. -/
theorem mortarAndDmaAct : Obligations.MortarAndDmaAct := by
  unfold Obligations.MortarAndDmaAct
  refine ⟨fun s x hd hb hr ha hw hf => ?_, fun s a n => ⟨healRows_heals s a n, healRows_badRows s a n⟩,
    fun s ha => ⟨fun rs h => ?_, fun r hd hf => ?_, fun m => ⟨fun h => ?_, fun h => ⟨?_, fun r hr => ?_⟩⟩, fun q h => ⟨?_, fun hl t => ?_⟩,
      fun c => ?_, fun l => ⟨fun h => ?_, fun h => ⟨?_, ?_, fun c => ?_, fun hl => ?_⟩⟩, fun q => ⟨fun h => ?_, fun h => ?_, fun x => ?_⟩⟩⟩
  · rw [runBeat_badRow hd hb hr ha hw hf]
    exact ⟨rfl, rfl⟩
  · exact gives_runs (exec_mortarRequest s) ha (effMortarRequest_served h)
  · exact gives_runs (exec_mortarRequest s) ha (effMortarRequest_held hd hf)
  · exact gives_runs (exec_drainEnd s) ha (effDrainEnd_not h)
  · exact gives_runs (exec_drainEnd s) ha (effDrainEnd_ends h)
  · subst hr
    exact undrained_drains s r
  · exact gives_tapRuns (exec_mortar s) (powered_of_alive ha) (outOfReset_of_alive ha) (if_pos h)
  · exact hasPath_debug hl q t
  · refine ⟨fun h => ?_, fun h => ⟨fun hd => ?_, fun hd => ?_⟩, fun h => ?_, fun h => ?_, fun i => ⟨fun h => ?_, fun h => ?_, fun ho hi hh => ?_⟩,
      fun n => ⟨fun h => ?_, fun h x hx => ?_⟩, fun h how => ?_, fun h => ?_, fun b => ⟨fun h => ?_, fun h hp x hx => ?_⟩⟩
    · exact gives_runs (exec_dmaChannelEnable s) ha (effDmaChannelEnable_set h)
    · exact gives_runs (exec_dmaChannelEnable s) ha (effDmaChannelEnable_off h hd)
    · exact gives_runs (exec_dmaChannelEnable s) ha (effDmaChannelEnable_on h hd)
    · exact gives_runs (exec_ring s) ha (if_pos h)
    · exact gives_runs (exec_ring s) ha (if_neg h)
    · exact gives_runs (exec_setIdx s) ha (effSetIdx_off _ h)
    · exact gives_runs (exec_setIdx s) ha (effSetIdx_rests _ h)
    · exact gives_runs (exec_setIdx s) ha (effSetIdx_busy _ ho hi hh)
    · exact gives_runs (exec_dmaAbort s) ha (effDmaAbort_idle h n)
    · exact gives_runs (exec_dmaAbort s) ha (effDmaAbort_runs h hx n)
    · exact gives_runs (exec_dmaDescriptorFetched s) ha (effDmaDescriptorFetched_not h how)
    · refine ⟨fun hi _ => fetchPath_inside hi, fun hw hf how => ?_, fun hw hf => ?_, fun hw hf => ?_, fun hw how => ?_,
        fun hw hf hr => ?_, fun hw hf hr => ⟨fun hl => ?_, fun hl hd => ?_, fun hl hd => ?_⟩⟩
      · exact gives_runs (exec_dmaDescriptorFetched s) ha (effDmaDescriptorFetched_badRow h hw hf how)
      · exact gives_runs (exec_dmaDescriptorFetched s) ha (effDmaDescriptorFetched_error h hw hf)
      · exact gives_runs (exec_dmaDescriptorFetched s) ha (effDmaDescriptorFetched_parity h hw hf)
      · exact gives_runs (exec_dmaDescriptorFetched s) ha (effDmaDescriptorFetched_noPath h hw how)
      · have hu : ((s.fetchPath c.val).1.dch c.val).reread = true := by rw [fetchPath_dch hw]; exact hr
        exact gives_runs (exec_dmaDescriptorFetched s) ha ((effDmaDescriptorFetched_good h hf hw).trans (fetchGood_reread hu))
      · have hu : ((s.fetchPath c.val).1.dch c.val).reread = false := by rw [fetchPath_dch hw]; exact hr
        exact gives_runs (exec_dmaDescriptorFetched s) ha ((effDmaDescriptorFetched_good h hf hw).trans (fetchGood_illegal hu hl))
      · have hu : ((s.fetchPath c.val).1.dch c.val).reread = false := by rw [fetchPath_dch hw]; exact hr
        exact gives_runs (exec_dmaDescriptorFetched s) ha ((effDmaDescriptorFetched_good h hf hw).trans (fetchGood_denied hu hl hd))
      · have hu : ((s.fetchPath c.val).1.dch c.val).reread = false := by rw [fetchPath_dch hw]; exact hr
        exact gives_runs (exec_dmaDescriptorFetched s) ha ((effDmaDescriptorFetched_good h hf hw).trans (fetchGood_runs hu hl hd))
    · exact gives_runs (exec_dmaDescriptorEnd s) ha (effDmaDescriptorEnd_idle h b)
    · refine ⟨fun hn => sourceRow_none hn _, fun k hk _ hw => beatsFail_row hk hw, fun hk hr => beatsFail_writes hk hr,
        fun hk j hr hw => beatsFail_read hk hr hw, ?_⟩
      exact gives_runs (exec_dmaDescriptorEnd s) ha (effDmaDescriptorEnd_runs h hp hx b)
  · exact gives_runs (exec_dmaDisable s) ha (effDmaDisable_off h l)
  · exact gives_runs (exec_dmaDisable s) ha (effDmaDisable_on h l)
  · exact dmaDisabled_en s l
  · exact dmaStopAll_atRest _ c.isLt
  · subst hl
    exact dmaDisabled_mem s
  · exact gives_runs (exec_dmaCqEnable s) ha (effDmaCqEnable_set h)
  · exact ⟨gives_runs (exec_dmaCqEnable s) ha (effDmaCqEnable_starts h), cqStarted_en s q.val, cqStarted_ptr s q.val rfl,
      cqStarted_ptr s q.val rfl, cqStarted_gen s q.val⟩
  · exact gives_runs (exec_dmaCqTail s) ha rfl

end Sys2Proof.Machine
end
